-- ==== Sys2Proof/Word.lean ====
section
/-!
DEFINITION. The word types of the VD9600: registers are 32 bits wide, memories are bytes, Breeze registers and
the TSC are 64 bits wide (R10, R11, R49, R479).
-/
namespace Sys2Proof

/-- A byte of a memory. -/
abbrev Byte := BitVec 8
/-- A 32-bit register of a register page. -/
abbrev Word := BitVec 32
/-- A 64-bit value: a working register, a register pair, an instant of the TSC. -/
abbrev DWord := BitVec 64

end Sys2Proof
end

