-- ==== Sys2Proof/Types.lean ====
section
/-!
DEFINITION. The operand types of the commands: who makes an access, which window it reaches, and the closed sets of
names that commands carry from the outside.
-/
namespace Sys2Proof

/-- The two host interfaces (R792): each is a master of its own for register pairs (R52). -/
inductive Port where
  | pcie | qspi
  deriving DecidableEq, Repr, Inhabited

/-- The masters of register and memory accesses (R45, R52, R73). -/
inductive Master where
  | host (p : Port)
  | se (e : Fin 4)
  | asm
  | recorder
  | hke
  deriving DecidableEq, Repr, Inhabited

/-- The memory windows of the host (R44). -/
inductive Bar where
  | bar2 | bar4
  deriving DecidableEq, Repr, Inhabited

/-- What the error-correcting code finds at an access (R156, R283): nothing, a corrected word, or an uncorrectable
word at an offset of the window. -/
inductive Ecc where
  | ok | ce | ue (at_ : Nat)
  deriving DecidableEq, Repr, Inhabited

/-- What the partner says of itself at pairing (R681). -/
structure Peer where
  rev : Word
  mode : Nat
  rank : Nat
  epoch : Nat
  /-- RET_SIG, OUT_SIZE and RET_SIZE of each task. -/
  tasks : List (Word × Word × Word)
  /-- The public key of its slot 66, and its DEVID (R727). -/
  pub : List Byte
  devid : List Byte
  deriving DecidableEq, Repr, Inhabited

/-- A Crosswind copy of one task (R682): CYCLE and CSTAMP of its header, the committed IMG_OUT, lines of RET with their offsets (a
whole RET is one line at offset 0), and the CRC-32C that closes it. -/
structure CwCopy where
  cycle : Nat
  cstamp : Nat
  whole : Bool
  out : List Byte
  lines : List (Nat × List Byte)
  crc : Nat
  deriving DecidableEq, Repr, Inhabited

/-- A message that a link port receives: TAG, the sender's quad position, and the data (R691). -/
structure LinkRx where
  tag : Nat
  pos : Nat
  data : List Byte
  deriving DecidableEq, Repr, Inhabited

/-- What a canary test reads (R143): failing cells of system, solver and message RAM at setting 0, and the lowest
setting that still reads correctly. -/
structure Canary where
  sys : Nat
  slv : Nat
  msg : Nat
  margin : Nat
  deriving DecidableEq, Repr, Inhabited

/-- A frame on a CAN segment (R523, R535, R539). -/
structure CanFrame where
  id : Nat
  xtd : Bool := false
  fd : Bool := false
  brs : Bool := false
  rtr : Bool := false
  esi : Bool := false
  dlc : Nat := 0
  data : List Byte := []
  deriving DecidableEq, Repr, Inhabited

/-- What a channel sends from: a mailbox, or the transmit slot of a station entry (R542, R547). -/
inductive CanSlot where
  | mailbox (m : Nat)
  | station (i : Nat)
  deriving DecidableEq, Repr, Inhabited

/-- How a frame ended in an error (R556, R561; ISO 11898-1): the error type as LEC codes it, detected in the data phase;
this channel was transmitter; the exceptions and additions of the counters' rules. -/
structure CanErr where
  lec : Fin 7
  dataPhase : Bool := false
  transmitter : Bool := true
  /-- No dominant bit was seen during the passive error flag (R561). -/
  quiet : Bool := false
  /-- A stuff error during arbitration at a recessive stuff bit: the transmitter's counter stays. -/
  stuffArb : Bool := false
  /-- A receiver saw a dominant bit right after its error flag. -/
  first : Bool := false
  /-- Further increases by 8: a bit error in an active error or overload flag, each run of dominant bits after it. -/
  more : Nat := 0
  deriving DecidableEq, Repr, Inhabited

/-- What a load or store of a scan engine meets besides its own checks: nothing, a corrected word, an uncorrectable word
(R459), a comparison mismatch of the lockstep pair (R473). -/
inductive MemEv where
  | ok | ce | ue | mismatch
  deriving DecidableEq, Repr, Inhabited

/-- What the outside supplies at start-up (R99, R101, R118, R119, R140): the straps; the bucks that miss power-good; the
phase, 3 to 9, in which XTM fails, 0 for none; whether the generator's health tests and the safety sequencer's self-test
pass; the safety pins as the sequencer starts; the microseconds until host release; the corrected and the uncorrectable
words, BAR4 offsets, that the HKE's reads of MRAM meet. -/
structure StartInfo where
  straps : Nat := 0
  buckFail : Nat := 0
  xtmFailPhase : Nat := 0
  rngOk : Bool := true
  sfsOk : Bool := true
  siA : BitVec 16 := 0
  siB : BitVec 16 := 0
  us : Nat := 0
  mramCe : List Nat := []
  mramUe : List Nat := []
  deriving DecidableEq, Repr, Inhabited

/-- What the outside supplies to a register write that starts something: what a canary test reads and the planner's time
(R143, R145), the 1 s edge and sub-second of the instant (R424), the voltages in µV at the axis's over-current inputs and the
level of its DIAG pin (R607), what a start-up that goes on meets (R820), and the corrected and the uncorrectable words, BAR2
offsets, that the reads of SRAM started by the write meet (R140, R283; those of MRAM stand in `start`). -/
structure Ext where
  canary : Canary := { sys := 0, slv := 0, msg := 0, margin := 0 }
  steps : Nat := 0
  edge : Nat := 0
  sub : Nat := 0
  isa : Int := 900000
  isb : Int := 900000
  diag : Bool := false
  start : StartInfo := {}
  ramCe : List Nat := []
  ramUe : List Nat := []
  deriving DecidableEq, Repr, Inhabited

/-- The setup message of a split job (R376): the signature, the dimensions of R345, the KPAR, the block's range of stages (first
stage and count, R374), and the byte counts of R375 for the block: sections 1 to 10 and 21 to 24, the block's columns, its share
of the warm record, its columns of the output. -/
structure SplitSetup where
  sig : Nat := 0
  nx : Nat
  nu : Nat
  nc : Nat
  nd : Nat
  n : Nat
  kpar : List Byte := []
  first : Nat := 0
  count : Nat := 0
  bti : Nat
  bblk : Nat
  bwblk : Nat
  boblk : Nat
  deriving DecidableEq, Repr, Inhabited

/-- The instructions of the test access port (R842). -/
inductive JtagOp where
  | bypass | samplePreload | extest | idcode | clamp | highz
  deriving DecidableEq, Repr, Inhabited

end Sys2Proof
end

