-- ==== Sys2Proof/Syntax.lean ====
section
/-!
DEFINITION. The commands of the VD9600: one constructor for each row of the opcode table, those with operands first. What
arrives from the outside (a register access, a pin, an elapsed time, a measured value) is the command's operand.
-/
namespace Sys2Proof

/-- A command of the device (spec/opcode_table.json). -/
inductive Instr where
  /-- R849. -/
  | registerWrite (off len : Nat) (v : BitVec 64) (x : Ext)
  /-- R52. -/
  | registerPairRead (off : Nat) (e : Ecc)
  /-- R52. -/
  | registerPairWrite (off : Nat) (v : BitVec 64) (x : Ext)
  /-- R51. -/
  | hostBar2Write (off : Nat) (d : List Byte)
  /-- R47. -/
  | hostBar4Write (off : Nat) (d : List Byte)
  /-- R51. -/
  | hostMemRead (bar : Bar) (off len : Nat) (e : Ecc)
  /-- R56. -/
  | blockEnable (pg : Fin 128) (x : Ext)
  /-- R56. -/
  | blockDisable (pg : Fin 128) (x : Ext)
  /-- R60. -/
  | softReset (pg : Fin 128) (en : Bool) (x : Ext)
  /-- R60. -/
  | softResetDone (pg : Fin 128)
  /-- R65. -/
  | evtEnWrite (pg : Fin 128) (v : Word)
  /-- R66. -/
  | evtPendClear (pg : Fin 128) (v arriving : Word)
  /-- R67. -/
  | evtSet (pg : Fin 128) (v : Word)
  /-- R83. -/
  | evtlatClear (k : Fin 8) (v arriving : Word)
  /-- R87. -/
  | evtMaskWrite (off : Nat) (v : Word)
  /-- R70. -/
  | lockKeyFirst (pg : Fin 128)
  /-- R68. -/
  | lockKeySecond (pg : Fin 128)
  /-- R70. -/
  | lockOtherWrite (pg : Fin 128) (v : Word)
  /-- R69. -/
  | unlockBudgetExpiry (pg : Fin 128)
  /-- R119. -/
  | startup (x : Ext)
  /-- R820. -/
  | bootGo (persist : Bool) (x : Ext)
  /-- R99. -/
  | regFault (b : Fin 4)
  /-- R104. -/
  | lullEntry (last : Bool)
  /-- R111. -/
  | gustComplete (d : Fin 10) (rngOk : Bool) (siA siB : BitVec 16) (x : Ext)
  /-- R133. -/
  | ckptPeriodWrite (v : Word)
  /-- R135. -/
  | ckptComplete (ok : Bool)
  /-- R145. -/
  | plannerRunScheduled (c : Canary) (steps : Fin 7) (bySet : Bool)
  /-- R146. -/
  | plannerRunTsc (c : Canary) (steps : Fin 7)
  /-- R145. -/
  | plannerRunNow (c : Canary) (steps : Fin 7)
  /-- R204. -/
  | meterOutputPeriod (vin : List (List Int)) (ext : Nat) (slice : Fin 4096)
  /-- R193. -/
  | correctionBlockEnd (ch : Fin 24)
  /-- R200. -/
  | corrCommit (v : Word)
  /-- R190. -/
  | trackerWindowEnd (t : Fin 4)
  /-- R210. -/
  | rtdSlotEnd (k : Fin 8) (vs vr vref : Int) (compliance : Bool)
  /-- R210. -/
  | rtdDone (za zb zref : Int)
  /-- R217. -/
  | pulseEdgeAccepted (n : Fin 64) (level accepted : Bool) (sample : Nat)
  /-- R244. -/
  | hostFlowInWrite (h : Fin 8) (v : Word)
  /-- R256. -/
  | preset (slot : BitVec 8)
  /-- R253. -/
  | rollClear (slot : Fin 168)
  /-- R265. -/
  | maxdemReset (v : BitVec 8)
  /-- R267. -/
  | storeComplete (ok : Bool)
  /-- R269. -/
  | harmonicWindowEnd
  /-- R321. -/
  | slvRingDoorbell (k : BitVec 4) (x : Ext)
  /-- R324. -/
  | armEvent (n : Fin 256)
  /-- R324. -/
  | armSlotEnable (a : Fin 8) (v : Word)
  /-- R326. -/
  | jobStart (partners : List Nat) (waited : Bool) (ces : Nat) (ues : List Nat) (time : Nat)
  /-- R328. -/
  | jobComplete (coupling : Option (Nat × Nat × Nat)) (creg : Nat)
  /-- R331. -/
  | jobTimeout (iter : Nat)
  /-- R426. -/
  | cycleLatch (n : Fin 4) (c1 c2 : Option (List Byte)) (ces ues : List Nat)
  /-- R696. -/
  | triadWaitExpiry (n : Fin 4)
  /-- R434. -/
  | taskWatchdog (n : Fin 4)
  /-- R463. -/
  | startWarm (n : Fin 4) (edge sub : Nat)
  /-- R462. -/
  | startCold (n : Fin 4) (edge sub : Nat)
  /-- R459. -/
  | taskStop (n : Fin 4)
  /-- R459. -/
  | clearFault (n : Fin 4)
  /-- R444. -/
  | gpioInputAccept (i : Fin 32) (level : Bool)
  /-- R443. -/
  | gpioOutWrite (v : Word)
  /-- R442. -/
  | gpioOutSet (v : Word)
  /-- R442. -/
  | gpioOutClr (v : Word)
  /-- R446. -/
  | stationUpdate (i : BitVec 11)
  /-- R449. -/
  | stationWindowTimeout (i : Fin 1536)
  /-- R456. -/
  | forceEntryWrite (i : Fin 64) (v : Word)
  /-- R467. -/
  | onlineChange (bank : Fin 2) (x : Ext)
  /-- R491. -/
  | bzNop (e : Fin 4)
  /-- R496. -/
  | bzCend (e : Fin 4) (d3 d4 : Nat) (current : Bool) (c1 c2 : Option (List Byte))
  /-- R495. -/
  | bzRet (e : Fin 4)
  /-- R491. -/
  | bzMff (e : Fin 4) (d : Fin 64)
  /-- R491. -/
  | bzMtf (e : Fin 4) (a : Fin 64)
  /-- R491. -/
  | bzSel (e : Fin 4) (d a b : Fin 64) (c : Fin 15)
  /-- R491. -/
  | bzSetc (e : Fin 4) (d : Fin 64) (c : Fin 15)
  /-- R491. -/
  | bzAdd (e : Fin 4) (d a b : Fin 64)
  /-- R491. -/
  | bzSub (e : Fin 4) (d a b : Fin 64)
  /-- R492. -/
  | bzMul (e : Fin 4) (d a b : Fin 64)
  /-- R491. -/
  | bzMulh (e : Fin 4) (d a b : Fin 64)
  /-- R492. -/
  | bzDiv (e : Fin 4) (d a b : Fin 64)
  /-- R492. -/
  | bzDivu (e : Fin 4) (d a b : Fin 64)
  /-- R492. -/
  | bzRem (e : Fin 4) (d a b : Fin 64)
  /-- R491. -/
  | bzCmp (e : Fin 4) (a b : Fin 64)
  /-- R491. -/
  | bzAnd (e : Fin 4) (d a b : Fin 64)
  /-- R491. -/
  | bzOr (e : Fin 4) (d a b : Fin 64)
  /-- R491. -/
  | bzXor (e : Fin 4) (d a b : Fin 64)
  /-- R491. -/
  | bzShl (e : Fin 4) (d a b : Fin 64)
  /-- R491. -/
  | bzShr (e : Fin 4) (d a b : Fin 64)
  /-- R491. -/
  | bzSar (e : Fin 4) (d a b : Fin 64)
  /-- R491. -/
  | bzMin (e : Fin 4) (d a b : Fin 64)
  /-- R491. -/
  | bzMax (e : Fin 4) (d a b : Fin 64)
  /-- R492. -/
  | bzAbs (e : Fin 4) (d a : Fin 64)
  /-- R492. -/
  | bzNeg (e : Fin 4) (d a : Fin 64)
  /-- R492. -/
  | bzMadd (e : Fin 4) (d a b x : Fin 64)
  /-- R491. -/
  | bzTst (e : Fin 4) (a b : Fin 64)
  /-- R491. -/
  | bzMovi (e : Fin 4) (d : Fin 64) (imm : Fin 4096)
  /-- R491. -/
  | bzIns (e : Fin 4) (d a : Fin 64) (imm : Fin 4096)
  /-- R491. -/
  | bzAddi (e : Fin 4) (d a : Fin 64) (imm : Fin 4096)
  /-- R491. -/
  | bzCmpi (e : Fin 4) (a : Fin 64) (imm : Fin 4096)
  /-- R491. -/
  | bzAndi (e : Fin 4) (d a : Fin 64) (imm : Fin 4096)
  /-- R491. -/
  | bzOri (e : Fin 4) (d a : Fin 64) (imm : Fin 4096)
  /-- R491. -/
  | bzXori (e : Fin 4) (d a : Fin 64) (imm : Fin 4096)
  /-- R491. -/
  | bzShli (e : Fin 4) (d a : Fin 64) (imm : Fin 4096)
  /-- R491. -/
  | bzShri (e : Fin 4) (d a : Fin 64) (imm : Fin 4096)
  /-- R491. -/
  | bzSari (e : Fin 4) (d a : Fin 64) (imm : Fin 4096)
  /-- R491. -/
  | bzExtu (e : Fin 4) (d a : Fin 64) (imm : Fin 4096)
  /-- R491. -/
  | bzExts (e : Fin 4) (d a : Fin 64) (imm : Fin 4096)
  /-- R491. -/
  | bzDep (e : Fin 4) (d a : Fin 64) (imm : Fin 4096)
  /-- R493. -/
  | bzFadd (e : Fin 4) (d a b : Fin 64)
  /-- R493. -/
  | bzFsub (e : Fin 4) (d a b : Fin 64)
  /-- R493. -/
  | bzFmul (e : Fin 4) (d a b : Fin 64)
  /-- R493. -/
  | bzFdiv (e : Fin 4) (d a b : Fin 64)
  /-- R493. -/
  | bzFma (e : Fin 4) (d a b x : Fin 64)
  /-- R493. -/
  | bzFsqrt (e : Fin 4) (d a : Fin 64)
  /-- R493. -/
  | bzFmin (e : Fin 4) (d a b : Fin 64)
  /-- R493. -/
  | bzFmax (e : Fin 4) (d a b : Fin 64)
  /-- R493. -/
  | bzFabs (e : Fin 4) (d a : Fin 64)
  /-- R493. -/
  | bzFneg (e : Fin 4) (d a : Fin 64)
  /-- R491. -/
  | bzFcmp (e : Fin 4) (a b : Fin 64)
  /-- R493. -/
  | bzItof (e : Fin 4) (d a : Fin 64)
  /-- R493. -/
  | bzFtoi (e : Fin 4) (d a : Fin 64)
  /-- R493. -/
  | bzFtoit (e : Fin 4) (d a : Fin 64)
  /-- R857. -/
  | bzFclamp (e : Fin 4) (d a b x : Fin 64)
  /-- R485. -/
  | bzLd (e : Fin 4) (sp : Fin 5) (ty : Fin 8) (d base : Fin 64) (off : Fin 4096) (ev : MemEv)
  /-- R486. -/
  | bzLdx (e : Fin 4) (sp : Fin 5) (d base : Fin 64) (off : Fin 4096) (ev : MemEv)
  /-- R488. -/
  | bzSt (e : Fin 4) (sp : Fin 3) (ty : Fin 8) (d base : Fin 64) (off : Fin 4096) (ev : MemEv)
  /-- R491. -/
  | bzB (e : Fin 4) (c : Fin 15) (off : BitVec 20)
  /-- R495. -/
  | bzCall (e : Fin 4) (off : BitVec 20)
  /-- R503. -/
  | fbTon (e : Fin 4) (r : Bool) (d a b x : Fin 64) (ev : MemEv)
  /-- R503. -/
  | fbTof (e : Fin 4) (r : Bool) (d a b x : Fin 64) (ev : MemEv)
  /-- R503. -/
  | fbTp (e : Fin 4) (r : Bool) (d a b x : Fin 64) (ev : MemEv)
  /-- R504. -/
  | fbCtu (e : Fin 4) (r : Bool) (d a b x : Fin 64) (ev : MemEv)
  /-- R504. -/
  | fbCtd (e : Fin 4) (r : Bool) (d a b x : Fin 64) (ev : MemEv)
  /-- R504. -/
  | fbCtud (e : Fin 4) (r : Bool) (d a b x : Fin 64) (ev : MemEv)
  /-- R505. -/
  | fbRTrig (e : Fin 4) (r : Bool) (d a b x : Fin 64) (ev : MemEv)
  /-- R505. -/
  | fbFTrig (e : Fin 4) (r : Bool) (d a b x : Fin 64) (ev : MemEv)
  /-- R506. -/
  | fbPid (e : Fin 4) (r : Bool) (d a b x : Fin 64) (ev : MemEv)
  /-- R507. -/
  | fbLim (e : Fin 4) (r : Bool) (d a b x : Fin 64) (ev : MemEv)
  /-- R511. -/
  | sysTscNow (e : Fin 4) (d a : Fin 64)
  /-- R511. -/
  | sysRtcRead (e : Fin 4) (d a : Fin 64) (sub : Fin 32768)
  /-- R511. -/
  | sysRegRead (e : Fin 4) (d a : Fin 64)
  /-- R322. -/
  | sysSlvSubmit (e : Fin 4) (d a : Fin 64)
  /-- R513. -/
  | sysSlvStatus (e : Fin 4) (d a : Fin 64) (x : Ecc)
  /-- R513. -/
  | sysSlvRead (e : Fin 4) (d a : Fin 64) (x : Ecc)
  /-- R513. -/
  | sysSlvWrite (e : Fin 4) (d a : Fin 64) (ev : MemEv)
  /-- R541. -/
  | sysCanSend (e : Fin 4) (d a : Fin 64) (ev : MemEv)
  /-- R555. -/
  | sysCanRecv (e : Fin 4) (d a : Fin 64)
  /-- R511. -/
  | sysCanStat (e : Fin 4) (d a : Fin 64)
  /-- R575. -/
  | sysAxCmd (e : Fin 4) (d a : Fin 64)
  /-- R615. -/
  | sysAxStat (e : Fin 4) (d a : Fin 64)
  /-- R512. -/
  | sysQtyRead (e : Fin 4) (d a : Fin 64)
  /-- R512. -/
  | sysQtyFreeze (e : Fin 4) (d a : Fin 64)
  /-- R512. -/
  | sysFlowIn (e : Fin 4) (d a : Fin 64)
  /-- R777. -/
  | sysRecTrig (e : Fin 4) (d a : Fin 64)
  /-- R516. -/
  | sysSafReq (e : Fin 4) (d a : Fin 64)
  /-- R511. -/
  | sysSafStat (e : Fin 4) (d a : Fin 64)
  /-- R515. -/
  | sysKeySubmit (e : Fin 4) (d a : Fin 64) (ev : MemEv)
  /-- R515. -/
  | sysKeyPoll (e : Fin 4) (d a : Fin 64)
  /-- R511. -/
  | sysKeyRandom (e : Fin 4) (d a : Fin 64)
  /-- R532. -/
  | canIntegrationDone (n : Fin 16)
  /-- R532. -/
  | canDisableDone (n : Fin 16)
  /-- R540. -/
  | canTxRequest (n : Fin 16) (b : Fin 64)
  /-- R545. -/
  | canTxAbort (n : Fin 16) (b : Fin 64)
  /-- R538. -/
  | canMailboxWrite (n : Fin 16) (k : Fin 20) (v : Word)
  /-- R542. -/
  | canArbitrationStart (n : Fin 16) (dly : Nat) (ues : List Nat)
  /-- R546. -/
  | canFrameTransmitted (n : Fin 16) (tdcv : Nat)
  /-- R556. -/
  | canFrameError (n : Fin 16) (e : CanErr) (tdcv : Option Nat)
  /-- R562. -/
  | alone (n : Fin 16)
  /-- R550. -/
  | canFrameReceived (n : Fin 16) (f : CanFrame) (sof : DWord)
  /-- R544. -/
  | claimWaitExpiry (n : Fin 16) (slot : CanSlot)
  /-- R560. -/
  | canRecover (n : Fin 16)
  /-- R560. -/
  | canRecoveryDone (n : Fin 16)
  /-- R554. -/
  | canRxLock (n : Fin 16) (b : Fin 64)
  /-- R554. -/
  | canRxRelease (n : Fin 16) (b : Fin 64)
  /-- R554. -/
  | hpLock (n : Fin 16)
  /-- R554. -/
  | hpRel (n : Fin 16)
  /-- R574. -/
  | axCmdDoorbell (n : Fin 16) (k : BitVec 3)
  /-- R573. -/
  | axMoveAbs (n : Fin 16) (now : Bool) (tag : BitVec 16) (a0 a1 : Word)
  /-- R573. -/
  | axMoveRel (n : Fin 16) (now : Bool) (tag : BitVec 16) (a0 a1 : Word)
  /-- R573. -/
  | axJog (n : Fin 16) (now : Bool) (tag : BitVec 16) (a0 : Word)
  /-- R573. -/
  | axStop (n : Fin 16) (now : Bool) (tag : BitVec 16) (a0 : Word)
  /-- R605. -/
  | axHome (n : Fin 16) (now : Bool) (tag : BitVec 16) (a0 a1 a2 : Word)
  /-- R573. -/
  | axSetPos (n : Fin 16) (now : Bool) (tag : BitVec 16) (a0 : Word)
  /-- R573. -/
  | axDwell (n : Fin 16) (now : Bool) (tag : BitVec 16) (a0 : Word)
  /-- R582. -/
  | axisUpdate (n : Fin 16) (vA vB : Int) (diag : Bool) (clocks : Fin 601)
  /-- R573. -/
  | dwellElapsed (n : Fin 16)
  /-- R599. -/
  | holdCurrentExpiry (d : Fin 8)
  /-- R597. -/
  | chopComparatorTrip (d : Fin 8) (coilB : Bool) (v : Int)
  /-- R597. -/
  | chopOffExpiry (d : Fin 8) (coilB : Bool)
  /-- R600. -/
  | overcurrentTrip (d : Fin 8) (coilB : Bool) (v : Int)
  /-- R604. -/
  | axisDiagActive (n : Fin 16) (level : Bool)
  /-- R606. -/
  | stallDetected (n : Fin 16)
  /-- R579. -/
  | axisStopRamp (n : Fin 16)
  /-- R579. -/
  | axisStopImmediate (n : Fin 16)
  /-- R586. -/
  | profileParamWrite (n : Fin 16) (k : Fin 4) (v : Word)
  /-- R586. -/
  | papplyNow (n : Fin 16)
  /-- R607. -/
  | axisFaultClear (n : Fin 16) (vA vB : Int) (diag : Bool)
  /-- R622. -/
  | safetyInputFiltered (chanB : Bool) (i : Fin 16) (pinB level : Bool)
  /-- R619. -/
  | sfsPeriod (smA edmA smB edmB : BitVec 8) (dev : Bool)
  /-- R627. -/
  | discrepancy (i : Fin 16)
  /-- R638. -/
  | outputTestStart (n : Fin 8)
  /-- R637. -/
  | edmFault (n : Fin 8) (chanB : Bool)
  /-- R632. -/
  | stopDelayExpiry (f : Fin 16)
  /-- R665. -/
  | claimRoundTimer (okIn : Bool)
  /-- R666. -/
  | claimRoundEnd (line : BitVec 16) (endLow : Bool)
  /-- R682. -/
  | crosswindCopyReceive (n : Fin 4) (c : CwCopy) (good : Bool) (errs : Fin 4)
  /-- R689. -/
  | linkTrained (j rpos rport inv : Fin 4) (third : Bool) (peer : Peer)
  /-- R689. -/
  | linkError (j : Fin 4) (laneLost third : Bool)
  /-- R690. -/
  | linkMsgDoorbell (j : Fin 4) (k : BitVec 4) (x : Ext)
  /-- R691. -/
  | msgRx (p : Fin 4) (rx : Option LinkRx) (errs : Fin 4)
  /-- R691. -/
  | linkRxSlotClear (j : Fin 4) (v : BitVec 8)
  /-- R693. -/
  | timeSyncExchange (p : Fin 4) (t1 t2 t3 t4 : Int) (claim : Bool) (retries errs : Fin 4)
  /-- R715. -/
  | keyRingDoorbell (k : BitVec 5) (x : Ext)
  /-- R731. -/
  | tamperInput (i : Fin 4) (active : Bool) (sub : Nat)
  /-- R732. -/
  | meshMismatch (sub : Nat)
  /-- R752. -/
  | bkpRegisterWrite (i : Fin 32) (v : Word)
  /-- R756. -/
  | rtcShadowRead (k : Fin 10) (sub : BitVec 15)
  /-- R756. -/
  | rtcYearRead (sub : BitVec 15)
  /-- R757. -/
  | rtcFieldWrite (k : Fin 5) (v : Word)
  /-- R757. -/
  | rtcSecCommit (v : Word)
  /-- R757. -/
  | rtcSetSCommit (v : BitVec 64)
  /-- R763. -/
  | alarmEnable (n : Fin 2) (v : Word)
  /-- R777. -/
  | recTrigHost (t : Fin 64)
  /-- R776. -/
  | recTrgSel (t : Fin 64)
  /-- R776. -/
  | recTrgCfg (v : Word)
  /-- R785. -/
  | recScanDone (ces ues : List Nat)
  /-- R808. -/
  | dmaDoorbell (c : Fin 4) (k : BitVec 9)
  /-- R810. -/
  | dmaDescriptorStart (c : Fin 4) (ces ues : List Nat)
  /-- R813. -/
  | dmaDone (c : Fin 4) (data : List Byte) (e : Ecc)
  /-- R811. -/
  | dmaHalt (c : Fin 4) (poisoned : Bool) (data : List Byte)
  /-- R811. -/
  | dmaCompletionTimeout (c : Fin 4) (data : List Byte)
  /-- R811. -/
  | dmaResume (c : Fin 4)
  /-- R811. -/
  | dmaAbort (c : Fin 4)
  /-- R822. -/
  | hostLink (speed width : Fin 4) (lstate : Fin 8) (d3 laneRev : Bool)
  /-- R797. -/
  | msixUnblock (v : Fin 32)
  /-- R816. -/
  | qspiRead (addr : Word) (n : Nat) (e : Ecc)
  /-- R816. -/
  | qspiQread (addr : Word) (n : Nat) (e : Ecc)
  /-- R817. -/
  | qspiWrite (addr : Word) (d : List Byte)
  /-- R817. -/
  | qspiQwrite (addr : Word) (d : List Byte)
  /-- R818. -/
  | qspiStatus (n : Nat)
  /-- R817. -/
  | qspiBufferDrain (x : Ext)
  /-- R69. -/
  | registerRead (off len : Nat) (e : Ecc)
  /-- R666. -/
  | claimBitLost (i : Fin 16)
  /-- R138. -/
  | vinMonUpdate (mv : BitVec 16) (served : Bool)
  /-- R812. -/
  | configSpaceWrite (bme funcMask pmeEn : Bool)
  /-- R142. -/
  | roSample (site : Fin 8) (nStressed nReference : Nat)
  /-- R144. -/
  | xtalMeasure (dev : Int)
  /-- R162. -/
  | sramScrubPass (ces ues : List Nat)
  /-- R162. -/
  | mramScrubPass (ces ues : List Nat)
  /-- R376. -/
  | splitServeRequest (x : SplitSetup)
  /-- R376. -/
  | splitMessage (off : Nat) (data : List Byte)
  /-- R378. -/
  | splitTimeout (dropped : Bool)
  /-- R624. -/
  | testPulseStart (k : Fin 4)
  /-- R625. -/
  | testPulseCheck (k : Fin 4) (aA aB bA bB : BitVec 16)
  /-- R638. -/
  | outputTestEnd (lowA lowB : Bool)
  /-- R635. -/
  | outputMonitorFault (n : Fin 8) (chanB : Bool)
  /-- R680. -/
  | claimListenExpiry (okIn : Bool)
  /-- R722. -/
  | keyBankWriteComplete (ok : Bool)
  /-- R729. -/
  | rngReseed (ok : Bool)
  /-- R744. -/
  | supplySwitchToVbat (sub : BitVec 15)
  /-- R749. -/
  | vbatMeasure (mv : BitVec 16)
  /-- R842. -/
  | jtagBypass (tdi : List Bool)
  /-- R842. -/
  | jtagSamplePreload (pins tdi : List Bool)
  /-- R844. -/
  | jtagExtest (pins tdi : List Bool)
  /-- R842. -/
  | jtagIdcode (tdi : List Bool)
  /-- R844. -/
  | jtagClamp (tdi : List Bool)
  /-- R842. -/
  | jtagHighz (tdi : List Bool)
  /-- R624. -/
  | testPulseEnd (k : Fin 4)
  /-- R140. -/
  | buckCurrentLimit (b : Fin 4)
  /-- R21. -/
  | domainRetentionExit
  /-- R114. -/
  | powerOnReset
  /-- R114. -/
  | brownOutReset
  /-- R116. -/
  | brownOutRelease
  /-- R114. -/
  | externalReset
  /-- R114. -/
  | watchdogReset
  /-- R136. -/
  | wdtWarn
  /-- R117. -/
  | softwareReset
  /-- R101. -/
  | xtmFail
  /-- R852. -/
  | stateReqNone
  /-- R852. -/
  | stateReqReserved
  /-- R107. -/
  | deepLullRequest
  /-- R110. -/
  | offRequest
  /-- R110. -/
  | offEntryComplete
  /-- R109. -/
  | deepLullEntryComplete
  /-- R767. -/
  | wakeNLow
  /-- R106. -/
  | wakeHoldExpiry
  /-- R112. -/
  | pd5HoldoffExpiry
  /-- R126. -/
  | earlyWarningAssert
  /-- R125. -/
  | earlyWarningDeassert
  /-- R133. -/
  | ckptPeriodic
  /-- R133. -/
  | ckptNow
  /-- R105. -/
  | ckptRetry
  /-- R154. -/
  | remapComplete (ces ues : List Nat)
  /-- R157. -/
  | wcntFlush
  /-- R163. -/
  | selfTest
  /-- R206. -/
  | captBlock
  /-- R240. -/
  | electricalStepEnd
  /-- R259. -/
  | freezeNow
  /-- R259. -/
  | freezePeriodic
  /-- R259. -/
  | freezeDone
  /-- R262. -/
  | intvEnd
  /-- R267. -/
  | storePeriodic
  /-- R267. -/
  | storeNow
  /-- R272. -/
  | hrmDone
  /-- R376. -/
  | splitServeEnd
  /-- R477. -/
  | forceClearAll
  /-- R477. -/
  | forceClearOrphans
  /-- R665. -/
  | clmFall
  /-- R676. -/
  | twinOkInFall
  /-- R674. -/
  | relinquish
  /-- R674. -/
  | resume
  /-- R678. -/
  | unlatch
  /-- R699. -/
  | resync
  /-- R677. -/
  | reclaimHoldoffExpiry
  /-- R678. -/
  | reclaimWindowExpiry
  /-- R680. -/
  | pairingTimeout
  /-- R717. -/
  | keyJobStart
  /-- R717. -/
  | keyJobComplete
  /-- R711. -/
  | secGenSym
  /-- R711. -/
  | secGenEc
  /-- R711. -/
  | secImportPub
  /-- R719. -/
  | secWrap
  /-- R720. -/
  | secUnwrap
  /-- R722. -/
  | secPersist
  /-- R711. -/
  | secErase
  /-- R711. -/
  | secDerive
  /-- R711. -/
  | secGcmEnc
  /-- R711. -/
  | secGcmDec
  /-- R711. -/
  | secCmacGen
  /-- R711. -/
  | secCmacVer
  /-- R711. -/
  | secKwWrap
  /-- R711. -/
  | secKwUnwrap
  /-- R711. -/
  | secSha256
  /-- R711. -/
  | secSha384
  /-- R711. -/
  | secSign
  /-- R711. -/
  | secVerify
  /-- R711. -/
  | secEcdh
  /-- R728. -/
  | secStatement
  /-- R711. -/
  | secRandom
  /-- R725. -/
  | secProvision
  /-- R702. -/
  | secLcAdvance
  /-- R739. -/
  | secReprovision
  /-- R733. -/
  | tamperCmd
  /-- R738. -/
  | tamperLogClear
  /-- R744. -/
  | supplySwitchToVin
  /-- R747. -/
  | backupBrownout
  /-- R745. -/
  | bkpBorClear
  /-- R748. -/
  | swoClear
  /-- R752. -/
  | bkpCrcCheck
  /-- R753. -/
  | rtcSecond
  /-- R756. -/
  | shadowTimeout
  /-- R759. -/
  | rtcCommitApply
  /-- R760. -/
  | xt32Stop
  /-- R760. -/
  | osfClear
  /-- R778. -/
  | capture
  /-- R784. -/
  | recordWrite
  /-- R787. -/
  | recClearEddy
  /-- R788. -/
  | recClearCalm
  /-- R787. -/
  | cleared
  /-- R785. -/
  | recScan
  /-- R802. -/
  | pePerstNLow
  /-- R124. -/
  | pePerstNRise
  /-- R799. -/
  | pmeTurnOff
  /-- R814. -/
  | enterQpi
  /-- R815. -/
  | exitQpi
  /-- R815. -/
  | tgtReset
  /-- R815. -/
  | qspiUnknownOpcode
  /-- R819. -/
  | qspiLinkHoldExpiry
  /-- R732. -/
  | meshInactive
  /-- R760. -/
  | xt32Restart
  /-- R755. -/
  | rtcCalWindow
  /-- R467. -/
  | olcLoadDone
  /-- R745. -/
  | backupPowerUp
  /-- R116. -/
  | vinBelow1v
  deriving DecidableEq, Repr

end Sys2Proof
end

