-- ==== Sys2Proof/Config.lean ====
section
/-!
DEFINITION. What an implementation fixes or the manual leaves open: the free values of the model. Each is an opaque
constant: nothing can be evaluated or proved about its value, so a claim holds whatever it is (log entry 4).
-/
namespace Sys2Proof.Config

/-- A free number, one for each value of State's counter `freeCtr` (random bits, undefined contents, cut points). -/
opaque freeNat : (ctr : Nat) → Nat

/-- Whether a rounding the manual does not state takes the next higher integer of the exact quotient `num / den`, not the
next lower one; `tag` is the register or rule (log 11). -/
opaque roundUp : (tag : Nat) → (num den : Int) → Bool

/-- Factory ratio K_s of ring-oscillator site s in OTP (R142), in parts per million. -/
opaque otpK : (site : Nat) → Nat

/-- The degradation of a measurement whose reference count or factory ratio is 0, for which R142 states no value (log 44). -/
opaque noDegradation : (site nStressed nReference : Nat) → Nat

/-- Byte i of the system area of backup SRAM that holds the stored epoch and other HKE words, whose layout the manual
does not give (R679, R751). -/
opaque bkpSystemByte : (epoch : Nat) → (i : Nat) → Byte

/-- Byte i of an area whose contents the manual leaves undefined, for one value of `freeCtr`. -/
opaque freeByte : (ctr : Nat) → (i : Nat) → Byte

/-- The fixed reduction order of the solver array (R288), which the manual does not give: where a sum of n terms is
split in two. -/
opaque reduceSplit : (n : Nat) → Nat

/-- Whether a product joins a sum of the solver array as one fused multiply-add (R281, R286 leave it open). -/
opaque dotFused : Bool

/-- The PRF input of iteration i of a key derivation with a label and a context for n bytes (SP 800-108): its encoding is
not stated. -/
opaque kdfInput : (i : Nat) → (label ctx : List Byte) → (n : Nat) → List Byte

/-- The device-unique 256-bit OTP secret (R709), the label that derives the device identity key, and the bits of the
attribute words of the fixed slots 64 to 66, which the manual does not state. -/
opaque otpSecret : Nat
opaque dikLabel : List Byte
opaque fixedAttr : (slot : Nat) → Nat

/-- The AES-256 key that ECDH on P-384 makes of its 48-byte shared coordinate, which the manual does not state (R711). -/
opaque ecdhKey : (z : Nat) → Nat

/-- Of two NaN operands, whether FMIN and FMAX pass on the second one's payload (R493 says "an operand's"). -/
opaque nanSecond : (a b : Nat) → Bool

/-- The capability word CAP of a page, whose bits no chapter states (R54). -/
opaque pageCap : (page : Nat) → Nat

/-- Bit BUSY of a page's STAT, which no rule states (R54), for one value of `freeCtr`. -/
opaque pageBusy : (ctr page : Nat) → Bool

/-! The filters of the analogue chain, which the manual gives by limits of their response and not by coefficients: what a device may
differ by from the nominal filter within those limits, brought to its bound where it is used (log 40). -/

/-- The bit that the modulator of a channel gives at clock k of an output period where either is possible (R176), for one value of
`freeCtr`; and how far one bit of its stream exceeds the full-scale input, in percent less one (R179). -/
opaque modBit : (ctr chan k : Nat) → Bool
opaque modRange : Nat

/-- Of tap i of the FIR of stage 3, 0 to 118, in 2^-32 (R177). -/
opaque firDev : (i : Nat) → Int

/-- Of tap i of the coil integrator's increment, 0 to 27, in 2^-40 (R184). -/
opaque coilDev : (i : Nat) → Int

/-- Of the weight of sample k for a delay of m / 1,024 sample, in 2^-32 (R197). -/
opaque fracDev : (m k : Nat) → Int

/-- Of tap i of the 90 degree shift, in 2^-32 (R239). -/
opaque hilbertDev : (i : Nat) → Int

/-- The band-limited signal of a tracker from the latest 64 samples of its source, newest first; and where between two of its
samples a positive zero crossing lies, in 1/65,536 sample (R190). -/
opaque bandLimit : (win : List Int) → Int
opaque crossFrac : (before after : Int) → Nat

/-- What the resampling's interpolation adds to the real and the imaginary part of bin m of one signal's window (R269), in 2^-149 V or A,
from the window's corrected samples, oldest first, and f in 0.1 mHz; and the bin, in 2^-40 V or A, of samples that are not all
finite numbers. -/
opaque harmonicDev : (x : List Int) → (f nc m : Nat) → Int × Int
opaque harmonicOpen : (x : List Word) → (f nc m : Nat) → Int × Int

/-- The temperature in mK for a resistance ratio above the greatest one of the Callendar–Van Dusen relation (R213). -/
opaque rtdAbove : (num : Int) → (den : Nat) → Int

/-- The code or index that a job takes from an MTYPE or MIDX value that is none of the listed ones (R307, log 50). -/
opaque oddIndex : (bits : Nat) → Nat

/-- Whether the two engines of a lockstep pair differ at a register write or SYS request (R473), for one value of `freeCtr`. -/
opaque lsDiffers : (ctr : Nat) → Bool

/-- Whether a channel receives at the moment (BSTAT.RX_ACTIVE, R568), for one value of `freeCtr`. -/
opaque rxActive : (ctr chan : Nat) → Bool

/-- The INDEX of an overflow to which the manual gives no pivot (R292, R295): of a job's descriptor and its last iterate, so that the
same job gives the same outputs (R288). -/
opaque openIndex : (desc : List Byte) → (z : List Nat) → Nat

end Sys2Proof.Config
end

