-- ==== Sys2Proof/Machine/Bits.lean ====
section
/-!
DEFINITION. Bit fields, signs, byte order and the CRC-32C: the plain helpers that every meaning uses
(R10 bit numbering, R11 little-endian, R63 CRC-32C).
-/
namespace Sys2Proof.Machine

/-- Field of `n` bits at bit `lo` (R10). -/
def fld (v : Word) (lo n : Nat) : Nat := (v.toNat >>> lo) % 2 ^ n

/-- Bit `i` of a register. -/
def bit (v : Word) (i : Nat) : Bool := v.toNat.testBit i

/-- `v` with the `n`-bit field at `lo` replaced by `x`. -/
def setFld (v : Word) (lo n x : Nat) : Word :=
  BitVec.ofNat 32 (v.toNat - (fld v lo n) <<< lo + (x % 2 ^ n) <<< lo)

/-- `v` with bit `i` set to `b`. -/
def setBit (v : Word) (i : Nat) (b : Bool) : Word := setFld v i 1 (if b then 1 else 0)

/-- A Boolean as a number. -/
def b2n (b : Bool) : Nat := if b then 1 else 0

/-- The field of `n` bits at `lo` of a number of any width. -/
def nfld (v lo n : Nat) : Nat := (v >>> lo) % 2 ^ n

/-- The two's complement value of the low `n` bits of `v`. -/
def sgn (n v : Nat) : Int :=
  let m := v % 2 ^ n
  if m < 2 ^ (n - 1) then (m : Int) else (m : Int) - (2 ^ n : Nat)

/-- An integer as an unsigned `n`-bit number, modulo `2 ^ n`. -/
def uns (n : Nat) (x : Int) : Nat := (x % ((2 ^ n : Nat) : Int)).toNat

/-- `x` clamped into `lo` to `hi`. -/
def clampI (lo hi x : Int) : Int := if x < lo then lo else if hi < x then hi else x

/-- The quotient `num / den`, 0 < den, as an integer where no rule says how it is rounded: itself where it is one, else
one of its two neighbours, left open (log 11). -/
def rounded (tag : Nat) (num den : Int) : Int :=
  num / den + (if num % den = 0 then 0 else if Config.roundUp tag num den then 1 else 0)

/-- One more, saturating at `2 ^ n - 1`. -/
def satInc (n x : Nat) : Nat := if x + 1 < 2 ^ n then x + 1 else 2 ^ n - 1

/-- The sum, saturating at `2 ^ n - 1`. -/
def satAdd (n x y : Nat) : Nat := if x + y < 2 ^ n then x + y else 2 ^ n - 1

/-- Little-endian value of bytes (R11). -/
def leNat : List Byte → Nat
  | [] => 0
  | b :: bs => b.toNat + 256 * leNat bs

/-- The `n` little-endian bytes of a number (R11). -/
def toLe : (n v : Nat) → List Byte
  | 0, _ => []
  | n + 1, v => BitVec.ofNat 8 v :: toLe n (v / 256)

/-- Big-endian value of bytes (cryptographic octet strings). -/
def beNat (bs : List Byte) : Nat := bs.foldl (fun a b => a * 256 + b.toNat) 0

/-- The `n` big-endian bytes of a number. -/
def toBe (n v : Nat) : List Byte := (toLe n v).reverse

/-- One bit step of the reflected CRC-32C (R63). -/
def crcBit (c : Nat) : Nat := if c % 2 = 1 then (c / 2) ^^^ 0x82F63B78 else c / 2

/-- One byte of the reflected CRC-32C (R63). -/
def crcByte (c : Nat) (b : Byte) : Nat :=
  crcBit (crcBit (crcBit (crcBit (crcBit (crcBit (crcBit (crcBit (c ^^^ b.toNat))))))))

/-- The CRC-32C of R63: initial value all ones, reflected, final complement. -/
def crc32c (bs : List Byte) : Nat := (bs.foldl crcByte 0xFFFFFFFF) ^^^ 0xFFFFFFFF

/-- Serial-number comparison of R850: `a` is newer than `b` among `n`-bit numbers. -/
def newer (n a b : Nat) : Bool :=
  let d := (a + 2 ^ n - b) % 2 ^ n
  if d = 2 ^ (n - 1) then decide (b < a) else decide (1 ≤ d ∧ d < 2 ^ (n - 1))

/-- The newest of several candidates by R850: the one than which no other is newer; where it is not unique,
the one of larger unsigned magnitude. -/
def newest (n : Nat) (xs : List Nat) : Option Nat :=
  (xs.filter fun a => xs.all fun b => !newer n b a).max?.or xs.max?

/-- The list of the numbers `0` to `n - 1` for which `p` holds. -/
def those (n : Nat) (p : Nat → Bool) : List Nat := (List.range n).filter p

end Sys2Proof.Machine
end

