-- ==== Sys2Proof/Machine/Calendar.lean ====
section
/-!
DEFINITION. The Gregorian calendar of the RTC from 2000 to 2199 (R753, R754) and the next occurrence of an alarm
(R762, R763).
-/
namespace Sys2Proof.Machine

/-- Leap years of 2000 to 2199: 2100 is not one (R753). -/
def isLeap (y : Nat) : Bool := y % 4 == 0 && y != 2100

/-- Days of a year. -/
def yearDays (y : Nat) : Nat := if isLeap y then 366 else 365

/-- Days of a month (1 to 12). -/
def monthDays (y mo : Nat) : Nat :=
  if mo = 2 then (if isLeap y then 29 else 28)
  else if mo = 4 ∨ mo = 6 ∨ mo = 9 ∨ mo = 11 then 30 else 31

/-- Year and day of the year of a day count since 2000-01-01. -/
def splitYear : (fuel y d : Nat) → Nat × Nat
  | 0, y, d => (y, d)
  | k + 1, y, d => if d < yearDays y then (y, d) else splitYear k (y + 1) (d - yearDays y)

/-- Month and day (from 1) of a day of the year. -/
def splitMonth (y : Nat) : (fuel mo d : Nat) → Nat × Nat
  | 0, mo, d => (mo, d + 1)
  | k + 1, mo, d => if d < monthDays y mo then (mo, d + 1) else splitMonth y k (mo + 1) (d - monthDays y mo)

/-- The calendar fields of a time in seconds since 2000-01-01 00:00:00. -/
structure Civil where
  year : Nat
  month : Nat
  day : Nat
  hour : Nat
  min : Nat
  sec : Nat
  wday : Nat
  deriving DecidableEq, Repr, Inhabited

/-- The fields of EPOCH_S (R753, R754); 2000-01-01 was a Saturday, WDAY 6. -/
def civil (t : Nat) : Civil :=
  let d := t / 86400
  let s := t % 86400
  let (y, yd) := splitYear 200 2000 d
  let (mo, dd) := splitMonth y 11 1 yd
  ⟨y, mo, dd, s / 3600, s / 60 % 60, s % 60, (d + 5) % 7 + 1⟩

/-- Seconds since 2000 of calendar fields. -/
def epochOf (y mo d h mi s : Nat) : Nat :=
  let ydays := ((List.range (y - 2000)).map fun i => yearDays (2000 + i)).sum
  let mdays := ((List.range (mo - 1)).map fun i => monthDays y (1 + i)).sum
  (ydays + mdays + (d - 1)) * 86400 + h * 3600 + mi * 60 + s

/-- The last second of the calendar, 2199-12-31 23:59:59 (R758). -/
def rtcLast : Nat := 6311433599

/-- The match fields of an alarm, `none` for a masked one (R762). -/
structure AlarmMatch where
  sec : Option Nat
  min : Option Nat
  hour : Option Nat
  day : Option Nat
  month : Option Nat
  wday : Option Nat
  deriving DecidableEq, Repr, Inhabited

/-- An unmasked field equals the value; a masked one always does. -/
def fieldIs (f : Option Nat) (v : Nat) : Bool := match f with | none => true | some x => x == v

/-- Does a day since 2000 match DAY, MONTH and WDAY? -/
def dayMatches (a : AlarmMatch) (d : Nat) : Bool :=
  let c := civil (d * 86400)
  fieldIs a.day c.day && fieldIs a.month c.month && fieldIs a.wday c.wday

/-- The first matching second of a day at or after second `lo` of the day. -/
def firstTod (a : AlarmMatch) (lo : Nat) : Option Nat :=
  (List.range 24).findSome? fun h =>
    if fieldIs a.hour h && decide (lo ≤ h * 3600 + 3599) then
      (List.range 60).findSome? fun m =>
        if fieldIs a.min m && decide (lo ≤ h * 3600 + m * 60 + 59) then
          (List.range 60).findSome? fun s =>
            if fieldIs a.sec s && decide (lo ≤ h * 3600 + m * 60 + s) then some (h * 3600 + m * 60 + s) else none
        else none
    else none

/-- The first occurrence on or after day `d`, from second `lo` of day `d`, within `fuel` days. -/
def nextFrom (a : AlarmMatch) : (fuel d lo : Nat) → Option Nat
  | 0, _, _ => none
  | k + 1, d, lo =>
    match (if dayMatches a d then firstTod a lo else none) with
    | some s => some (d * 86400 + s)
    | none => nextFrom a k (d + 1) 0

/-- The first occurrence strictly after time `t` up to the calendar's end (R763). -/
def nextOccurrence (a : AlarmMatch) (t : Nat) : Option Nat :=
  let u := t + 1
  if u > rtcLast then none else nextFrom a (73049 - u / 86400) (u / 86400) (u % 86400)

/-- The XT32 edges SUBSEC advances by in cycle `i` of a calibration window with CAL `c` in force: 1, or 2 or 0 at a
correction (R755). -/
def calAdvance (c : Int) (i : Nat) : Nat :=
  let due := decide (i * c.natAbs / 2 ^ 23 < (i + 1) * c.natAbs / 2 ^ 23)
  if due then (if c > 0 then 2 else 0) else 1

end Sys2Proof.Machine
end

