-- ==== Sys2Proof/Machine/RegTable.lean ====
section
/-!
DEFINITION. The register maps of the chapters of spec/ as tables: for every register (or array of registers) after
the common header its name, its page offset, the stride and number of its instances, its access code (R13), the mask
of its writable bits (reserved and read-only bits left out, R15) and its reset value (R14).
-/
namespace Sys2Proof.Machine

/-- The access codes of R13 (RWS fields are fields of RW registers whose write starts an action). -/
inductive Acc where
  | ro | rw | w1c | wo | rwl
  deriving DecidableEq, Repr

/-- One row of a register map. -/
structure RegDef where
  name : String
  base : Nat
  stride : Nat
  count : Nat
  acc : Acc
  wmask : Nat
  reset : Nat
  deriving DecidableEq, Repr

/-- The SYS registers after the common header (R137). -/
def regsSYS : List RegDef :=
  [⟨"REV", 0x40, 4, 1, .ro, 0xffffffff, 0x960000a1⟩,
   ⟨"STRAP", 0x44, 4, 1, .ro, 0xf, 0x0⟩,
   ⟨"RST_CAUSE", 0x48, 4, 1, .w1c, 0x1f, 0x1⟩,
   ⟨"RST_CTRL", 0x4c, 4, 1, .rwl, 0xffffffff, 0x0⟩,
   ⟨"BOOT_STAT", 0x50, 4, 1, .ro, 0x3ff, 0x0⟩,
   ⟨"BOOT_TIME", 0x54, 4, 1, .ro, 0xffffffff, 0x0⟩]

/-- The PWR registers after the common header (R138). -/
def regsPWR : List RegDef :=
  [⟨"STATE", 0x40, 4, 1, .ro, 0xf, 0x0⟩,
   ⟨"STATE_REQ", 0x44, 4, 1, .rwl, 0x3, 0x0⟩,
   ⟨"AUTO", 0x48, 4, 1, .rwl, 0x1, 0x1⟩,
   ⟨"DOM_STAT", 0x4c, 4, 1, .ro, 0xfffff, 0x0⟩,
   ⟨"SLV_HOLDOFF", 0x50, 4, 1, .rwl, 0xffffffff, 0x3e8⟩,
   ⟨"CKPT_PERIOD", 0x54, 4, 1, .rwl, 0xffffffff, 0x3c⟩,
   ⟨"CKPT_STAT", 0x58, 4, 1, .rw, 0x10, 0x8⟩,
   ⟨"CKPT_SEQ", 0x5c, 4, 1, .ro, 0xffffffff, 0x0⟩,
   ⟨"VIN_MON", 0x60, 4, 1, .ro, 0xffff, 0x0⟩,
   ⟨"EW_COUNT", 0x64, 4, 1, .ro, 0xffffffff, 0x0⟩,
   ⟨"ENTRY_ABORT", 0x68, 4, 1, .ro, 0xffffffff, 0x0⟩,
   ⟨"VCORE_SET", 0x6c, 4, 1, .ro, 0x1f, 0x14⟩,
   ⟨"REG_STAT", 0x70, 4, 1, .ro, 0xff, 0x0⟩,
   ⟨"WAKE_MASK", 0x80, 4, 8, .rwl, 0xffffffff, 0x0⟩]

/-- The AGE registers after the common header (R171). -/
def regsAGE : List RegDef :=
  [⟨"RUN", 0x40, 4, 1, .rw, 0x1, 0x0⟩,
   ⟨"RUN_TIME", 0x44, 4, 1, .rwl, 0xffffffff, 0x2a30⟩,
   ⟨"VETO", 0x48, 4, 1, .rwl, 0xf, 0x0⟩,
   ⟨"PENDING", 0x4c, 4, 1, .ro, 0xffffffff, 0x0⟩,
   ⟨"SLV_CLK", 0x50, 4, 1, .ro, 0x7, 0x0⟩,
   ⟨"DEG_MAX", 0x54, 4, 1, .ro, 0x7ffffff, 0x0⟩,
   ⟨"DEG_STEP", 0x58, 4, 1, .rwl, 0xffffffff, 0xfa0⟩,
   ⟨"DEG_FAIL", 0x5c, 4, 1, .rwl, 0xffffffff, 0xea60⟩,
   ⟨"LIFE", 0x60, 4, 1, .ro, 0x8007ffff, 0xffff⟩,
   ⟨"LIFE_WARN", 0x64, 4, 1, .rwl, 0xffffffff, 0x16d⟩,
   ⟨"SCRUB", 0x68, 4, 1, .ro, 0xffffff, 0x181840⟩,
   ⟨"CANARY", 0x6c, 4, 1, .ro, 0x7ffffff, 0x7000000⟩,
   ⟨"XTAL", 0x70, 4, 1, .ro, 0xffff, 0x0⟩,
   ⟨"REG_HEALTH", 0x74, 4, 1, .ro, 0xffffffff, 0x0⟩,
   ⟨"LAST_RUN", 0x78, 4, 1, .ro, 0xffffffff, 0x0⟩,
   ⟨"RO_DEG0 to RO_DEG7", 0x80, 4, 8, .ro, 0xffffff, 0x0⟩]

/-- The EVT registers after the common header (R80). -/
def regsEVT : List RegDef :=
  [⟨"VEC_ASSERT", 0x40, 4, 1, .ro, 0xffffffff, 0x0⟩,
   ⟨"PIN_ASSERT", 0x44, 4, 1, .ro, 0xf, 0x0⟩,
   ⟨"PIN_CFG", 0x48, 4, 1, .rwl, 0xf, 0x0⟩,
   ⟨"VEC_MASK", 0x100, 4, 256, .rwl, 0xffffffff, 0x0⟩,
   ⟨"PIN_MASK", 0x500, 4, 32, .rwl, 0xffffffff, 0x0⟩,
   ⟨"SE_MASK", 0x580, 4, 32, .rwl, 0xffffffff, 0x0⟩,
   ⟨"REC_SEL", 0x600, 4, 64, .rwl, 0x800000ff, 0x0⟩,
   ⟨"EVTLAT", 0x700, 4, 8, .w1c, 0xffffffff, 0x0⟩]

/-- The HIF registers after the common header (R823). -/
def regsHIF : List RegDef :=
  [⟨"CFG", 0x40, 4, 1, .rw, 0x3, 0x0⟩,
   ⟨"LINK_STAT", 0x44, 4, 1, .ro, 0x1fff, 0x0⟩,
   ⟨"BOOT_LEN", 0x48, 4, 1, .rw, 0xffffffff, 0x0⟩,
   ⟨"BOOT_CTRL", 0x4c, 4, 1, .rw, 0x3, 0x0⟩,
   ⟨"HOST_ERRS", 0x50, 4, 1, .ro, 0xffffffff, 0x0⟩,
   ⟨"QS_STAT", 0x54, 4, 1, .ro, 0xff, 0x0⟩,
   ⟨"CHc_CTRL", 0x100, 32, 4, .rwl, 0x1, 0x0⟩,
   ⟨"CHc_BASE", 0x104, 4, 1, .rwl, 0xffffffff, 0x2820000⟩,
   ⟨"CHc_BASE", 0x124, 4, 1, .rwl, 0xffffffff, 0x2822000⟩,
   ⟨"CHc_BASE", 0x144, 4, 1, .rwl, 0xffffffff, 0x2824000⟩,
   ⟨"CHc_BASE", 0x164, 4, 1, .rwl, 0xffffffff, 0x2826000⟩,
   ⟨"CHc_DB", 0x108, 32, 4, .wo, 0x1ff, 0x0⟩,
   ⟨"CHc_PI", 0x10c, 32, 4, .ro, 0xff, 0x0⟩,
   ⟨"CHc_CI", 0x110, 32, 4, .ro, 0xff, 0x0⟩,
   ⟨"CHc_STAT", 0x114, 32, 4, .ro, 0x1ff03, 0x0⟩,
   ⟨"CHc_CMD", 0x118, 32, 4, .wo, 0x3, 0x0⟩,
   ⟨"CHc_BYTES", 0x11c, 32, 4, .ro, 0xffffffff, 0x0⟩,
   ⟨"MSIX_TABLE control", 0x80c, 16, 32, .rw, 0x1, 0x1⟩,
   ⟨"MSIX_TABLE", 0x800, 4, 128, .rw, 0xffffffff, 0x0⟩,
   ⟨"MSIX_PBA", 0xa00, 4, 2, .ro, 0xffffffff, 0x0⟩]

/-- The RTC registers after the common header (R771). -/
def regsRTC : List RegDef :=
  [⟨"STAT", 0x40, 4, 1, .ro, 0xf, 0x1⟩,
   ⟨"FLAGS", 0x44, 4, 1, .w1c, 0x3, 0x1⟩,
   ⟨"SUBSEC", 0x48, 4, 1, .ro, 0x7fff, 0x0⟩,
   ⟨"SEC", 0x4c, 4, 1, .rwl, 0xffffffff, 0x0⟩,
   ⟨"MIN", 0x50, 4, 1, .rwl, 0xffffffff, 0x0⟩,
   ⟨"HOUR", 0x54, 4, 1, .rwl, 0xffffffff, 0x0⟩,
   ⟨"DAY", 0x58, 4, 1, .rwl, 0xffffffff, 0x1⟩,
   ⟨"MONTH", 0x5c, 4, 1, .rwl, 0xffffffff, 0x1⟩,
   ⟨"YEAR", 0x60, 4, 1, .rwl, 0xffffffff, 0x7d0⟩,
   ⟨"WDAY", 0x64, 4, 1, .ro, 0xffffffff, 0x6⟩,
   ⟨"EPOCH_S", 0x68, 4, 1, .ro, 0xffffffff, 0x0⟩,
   ⟨"EPOCH_S_HI", 0x6c, 4, 1, .ro, 0xffffffff, 0x0⟩,
   ⟨"SET_S", 0x70, 4, 1, .rwl, 0xffffffff, 0x0⟩,
   ⟨"SET_S_HI", 0x74, 4, 1, .rwl, 0xffffffff, 0x0⟩,
   ⟨"CAL", 0x78, 4, 1, .rwl, 0x3fff, 0x0⟩,
   ⟨"LAST_SET_OLD", 0x7c, 4, 1, .ro, 0xffffffff, 0x0⟩,
   ⟨"LAST_SET_NEW", 0x80, 4, 1, .ro, 0xffffffff, 0x0⟩,
   ⟨"SET_CNT", 0x84, 4, 1, .ro, 0xffffffff, 0x0⟩,
   ⟨"ALMn_CFG", 0xc0, 32, 2, .rwl, 0x7, 0x0⟩,
   ⟨"ALMn_MATCH", 0xc4, 32, 2, .rwl, 0x1f1f3f3f, 0x0⟩,
   ⟨"ALMn_MATCH2", 0xc8, 32, 2, .rwl, 0x3f070f, 0x3f0000⟩,
   ⟨"ALMn_STAT", 0xcc, 32, 2, .w1c, 0x7, 0x0⟩,
   ⟨"ALMn_NEXT", 0xd0, 32, 2, .ro, 0xffffffff, 0xffffffff⟩,
   ⟨"ALMn_NEXT_HI", 0xd4, 32, 2, .ro, 0xffffffff, 0xffffffff⟩,
   ⟨"ALMn_CNT", 0xd8, 32, 2, .ro, 0xffffffff, 0x0⟩]

/-- The BKP registers after the common header (R772). -/
def regsBKP : List RegDef :=
  [⟨"STAT", 0x40, 4, 1, .ro, 0x3, 0x0⟩,
   ⟨"FLAGS", 0x44, 4, 1, .w1c, 0xf, 0x3⟩,
   ⟨"SWO_TIME", 0x48, 4, 1, .ro, 0xffffffff, 0x0⟩,
   ⟨"SWO_SUB", 0x4c, 4, 1, .ro, 0x7fff, 0x0⟩,
   ⟨"SWO_CNT", 0x50, 4, 1, .ro, 0xffffffff, 0x0⟩,
   ⟨"VBAT", 0x54, 4, 1, .ro, 0xffff, 0x0⟩,
   ⟨"VBAT_LOW_TH", 0x58, 4, 1, .rwl, 0xffff, 0x898⟩,
   ⟨"WAKE_CAUSE", 0x5c, 4, 1, .ro, 0x7, 0x0⟩,
   ⟨"BCRC", 0x60, 4, 1, .ro, 0xffffffff, 0x0⟩,
   ⟨"CRC_CHK", 0x64, 4, 1, .rw, 0x1, 0x0⟩,
   ⟨"GPR0 to GPR31", 0x100, 4, 32, .rw, 0xffffffff, 0x0⟩,
   ⟨"USER", 0x800, 4, 512, .rw, 0xffffffff, 0x0⟩]

/-- The REC registers after the common header (R790). -/
def regsREC : List RegDef :=
  [⟨"STAT", 0x40, 4, 1, .ro, 0x3f1f, 0x1⟩,
   ⟨"CALM_SLOTS", 0x44, 4, 1, .rwl, 0xffffffff, 0x2000⟩,
   ⟨"CALM_NEXT", 0x48, 4, 1, .ro, 0xffffffff, 0x0⟩,
   ⟨"EDDY_NEXT", 0x4c, 4, 1, .ro, 0xffffffff, 0x0⟩,
   ⟨"SEQ_NEXT", 0x50, 4, 1, .ro, 0xffffffff, 0x1⟩,
   ⟨"LOST", 0x54, 4, 1, .ro, 0xffffffff, 0x0⟩,
   ⟨"TORN", 0x58, 4, 1, .ro, 0xffffffff, 0x0⟩,
   ⟨"WRITTEN", 0x5c, 4, 1, .ro, 0xffffffff, 0x0⟩,
   ⟨"TRIG", 0x60, 4, 1, .wo, 0x8000003f, 0x0⟩,
   ⟨"CLEAR", 0x64, 4, 1, .rwl, 0x3, 0x0⟩,
   ⟨"TRG_SEL", 0x68, 4, 1, .rw, 0x3f, 0x0⟩,
   ⟨"TRG_CFG", 0x6c, 4, 1, .rwl, 0x7f03, 0x0⟩,
   ⟨"TRG_CNT", 0x70, 4, 1, .ro, 0xffffffff, 0x0⟩,
   ⟨"LIST0 to LIST55", 0x100, 4, 56, .rwl, 0x7ffff, 0x0⟩]

/-- The NVM registers after the common header (R172). -/
def regsNVM : List RegDef :=
  [⟨"WR_EN", 0x40, 4, 1, .rwl, 0x1, 0x0⟩,
   ⟨"WCNT_IDX", 0x44, 4, 1, .rw, 0xfff, 0x0⟩,
   ⟨"WCNT_DATA", 0x48, 4, 1, .ro, 0xffffffff, 0x0⟩,
   ⟨"ECC_CE", 0x4c, 4, 1, .ro, 0xffffffff, 0x0⟩,
   ⟨"ECC_UE", 0x50, 4, 1, .ro, 0xffffffff, 0x0⟩,
   ⟨"UE_ADDR", 0x54, 4, 1, .ro, 0xffffffff, 0x0⟩,
   ⟨"SPARE", 0x58, 4, 1, .ro, 0xffff, 0x6000⟩,
   ⟨"PART_STAT", 0x5c, 4, 1, .ro, 0x1, 0x0⟩,
   ⟨"PART0", 0x80, 4, 1, .rwl, 0xffffffff, 0x800000⟩,
   ⟨"PART1", 0x84, 4, 1, .rwl, 0xffffffff, 0x2000080⟩,
   ⟨"PART2", 0x88, 4, 1, .rwl, 0xffffffff, 0x2000280⟩,
   ⟨"PART3", 0x8c, 4, 1, .rwl, 0xffffffff, 0x4000480⟩,
   ⟨"PART4", 0x90, 4, 1, .rwl, 0xffffffff, 0x1000880⟩,
   ⟨"PART5", 0x94, 4, 1, .rwl, 0xffffffff, 0x100980⟩,
   ⟨"PART6", 0x98, 4, 1, .rwl, 0xffffffff, 0x6000990⟩,
   ⟨"PART7", 0x9c, 4, 1, .rwl, 0xffffffff, 0x700f90⟩]

/-- The SCAN registers after the common header (R475). -/
def regsSCAN : List RegDef :=
  [⟨"STAT", 0x40, 4, 1, .ro, 0xf, 0x0⟩,
   ⟨"LOCKSTEP", 0x44, 4, 1, .rwl, 0x3, 0x0⟩,
   ⟨"STN_BASE", 0x48, 4, 1, .rwl, 0xffffffff, 0x2800000⟩,
   ⟨"STN_COUNT", 0x4c, 4, 1, .rwl, 0xffffffff, 0x0⟩,
   ⟨"STN_UPD", 0x50, 4, 1, .wo, 0x800007ff, 0x0⟩,
   ⟨"STN_GOOD", 0x54, 4, 1, .ro, 0x7ff, 0x0⟩,
   ⟨"STN_OVR", 0x58, 4, 1, .ro, 0xffffffff, 0x0⟩,
   ⟨"STN_REJ", 0x5c, 4, 1, .ro, 0xffffffff, 0x0⟩,
   ⟨"LAST_STN", 0x60, 4, 1, .ro, 0xff07ff, 0x0⟩,
   ⟨"OLC_CTRL", 0x64, 4, 1, .rwl, 0x80000001, 0x0⟩,
   ⟨"OLC_STAT", 0x68, 4, 1, .ro, 0xffff000f, 0x0⟩,
   ⟨"BOOT_BANK", 0x6c, 4, 1, .ro, 0x1, 0x0⟩,
   ⟨"CODE_BASE", 0x70, 4, 1, .rwl, 0xffffffff, 0x2c00000⟩,
   ⟨"CODE_SIZE", 0x74, 4, 1, .rwl, 0xffffffff, 0x400000⟩,
   ⟨"GPIO_OWN0 to GPIO_OWN3", 0x78, 4, 4, .rwl, 0xbbbbbbbb, 0x0⟩]

/-- The TASKt registers after the common header (R498). -/
def regsTASKt : List RegDef :=
  [⟨"CMD", 0x40, 4, 1, .wo, 0x7, 0x0⟩,
   ⟨"STATE", 0x44, 4, 1, .ro, 0xfff, 0x0⟩,
   ⟨"CFG", 0x48, 4, 1, .rwl, 0xfff07, 0x40000⟩,
   ⟨"PERIOD", 0x4c, 4, 1, .rwl, 0xffffffff, 0x2710⟩,
   ⟨"PHASE", 0x50, 4, 1, .rwl, 0xffffffff, 0x0⟩,
   ⟨"IN_BASE", 0x54, 4, 1, .rwl, 0xffffffff, 0x0⟩,
   ⟨"IN_SIZE", 0x58, 4, 1, .rwl, 0xffffffff, 0x0⟩,
   ⟨"OUT_BASE", 0x5c, 4, 1, .rwl, 0xffffffff, 0x0⟩,
   ⟨"OUT_SIZE", 0x60, 4, 1, .rwl, 0xffffffff, 0x0⟩,
   ⟨"RET_BASE", 0x64, 4, 1, .rwl, 0xffffffff, 0x0⟩,
   ⟨"RET_SIZE", 0x68, 4, 1, .rwl, 0xffffffff, 0x0⟩,
   ⟨"LOC_BASE", 0x6c, 4, 1, .rwl, 0xffffffff, 0x0⟩,
   ⟨"LOC_SIZE", 0x70, 4, 1, .rwl, 0xffffffff, 0x0⟩,
   ⟨"SYSV_BASE", 0x74, 4, 1, .rwl, 0xffffffff, 0x0⟩,
   ⟨"RET_SIG", 0x78, 4, 1, .ro, 0xffffffff, 0x0⟩,
   ⟨"CYCLES", 0x7c, 4, 1, .ro, 0xffffffff, 0x0⟩,
   ⟨"CYCLES_HI", 0x80, 4, 1, .ro, 0xffffffff, 0x0⟩,
   ⟨"OVR_CNT", 0x84, 4, 1, .ro, 0xffffffff, 0x0⟩,
   ⟨"SKIP_CNT", 0x88, 4, 1, .ro, 0xffffffff, 0x0⟩,
   ⟨"LAST_EXEC", 0x8c, 4, 1, .ro, 0xffffffff, 0x0⟩,
   ⟨"MAX_EXEC", 0x90, 4, 1, .ro, 0xffffffff, 0x0⟩,
   ⟨"MIN_IDLE", 0x94, 4, 1, .ro, 0xffffffff, 0xffffffff⟩,
   ⟨"TRAP", 0x98, 4, 1, .ro, 0x7f, 0x0⟩,
   ⟨"TRAP_PC", 0x9c, 4, 1, .ro, 0xffffffff, 0x0⟩,
   ⟨"XLINKi_SRC", 0xa0, 8, 8, .rwl, 0x800fffff, 0x0⟩,
   ⟨"XLINKi_DST", 0xa4, 8, 8, .rwl, 0xfff3ffff, 0x0⟩]

/-- The FRC registers after the common header (R477). -/
def regsFRC : List RegDef :=
  [⟨"STAT", 0x40, 4, 1, .ro, 0x17f, 0x0⟩,
   ⟨"CLEAR", 0x44, 4, 1, .rwl, 0x3, 0x0⟩,
   ⟨"FRCe_ADDR", 0x100, 16, 64, .rwl, 0x801fffff, 0x0⟩,
   ⟨"FRCe_MASK", 0x104, 16, 64, .rwl, 0xffffffff, 0x0⟩,
   ⟨"FRCe_VALUE", 0x108, 16, 64, .rwl, 0xffffffff, 0x0⟩]

/-- The MTR registers after the common header (R228). -/
def regsMTR : List RegDef :=
  [⟨"NOM", 0x40, 4, 1, .rwl, 0x1, 0x0⟩,
   ⟨"TRK_SRC", 0x44, 4, 1, .rwl, 0x9f9f9f9f, 0x0⟩,
   ⟨"FREQ0 to FREQ3", 0x48, 4, 4, .ro, 0x3fffff, 0x7a120⟩,
   ⟨"SLICE_STAT", 0x58, 4, 1, .ro, 0xfff, 0x0⟩,
   ⟨"CAPT_CTRL", 0x5c, 4, 1, .rwl, 0xc0ffffff, 0x0⟩,
   ⟨"CAPT_BASE", 0x60, 4, 1, .rwl, 0xffffffff, 0x2810000⟩,
   ⟨"CAPT_SIZE", 0x64, 4, 1, .rwl, 0xffffffff, 0x2⟩,
   ⟨"CAPT_WR", 0x68, 4, 1, .ro, 0xffffffff, 0x0⟩,
   ⟨"CAPT_LOST", 0x6c, 4, 1, .ro, 0xffffffff, 0x0⟩]

/-- The AFE registers after the common header (R229). -/
def regsAFE : List RegDef :=
  [⟨"CHn_CFG", 0x40, 16, 24, .rwl, 0x7ff, 0x0⟩,
   ⟨"CHn_SCALE", 0x44, 16, 24, .rwl, 0xffffffff, 0x3f800000⟩,
   ⟨"CHn_DELAY", 0x48, 16, 24, .rwl, 0x3fff, 0x0⟩,
   ⟨"CHn_STAT", 0x4c, 16, 24, .w1c, 0x3, 0x0⟩,
   ⟨"REF_CFG", 0x1c0, 4, 1, .rwl, 0x1, 0x0⟩,
   ⟨"CORR_COMMIT", 0x1c4, 4, 1, .rwl, 0xffffff, 0x0⟩,
   ⟨"CORR_STAT", 0x1c8, 4, 1, .ro, 0xffffffff, 0x0⟩,
   ⟨"RTP_CFG0 to RTP_CFG7", 0x200, 4, 8, .rwl, 0x7, 0x0⟩,
   ⟨"RTm_CFG", 0x240, 16, 16, .rwl, 0x3, 0x2⟩,
   ⟨"RTm_RNOM", 0x244, 16, 16, .rwl, 0xffffffff, 0x0⟩,
   ⟨"RTm_T", 0x248, 16, 16, .ro, 0xffffffff, 0x0⟩,
   ⟨"RTm_STAT", 0x24c, 16, 16, .ro, 0xf, 0x0⟩,
   ⟨"RTm_RES", 0x340, 4, 16, .ro, 0xffffffff, 0x0⟩,
   ⟨"RREF", 0x380, 4, 1, .rwl, 0xffffffff, 0x0⟩,
   ⟨"RTD_SEQ", 0x384, 4, 1, .ro, 0xffffffff, 0x0⟩,
   ⟨"CORR_TABn", 0x400, 4, 528, .rwl, 0xffffffff, 0x0⟩]

/-- The PLS registers after the common header (R231). -/
def regsPLS : List RegDef :=
  [⟨"PIn_CFG", 0x40, 32, 64, .rwl, 0xffff000f, 0x0⟩,
   ⟨"PIn_STAT", 0x44, 32, 64, .ro, 0xffff0003, 0x0⟩,
   ⟨"PIn_FWD", 0x48, 32, 64, .ro, 0xffffffff, 0x0⟩,
   ⟨"PIn_FWD_HI", 0x4c, 32, 64, .ro, 0xffffffff, 0x0⟩,
   ⟨"PIn_REV", 0x50, 32, 64, .ro, 0xffffffff, 0x0⟩,
   ⟨"PIn_REV_HI", 0x54, 32, 64, .ro, 0xffffffff, 0x0⟩,
   ⟨"PIn_PERIOD", 0x58, 32, 64, .ro, 0xffffffff, 0x0⟩,
   ⟨"EDGE_MASK", 0x840, 4, 1, .rwl, 0xffffffff, 0x0⟩,
   ⟨"EDGE_MASK_HI", 0x844, 4, 1, .rwl, 0xffffffff, 0x0⟩]

/-- The QTY registers after the common header (R275). -/
def regsQTY : List RegDef :=
  [⟨"FREEZE", 0x40, 4, 1, .rw, 0x1, 0x0⟩,
   ⟨"FRZ_PERIOD", 0x44, 4, 1, .rwl, 0xffffffff, 0x1⟩,
   ⟨"FRZ_SEQ", 0x48, 4, 1, .ro, 0xffffffff, 0x0⟩,
   ⟨"FRZ_CAUSE", 0x4c, 4, 1, .ro, 0x1f, 0x0⟩,
   ⟨"FRZ_TSC", 0x50, 4, 1, .ro, 0xffffffff, 0x0⟩,
   ⟨"FRZ_TSC_HI", 0x54, 4, 1, .ro, 0xffffffff, 0x0⟩,
   ⟨"FRZ_RTC", 0x58, 4, 1, .ro, 0xffffffff, 0x0⟩,
   ⟨"INTV", 0x5c, 4, 1, .rwl, 0x3f, 0xf⟩,
   ⟨"INTV_SEQ", 0x60, 4, 1, .ro, 0xffffffff, 0x0⟩,
   ⟨"STORE_PERIOD", 0x64, 4, 1, .rwl, 0xffffffff, 0x3c⟩,
   ⟨"STORE_STAT", 0x68, 4, 1, .rw, 0x1, 0x0⟩,
   ⟨"STORE_SEQ", 0x6c, 4, 1, .ro, 0xffffffff, 0x0⟩,
   ⟨"PRESET_IDX", 0x70, 4, 1, .rwl, 0x800000ff, 0x0⟩,
   ⟨"PRESET_VAL", 0x74, 4, 1, .rwl, 0xffffffff, 0x0⟩,
   ⟨"PRESET_VAL_HI", 0x78, 4, 1, .rwl, 0xffffffff, 0x0⟩,
   ⟨"Ee_CFG", 0x80, 8, 8, .rwl, 0x3ffffff, 0x0⟩,
   ⟨"Ee_ICH", 0x84, 8, 8, .rwl, 0x7fff, 0x0⟩,
   ⟨"Hh_CFG", 0xc0, 16, 8, .rwl, 0xffffffff, 0x0⟩,
   ⟨"Hh_FLOWK", 0xc4, 16, 8, .rwl, 0xffffffff, 0x0⟩,
   ⟨"Hh_FLOW_IN", 0xc8, 16, 8, .rw, 0xffffffff, 0x0⟩,
   ⟨"Hh_STAT", 0xcc, 16, 8, .w1c, 0x8, 0x0⟩,
   ⟨"Pn_CFG", 0x140, 4, 64, .rwl, 0x1fffffff, 0x0⟩,
   ⟨"Qs_FINE", 0x240, 16, 168, .ro, 0xffffffff, 0x0⟩,
   ⟨"Qs_FINE_HI", 0x244, 16, 168, .ro, 0xffffffff, 0x0⟩,
   ⟨"Qs_VIEW", 0x248, 16, 168, .ro, 0xffffffff, 0x0⟩,
   ⟨"Qs_VIEW_HI", 0x24c, 16, 168, .w1c, 0x10000, 0x0⟩,
   ⟨"Ee summary", 0xcc0, 4, 48, .ro, 0xffffffff, 0x0⟩,
   ⟨"Hh summary", 0xd80, 4, 160, .ro, 0xffffffff, 0x0⟩]

/-- The HRM registers after the common header (R279). -/
def regsHRM : List RegDef :=
  [⟨"CTRL", 0x40, 4, 1, .rwl, 0xfff, 0x0⟩,
   ⟨"RES_STAT", 0x44, 4, 1, .ro, 0x1f, 0x0⟩,
   ⟨"RES_TSC", 0x48, 4, 1, .ro, 0xffffffff, 0x0⟩,
   ⟨"RES_TSC_HI", 0x4c, 4, 1, .ro, 0xffffffff, 0x0⟩,
   ⟨"FUND_F", 0x50, 4, 1, .ro, 0xffffffff, 0x0⟩,
   ⟨"LIVE_SEQ", 0x54, 4, 1, .ro, 0xffffffff, 0x0⟩,
   ⟨"WIN_SEQ", 0x58, 4, 1, .ro, 0xffffffff, 0x0⟩,
   ⟨"MD_RESET", 0x5c, 4, 1, .rwl, 0xffffffff, 0x0⟩,
   ⟨"LIVEe", 0x80, 4, 160, .ro, 0xffffffff, 0x0⟩,
   ⟨"MAG", 0x300, 4, 384, .ro, 0xffffffff, 0x0⟩,
   ⟨"PHASE", 0x900, 4, 192, .ro, 0xffffffff, 0x0⟩,
   ⟨"THD", 0xc00, 4, 6, .ro, 0xffffffff, 0x0⟩,
   ⟨"MAXDEM", 0xc40, 4, 16, .ro, 0xffffffff, 0x0⟩]

/-- The SLV registers after the common header (R338). -/
def regsSLV : List RegDef :=
  [⟨"RING_BASE", 0x40, 4, 1, .rwl, 0xffffffff, 0x4000⟩,
   ⟨"RING_DB", 0x44, 4, 1, .wo, 0xf, 0x0⟩,
   ⟨"RING_PI", 0x48, 4, 1, .ro, 0xf, 0x0⟩,
   ⟨"DESC_BASE", 0x4c, 4, 1, .rwl, 0xffffffff, 0x0⟩,
   ⟨"QSTAT", 0x50, 4, 1, .ro, 0x3fff, 0x0⟩,
   ⟨"JOB_SEQ", 0x54, 4, 1, .ro, 0xffffffff, 0x0⟩,
   ⟨"DONE_MAP", 0x58, 4, 1, .w1c, 0xffffffff, 0x0⟩,
   ⟨"DONE_MAP_HI", 0x5c, 4, 1, .w1c, 0xffffffff, 0x0⟩,
   ⟨"JOB_TMO", 0x60, 4, 1, .rwl, 0xffff, 0x0⟩,
   ⟨"CLK", 0x64, 4, 1, .ro, 0x7ff, 0x4b0⟩,
   ⟨"ECC_CE", 0x68, 4, 1, .ro, 0xffffffff, 0x0⟩,
   ⟨"ECC_UE", 0x6c, 4, 1, .ro, 0xffffffff, 0x0⟩,
   ⟨"UE_ADDR", 0x70, 4, 1, .ro, 0xffffffff, 0x0⟩,
   ⟨"LAST_DESC", 0x74, 4, 1, .ro, 0x3f, 0x0⟩,
   ⟨"LAST_STATUS", 0x78, 4, 1, .ro, 0xffffffff, 0x0⟩,
   ⟨"LAST_ITER", 0x7c, 4, 1, .ro, 0xffffffff, 0x0⟩,
   ⟨"ARM0 to ARM7", 0x80, 4, 8, .rwl, 0x8000ff3f, 0x0⟩,
   ⟨"ARM0_MISSED to ARM7_MISSED", 0xa0, 4, 8, .ro, 0xffffffff, 0x0⟩,
   ⟨"ARM0_COUNT to ARM7_COUNT", 0xc0, 4, 8, .ro, 0xffffffff, 0x0⟩,
   ⟨"LAST_FAIL", 0xe0, 4, 1, .ro, 0xffffffff, 0x0⟩,
   ⟨"LAST_TIME", 0xe4, 4, 1, .ro, 0xffffffff, 0x0⟩]

/-- The ASM registers after the common header (R339). -/
def regsASM : List RegDef :=
  [⟨"LAST", 0x40, 4, 1, .ro, 0x3f, 0x0⟩,
   ⟨"NBIND", 0x44, 4, 1, .ro, 0xffffffff, 0x0⟩,
   ⟨"NAN_CNT", 0x48, 4, 1, .ro, 0xffffffff, 0x0⟩,
   ⟨"FIRST_NAN", 0x4c, 4, 1, .ro, 0xffffffff, 0xffffffff⟩,
   ⟨"GATHER_T", 0x50, 4, 1, .ro, 0xffffffff, 0x0⟩,
   ⟨"GATHER_MAX", 0x54, 4, 1, .ro, 0xffffffff, 0x0⟩]

/-- The QP registers after the common header (R384). -/
def regsQP : List RegDef :=
  [⟨"SPLIT_CFG", 0x40, 4, 1, .rwl, 0x1, 0x0⟩,
   ⟨"SPLIT_BASE", 0x44, 4, 1, .rwl, 0xffffffff, 0x0⟩,
   ⟨"SPLIT_LEN", 0x48, 4, 1, .rwl, 0xffffffff, 0x0⟩,
   ⟨"SPLIT_STAT", 0x4c, 4, 1, .ro, 0x71f, 0x0⟩,
   ⟨"SPLIT_CNT", 0x50, 4, 1, .ro, 0xffffffff, 0x0⟩,
   ⟨"FALLBACK_CNT", 0x54, 4, 1, .ro, 0xffffffff, 0x0⟩,
   ⟨"SERVE_CNT", 0x58, 4, 1, .ro, 0xffffffff, 0x0⟩,
   ⟨"LAST_M", 0x5c, 4, 1, .ro, 0xffffffff, 0x0⟩,
   ⟨"LAST_OBJ", 0x60, 4, 1, .ro, 0xffffffff, 0x0⟩,
   ⟨"LAST_OBJ_HI", 0x64, 4, 1, .ro, 0xffffffff, 0x0⟩,
   ⟨"LAST_RP", 0x68, 4, 1, .ro, 0xffffffff, 0x0⟩,
   ⟨"LAST_RD", 0x6c, 4, 1, .ro, 0xffffffff, 0x0⟩,
   ⟨"LAST_MU", 0x70, 4, 1, .ro, 0xffffffff, 0x0⟩,
   ⟨"LAST_WARM", 0x74, 4, 1, .ro, 0xff03, 0x0⟩]

/-- The LSQ registers after the common header (R420). -/
def regsLSQ : List RegDef :=
  [⟨"LAST_STAT", 0x40, 4, 1, .ro, 0xfff, 0x0⟩,
   ⟨"LAST_DROP", 0x44, 4, 1, .ro, 0xffffffff, 0x0⟩,
   ⟨"LAST_COST", 0x48, 4, 1, .ro, 0xffffffff, 0x0⟩,
   ⟨"LAST_COST_HI", 0x4c, 4, 1, .ro, 0xffffffff, 0x0⟩,
   ⟨"LAST_GNORM", 0x50, 4, 1, .ro, 0xffffffff, 0x0⟩,
   ⟨"LAST_STEP", 0x54, 4, 1, .ro, 0xffffffff, 0x0⟩,
   ⟨"LAST_LM", 0x58, 4, 1, .ro, 0xffffffff, 0x0⟩,
   ⟨"LAST_WARM", 0x5c, 4, 1, .ro, 0x3, 0x0⟩,
   ⟨"ANA_NEED", 0x60, 4, 1, .ro, 0xffffffff, 0x0⟩,
   ⟨"ANA_NNZ_L", 0x64, 4, 1, .ro, 0xffffffff, 0x0⟩,
   ⟨"ANA_FL", 0x68, 4, 1, .ro, 0xffffffff, 0x0⟩,
   ⟨"ANA_FL_HI", 0x6c, 4, 1, .ro, 0xffffffff, 0x0⟩,
   ⟨"ANA_N", 0x70, 4, 1, .ro, 0x3fff, 0x0⟩]

/-- The CANC registers after the common header (R567). -/
def regsCANC : List RegDef :=
  [⟨"CHAN_EN", 0x40, 4, 1, .ro, 0xffff, 0x0⟩,
   ⟨"CLAIM_WAIT", 0x44, 4, 1, .rwl, 0xff, 0x2⟩,
   ⟨"CLAIM_TX", 0x48, 4, 1, .ro, 0xffff, 0x0⟩,
   ⟨"STN_FRAMES", 0x4c, 4, 1, .ro, 0xffffffff, 0x0⟩,
   ⟨"STN_NOCLAIM", 0x50, 4, 1, .ro, 0xffffffff, 0x0⟩]

/-- The CANn registers after the common header (R568). -/
def regsCANn : List RegDef :=
  [⟨"MODE", 0x40, 4, 1, .rwl, 0x7f, 0x0⟩,
   ⟨"NBT", 0x44, 4, 1, .rwl, 0x7ffffff, 0x0⟩,
   ⟨"DBT", 0x48, 4, 1, .rwl, 0x3ffffff, 0x0⟩,
   ⟨"BSTAT", 0x4c, 4, 1, .ro, 0x7f, 0x3⟩,
   ⟨"ECNT", 0x50, 4, 1, .ro, 0xff01ff, 0x0⟩,
   ⟨"ERR_CAUSE", 0x54, 4, 1, .w1c, 0x1ff, 0x0⟩,
   ⟨"LEC", 0x58, 4, 1, .ro, 0xf, 0x0⟩,
   ⟨"ACK_RUN", 0x5c, 4, 1, .ro, 0xff, 0x0⟩,
   ⟨"RECOVER", 0x60, 4, 1, .wo, 0x1, 0x0⟩,
   ⟨"TDC_STAT", 0x64, 4, 1, .ro, 0x7f, 0x0⟩,
   ⟨"TX_REQ", 0x68, 4, 1, .wo, 0xffffffff, 0x0⟩,
   ⟨"TX_REQ_HI", 0x6c, 4, 1, .wo, 0xffffffff, 0x0⟩,
   ⟨"TX_ABORT", 0x70, 4, 1, .wo, 0xffffffff, 0x0⟩,
   ⟨"TX_ABORT_HI", 0x74, 4, 1, .wo, 0xffffffff, 0x0⟩,
   ⟨"TX_PEND", 0x78, 4, 1, .ro, 0xffffffff, 0x0⟩,
   ⟨"TX_PEND_HI", 0x7c, 4, 1, .ro, 0xffffffff, 0x0⟩,
   ⟨"RX_FULL", 0x80, 4, 1, .ro, 0xffffffff, 0x0⟩,
   ⟨"RX_FULL_HI", 0x84, 4, 1, .ro, 0xffffffff, 0x0⟩,
   ⟨"RX_LOCK", 0x88, 4, 1, .wo, 0xffffffff, 0x0⟩,
   ⟨"RX_LOCK_HI", 0x8c, 4, 1, .wo, 0xffffffff, 0x0⟩,
   ⟨"RX_REL", 0x90, 4, 1, .wo, 0xffffffff, 0x0⟩,
   ⟨"RX_REL_HI", 0x94, 4, 1, .wo, 0xffffffff, 0x0⟩,
   ⟨"HP_CTRL", 0x98, 4, 1, .wo, 0x3, 0x0⟩,
   ⟨"MB_SEL", 0x9c, 4, 1, .rw, 0x7f, 0x0⟩,
   ⟨"TX_DONE_CNT", 0xa0, 4, 1, .ro, 0xffffffff, 0x0⟩,
   ⟨"RX_CNT", 0xa4, 4, 1, .ro, 0xffffffff, 0x0⟩,
   ⟨"RX_NOMATCH", 0xa8, 4, 1, .ro, 0xffffffff, 0x0⟩,
   ⟨"RX_LOST", 0xac, 4, 1, .ro, 0xffffffff, 0x0⟩,
   ⟨"BUSOFF_CNT", 0xb0, 4, 1, .ro, 0xffffffff, 0x0⟩,
   ⟨"NOCLAIM_CNT", 0xb4, 4, 1, .ro, 0xffffffff, 0x0⟩,
   ⟨"MB_VIEW", 0x400, 4, 20, .rw, 0xffffffff, 0x0⟩,
   ⟨"FILT", 0x800, 4, 512, .rw, 0xffffffff, 0x0⟩]

/-- The MOT registers after the common header (R613). -/
def regsMOT : List RegDef :=
  [⟨"AX_EN", 0x40, 4, 1, .ro, 0xffff, 0x0⟩,
   ⟨"MOVING", 0x44, 4, 1, .ro, 0xffff, 0x0⟩,
   ⟨"FAULTED", 0x48, 4, 1, .ro, 0xffff, 0x0⟩,
   ⟨"HELD", 0x4c, 4, 1, .ro, 0xffff, 0x0⟩,
   ⟨"TICKS", 0x50, 4, 1, .ro, 0xffffffff, 0x0⟩,
   ⟨"SLICE_PEAK", 0x54, 4, 1, .ro, 0x3ff, 0x0⟩]

/-- The AXn registers after the common header (R614). -/
def regsAXn : List RegDef :=
  [⟨"ASTAT", 0x40, 4, 1, .ro, 0xffffffff, 0x0⟩,
   ⟨"CFG", 0x44, 4, 1, .rwl, 0x7ff, 0x8⟩,
   ⟨"STEPCFG", 0x48, 4, 1, .rwl, 0x1fffff, 0x7d064⟩,
   ⟨"XPOS", 0x4c, 4, 1, .ro, 0xffffffff, 0x0⟩,
   ⟨"XCMD", 0x50, 4, 1, .ro, 0xffffffff, 0x0⟩,
   ⟨"VEL", 0x54, 4, 1, .ro, 0xffffffff, 0x0⟩,
   ⟨"TARGET", 0x58, 4, 1, .ro, 0xffffffff, 0x0⟩,
   ⟨"VMAX", 0x5c, 4, 1, .rw, 0xffffffff, 0x6400⟩,
   ⟨"ACC", 0x60, 4, 1, .rw, 0xffffffff, 0x3e800⟩,
   ⟨"DEC", 0x64, 4, 1, .rw, 0xffffffff, 0x3e800⟩,
   ⟨"JERK", 0x68, 4, 1, .rw, 0xffffffff, 0x0⟩,
   ⟨"PAPPLY", 0x6c, 4, 1, .rw, 0x1, 0x0⟩,
   ⟨"STOP", 0x70, 4, 1, .wo, 0x3, 0x0⟩,
   ⟨"SLIM_LO", 0x74, 4, 1, .rwl, 0xffffffff, 0x80000100⟩,
   ⟨"SLIM_HI", 0x78, 4, 1, .rwl, 0xffffffff, 0x7fffff00⟩,
   ⟨"LIMCFG", 0x7c, 4, 1, .rwl, 0x1, 0x0⟩,
   ⟨"UNC", 0x80, 4, 1, .ro, 0xffffffff, 0xffffffff⟩,
   ⟨"UNC_MAX", 0x84, 4, 1, .rwl, 0xffffffff, 0x400⟩,
   ⟨"HOME_BACK", 0x88, 4, 1, .rwl, 0xffffffff, 0x800⟩,
   ⟨"HOME_MAX", 0x8c, 4, 1, .rwl, 0xffffffff, 0x1000000⟩,
   ⟨"CMD_DB", 0x90, 4, 1, .wo, 0x7, 0x0⟩,
   ⟨"CMD_PI", 0x94, 4, 1, .ro, 0x3, 0x0⟩,
   ⟨"LAST_DONE", 0x98, 4, 1, .ro, 0xffffffff, 0x0⟩,
   ⟨"DONE_CNT", 0x9c, 4, 1, .ro, 0xffffffff, 0x0⟩,
   ⟨"MS_THR1", 0xa0, 4, 1, .rwl, 0xffffffff, 0x7d0⟩,
   ⟨"MS_THR2", 0xa4, 4, 1, .rwl, 0xffffffff, 0xfa0⟩,
   ⟨"MS_THR3", 0xa8, 4, 1, .rwl, 0xffffffff, 0x1f40⟩,
   ⟨"MS_THR4", 0xac, 4, 1, .rwl, 0xffffffff, 0x3e80⟩,
   ⟨"MS_THR5", 0xb0, 4, 1, .rwl, 0xffffffff, 0x7d00⟩,
   ⟨"MS_THR6", 0xb4, 4, 1, .rwl, 0xffffffff, 0xfa00⟩,
   ⟨"MS_THR7", 0xb8, 4, 1, .rwl, 0xffffffff, 0x1f400⟩,
   ⟨"MS_THR8", 0xbc, 4, 1, .rwl, 0xffffffff, 0x3e800⟩,
   ⟨"FAULT_CLR", 0xc0, 4, 1, .wo, 0x1, 0x0⟩,
   ⟨"CMD_STAGE", 0x100, 4, 16, .rw, 0xffffffff, 0x0⟩]

/-- The DRV registers after the common header (R617). -/
def regsDRV : List RegDef :=
  [⟨"DDd_CFG", 0x40, 64, 8, .rwl, 0x3ffffff, 0x322880⟩,
   ⟨"DDd_ISGAIN", 0x44, 64, 8, .rwl, 0xffff, 0x3e8⟩,
   ⟨"DDd_ICUR", 0x48, 64, 8, .rw, 0xffffffff, 0xfa01f4⟩,
   ⟨"DDd_HOLD", 0x4c, 64, 8, .rw, 0xffff, 0x1f4⟩,
   ⟨"DDd_VSW", 0x50, 64, 8, .rwl, 0xffffffff, 0x3e800⟩,
   ⟨"DDd_VHYS", 0x54, 64, 8, .rwl, 0xffffffff, 0x6400⟩,
   ⟨"DDd_QLOOP", 0x58, 64, 8, .rwl, 0xffffffff, 0x1000400⟩,
   ⟨"DDd_STALL", 0x5c, 64, 8, .rwl, 0xffffffff, 0x0⟩,
   ⟨"DDd_STAT", 0x60, 64, 8, .ro, 0xffff000f, 0x0⟩,
   ⟨"DDd_IMEAS", 0x64, 64, 8, .ro, 0xffffffff, 0x0⟩,
   ⟨"DDd_SWCNT", 0x68, 64, 8, .ro, 0xffffffff, 0x0⟩]

/-- The SAF registers after the common header (R658). -/
def regsSAF : List RegDef :=
  [⟨"STAT", 0x40, 4, 1, .ro, 0x1f, 0x0⟩,
   ⟨"CFG_ID", 0x44, 4, 1, .ro, 0xffffffff, 0x0⟩,
   ⟨"CFG_SEQ", 0x48, 4, 1, .ro, 0xffffffff, 0x0⟩,
   ⟨"CFG_ERR_A", 0x4c, 4, 1, .ro, 0xffffffff, 0x0⟩,
   ⟨"CFG_ERR_B", 0x50, 4, 1, .ro, 0xffffffff, 0x0⟩,
   ⟨"FUNC_EN", 0x54, 4, 1, .ro, 0xffff, 0x0⟩,
   ⟨"FUNC_FLT", 0x58, 4, 1, .ro, 0xffff, 0x0⟩,
   ⟨"REQ", 0x5c, 4, 1, .ro, 0xffff, 0x0⟩,
   ⟨"IN_DEMAND", 0x60, 4, 1, .ro, 0xffff, 0x0⟩,
   ⟨"OUT_STAT", 0x64, 4, 1, .ro, 0xffffffff, 0x0⟩,
   ⟨"OUT_FLT", 0x68, 4, 1, .ro, 0xffff, 0x0⟩,
   ⟨"PERIOD_CNT", 0x6c, 4, 1, .ro, 0xffffffff, 0x0⟩,
   ⟨"TEST_CNT", 0x70, 4, 1, .ro, 0xffffffff, 0x0⟩,
   ⟨"TEST_ABORT", 0x74, 4, 1, .ro, 0xffffffff, 0x0⟩,
   ⟨"IN_STATi", 0x80, 4, 16, .ro, 0xffffffff, 0x0⟩,
   ⟨"FUNC_STATf", 0xc0, 4, 16, .ro, 0xffffffff, 0x0⟩,
   ⟨"RT_FUNCf", 0x100, 4, 16, .ro, 0xffffffff, 0x0⟩,
   ⟨"MARGINf", 0x140, 4, 16, .ro, 0xffffffff, 0x0⟩,
   ⟨"LAST_DEMANDf", 0x180, 4, 16, .ro, 0xffffffff, 0x0⟩]

/-- The KEY registers after the common header (R741). -/
def regsKEY : List RegDef :=
  [⟨"STAT", 0x40, 4, 1, .ro, 0xffffffff, 0x0⟩,
   ⟨"RING_BASE", 0x44, 4, 1, .rwl, 0xffffffff, 0x0⟩,
   ⟨"RING_DB", 0x48, 4, 1, .wo, 0x1f, 0x0⟩,
   ⟨"RING_PI", 0x4c, 4, 1, .ro, 0xf, 0x0⟩,
   ⟨"PLACES", 0x50, 4, 1, .ro, 0x1fffff, 0x100000⟩,
   ⟨"OCC", 0x54, 4, 1, .ro, 0xffffffff, 0x0⟩,
   ⟨"OCC_HI", 0x58, 4, 1, .ro, 0xffffffff, 0x0⟩,
   ⟨"PSLOT", 0x5c, 4, 1, .ro, 0xff, 0x0⟩,
   ⟨"SLOT_SEL", 0x60, 4, 1, .rw, 0x7f, 0x0⟩,
   ⟨"SLOT_ATTR", 0x64, 4, 1, .ro, 0xffffffff, 0x0⟩,
   ⟨"BANK_SEQ", 0x68, 4, 1, .ro, 0xffffffff, 0x0⟩,
   ⟨"JOB_CNT", 0x6c, 4, 1, .ro, 0xffffffff, 0x0⟩,
   ⟨"LAST_STATUS", 0x70, 4, 1, .ro, 0xffffffff, 0x0⟩,
   ⟨"PAIR_CFG", 0x74, 4, 1, .rwl, 0x1, 0x1⟩,
   ⟨"OWNER_HASH", 0x80, 4, 8, .ro, 0xffffffff, 0x0⟩,
   ⟨"DEVID", 0xa0, 4, 8, .ro, 0xffffffff, 0x0⟩,
   ⟨"CHAL", 0xc0, 4, 4, .ro, 0xffffffff, 0x0⟩]

/-- The TMP registers after the common header (R743). -/
def regsTMP : List RegDef :=
  [⟨"STAT", 0x40, 4, 1, .ro, 0x7f, 0x0⟩,
   ⟨"CFG", 0x44, 4, 1, .rwl, 0xf3333, 0x0⟩,
   ⟨"FILT", 0x48, 4, 1, .rwl, 0xffffffff, 0x1010101⟩,
   ⟨"CMD", 0x4c, 4, 1, .rwl, 0xffffffff, 0x0⟩,
   ⟨"LOG_IDX", 0x50, 4, 1, .ro, 0xff0f, 0x0⟩,
   ⟨"LOG_SEL", 0x54, 4, 1, .rw, 0xf, 0x0⟩,
   ⟨"LOG_LO", 0x58, 4, 1, .ro, 0xffffffff, 0x0⟩,
   ⟨"LOG_HI", 0x5c, 4, 1, .ro, 0x7fff007f, 0x0⟩,
   ⟨"LOG_CLR", 0x60, 4, 1, .rwl, 0x1, 0x0⟩]

/-- The RED registers after the common header (R699). -/
def regsRED : List RegDef :=
  [⟨"CFG", 0x40, 4, 1, .rwl, 0x1f3, 0x100⟩,
   ⟨"HOLDOFF", 0x44, 4, 1, .rwl, 0xffffffff, 0xa⟩,
   ⟨"DIAG_MASK", 0x48, 4, 1, .rwl, 0x3f, 0x3f⟩,
   ⟨"CMD", 0x4c, 4, 1, .wo, 0xf, 0x0⟩,
   ⟨"STAT", 0x50, 4, 1, .ro, 0x1ff07ff, 0x0⟩,
   ⟨"CLAIM", 0x54, 4, 1, .ro, 0xffff, 0x0⟩,
   ⟨"LAST_WIN", 0x58, 4, 1, .ro, 0xffff, 0x0⟩,
   ⟨"OFFER", 0x5c, 4, 1, .ro, 0xffff, 0x0⟩,
   ⟨"EPOCH", 0x60, 4, 1, .ro, 0xfff, 0x0⟩,
   ⟨"RECLAIMS", 0x64, 4, 1, .ro, 0x3, 0x0⟩,
   ⟨"TAKEOVER_CNT", 0x68, 4, 1, .ro, 0xffffffff, 0x0⟩,
   ⟨"ROUND_CNT", 0x6c, 4, 1, .ro, 0xffffffff, 0x0⟩,
   ⟨"FAULT_ROUNDS", 0x70, 4, 1, .ro, 0xffffffff, 0x0⟩,
   ⟨"CW_BASE", 0x74, 4, 1, .rwl, 0xffffffff, 0x2a00000⟩,
   ⟨"CW_SIZE", 0x78, 4, 1, .rwl, 0xffffffff, 0x200000⟩,
   ⟨"COPY_CFG", 0x7c, 4, 1, .rwl, 0xf, 0x0⟩,
   ⟨"COPY_STAT", 0x80, 4, 1, .ro, 0xf, 0x0⟩,
   ⟨"COPY_LATE_CNT", 0x84, 4, 1, .ro, 0xffffffff, 0x0⟩,
   ⟨"COPY_LAST", 0x88, 4, 1, .ro, 0xffffffff, 0x0⟩,
   ⟨"TRIAD_WAIT", 0x8c, 4, 1, .rwl, 0xffffffff, 0x64⟩,
   ⟨"TRIAD_STAT", 0x90, 4, 1, .ro, 0x7, 0x0⟩,
   ⟨"VOTE_DIS", 0x94, 4, 1, .ro, 0xffffffff, 0x0⟩,
   ⟨"PARTNER", 0x98, 4, 1, .ro, 0x3f, 0x0⟩]

/-- The LNK registers after the common header (R700). -/
def regsLNK : List RegDef :=
  [⟨"Pp_CTRL", 0x40, 64, 4, .rwl, 0x1, 0x0⟩,
   ⟨"Pp_STAT", 0x44, 64, 4, .ro, 0x1ff, 0x0⟩,
   ⟨"Pp_ERRCNT", 0x48, 64, 4, .ro, 0xffffffff, 0x0⟩,
   ⟨"Pp_RETRY", 0x4c, 64, 4, .ro, 0xffffffff, 0x0⟩,
   ⟨"Pp_MSG_BASE", 0x50, 64, 4, .rwl, 0xffffffff, 0x0⟩,
   ⟨"Pp_MSG_DB", 0x54, 64, 4, .wo, 0xf, 0x0⟩,
   ⟨"Pp_MSG_PI", 0x58, 64, 4, .ro, 0x7, 0x0⟩,
   ⟨"Pp_RX_BASE", 0x5c, 64, 4, .rwl, 0xffffffff, 0x0⟩,
   ⟨"Pp_RX_STAT", 0x60, 64, 4, .w1c, 0xff, 0x0⟩,
   ⟨"Pp_OFFSET", 0x64, 64, 4, .ro, 0xffffffff, 0x0⟩,
   ⟨"Pp_DELAY", 0x68, 64, 4, .ro, 0xffffffff, 0x0⟩,
   ⟨"TIME_SRC", 0x140, 4, 1, .ro, 0x7, 0x7⟩,
   ⟨"TIME_STEPS", 0x144, 4, 1, .ro, 0xffffffff, 0x0⟩]

/-- The GPIO registers after the common header (R442). -/
def regsGPIO : List RegDef :=
  [⟨"IN", 0x40, 4, 1, .ro, 0xffffffff, 0x0⟩,
   ⟨"OUT", 0x44, 4, 1, .rw, 0xffffffff, 0x0⟩,
   ⟨"OUT_SET", 0x48, 4, 1, .wo, 0xffffffff, 0x0⟩,
   ⟨"OUT_CLR", 0x4c, 4, 1, .wo, 0xffffffff, 0x0⟩,
   ⟨"DRIVEN", 0x50, 4, 1, .ro, 0xffffffff, 0x0⟩,
   ⟨"GPIOi_CFG", 0x80, 4, 32, .rwl, 0xff0f, 0x0⟩]

/-- The DBG registers after the common header (R499). -/
def regsDBG : List RegDef :=
  [⟨"SEL", 0x40, 4, 1, .rw, 0xff, 0x0⟩,
   ⟨"PC", 0x44, 4, 1, .ro, 0xffffffff, 0xffffffff⟩,
   ⟨"SNAP_INFO", 0x48, 4, 1, .ro, 0x1fff0f, 0x0⟩,
   ⟨"SNAP_PC", 0x4c, 4, 1, .ro, 0xffffffff, 0x0⟩,
   ⟨"SNAP_CYCLE", 0x50, 4, 1, .ro, 0xffffffff, 0x0⟩,
   ⟨"SNAP_W", 0x54, 4, 1, .ro, 0xffffffff, 0x0⟩,
   ⟨"SNAP_W_HI", 0x58, 4, 1, .ro, 0xffffffff, 0x0⟩,
   ⟨"SNAP_STK", 0x60, 4, 16, .ro, 0xffffffff, 0x0⟩]

/-- The register map of a page (R48); a reserved page has none. -/
def pageRegs (p : Nat) : List RegDef :=
  if 0x0B ≤ p ∧ p ≤ 0x0E then regsTASKt
  else if 0x1A ≤ p ∧ p ≤ 0x29 then regsCANn
  else if 0x2B ≤ p ∧ p ≤ 0x3A then regsAXn
  else match p with
  | 0x0 => regsSYS
  | 0x1 => regsPWR
  | 0x2 => regsAGE
  | 0x3 => regsEVT
  | 0x4 => regsHIF
  | 0x5 => regsRTC
  | 0x6 => regsBKP
  | 0x7 => regsREC
  | 0x8 => regsNVM
  | 0xa => regsSCAN
  | 0xf => regsFRC
  | 0x10 => regsMTR
  | 0x11 => regsAFE
  | 0x12 => regsPLS
  | 0x13 => regsQTY
  | 0x14 => regsHRM
  | 0x15 => regsSLV
  | 0x16 => regsASM
  | 0x17 => regsQP
  | 0x18 => regsLSQ
  | 0x19 => regsCANC
  | 0x2a => regsMOT
  | 0x3b => regsDRV
  | 0x3c => regsSAF
  | 0x3d => regsKEY
  | 0x3e => regsTMP
  | 0x3f => regsRED
  | 0x40 => regsLNK
  | 0x41 => regsGPIO
  | 0x42 => regsDBG
  | _ => []

/-- Does the row describe the register at page offset `o`? -/
def RegDef.covers (d : RegDef) (o : Nat) : Bool :=
  decide (d.base ≤ o) && (o - d.base) % d.stride == 0 && decide ((o - d.base) / d.stride < d.count)

/-- The row of the register at a BAR0 offset at or above page offset 0x040. -/
def regDef (off : Nat) : Option RegDef := (pageRegs (off / 0x1000)).find? fun d => d.covers (off % 0x1000)

/-- The reset value of the register at a BAR0 offset (R14); the header's registers reset to zero (R54). -/
def regReset (off : Nat) : Word :=
  if off % 0x1000 < 0x40 then 0#32
  else match regDef off with
    | some d => BitVec.ofNat 32 d.reset
    | none => 0#32

end Sys2Proof.Machine
end

