-- ==== Sys2Proof/Machine/Dev.lean ====
section
/-!
DEFINITION. What the VD9600 holds besides its byte memories and the queue of waiting commands: the register file and,
block by block, the state that the rules give the blocks without showing it in a register. Every field's reset value
is its default here; State.reset (Machine/State.lean) is made of them.
-/
namespace Sys2Proof.Machine

/-! ## Power, clocks, resets (chapter 03) -/

/-- An operation submitted to a domain that starts (R113): by the host or not, by which master, the offset of its doorbell and
the word written there; the words of an AX_CMD. -/
structure HeldOp where
  host : Bool
  ma : Master
  off : Nat
  v : Word
  args : List Word := []
  deriving DecidableEq, Repr, Inhabited

/-- State of the power manager, the clocks and the resets that no register shows. -/
structure PwrSt where
  /-- PD1 to PD9 are held in reset: during a brown-out, and in Off (R116, R768). -/
  held : Bool := false
  /-- VIN fell below 1.0 V, or was never applied: the next rise is a power-on reset (R116). -/
  below1V : Bool := false
  /-- XTM has failed (R101). -/
  xtmFail : Bool := false
  /-- PLL_SYS runs, so the TSC counts (R102). -/
  pllSys : Bool := false
  /-- XTM time in 10 ns counts since PLL_SYS stopped (R102). -/
  xtmElapsed : Nat := 0
  /-- An automatic Lull entry is in progress (R104, R109). -/
  lullEntry : Bool := false
  /-- The 100 ms after a wake are running (R106). -/
  wakeHold : Bool := false
  /-- The PD5 idle hold-off is running (R112). -/
  holdoff : Bool := false
  /-- The solver array is powered, not only PD5's memories and registers (R21, R111). -/
  slvArray : Bool := false
  /-- PD5 is in transition with its memories and registers kept, from retention or awake under R21 (R111). -/
  pd5Kept : Bool := false
  /-- PD4's switch-off waits for a checkpoint (R105). -/
  pd4OffWait : Bool := false
  /-- The retry instant of a failed checkpoint is awaited (R105). -/
  ckptRetry : Bool := false
  /-- Image and area of the checkpoint in progress (R130, R131). -/
  ckptImg : Option (Nat × List Byte) := none
  /-- The area that the next checkpoint writes (R131, R134). -/
  ckptArea : Nat := 0
  /-- A further checkpoint starts when the running one completes (R133). -/
  ckptFurther : Bool := false
  /-- A NOW write asked for that further checkpoint (R133). -/
  ckptNow : Bool := false
  /-- The running checkpoint is at fabric class 0 (R128). -/
  ckptClass0 : Bool := false
  /-- TSC of the start of the most recent checkpoint, or of host release (R133). -/
  ckptRef : Option Nat := none
  /-- TSC of the next periodic start (R133). -/
  ckptNext : Option Nat := none
  /-- The boot image records of PD2 to PD9, (TARGET, VALUE) (R854). -/
  bootRecs : List (Nat × Word) := []
  /-- Operations submitted to domains that start, oldest first (R113). -/
  heldOps : List HeldOp := []
  /-- Subsystem IDs of the boot image (R795). -/
  ssvid : Nat := 0
  ssid : Nat := 0
  deriving DecidableEq, Repr, Inhabited

/-! ## Register pages and the event matrix (chapter 02) -/

/-- State of the page framing and of the event matrix that no register shows. -/
structure EvtSt where
  /-- Bit p: page p has seen the first unlock key and no other host write since (R68). -/
  lockArmed : BitVec 128 := 0
  /-- Upper words latched by pair reads: master, offset of the upper word, word (R52). -/
  pairRd : List (Master × Nat × Word) := []
  /-- Lower words held by pair writes: master, offset of the lower word, word (R52). -/
  pairWr : List (Master × Nat × Word) := []
  /-- The event latches of the four scan engines (R85), in PD1. -/
  seLatch : Vector (BitVec 256) 4 := Vector.replicate 4 0
  /-- Occurrences of armed event numbers that this command has made and not yet submitted, and whether the device was in
  Deep Lull then (R35, R111, R324). -/
  armHits : List (Nat × Bool) := []
  deriving DecidableEq, Repr, Inhabited

/-! ## Event recorder (chapter 18) -/

/-- A captured record without its area and CRC, which the write adds (R773, R778). -/
structure RecCap where
  tsc : DWord
  rtc : Word
  tinv : Bool
  domOff : Bool
  woke : Bool
  payload : List Word
  /-- Assigned at the start of capture, or at the end of the scan (R779, R786). -/
  seq : Option Word
  deriving DecidableEq, Repr, Inhabited

/-- One held place of the recorder write queue (R780). -/
structure RecItem where
  /-- Trigger 0 to 63, or 252 START, 253 TIME_SET, 254 OVERFLOW (R775). -/
  trigger : Nat
  /-- 0 event matrix, 1 SYS service, 2 host, 3 internal (R774). -/
  origin : Nat
  /-- Payload of an internal record (R775). -/
  internal : List Word
  cap : Option RecCap
  deriving DecidableEq, Repr, Inhabited

/-- Committed configuration of one trigger (R776, R791). -/
structure RecTrig where
  cfg : Word := 0
  list : List Word := []
  cnt : Word := 0
  deriving DecidableEq, Repr, Inhabited

/-- State of the event recorder that no register shows. -/
structure RecSt where
  queue : List RecItem := []
  trig : Vector RecTrig 64 := Vector.replicate 64 {}
  /-- Geometry in force: Calm slots and Eddy slots (R783). -/
  calm : Nat := 0
  eddy : Nat := 0
  /-- The start-up scan has begun and not ended (R785). -/
  scanOn : Bool := false
  /-- The clears in progress: bit 0 Eddy, bit 1 Calm (R787). -/
  clearing : Nat := 0
  /-- Losses since the last OVERFLOW record was queued, and the low TSC words of the first and last (R775, R781). -/
  lostSince : Nat := 0
  lostFirst : Word := 0
  lostLast : Word := 0
  deriving DecidableEq, Repr, Inhabited

/-! ## Host interface (chapter 19) -/

/-- A DMA descriptor in execution (R809, R810). -/
structure DmaJob where
  addr : Nat
  ctl : Word
  len : Nat
  haddr : Nat
  doff : Nat
  deriving DecidableEq, Repr, Inhabited

/-- State of the host interface that no register shows. -/
structure HifSt where
  /-- Bus Master Enable, MSI-X Function Mask and PME_En of the configuration space (R797, R800, R812). -/
  bme : Bool := false
  funcMask : Bool := false
  pmeEn : Bool := false
  /-- PE_PERST_N is high (R124). -/
  perstN : Bool := false
  /-- PME_TO_Ack has been sent and the link has not left Detect since (R799). -/
  l2 : Bool := false
  /-- PE_WAKE_N is driven low (R801). -/
  peWakeLow : Bool := false
  /-- Bit v: vector v's blocking has ended and its message is still to be sent (R797). -/
  msixOwed : BitVec 32 := 0
  /-- Messages sent by each vector: the record of what leaves through the host link (R82). -/
  msixSent : Vector Nat 32 := Vector.replicate 32 0
  /-- PM_PME messages sent (R800). -/
  pmeSent : Nat := 0
  /-- The descriptor each DMA channel executes (R810). -/
  dma : Vector (Option DmaJob) 4 := Vector.replicate 4 none
  /-- Data written to host memory by the last device-to-host DMA completion: host address and bytes. -/
  dmaOut : Option (Nat × List Byte) := none
  /-- The Quad-SPI write buffer: the window-tagged address and the bytes of each write, oldest first (R817). -/
  qsBuf : List (Nat × List Byte) := []
  /-- A Quad-SPI transaction keeps the host link up, until 1 ms after its end (R819). -/
  qsHold : Bool := false
  /-- The Quad-SPI status ERR bit (R818). -/
  qsErr : Bool := false
  /-- QPI mode is in force (R814). -/
  qpi : Bool := false
  /-- The data returned to the host by its last read: the model's record of the read completion. -/
  rdata : List Byte := []
  deriving DecidableEq, Repr, Inhabited

/-! ## Calendar clock and backup domain (chapter 17) -/

/-- The set buffer of the calendar: fields written since the last commit (R757). -/
structure RtcBuf where
  min : Option Nat := none
  hour : Option Nat := none
  day : Option Nat := none
  month : Option Nat := none
  year : Option Nat := none
  deriving DecidableEq, Repr, Inhabited

/-- The ten time registers frozen by a host read (R756): SUBSEC and EPOCH_S, from which the others follow. -/
structure RtcShadow where
  sub : Nat
  epoch : Nat
  deriving DecidableEq, Repr, Inhabited

/-- State of PD0's clock, supply switch and backup SRAM that no register shows. -/
structure RtcSt where
  buf : RtcBuf := {}
  /-- An accepted commit waiting for the next XT32 edge: the committed time (R757). -/
  commit : Option Nat := none
  shadow : Option RtcShadow := none
  /-- CAL in force in the present calibration window (R755). -/
  calInForce : Word := 0
  /-- The selected supply of PD0 is below V_RET (R745). -/
  vselLow : Bool := false
  deriving DecidableEq, Repr, Inhabited

/-! ## Valve and damper motion (chapter 13) -/

/-- A motion command (R572). -/
structure AxCmd where
  op : Nat
  now : Bool
  tag : Nat
  a0 : Word
  a1 : Word
  a2 : Word
  deriving DecidableEq, Repr, Inhabited

/-- State of one axis that its registers do not show. -/
structure AxSt where
  /-- The active command and the queued ones, oldest first (R577). -/
  active : Option AxCmd := none
  queue : List AxCmd := []
  /-- Commands ended since the last update, (TAG, status), oldest first (R578). -/
  ended : List (Nat × Nat) := []
  /-- The profile state x, v, a and the target, binary64 (R582). -/
  x : DWord := 0
  v : DWord := 0
  a : DWord := 0
  tgt : DWord := 0
  /-- The command's velocity limit (R582). -/
  cap : Option Nat := none
  /-- A ramp stop is in progress (R580, R601). -/
  ramp : Bool := false
  /-- Homing step of R605, 0 outside homing; distance travelled since step 1; stall detection armed. -/
  homeStep : Nat := 0
  homeDist : Nat := 0
  armed : Bool := false
  /-- The profile parameters in force (R586). -/
  vmax : Word := 0x6400
  acc : Word := 0x3E800
  dec : Word := 0x3E800
  jerk : Word := 0
  /-- PAPPLY.NOW has been written (R586). -/
  applyNow : Bool := false
  /-- Electrical index E (R591). -/
  e : Nat := 0
  /-- Amplitude m and previous error of the quiet loop, binary64 (R596). -/
  m : DWord := 0
  ePrev : DWord := 0
  /-- Coil A or B decays slowly, and the TSC of its last switching edge (R597). -/
  decayA : Bool := false
  decayB : Bool := false
  edgeA : Nat := 0
  edgeB : Nat := 0
  /-- Consecutive updates with m below the stall threshold (R606). -/
  stall : Nat := 0
  /-- Steps due in the following tick, signed (R589); no step is due from an immediate stop to the next motion (R601). -/
  steps : Int := 0
  halted : Bool := false
  /-- The phase of the last update (R585). -/
  phase : Nat := 0
  deriving DecidableEq, Repr, Inhabited

/-- The engine clocks of the axis slots (R613): ticks since PD7 start; of the last second the slots whose clocks no later one
reaches, oldest first. -/
structure MotSt where
  ticks : Nat := 0
  slices : List (Nat × Nat) := []
  deriving DecidableEq, Repr, Inhabited

/-! ## Twins and links (chapter 15) -/

/-- A host link message in flight (R690): SRC, LEN, TAG. -/
structure LnkMsg where
  src : Nat
  len : Nat
  tag : Nat
  deriving DecidableEq, Repr, Inhabited

/-- State of the redundancy and link blocks that no register shows. -/
structure TwinSt where
  /-- 0 not in TWIN mode, 1 listening for 3 ms, 2 waiting for pairing, 3 may offer (R680). -/
  listen : Nat := 0
  /-- A claim round is in progress; the bit at which this unit has lost it; a further round starts at its end (R664, R666, R676). -/
  inRound : Bool := false
  lost : Option Nat := none
  fast : Bool := false
  /-- The winner of the previous round: 0 none, 1 this unit, 2 the partner (R669, R677). -/
  prevWin : Nat := 0
  /-- EPOCH of the last winning claim heard since start-up (R669). -/
  eRef : Option Nat := none
  /-- Consecutive faulted rounds, and consecutive rounds that are not faulted (R667). -/
  faultRun : Nat := 0
  goodRun : Nat := 0
  /-- The partner has won a round, and the rounds since its last win (R698). -/
  partnerWon : Bool := false
  partnerGap : Nat := 0
  /-- Host relinquish (R674); LATCHED (R678); RANK_CONFLICT lies in STAT. -/
  relq : Bool := false
  latched : Bool := false
  /-- HOLDOFF has passed since the unit became healthy (R677). -/
  heldOff : Bool := false
  /-- The watchdog warning stands (R674 bit 5). -/
  wdtWarn : Bool := false
  /-- Words of system SRAM with an outstanding uncorrectable error (R674 bit 4). -/
  sysUe : List Nat := []
  /-- Bit n: task n's layout differs from the partner's (R681); current on this unit; reported current by the
  partner; RESYNC asks for a whole copy (R699). -/
  nocopy : BitVec 4 := 0
  cur : BitVec 4 := 0
  rep : BitVec 4 := 0
  resync : BitVec 4 := 0
  /-- The copy of each task that waits for phase 1, the last cycle received, and the buffer half in use (R682, R684). -/
  cw : Vector (Option CwCopy) 4 := Vector.replicate 4 none
  cwCycle : Vector (Option Nat) 4 := Vector.replicate 4 none
  cwHalf : BitVec 4 := 0
  /-- Bit n: since the last whole copy a copy of task n has been missing or bad (R684, R685). -/
  cwGap : BitVec 4 := 0
  /-- The last copy message sent: task and copy (the record of what leaves on port 3). -/
  cwSent : Option (Nat × CwCopy) := none
  /-- Host messages in flight on each port, oldest first, and the last one delivered: port, TAG, data (R690, R691). -/
  msgs : Vector (List LnkMsg) 4 := Vector.replicate 4 []
  msgOut : Option (Nat × Nat × List Byte) := none
  /-- Ring entries of each port reserved by a split job (R373). -/
  splitRes : Vector Nat 4 := Vector.replicate 4 0
  /-- Consecutive exchanges below 20 ns on each port (R693); the device at position 0 holds a claim (R692). -/
  syncRun : Vector Nat 4 := Vector.replicate 4 0
  srcClaim : Bool := false
  /-- The TSC counts at half rate, and by how many ns it is still ahead; its half count; counts still to be slewed, and the counts
  since the last (R693). -/
  halfRate : Bool := false
  ahead : Nat := 0
  halfTick : Bool := false
  slew : Int := 0
  slewTick : Nat := 0
  /-- Triad (R697): the link between the two neighbours is up; the present sender; the common epoch. -/
  third : Bool := false
  sender : Option Nat := none
  deriving DecidableEq, Repr, Inhabited

/-! ## Safety sequencer (chapter 14) -/

/-- One dual-channel input as one channel of the sequencer evaluates it (R627 to R630). -/
structure SafIn where
  /-- 0 UNUSED, 1 CLEAR, 2 DISC, 3 BLOCKED, 4 DEMAND, 5 FAULT (R659). -/
  st : Nat := 0
  da : Bool := false
  db : Bool := false
  dcount : Nat := 0
  seen : Bool := false
  cycled : Bool := false
  discf : Bool := false
  /-- Latches of the present press of a RESET input (R630). -/
  press : Nat := 0
  deriving DecidableEq, Repr, Inhabited

/-- One safety function as one channel evaluates it (R632). -/
structure SafFn where
  /-- 0 DISABLED, 1 SAFE, 2 READY, 3 ENABLED, 4 STOPPING, 5 FAULT (R660). -/
  st : Nat := 0
  req : Bool := false
  /-- Periods since STOPPING was entered. -/
  stop : Nat := 0
  lastOff : Nat := 0
  fault : Nat := 0
  deriving DecidableEq, Repr, Inhabited

/-- One channel of the sequencer (R618): its filtered pin levels, what it has sampled, its evaluation, its lines (R619). -/
structure SafChan where
  filtA : BitVec 16 := 0
  filtB : BitVec 16 := 0
  ins : Vector SafIn 16 := Vector.replicate 16 {}
  fns : Vector SafFn 16 := Vector.replicate 16 {}
  /-- The result of each pin's latest test pulse (R625); SMn and EDMn as last latched. -/
  tfA : BitVec 16 := 0
  tfB : BitVec 16 := 0
  sm : BitVec 8 := 0
  edm : BitVec 8 := 0
  outFlt : BitVec 8 := 0
  edmFlt : BitVec 8 := 0
  /-- The lines that are on, those that the last boundary made due (R639), those for the next boundary. -/
  lines : BitVec 8 := 0
  due : BitVec 8 := 0
  want : BitVec 8 := 0
  deriving DecidableEq, Repr, Inhabited

/-- State of the safety sequencer that no register shows. -/
structure SafSt where
  /-- Bytes 0 to 515 of the table in force; empty without one (R650). -/
  tbl : List Byte := []
  a : SafChan := {}
  b : SafChan := {}
  /-- Requests as the tasks last set them (R634). -/
  req : BitVec 16 := 0
  /-- Differences of the last comparison: latched channels A and B and states of the inputs, functions, lines (R621). -/
  dA : BitVec 16 := 0
  dB : BitVec 16 := 0
  dIn : BitVec 16 := 0
  dFn : BitVec 16 := 0
  dLine : BitVec 8 := 0
  /-- The output test pulse in progress: output, and whether SOnL is the opened line (R638). -/
  test : Option (Nat × Bool) := none
  /-- The line an abandoned test is repeated on (R639). -/
  retest : Vector (Option Bool) 8 := Vector.replicate 8 none
  /-- Sources in their off-pulse, and sources whose test window is open (R624, R626). -/
  tpOff : BitVec 4 := 0
  tpWin : BitVec 4 := 0
  /-- A sequencer fault stands; only a reset of PD1 to PD9 ends it (R641). -/
  fault : Bool := false
  /-- The demand of each function being followed for R655: members seen in DEMAND, and the periods since its lines are off. -/
  cd : Vector (Option (BitVec 16 × Nat)) 16 := Vector.replicate 16 none
  deriving DecidableEq, Repr, Inhabited

/-! ## Ageing, margins and the MRAM (chapter 04) -/

/-- What the ageing log in MRAM keeps (R152, R157). -/
structure AgeLog where
  code : Nat := 20
  step : Nat := 0
  /-- Committed remaps, newest first: sector and spare number (R154). -/
  remap : List (Nat × Nat) := []
  /-- The last 90 runs, newest first: deg_max, highest write count, spares used, 7 − MARGIN (R164). -/
  trend : List (Nat × Nat × Nat × Nat) := []
  runs : Nat := 0
  /-- Write counters at the last flush; the copy that the next flush takes (R157). -/
  wcnt : List (Nat × Word) := []
  copyB : Bool := false
  /-- RTC seconds of the last run, if the RTC time was valid then; the calendar day of the last scheduled run (R145). -/
  lastRtc : Option Nat := none
  schedDay : Option Nat := none
  deriving DecidableEq, Repr, Inhabited

/-- State of the margin planner and of the MRAM that no register shows. -/
structure AgeSt where
  log : AgeLog := {}
  /-- The partition directory (R174), none while it holds no valid copy; the table in force; the last reset refused
  the directory's table. -/
  dir : Option (List Word) := none
  part : List Word :=
    [0x00800000#32, 0x02000080#32, 0x02000280#32, 0x04000480#32, 0x01000880#32, 0x00100980#32, 0x06000990#32, 0x00700F90#32]
  partBad : Bool := false
  /-- Live write counters of the sectors (R157, R158). -/
  wcnt : List (Nat × Word) := []
  /-- Measurements of each ring-oscillator site: TSC time and ppm, newest first (R142). -/
  ro : Vector (List (Nat × Nat)) 8 := Vector.replicate 8 []
  /-- Corrected errors of the last two days, newest first: the TSC time of each, for the MRAM with the sector of the array
  (R153, R161); a time before the last reset is negative. -/
  sramCe : List Int := []
  mramCe : List (Nat × Int) := []
  /-- Words of the MRAM array found uncorrectable and not written since: their array offsets (R153, R156). -/
  ueWords : List Nat := []
  /-- deg_max when the self-test interval was last halved (R161). -/
  degHalved : Nat := 0
  /-- A run waits for the next wake (R148); TSC time of the last run (R146). -/
  deferred : Bool := false
  lastTsc : Nat := 0
  /-- A run has taken place since the last reset (R145). -/
  ran : Bool := false
  /-- Sectors due for remapping whose remap has started, in order (R153, R154). -/
  remapQ : List Nat := []
  /-- Current-limit episodes: buck and TSC time, newest first (R140). -/
  episodes : List (Nat × Nat) := []
  /-- deg_max exceeds the margin of vetoed settings: FAULT_N is low (R169). -/
  lifeFault : Bool := false
  deriving DecidableEq, Repr, Inhabited

/-! ## Metering inputs (chapter 05) -/

/-- A breakpoint of a correction table (R199): 256·log2 of the rms, gain in 0.01 ppm, phase advance in µrad. -/
structure CorrBp where
  l : Int := 0
  g : Int := 0
  p : Int := 0
  deriving DecidableEq, Repr, Inhabited

/-- State of one analogue channel that its registers do not show. -/
structure AfeCh where
  /-- Corrected samples still without VALID (R189). -/
  warm : Nat := 0
  /-- Samples of the present correction block, and the sum of squares of their stage-5 results (R193). -/
  blk : Nat := 0
  sum2 : Nat := 0
  /-- SCALE and DELAY in force (R188, R194). -/
  scale : Word := 0x3F800000
  delay : Int := 0
  /-- The correction table in use, the identity at reset, and a committed one that waits (R201 to R203). -/
  tab : List CorrBp := [{}]
  pend : Option (List CorrBp) := none
  /-- Gain (binary64) and delay d in 1/1,024 sample of the present block (R195). -/
  gain : DWord := 0x3FF0000000000000
  d : Int := 0
  /-- What the stages remember, each newest first: the modulator's difference between input and stream, the last 126 bits of the
  stream (R176), the last 238 stage-2 results (R177), the last 28 stage-3 results (R181, R184), the stage-4 result in 2^-32 count
  (R183, R184), the last 40 of them (R197), and the corrected samples that the 90 degree shift takes (R239). -/
  acc : Int := 0
  bits : List Bool := []
  fir : List Int := []
  raws : List Int := []
  y : Int := 0
  z : List Int := []
  hist : List Word := []
  deriving DecidableEq, Repr, Inhabited

/-- State of one frequency tracker (R190, R191): the latest samples of its source, newest first; the band-limited signal at
the last sample; samples since its enabling, and at the start of the window; the crossings since then, oldest first, in
1/65,536 sample; the sum of squares of the source's raw samples in the window. -/
structure TrkSt where
  win : List Int := []
  prev : Int := 0
  n : Nat := 0
  start : Nat := 0
  cross : List Nat := []
  sum2 : Nat := 0
  deriving DecidableEq, Repr, Inhabited

/-- State of the metering inputs that no register shows. -/
structure MtrSt where
  ch : Vector AfeCh 24 := Vector.replicate 24 {}
  /-- The last corrected sample of each channel (binary32), whether it was clipped. -/
  x : Vector Word 24 := Vector.replicate 24 0
  clip : BitVec 24 := 0
  /-- The last locked frequency of each tracker, 0 before the first lock (R191); the measurement in progress (R190). -/
  lastLock : Vector Nat 4 := Vector.replicate 4 0
  trk : Vector TrkSt 4 := Vector.replicate 4 {}
  /-- Output periods so far; of the last second those whose order-5 count no later one reaches, oldest first (R205). -/
  periods : Nat := 0
  slices : List (Nat × Nat) := []
  /-- Output periods of the capture block being filled, oldest first: the TSC and the 24 words of each (R206). -/
  capt : List (DWord × List Word) := []
  captSeq : Word := 0
  /-- Zero readings of the three RTD converters in the latest cycle (R213). -/
  zero : Vector Int 3 := Vector.replicate 3 0
  /-- The pair slot that runs, 8 for the zero readings (R210); the last valid temperature of each channel (R215). -/
  rtdPos : Nat := 0
  rtValid : Vector Word 16 := Vector.replicate 16 0
  /-- Bit n: pulse input n has had a counting edge; the pulse sample of its last one (R223); the pulse sample of each
  input's last accepted change (R220). -/
  counted : BitVec 64 := 0
  edgeAt : Vector Nat 64 := Vector.replicate 64 0
  levelAt : Vector (Option Nat) 64 := Vector.replicate 64 none
  deriving DecidableEq, Repr, Inhabited

/-! ## Billed quantities (chapter 06) -/

/-- One quantity slot (R235, R252): fine accumulator, hidden remainder (binary64), ROLL. -/
structure Slot where
  fine : DWord := 0
  rem : DWord := 0
  roll : Bool := false
  deriving DecidableEq, Repr, Inhabited

/-- The sums of one element in the present electrical step (R238): valid samples; sums of v², i² and v·i in units of 2^-298
and of vq·i in units of 2^-330; and in binary64 the sums of those squares and products that are no finite number, +0 without one. -/
structure ElemAcc where
  n : Nat := 0
  vv : Int := 0
  ii : Int := 0
  vi : Int := 0
  qi : Int := 0
  sv : Nat := 0
  si : Nat := 0
  sp : Nat := 0
  sq : Nat := 0
  deriving DecidableEq, Repr, Inhabited

/-- State of one thermal point that its registers do not show. -/
structure ThermSt where
  /-- TSC of the previous step (R242). -/
  last : Nat := 0
  /-- Sum (units of 2^-149 A), count of corrected samples since then, and a sample that is no finite number (R242). -/
  sum : Int := 0
  n : Nat := 0
  bad : Bool := false
  /-- Whole steps without a write of FLOW_IN, and a write in the present step (R244). -/
  stale : Nat := 0
  wrote : Bool := false
  /-- TSC of the last count of ERR_S (R246). -/
  errAt : Option Nat := none
  deriving DecidableEq, Repr, Inhabited

/-- A billing-store write in progress (R266): its sector (0 or 1), sequence number and image. -/
structure StoreJob where
  sector : Nat
  seq : Nat
  img : List Byte
  deriving DecidableEq, Repr, Inhabited

/-- Results of a harmonic window that wait to be written (R272): point, UNSYNC, OVL, TSC of the window start, f, and the
words of MAG, PHASE and THD with their BAR0 offsets. -/
structure HrmRes where
  stat : Word
  tsc : DWord
  f : Word
  words : List (Nat × Word)
  deriving DecidableEq, Repr, Inhabited

/-- State of the billed quantities that no register shows. -/
structure QtySt where
  slot : Vector Slot 168 := Vector.replicate 168 {}
  /-- The present electrical step: elements of E0 to E7, three each; bit e: a clipped sample, an invalid sample in the step
  (R238, R241, R264). -/
  el : Vector ElemAcc 24 := Vector.replicate 24 {}
  elOvl : BitVec 8 := 0
  elInv : BitVec 8 := 0
  th : Vector ThermSt 8 := Vector.replicate 8 {}
  /-- The freeze in progress: TSC, RTC seconds, and the copied slots (R258, R259). -/
  frz : Option (Nat × Nat × List Slot) := none
  /-- Summaries of the last interval, published by its closing freeze: (BAR0 offset, word) (R258, R262). -/
  sums : List (Nat × Word) := []
  /-- The present interval: its start, the fine values at its start, what its FLAGS will show (R262 to R264). -/
  intvStart : Nat := 0
  intvFine : Vector DWord 168 := Vector.replicate 168 0
  partE : BitVec 8 := 0xFF
  partH : BitVec 8 := 0xFF
  qualE : BitVec 8 := 0
  qualH : BitVec 8 := 0
  revH : BitVec 8 := 0
  lowVin : Bool := false
  /-- The billing-store write in progress, and whether a further one follows it (R267). -/
  store : Option StoreJob := none
  storeNext : Option Nat := none
  /-- The harmonic window: point analysed, TSC of its start, f, the tracker's lock, a clipped sample (R269, R272). -/
  winPoint : Option Nat := none
  winTsc : Nat := 0
  winF : Nat := 0
  winLock : Bool := false
  winOvl : Bool := false
  /-- The frequencies of the four trackers at the window's start, and the 48 samples before it, oldest first (R269, R273). -/
  winTrk : List Nat := []
  winPre : List (List Word) := []
  /-- The corrected samples of the window, newest first: V1 to V3 and I1 to I3 of each output period (R269). -/
  winBuf : List (List Word) := []
  hrm : Option HrmRes := none
  deriving DecidableEq, Repr, Inhabited

/-! ## Solver engine (chapters 07 to 09) -/

/-- A job that waits or executes: descriptor, ORIGIN, TAG, and its place in its chain, from 1 (R319, R320, R330). -/
structure SlvJob where
  desc : Nat
  origin : Nat
  tag : Nat
  chain : Nat := 1
  deriving DecidableEq, Repr, Inhabited

/-- A binding that delivered NaN: section, element, binding number, OPTIONAL (R315, R316); `live` while no later binding
has written the element again (R314). -/
structure NanElem where
  sec : Nat
  e : Nat
  bind : Nat
  opt : Bool
  live : Bool := true
  deriving DecidableEq, Repr, Inhabited

/-- What a job has fixed since its start (R318, R326): the descriptor snapshot, the code of a refusal, the record's SIG,
the results of the gather and of the Tailwind decision. -/
structure SlvRun where
  desc : List Byte
  code : Nat := 0
  flags : Nat := 0
  /-- The job's SIG, once its record or its analysis has given it (R304, R306). -/
  sig : Option Nat := none
  seq : Nat := 0
  tsc0 : Nat := 0
  /-- TSC of the first and of the last binding read (R31). -/
  bind : Option (Nat × Nat) := none
  nans : List NanElem := []
  nanBind : Nat := 0
  /-- INDEX of a non-finite input (R316). -/
  inp : Nat := 0
  warm : Bool := false
  /-- Offsets of the uncorrectable words that the job reads (R283). -/
  ues : List Nat := []
  /-- The job is solved across the quad (R373): the setup and the load messages sent to positions 1 to 3 (R376), messages
  received so far. -/
  split : Bool := false
  setups : List SplitSetup := []
  loads : List (List Byte) := []
  msgs : Nat := 0
  /-- What an ANALYSE of kind 2 or 3 has found: ALEN, NNZ_L, FL, n (R397, R420); it ends under R397. -/
  ana : Option (Nat × Nat × Nat × Nat) := none
  anaLow : Bool := false
  /-- The record that an ANALYSE job writes at its end (R305). -/
  record : List Byte := []
  deriving DecidableEq, Repr, Inhabited

/-- State of the solver that no register shows. -/
structure SlvSt where
  queue : List SlvJob := []
  exec : Option SlvJob := none
  run : Option SlvRun := none
  /-- As a partner (R376): the setup message being served, the last reply (0 ACCEPT, or a REASON of R373), and the last block
  returned: its length and the value of `freeCtr` that names its contents. -/
  served : Option SplitSetup := none
  reply : Option Nat := none
  returned : Option (Nat × Nat) := none
  deriving DecidableEq, Repr, Inhabited

/-! ## Key store, tamper and Squall (chapter 16) -/

/-- An occupied key slot (R705, R719): attribute word and key material. -/
structure KeySlot where
  attr : Word
  mat : List Byte
  deriving DecidableEq, Repr, Inhabited

/-- A persistent bank write in progress (R722): the bank, its sequence number, the slots after it, and what else takes
effect with it. -/
structure BankJob where
  bank : Nat
  seq : Nat
  slots : List (Nat × KeySlot)
  /-- OTP, KEK and nonce after a PROVISION or REPROVISION. -/
  owner : Option (List Byte) := none
  kek : Option (List Byte × List Byte) := none
  deriving DecidableEq, Repr, Inhabited

/-- A security job in its place (R714 to R717). -/
structure SecJob where
  place : Nat
  /-- From the host ring, else the task whose SYS service submitted it; in world S. -/
  host : Bool
  task : Nat := 0
  worldS : Bool := false
  op : Nat
  slot : Nat
  slot2 : Nat
  attr : Word
  input : List Byte
  cap : Nat
  /-- Output address, or data reference; address of the host's ring entry. -/
  out : Nat
  entry : Nat := 0
  /-- 1 queued, 2 executing, 3 done. -/
  state : Nat := 1
  status : Nat := 0
  output : List Byte := []
  tscEnd : Nat := 0
  /-- The operation has run or was refused; its bank write is in progress; the job met Squall; its task left RUN. -/
  ran : Bool := false
  writing : Bool := false
  squall : Bool := false
  orphan : Bool := false
  /-- What copying the entry and its input met: ERR_DOMAIN_OFF with PD4 off (R22), ERR_LEN for an area beyond system SRAM. -/
  copy : Nat := 0
  deriving DecidableEq, Repr, Inhabited

/-- State of the security engine that no register shows. -/
structure KeySt where
  /-- OTP: the life-cycle state, the owner's hash, and whether the secret has become unreadable (R701, R725). -/
  lc : Nat := 0
  ownerHash : List Byte := []
  otpDead : Bool := false
  /-- Occupied slots, the loaded copies of 64 to 71 among them (R708). -/
  slots : List (Nat × KeySlot) := []
  pair : Option (List Byte) := none
  /-- Jobs in order of acceptance; a done SYS job stays until it is collected (R716). -/
  jobs : List SecJob := []
  bank : Option BankJob := none
  /-- Requests of random bits since the generator was seeded (R729). -/
  requests : Nat := 0
  deriving DecidableEq, Repr, Inhabited

/-- State of PD0's tamper logic and key storage that no register shows (R718, R732, R738). -/
structure TmpSt where
  kek : List Byte := List.replicate 32 0
  nonce : List Byte := List.replicate 32 0
  /-- The tamper log: the words of each entry; a free content after the brown-out latch (R747). -/
  log : Vector (Word × Word) 16 := Vector.replicate 16 (0, 0)
  /-- Consecutive mesh mismatches. -/
  mesh : Nat := 0
  deriving DecidableEq, Repr, Inhabited

/-! ## Cyclic execution and Breeze code (chapters 10 and 11) -/

/-- A task entry of the loaded image (R518). -/
structure ImgEnt where
  task : Nat
  code : List Word
  entry : Nat
  retSig : Nat
  locSig : Nat
  reti : List Byte
  loci : List Byte
  wmap : List Byte
  /-- The image is SIGNED and its signature verified (R704). -/
  signed : Bool
  deriving DecidableEq, Repr, Inhabited

/-- The registers of a scan engine (R478 to R480, R495): W0 to W63 of which W0 stays zero, the flags byte, the program
counter as a byte offset, the return stack bottom first. -/
structure Eng where
  w : Vector DWord 64 := Vector.replicate 64 0
  flags : BitVec 8 := 0
  pc : Nat := 0
  stk : List Nat := []
  deriving DecidableEq, Repr, Inhabited

/-- A snapshot of an engine at the stop of a cycle (R499, R500). -/
structure Snap where
  valid : Bool := false
  cause : Nat := 0
  cycle : Nat := 0
  eng : Eng := {}
  deriving DecidableEq, Repr, Inhabited

/-- State of a task that its registers do not show. -/
structure TaskSt where
  /-- The entry whose code the task runs. -/
  ent : Option ImgEnt := none
  /-- In RUN: 0 between cycles, 1 waiting for the Triad vote of phase 1, 2 logic, 3 waiting for the vote of phase 3. -/
  phase : Nat := 0
  /-- TSC of the next grid instant, or of the present cycle's (R424). -/
  grid : Nat := 0
  /-- Cycles since the task entered RUN; CSTAMP of the present or last cycle (R437). -/
  cyc : Nat := 0
  cstamp : Nat := 0
  /-- What the next SYSV shows of start, overrun and skipped instants (R431, R437). -/
  first : Nat := 0
  ovr : Bool := false
  skipped : Nat := 0
  /-- Consecutive overruns (R433). -/
  ovrRun : Nat := 0
  stopReq : Bool := false
  /-- Retained lines written in phase 2 (R441). -/
  dirty : List Nat := []
  /-- An on-line switch is due (R467, step 5). -/
  switchDue : Bool := false
  /-- The task runs in world S (R704). -/
  worldS : Bool := false
  /-- Triad copies received for the vote in progress (R696), by neighbour port. -/
  vote : Vector (Option (List Byte)) 2 := Vector.replicate 2 none
  /-- Ends of phases 3 and 4 of a cycle that waits for its vote, in 10 ns from the vote. -/
  d3 : Nat := 0
  d4 : Nat := 0
  deriving DecidableEq, Repr, Inhabited

/-- A latched station entry and its state (R445 to R453). -/
structure Stn where
  idx : Nat
  idw : Word
  chan : Nat
  task : Nat
  en : Bool
  hold : Bool
  inLen : Nat
  outLen : Nat
  timeout : Nat
  inOff : Nat
  outOff : Nat
  qual : Nat := 2
  age : Nat := 255
  rx : Nat := 0
  /-- Since the previous latch: a valid response arrived, a miss occurred; ever since the owner entered RUN. -/
  got : Bool := false
  miss : Bool := false
  ever : Bool := false
  data : List Byte := []
  /-- The transmit slot: none, or a frame that waits; true for a poll (R448, R452); TSC of the hand-over (R542). -/
  slot : Option Bool := none
  slotAt : Nat := 0
  /-- The response window is open (R449). -/
  window : Bool := false
  deriving DecidableEq, Repr, Inhabited

/-- State of cyclic execution that no register shows. -/
structure ScanSt where
  eng : Vector Eng 4 := Vector.replicate 4 {}
  task : Vector TaskSt 4 := Vector.replicate 4 {}
  snap : Vector Snap 4 := Vector.replicate 4 {}
  stn : List Stn := []
  /-- Entries that STN_UPD has scheduled, with the owner read at the write (R446). -/
  upd : List (Nat × Nat) := []
  /-- The loaded image and the one that an on-line change brings (R467). -/
  img : List ImgEnt := []
  next : Option (List ImgEnt) := none
  /-- Half of the execution area in use. -/
  half : Nat := 0
  /-- BOOT_BANK as the boot and configuration partition records it (R467, R470). -/
  bootBank : Nat := 0
  /-- Image levels of the GPIO pins as each task's last phase 3 applied them (R440). -/
  gpio : Vector (Option Word) 4 := Vector.replicate 4 none
  /-- Accepted levels of the GPIO inputs; none since the switch-on (R444). -/
  gpioIn : Vector (Option Bool) 32 := Vector.replicate 32 none
  deriving DecidableEq, Repr, Inhabited

/-! ## Sub-station bus (chapter 12) -/

/-- A frame as a buffer stores it (R553): IDW; DLC, RTR, ESI and FLT in their MCTRL places; TSC; 64 data bytes. -/
structure CanRec where
  idw : Word := 0
  bits : Word := 0
  tsc : DWord := 0
  data : List Byte := List.replicate 64 0
  deriving DecidableEq, Repr, Inhabited

/-- A mailbox or the high-priority buffer (R535, R536): MCTRL, the frame's other fields, the shadow buffer; TSC of the
request's acceptance and whether an abort waits for the present attempt (R542, R545). -/
structure Mbx where
  mc : Word := 0
  idw : Word := 0
  tsc : DWord := 0
  data : List Byte := List.replicate 64 0
  shadow : Option CanRec := none
  reqAt : Nat := 0
  abort : Bool := false
  deriving DecidableEq, Repr, Inhabited

/-- A frame in arbitration or transmission: where it comes from, TSC of its start of frame, the frame (R542, R552). -/
structure CanTx where
  slot : CanSlot
  sof : DWord
  frame : CanFrame
  deriving DecidableEq, Repr, Inhabited

/-- State of one channel: it takes part in traffic; a disable waits for bus idle; bus-off and its recovery; the frame it
sends; the last frame it has sent successfully (R532, R542, R559, R560). -/
structure CanCh where
  live : Bool := false
  closing : Bool := false
  busoff : Bool := false
  recov : Bool := false
  act : Option CanTx := none
  sent : Option CanFrame := none
  deriving DecidableEq, Repr, Inhabited

/-- State of the bus engine that no register shows; a buffer that is not listed, under 65 × channel + index, holds the
default. -/
structure CanSt where
  mb : List (Nat × Mbx) := []
  ch : Vector CanCh 16 := Vector.replicate 16 {}
  deriving DecidableEq, Repr, Inhabited

/-! ## Boundary scan (chapter 20) -/

/-- State of the test access port (R842): the instruction in force (IDCODE after its reset), the update latches of the
boundary register, and what the last scan of a data register shifted out on TDO, first bit first. -/
structure JtagSt where
  ir : JtagOp := .idcode
  cells : List Bool := []
  tdo : List Bool := []
  deriving DecidableEq, Repr, Inhabited


/-- Everything the device holds besides its byte memories. -/
structure Dev where
  /-- The register file: (BAR0 offset, word), offsets strictly rising, no entry equal to its reset value. -/
  regs : List (Nat × Word) := []
  /-- The time-stamp counter, 10 ns per count (R102). -/
  tsc : DWord := 0
  pwr : PwrSt := {}
  evt : EvtSt := {}
  recd : RecSt := {}
  hif : HifSt := {}
  rtc : RtcSt := {}
  ax : Vector AxSt 16 := Vector.replicate 16 {}
  mot : MotSt := {}
  tw : TwinSt := {}
  saf : SafSt := {}
  age : AgeSt := {}
  mtr : MtrSt := {}
  qty : QtySt := {}
  slv : SlvSt := {}
  key : KeySt := {}
  tmp : TmpSt := {}
  scan : ScanSt := {}
  can : CanSt := {}
  jtag : JtagSt := {}
  /-- The model's own counter that indexes the free values of Config; nothing rests on its value. -/
  freeCtr : Nat := 0
  deriving DecidableEq, Repr, Inhabited

end Sys2Proof.Machine
end

