-- ==== Sys2Proof/Machine/EvNames.lean ====
section
/-!
DEFINITION. The local events of the pages, (page, local bit), from the event tables of the chapters, and their global
numbers (R64, R79).
-/
namespace Sys2Proof.Machine.E

/-- Event 0. -/
abbrev SYS_BOOT_DONE : Nat × Nat := (0x0, 0)
/-- Event 1. -/
abbrev SYS_WDT_WARN : Nat × Nat := (0x0, 1)
/-- Event 2. -/
abbrev PWR_EARLY_WARN : Nat × Nat := (0x1, 0)
/-- Event 3. -/
abbrev PWR_EW_CLEAR : Nat × Nat := (0x1, 1)
/-- Event 4. -/
abbrev PWR_CKPT_DONE : Nat × Nat := (0x1, 2)
/-- Event 5. -/
abbrev PWR_CKPT_FAIL : Nat × Nat := (0x1, 3)
/-- Event 6. -/
abbrev PWR_STATE_CHANGE : Nat × Nat := (0x1, 4)
/-- Event 7. -/
abbrev PWR_ENTRY_ABORT : Nat × Nat := (0x1, 5)
/-- Event 8. -/
abbrev PWR_REG_FAULT : Nat × Nat := (0x1, 6)
/-- Event 9. -/
abbrev PWR_XTM_FAIL : Nat × Nat := (0x1, 7)
/-- Event 10. -/
abbrev AGE_PLAN_DONE : Nat × Nat := (0x2, 0)
/-- Event 11. -/
abbrev AGE_ACTION : Nat × Nat := (0x2, 1)
/-- Event 12. -/
abbrev AGE_VETOED : Nat × Nat := (0x2, 2)
/-- Event 13. -/
abbrev AGE_LIFE_LOW : Nat × Nat := (0x2, 3)
/-- Event 14. -/
abbrev AGE_SPARE_LOW : Nat × Nat := (0x2, 4)
/-- Event 15. -/
abbrev AGE_HEALTH : Nat × Nat := (0x2, 5)
/-- Event 38. -/
abbrev NVM_NVM_UE : Nat × Nat := (0x8, 0)
/-- Event 39. -/
abbrev NVM_NVM_REMAP : Nat × Nat := (0x8, 1)
/-- Event 64. -/
abbrev MTR_FREQ_OOR : Nat × Nat := (0x10, 0)
/-- Event 65. -/
abbrev MTR_FREQ_LOCK : Nat × Nat := (0x10, 1)
/-- Event 66. -/
abbrev MTR_CAPT_BLOCK : Nat × Nat := (0x10, 2)
/-- Event 67. -/
abbrev MTR_CAPT_LOST : Nat × Nat := (0x10, 3)
/-- Event 68. -/
abbrev AFE_OVL : Nat × Nat := (0x11, 0)
/-- Event 69. -/
abbrev AFE_CORR_APPLIED : Nat × Nat := (0x11, 1)
/-- Event 70. -/
abbrev AFE_CORR_ERR : Nat × Nat := (0x11, 2)
/-- Event 71. -/
abbrev AFE_RTD_DONE : Nat × Nat := (0x11, 3)
/-- Event 72. -/
abbrev AFE_RTD_FAULT : Nat × Nat := (0x11, 4)
/-- Event 73. -/
abbrev PLS_PLS_EDGE : Nat × Nat := (0x12, 0)
/-- Event 74. -/
abbrev PLS_PLS_DIR : Nat × Nat := (0x12, 1)
/-- Event 80. -/
abbrev QTY_FREEZE_DONE : Nat × Nat := (0x13, 0)
/-- Event 81. -/
abbrev QTY_INTV_END : Nat × Nat := (0x13, 1)
/-- Event 82. -/
abbrev QTY_ROLLOVER : Nat × Nat := (0x13, 2)
/-- Event 83. -/
abbrev QTY_REVERSED : Nat × Nat := (0x13, 3)
/-- Event 84. -/
abbrev QTY_STORE_DONE : Nat × Nat := (0x13, 4)
/-- Event 85. -/
abbrev QTY_STORE_FAIL : Nat × Nat := (0x13, 5)
/-- Event 86. -/
abbrev QTY_THERM_ERR : Nat × Nat := (0x13, 6)
/-- Event 87. -/
abbrev QTY_PRESET : Nat × Nat := (0x13, 7)
/-- Event 88. -/
abbrev QTY_MAXDEM : Nat × Nat := (0x13, 8)
/-- Event 89. -/
abbrev QTY_STORE_BLANK : Nat × Nat := (0x13, 9)
/-- Event 90. -/
abbrev HRM_HRM_DONE : Nat × Nat := (0x14, 0)
/-- Event 91. -/
abbrev HRM_LIVE : Nat × Nat := (0x14, 1)
/-- Event 96. -/
abbrev SLV_JOB_DONE : Nat × Nat := (0x15, 0)
/-- Event 97. -/
abbrev SLV_JOB_ERR : Nat × Nat := (0x15, 1)
/-- Event 98. -/
abbrev SLV_ARM_MISSED : Nat × Nat := (0x15, 2)
/-- Event 99. -/
abbrev SLV_IDLE : Nat × Nat := (0x15, 3)
/-- Event 100. -/
abbrev SLV_SRAM_UE : Nat × Nat := (0x15, 4)
/-- Event 101. -/
abbrev ASM_BIND_NAN : Nat × Nat := (0x16, 0)
/-- Event 102. -/
abbrev QP_SPLIT_FALLBACK : Nat × Nat := (0x17, 0)
/-- Event 103. -/
abbrev QP_SERVE_START : Nat × Nat := (0x17, 1)
/-- Event 104. -/
abbrev QP_SERVE_END : Nat × Nat := (0x17, 2)
/-- Event 105. -/
abbrev QP_WARM_REJECT : Nat × Nat := (0x17, 3)
/-- Event 106. -/
abbrev LSQ_DAMP_LIMIT : Nat × Nat := (0x18, 0)
/-- Event 107. -/
abbrev LSQ_ANA_NEED : Nat × Nat := (0x18, 1)
/-- Event 108. -/
abbrev LSQ_MEAS_DROP : Nat × Nat := (0x18, 2)
/-- Event 109. -/
abbrev LSQ_WARM_REJECT : Nat × Nat := (0x18, 3)
/-- Event 40. -/
abbrev SCAN_OLC_DONE : Nat × Nat := (0xa, 0)
/-- Event 41. -/
abbrev SCAN_OLC_FAIL : Nat × Nat := (0xa, 1)
/-- Event 42. -/
abbrev SCAN_LS_MISMATCH : Nat × Nat := (0xa, 2)
/-- Event 43. -/
abbrev SCAN_STN_LOST : Nat × Nat := (0xa, 3)
/-- Event 44. -/
abbrev SCAN_STN_BACK : Nat × Nat := (0xa, 4)
/-- Event 48 + 3n of TASKn. -/
abbrev TASK_TSTART (t : Nat) : Nat × Nat := (0xb + t, 0)
/-- Event 49 + 3n of TASKn. -/
abbrev TASK_OVERRUN (t : Nat) : Nat × Nat := (0xb + t, 1)
/-- Event 50 + 3n of TASKn. -/
abbrev TASK_TFAULT (t : Nat) : Nat × Nat := (0xb + t, 2)
/-- Event 60. -/
abbrev FRC_FORCE_CHANGE : Nat × Nat := (0xf, 0)
/-- Event 61. -/
abbrev FRC_FORCE_ORPHAN : Nat × Nat := (0xf, 1)
/-- Event 112 + 4n of CANn. -/
abbrev CAN_RX (t : Nat) : Nat × Nat := (0x1a + t, 0)
/-- Event 113 + 4n of CANn. -/
abbrev CAN_HP (t : Nat) : Nat × Nat := (0x1a + t, 1)
/-- Event 114 + 4n of CANn. -/
abbrev CAN_TX (t : Nat) : Nat × Nat := (0x1a + t, 2)
/-- Event 115 + 4n of CANn. -/
abbrev CAN_ERR (t : Nat) : Nat × Nat := (0x1a + t, 3)
/-- Event 176 + 2n of AXn. -/
abbrev AX_DONE (t : Nat) : Nat × Nat := (0x2b + t, 0)
/-- Event 177 + 2n of AXn. -/
abbrev AX_FAULT (t : Nat) : Nat × Nat := (0x2b + t, 1)
/-- Event 208. -/
abbrev SAF_FUNC_OFF : Nat × Nat := (0x3c, 0)
/-- Event 209. -/
abbrev SAF_FUNC_ON : Nat × Nat := (0x3c, 1)
/-- Event 210. -/
abbrev SAF_FUNC_FAULT : Nat × Nat := (0x3c, 2)
/-- Event 211. -/
abbrev SAF_DISCREPANCY : Nat × Nat := (0x3c, 3)
/-- Event 212. -/
abbrev SAF_TEST_FAULT : Nat × Nat := (0x3c, 4)
/-- Event 213. -/
abbrev SAF_OUT_FAULT : Nat × Nat := (0x3c, 5)
/-- Event 214. -/
abbrev SAF_EDM_FAULT : Nat × Nat := (0x3c, 6)
/-- Event 215. -/
abbrev SAF_SEQ_FAULT : Nat × Nat := (0x3c, 7)
/-- Event 216. -/
abbrev SAF_RESET_PULSE : Nat × Nat := (0x3c, 8)
/-- Event 217. -/
abbrev SAF_CFG_LOADED : Nat × Nat := (0x3c, 9)
/-- Event 218. -/
abbrev SAF_REQ_CHANGE : Nat × Nat := (0x3c, 10)
/-- Event 240. -/
abbrev RED_CLAIM_WON : Nat × Nat := (0x3f, 0)
/-- Event 241. -/
abbrev RED_CLAIM_LOST : Nat × Nat := (0x3f, 1)
/-- Event 242. -/
abbrev RED_PARTNER_DOWN : Nat × Nat := (0x3f, 2)
/-- Event 243. -/
abbrev RED_RELINQUISH : Nat × Nat := (0x3f, 3)
/-- Event 244. -/
abbrev RED_COPY_LATE : Nat × Nat := (0x3f, 4)
/-- Event 245. -/
abbrev RED_STALE_CHANGE : Nat × Nat := (0x3f, 5)
/-- Event 246. -/
abbrev RED_LATCHED : Nat × Nat := (0x3f, 6)
/-- Event 247. -/
abbrev RED_CLM_FAULT : Nat × Nat := (0x3f, 7)
/-- Event 248. -/
abbrev LNK_LINK_CHANGE : Nat × Nat := (0x40, 0)
/-- Event 249. -/
abbrev LNK_WIRING_ERR : Nat × Nat := (0x40, 1)
/-- Event 250. -/
abbrev LNK_MSG_RX : Nat × Nat := (0x40, 2)
/-- Event 251. -/
abbrev LNK_SYNC_LOST : Nat × Nat := (0x40, 3)
/-- Event 224. -/
abbrev KEY_JOB_DONE : Nat × Nat := (0x3d, 0)
/-- Event 225. -/
abbrev KEY_JOB_ERR : Nat × Nat := (0x3d, 1)
/-- Event 226. -/
abbrev KEY_KSTATE_CHANGE : Nat × Nat := (0x3d, 2)
/-- Event 227. -/
abbrev KEY_BANK_TORN : Nat × Nat := (0x3d, 3)
/-- Event 228. -/
abbrev KEY_RNG_FAIL : Nat × Nat := (0x3d, 4)
/-- Event 229. -/
abbrev KEY_PAIR_KEY : Nat × Nat := (0x3d, 5)
/-- Event 230. -/
abbrev KEY_LC_CHANGE : Nat × Nat := (0x3d, 6)
/-- Event 232. -/
abbrev TMP_SQUALL : Nat × Nat := (0x3e, 0)
/-- Event 233. -/
abbrev TMP_TAMPER_CLEAR : Nat × Nat := (0x3e, 1)
/-- Event 16. -/
abbrev RTC_ALM0 : Nat × Nat := (0x5, 0)
/-- Event 17. -/
abbrev RTC_ALM1 : Nat × Nat := (0x5, 1)
/-- Event 18. -/
abbrev RTC_TIME_SET : Nat × Nat := (0x5, 2)
/-- Event 19. -/
abbrev RTC_ALM_SKIPPED : Nat × Nat := (0x5, 3)
/-- Event 20. -/
abbrev RTC_OSF : Nat × Nat := (0x5, 4)
/-- Event 21. -/
abbrev RTC_SECOND : Nat × Nat := (0x5, 5)
/-- Event 24. -/
abbrev BKP_SWO : Nat × Nat := (0x6, 0)
/-- Event 25. -/
abbrev BKP_SWO_END : Nat × Nat := (0x6, 1)
/-- Event 26. -/
abbrev BKP_VBAT_LOW : Nat × Nat := (0x6, 2)
/-- Event 27. -/
abbrev BKP_BOR : Nat × Nat := (0x6, 3)
/-- Event 28. -/
abbrev BKP_BKP_CRC : Nat × Nat := (0x6, 4)
/-- Event 32. -/
abbrev REC_READY : Nat × Nat := (0x7, 0)
/-- Event 33. -/
abbrev REC_TORN : Nat × Nat := (0x7, 1)
/-- Event 34. -/
abbrev REC_CALM_FULL : Nat × Nat := (0x7, 2)
/-- Event 35. -/
abbrev REC_LOST : Nat × Nat := (0x7, 3)
/-- Event 36. -/
abbrev REC_CLEARED : Nat × Nat := (0x7, 4)
/-- Event 252. -/
abbrev HIF_DMA_DONE : Nat × Nat := (0x4, 0)
/-- Event 253. -/
abbrev HIF_DMA_HALT : Nat × Nat := (0x4, 1)
/-- Event 254. -/
abbrev HIF_HOST_LINK : Nat × Nat := (0x4, 2)
/-- Event 255. -/
abbrev HIF_HOST_ERR : Nat × Nat := (0x4, 3)

end Sys2Proof.Machine.E

namespace Sys2Proof.Machine

/-- The global number of local event `i` of page `p` (R64, R79); a bit that no chapter lists has none. -/
def globalEvent (p i : Nat) : Option Nat :=
  if 0x0B ≤ p ∧ p ≤ 0x0E then (if i < 3 then some (48 + 3 * (p - 0x0B) + i) else none)
  else if 0x1A ≤ p ∧ p ≤ 0x29 then (if i < 4 then some (112 + 4 * (p - 0x1A) + i) else none)
  else if 0x2B ≤ p ∧ p ≤ 0x3A then (if i < 2 then some (176 + 2 * (p - 0x2B) + i) else none)
  else match p with
  | 0x0 => if i < 2 then some (0 + i) else none
  | 0x1 => if i < 8 then some (2 + i) else none
  | 0x2 => if i < 6 then some (10 + i) else none
  | 0x4 => if i < 4 then some (252 + i) else none
  | 0x5 => if i < 6 then some (16 + i) else none
  | 0x6 => if i < 5 then some (24 + i) else none
  | 0x7 => if i < 5 then some (32 + i) else none
  | 0x8 => if i < 2 then some (38 + i) else none
  | 0xa => if i < 5 then some (40 + i) else none
  | 0xf => if i < 2 then some (60 + i) else none
  | 0x10 => if i < 4 then some (64 + i) else none
  | 0x11 => if i < 5 then some (68 + i) else none
  | 0x12 => if i < 2 then some (73 + i) else none
  | 0x13 => if i < 10 then some (80 + i) else none
  | 0x14 => if i < 2 then some (90 + i) else none
  | 0x15 => if i < 5 then some (96 + i) else none
  | 0x16 => if i < 1 then some (101 + i) else none
  | 0x17 => if i < 4 then some (102 + i) else none
  | 0x18 => if i < 4 then some (106 + i) else none
  | 0x3c => if i < 11 then some (208 + i) else none
  | 0x3d => if i < 7 then some (224 + i) else none
  | 0x3e => if i < 2 then some (232 + i) else none
  | 0x3f => if i < 8 then some (240 + i) else none
  | 0x40 => if i < 4 then some (248 + i) else none
  | _ => none

end Sys2Proof.Machine
end

