-- ==== Sys2Proof/Machine/RegNames.lean ====
section
/-!
DEFINITION. The BAR0 offsets of the registers by name, PAGE_REGISTER (R12), from the register maps of the chapters;
an array takes its index, the pages of tasks, CAN channels and axes take their instance.
-/
namespace Sys2Proof.Machine.R

abbrev H_ID (p : Nat) : Nat := 0x1000 * p
abbrev H_CAP (p : Nat) : Nat := 0x1000 * p + 0x004
abbrev H_CTRL (p : Nat) : Nat := 0x1000 * p + 0x008
abbrev H_STAT (p : Nat) : Nat := 0x1000 * p + 0x00C
abbrev H_EVT_RAW (p : Nat) : Nat := 0x1000 * p + 0x010
abbrev H_EVT_EN (p : Nat) : Nat := 0x1000 * p + 0x014
abbrev H_EVT_PEND (p : Nat) : Nat := 0x1000 * p + 0x018
abbrev H_EVT_SET (p : Nat) : Nat := 0x1000 * p + 0x01C
abbrev H_ERR (p : Nat) : Nat := 0x1000 * p + 0x020
abbrev H_LOCK (p : Nat) : Nat := 0x1000 * p + 0x024
abbrev H_SEQ (p : Nat) : Nat := 0x1000 * p + 0x028
abbrev H_CFG_CRC (p : Nat) : Nat := 0x1000 * p + 0x02C

abbrev SYS_REV : Nat := 0x40
abbrev SYS_STRAP : Nat := 0x44
abbrev SYS_RST_CAUSE : Nat := 0x48
abbrev SYS_RST_CTRL : Nat := 0x4c
abbrev SYS_BOOT_STAT : Nat := 0x50
abbrev SYS_BOOT_TIME : Nat := 0x54
abbrev PWR_STATE : Nat := 0x1040
abbrev PWR_STATE_REQ : Nat := 0x1044
abbrev PWR_AUTO : Nat := 0x1048
abbrev PWR_DOM_STAT : Nat := 0x104c
abbrev PWR_SLV_HOLDOFF : Nat := 0x1050
abbrev PWR_CKPT_PERIOD : Nat := 0x1054
abbrev PWR_CKPT_STAT : Nat := 0x1058
abbrev PWR_CKPT_SEQ : Nat := 0x105c
abbrev PWR_VIN_MON : Nat := 0x1060
abbrev PWR_EW_COUNT : Nat := 0x1064
abbrev PWR_ENTRY_ABORT : Nat := 0x1068
abbrev PWR_VCORE_SET : Nat := 0x106c
abbrev PWR_REG_STAT : Nat := 0x1070
abbrev PWR_WAKE_MASK (i : Nat) : Nat := 0x1080 + 4 * i
abbrev AGE_RUN : Nat := 0x2040
abbrev AGE_RUN_TIME : Nat := 0x2044
abbrev AGE_VETO : Nat := 0x2048
abbrev AGE_PENDING : Nat := 0x204c
abbrev AGE_SLV_CLK : Nat := 0x2050
abbrev AGE_DEG_MAX : Nat := 0x2054
abbrev AGE_DEG_STEP : Nat := 0x2058
abbrev AGE_DEG_FAIL : Nat := 0x205c
abbrev AGE_LIFE : Nat := 0x2060
abbrev AGE_LIFE_WARN : Nat := 0x2064
abbrev AGE_SCRUB : Nat := 0x2068
abbrev AGE_CANARY : Nat := 0x206c
abbrev AGE_XTAL : Nat := 0x2070
abbrev AGE_REG_HEALTH : Nat := 0x2074
abbrev AGE_LAST_RUN : Nat := 0x2078
abbrev AGE_RO_DEG (i : Nat) : Nat := 0x2080 + 4 * i
abbrev EVT_VEC_ASSERT : Nat := 0x3040
abbrev EVT_PIN_ASSERT : Nat := 0x3044
abbrev EVT_PIN_CFG : Nat := 0x3048
abbrev EVT_VEC_MASK (i : Nat) : Nat := 0x3100 + 4 * i
abbrev EVT_PIN_MASK (i : Nat) : Nat := 0x3500 + 4 * i
abbrev EVT_SE_MASK (i : Nat) : Nat := 0x3580 + 4 * i
abbrev EVT_REC_SEL (i : Nat) : Nat := 0x3600 + 4 * i
abbrev EVT_EVTLAT (i : Nat) : Nat := 0x3700 + 4 * i
abbrev HIF_CFG : Nat := 0x4040
abbrev HIF_LINK_STAT : Nat := 0x4044
abbrev HIF_BOOT_LEN : Nat := 0x4048
abbrev HIF_BOOT_CTRL : Nat := 0x404c
abbrev HIF_HOST_ERRS : Nat := 0x4050
abbrev HIF_QS_STAT : Nat := 0x4054
abbrev HIF_CHc_CTRL (i : Nat) : Nat := 0x4100 + 32 * i
abbrev HIF_CHc_BASE (i : Nat) : Nat := 0x4104 + 32 * i
abbrev HIF_CHc_DB (i : Nat) : Nat := 0x4108 + 32 * i
abbrev HIF_CHc_PI (i : Nat) : Nat := 0x410c + 32 * i
abbrev HIF_CHc_CI (i : Nat) : Nat := 0x4110 + 32 * i
abbrev HIF_CHc_STAT (i : Nat) : Nat := 0x4114 + 32 * i
abbrev HIF_CHc_CMD (i : Nat) : Nat := 0x4118 + 32 * i
abbrev HIF_CHc_BYTES (i : Nat) : Nat := 0x411c + 32 * i
abbrev HIF_MSIX_TABLE (i : Nat) : Nat := 0x4800 + 4 * i
abbrev HIF_MSIX_PBA (i : Nat) : Nat := 0x4a00 + 4 * i
abbrev RTC_STAT : Nat := 0x5040
abbrev RTC_FLAGS : Nat := 0x5044
abbrev RTC_SUBSEC : Nat := 0x5048
abbrev RTC_SEC : Nat := 0x504c
abbrev RTC_MIN : Nat := 0x5050
abbrev RTC_HOUR : Nat := 0x5054
abbrev RTC_DAY : Nat := 0x5058
abbrev RTC_MONTH : Nat := 0x505c
abbrev RTC_YEAR : Nat := 0x5060
abbrev RTC_WDAY : Nat := 0x5064
abbrev RTC_EPOCH_S : Nat := 0x5068
abbrev RTC_EPOCH_S_HI : Nat := 0x506c
abbrev RTC_SET_S : Nat := 0x5070
abbrev RTC_SET_S_HI : Nat := 0x5074
abbrev RTC_CAL : Nat := 0x5078
abbrev RTC_LAST_SET_OLD : Nat := 0x507c
abbrev RTC_LAST_SET_NEW : Nat := 0x5080
abbrev RTC_SET_CNT : Nat := 0x5084
abbrev RTC_ALMn_CFG (i : Nat) : Nat := 0x50c0 + 32 * i
abbrev RTC_ALMn_MATCH (i : Nat) : Nat := 0x50c4 + 32 * i
abbrev RTC_ALMn_MATCH2 (i : Nat) : Nat := 0x50c8 + 32 * i
abbrev RTC_ALMn_STAT (i : Nat) : Nat := 0x50cc + 32 * i
abbrev RTC_ALMn_NEXT (i : Nat) : Nat := 0x50d0 + 32 * i
abbrev RTC_ALMn_NEXT_HI (i : Nat) : Nat := 0x50d4 + 32 * i
abbrev RTC_ALMn_CNT (i : Nat) : Nat := 0x50d8 + 32 * i
abbrev BKP_STAT : Nat := 0x6040
abbrev BKP_FLAGS : Nat := 0x6044
abbrev BKP_SWO_TIME : Nat := 0x6048
abbrev BKP_SWO_SUB : Nat := 0x604c
abbrev BKP_SWO_CNT : Nat := 0x6050
abbrev BKP_VBAT : Nat := 0x6054
abbrev BKP_VBAT_LOW_TH : Nat := 0x6058
abbrev BKP_WAKE_CAUSE : Nat := 0x605c
abbrev BKP_BCRC : Nat := 0x6060
abbrev BKP_CRC_CHK : Nat := 0x6064
abbrev BKP_GPR (i : Nat) : Nat := 0x6100 + 4 * i
abbrev BKP_USER (i : Nat) : Nat := 0x6800 + 4 * i
abbrev REC_STAT : Nat := 0x7040
abbrev REC_CALM_SLOTS : Nat := 0x7044
abbrev REC_CALM_NEXT : Nat := 0x7048
abbrev REC_EDDY_NEXT : Nat := 0x704c
abbrev REC_SEQ_NEXT : Nat := 0x7050
abbrev REC_LOST : Nat := 0x7054
abbrev REC_TORN : Nat := 0x7058
abbrev REC_WRITTEN : Nat := 0x705c
abbrev REC_TRIG : Nat := 0x7060
abbrev REC_CLEAR : Nat := 0x7064
abbrev REC_TRG_SEL : Nat := 0x7068
abbrev REC_TRG_CFG : Nat := 0x706c
abbrev REC_TRG_CNT : Nat := 0x7070
abbrev REC_LIST (i : Nat) : Nat := 0x7100 + 4 * i
abbrev NVM_WR_EN : Nat := 0x8040
abbrev NVM_WCNT_IDX : Nat := 0x8044
abbrev NVM_WCNT_DATA : Nat := 0x8048
abbrev NVM_ECC_CE : Nat := 0x804c
abbrev NVM_ECC_UE : Nat := 0x8050
abbrev NVM_UE_ADDR : Nat := 0x8054
abbrev NVM_SPARE : Nat := 0x8058
abbrev NVM_PART_STAT : Nat := 0x805c
abbrev NVM_PART (i : Nat) : Nat := 0x8080 + 4 * i
abbrev SCAN_STAT : Nat := 0xa040
abbrev SCAN_LOCKSTEP : Nat := 0xa044
abbrev SCAN_STN_BASE : Nat := 0xa048
abbrev SCAN_STN_COUNT : Nat := 0xa04c
abbrev SCAN_STN_UPD : Nat := 0xa050
abbrev SCAN_STN_GOOD : Nat := 0xa054
abbrev SCAN_STN_OVR : Nat := 0xa058
abbrev SCAN_STN_REJ : Nat := 0xa05c
abbrev SCAN_LAST_STN : Nat := 0xa060
abbrev SCAN_OLC_CTRL : Nat := 0xa064
abbrev SCAN_OLC_STAT : Nat := 0xa068
abbrev SCAN_BOOT_BANK : Nat := 0xa06c
abbrev SCAN_CODE_BASE : Nat := 0xa070
abbrev SCAN_CODE_SIZE : Nat := 0xa074
abbrev SCAN_GPIO_OWN (i : Nat) : Nat := 0xa078 + 4 * i
abbrev TASK_CMD (t : Nat) : Nat := 0xb040 + 0x1000 * t
abbrev TASK_STATE (t : Nat) : Nat := 0xb044 + 0x1000 * t
abbrev TASK_CFG (t : Nat) : Nat := 0xb048 + 0x1000 * t
abbrev TASK_PERIOD (t : Nat) : Nat := 0xb04c + 0x1000 * t
abbrev TASK_PHASE (t : Nat) : Nat := 0xb050 + 0x1000 * t
abbrev TASK_IN_BASE (t : Nat) : Nat := 0xb054 + 0x1000 * t
abbrev TASK_IN_SIZE (t : Nat) : Nat := 0xb058 + 0x1000 * t
abbrev TASK_OUT_BASE (t : Nat) : Nat := 0xb05c + 0x1000 * t
abbrev TASK_OUT_SIZE (t : Nat) : Nat := 0xb060 + 0x1000 * t
abbrev TASK_RET_BASE (t : Nat) : Nat := 0xb064 + 0x1000 * t
abbrev TASK_RET_SIZE (t : Nat) : Nat := 0xb068 + 0x1000 * t
abbrev TASK_LOC_BASE (t : Nat) : Nat := 0xb06c + 0x1000 * t
abbrev TASK_LOC_SIZE (t : Nat) : Nat := 0xb070 + 0x1000 * t
abbrev TASK_SYSV_BASE (t : Nat) : Nat := 0xb074 + 0x1000 * t
abbrev TASK_RET_SIG (t : Nat) : Nat := 0xb078 + 0x1000 * t
abbrev TASK_CYCLES (t : Nat) : Nat := 0xb07c + 0x1000 * t
abbrev TASK_CYCLES_HI (t : Nat) : Nat := 0xb080 + 0x1000 * t
abbrev TASK_OVR_CNT (t : Nat) : Nat := 0xb084 + 0x1000 * t
abbrev TASK_SKIP_CNT (t : Nat) : Nat := 0xb088 + 0x1000 * t
abbrev TASK_LAST_EXEC (t : Nat) : Nat := 0xb08c + 0x1000 * t
abbrev TASK_MAX_EXEC (t : Nat) : Nat := 0xb090 + 0x1000 * t
abbrev TASK_MIN_IDLE (t : Nat) : Nat := 0xb094 + 0x1000 * t
abbrev TASK_TRAP (t : Nat) : Nat := 0xb098 + 0x1000 * t
abbrev TASK_TRAP_PC (t : Nat) : Nat := 0xb09c + 0x1000 * t
abbrev TASK_XLINKi_SRC (t : Nat) (i : Nat) : Nat := 0xb0a0 + 0x1000 * t + 8 * i
abbrev TASK_XLINKi_DST (t : Nat) (i : Nat) : Nat := 0xb0a4 + 0x1000 * t + 8 * i
abbrev FRC_STAT : Nat := 0xf040
abbrev FRC_CLEAR : Nat := 0xf044
abbrev FRC_FRCe_ADDR (i : Nat) : Nat := 0xf100 + 16 * i
abbrev FRC_FRCe_MASK (i : Nat) : Nat := 0xf104 + 16 * i
abbrev FRC_FRCe_VALUE (i : Nat) : Nat := 0xf108 + 16 * i
abbrev MTR_NOM : Nat := 0x10040
abbrev MTR_TRK_SRC : Nat := 0x10044
abbrev MTR_FREQ (i : Nat) : Nat := 0x10048 + 4 * i
abbrev MTR_SLICE_STAT : Nat := 0x10058
abbrev MTR_CAPT_CTRL : Nat := 0x1005c
abbrev MTR_CAPT_BASE : Nat := 0x10060
abbrev MTR_CAPT_SIZE : Nat := 0x10064
abbrev MTR_CAPT_WR : Nat := 0x10068
abbrev MTR_CAPT_LOST : Nat := 0x1006c
abbrev AFE_CHn_CFG (i : Nat) : Nat := 0x11040 + 16 * i
abbrev AFE_CHn_SCALE (i : Nat) : Nat := 0x11044 + 16 * i
abbrev AFE_CHn_DELAY (i : Nat) : Nat := 0x11048 + 16 * i
abbrev AFE_CHn_STAT (i : Nat) : Nat := 0x1104c + 16 * i
abbrev AFE_REF_CFG : Nat := 0x111c0
abbrev AFE_CORR_COMMIT : Nat := 0x111c4
abbrev AFE_CORR_STAT : Nat := 0x111c8
abbrev AFE_RTP_CFG (i : Nat) : Nat := 0x11200 + 4 * i
abbrev AFE_RTm_CFG (i : Nat) : Nat := 0x11240 + 16 * i
abbrev AFE_RTm_RNOM (i : Nat) : Nat := 0x11244 + 16 * i
abbrev AFE_RTm_T (i : Nat) : Nat := 0x11248 + 16 * i
abbrev AFE_RTm_STAT (i : Nat) : Nat := 0x1124c + 16 * i
abbrev AFE_RTm_RES (i : Nat) : Nat := 0x11340 + 4 * i
abbrev AFE_RREF : Nat := 0x11380
abbrev AFE_RTD_SEQ : Nat := 0x11384
abbrev AFE_CORR_TABn (i : Nat) : Nat := 0x11400 + 4 * i
abbrev PLS_PIn_CFG (i : Nat) : Nat := 0x12040 + 32 * i
abbrev PLS_PIn_STAT (i : Nat) : Nat := 0x12044 + 32 * i
abbrev PLS_PIn_FWD (i : Nat) : Nat := 0x12048 + 32 * i
abbrev PLS_PIn_FWD_HI (i : Nat) : Nat := 0x1204c + 32 * i
abbrev PLS_PIn_REV (i : Nat) : Nat := 0x12050 + 32 * i
abbrev PLS_PIn_REV_HI (i : Nat) : Nat := 0x12054 + 32 * i
abbrev PLS_PIn_PERIOD (i : Nat) : Nat := 0x12058 + 32 * i
abbrev PLS_EDGE_MASK : Nat := 0x12840
abbrev PLS_EDGE_MASK_HI : Nat := 0x12844
abbrev QTY_FREEZE : Nat := 0x13040
abbrev QTY_FRZ_PERIOD : Nat := 0x13044
abbrev QTY_FRZ_SEQ : Nat := 0x13048
abbrev QTY_FRZ_CAUSE : Nat := 0x1304c
abbrev QTY_FRZ_TSC : Nat := 0x13050
abbrev QTY_FRZ_TSC_HI : Nat := 0x13054
abbrev QTY_FRZ_RTC : Nat := 0x13058
abbrev QTY_INTV : Nat := 0x1305c
abbrev QTY_INTV_SEQ : Nat := 0x13060
abbrev QTY_STORE_PERIOD : Nat := 0x13064
abbrev QTY_STORE_STAT : Nat := 0x13068
abbrev QTY_STORE_SEQ : Nat := 0x1306c
abbrev QTY_PRESET_IDX : Nat := 0x13070
abbrev QTY_PRESET_VAL : Nat := 0x13074
abbrev QTY_PRESET_VAL_HI : Nat := 0x13078
abbrev QTY_Ee_CFG (i : Nat) : Nat := 0x13080 + 8 * i
abbrev QTY_Ee_ICH (i : Nat) : Nat := 0x13084 + 8 * i
abbrev QTY_Hh_CFG (i : Nat) : Nat := 0x130c0 + 16 * i
abbrev QTY_Hh_FLOWK (i : Nat) : Nat := 0x130c4 + 16 * i
abbrev QTY_Hh_FLOW_IN (i : Nat) : Nat := 0x130c8 + 16 * i
abbrev QTY_Hh_STAT (i : Nat) : Nat := 0x130cc + 16 * i
abbrev QTY_Pn_CFG (i : Nat) : Nat := 0x13140 + 4 * i
abbrev QTY_Qs_FINE (i : Nat) : Nat := 0x13240 + 16 * i
abbrev QTY_Qs_FINE_HI (i : Nat) : Nat := 0x13244 + 16 * i
abbrev QTY_Qs_VIEW (i : Nat) : Nat := 0x13248 + 16 * i
abbrev QTY_Qs_VIEW_HI (i : Nat) : Nat := 0x1324c + 16 * i
abbrev QTY_Ee_SUM (i : Nat) : Nat := 0x13cc0 + 4 * i
abbrev QTY_Hh_SUM (i : Nat) : Nat := 0x13d80 + 4 * i
abbrev HRM_CTRL : Nat := 0x14040
abbrev HRM_RES_STAT : Nat := 0x14044
abbrev HRM_RES_TSC : Nat := 0x14048
abbrev HRM_RES_TSC_HI : Nat := 0x1404c
abbrev HRM_FUND_F : Nat := 0x14050
abbrev HRM_LIVE_SEQ : Nat := 0x14054
abbrev HRM_WIN_SEQ : Nat := 0x14058
abbrev HRM_MD_RESET : Nat := 0x1405c
abbrev HRM_LIVEe (i : Nat) : Nat := 0x14080 + 4 * i
abbrev HRM_MAG (i : Nat) : Nat := 0x14300 + 4 * i
abbrev HRM_PHASE (i : Nat) : Nat := 0x14900 + 4 * i
abbrev HRM_THD (i : Nat) : Nat := 0x14c00 + 4 * i
abbrev HRM_MAXDEM (i : Nat) : Nat := 0x14c40 + 4 * i
abbrev SLV_RING_BASE : Nat := 0x15040
abbrev SLV_RING_DB : Nat := 0x15044
abbrev SLV_RING_PI : Nat := 0x15048
abbrev SLV_DESC_BASE : Nat := 0x1504c
abbrev SLV_QSTAT : Nat := 0x15050
abbrev SLV_JOB_SEQ : Nat := 0x15054
abbrev SLV_DONE_MAP : Nat := 0x15058
abbrev SLV_DONE_MAP_HI : Nat := 0x1505c
abbrev SLV_JOB_TMO : Nat := 0x15060
abbrev SLV_CLK : Nat := 0x15064
abbrev SLV_ECC_CE : Nat := 0x15068
abbrev SLV_ECC_UE : Nat := 0x1506c
abbrev SLV_UE_ADDR : Nat := 0x15070
abbrev SLV_LAST_DESC : Nat := 0x15074
abbrev SLV_LAST_STATUS : Nat := 0x15078
abbrev SLV_LAST_ITER : Nat := 0x1507c
abbrev SLV_ARM (i : Nat) : Nat := 0x15080 + 4 * i
abbrev SLV_ARM_MISSED (i : Nat) : Nat := 0x150a0 + 4 * i
abbrev SLV_ARM_COUNT (i : Nat) : Nat := 0x150c0 + 4 * i
abbrev SLV_LAST_FAIL : Nat := 0x150e0
abbrev SLV_LAST_TIME : Nat := 0x150e4
abbrev ASM_LAST : Nat := 0x16040
abbrev ASM_NBIND : Nat := 0x16044
abbrev ASM_NAN_CNT : Nat := 0x16048
abbrev ASM_FIRST_NAN : Nat := 0x1604c
abbrev ASM_GATHER_T : Nat := 0x16050
abbrev ASM_GATHER_MAX : Nat := 0x16054
abbrev QP_SPLIT_CFG : Nat := 0x17040
abbrev QP_SPLIT_BASE : Nat := 0x17044
abbrev QP_SPLIT_LEN : Nat := 0x17048
abbrev QP_SPLIT_STAT : Nat := 0x1704c
abbrev QP_SPLIT_CNT : Nat := 0x17050
abbrev QP_FALLBACK_CNT : Nat := 0x17054
abbrev QP_SERVE_CNT : Nat := 0x17058
abbrev QP_LAST_M : Nat := 0x1705c
abbrev QP_LAST_OBJ : Nat := 0x17060
abbrev QP_LAST_OBJ_HI : Nat := 0x17064
abbrev QP_LAST_RP : Nat := 0x17068
abbrev QP_LAST_RD : Nat := 0x1706c
abbrev QP_LAST_MU : Nat := 0x17070
abbrev QP_LAST_WARM : Nat := 0x17074
abbrev LSQ_LAST_STAT : Nat := 0x18040
abbrev LSQ_LAST_DROP : Nat := 0x18044
abbrev LSQ_LAST_COST : Nat := 0x18048
abbrev LSQ_LAST_COST_HI : Nat := 0x1804c
abbrev LSQ_LAST_GNORM : Nat := 0x18050
abbrev LSQ_LAST_STEP : Nat := 0x18054
abbrev LSQ_LAST_LM : Nat := 0x18058
abbrev LSQ_LAST_WARM : Nat := 0x1805c
abbrev LSQ_ANA_NEED : Nat := 0x18060
abbrev LSQ_ANA_NNZ_L : Nat := 0x18064
abbrev LSQ_ANA_FL : Nat := 0x18068
abbrev LSQ_ANA_FL_HI : Nat := 0x1806c
abbrev LSQ_ANA_N : Nat := 0x18070
abbrev CANC_CHAN_EN : Nat := 0x19040
abbrev CANC_CLAIM_WAIT : Nat := 0x19044
abbrev CANC_CLAIM_TX : Nat := 0x19048
abbrev CANC_STN_FRAMES : Nat := 0x1904c
abbrev CANC_STN_NOCLAIM : Nat := 0x19050
abbrev CAN_MODE (t : Nat) : Nat := 0x1a040 + 0x1000 * t
abbrev CAN_NBT (t : Nat) : Nat := 0x1a044 + 0x1000 * t
abbrev CAN_DBT (t : Nat) : Nat := 0x1a048 + 0x1000 * t
abbrev CAN_BSTAT (t : Nat) : Nat := 0x1a04c + 0x1000 * t
abbrev CAN_ECNT (t : Nat) : Nat := 0x1a050 + 0x1000 * t
abbrev CAN_ERR_CAUSE (t : Nat) : Nat := 0x1a054 + 0x1000 * t
abbrev CAN_LEC (t : Nat) : Nat := 0x1a058 + 0x1000 * t
abbrev CAN_ACK_RUN (t : Nat) : Nat := 0x1a05c + 0x1000 * t
abbrev CAN_RECOVER (t : Nat) : Nat := 0x1a060 + 0x1000 * t
abbrev CAN_TDC_STAT (t : Nat) : Nat := 0x1a064 + 0x1000 * t
abbrev CAN_TX_REQ (t : Nat) : Nat := 0x1a068 + 0x1000 * t
abbrev CAN_TX_REQ_HI (t : Nat) : Nat := 0x1a06c + 0x1000 * t
abbrev CAN_TX_ABORT (t : Nat) : Nat := 0x1a070 + 0x1000 * t
abbrev CAN_TX_ABORT_HI (t : Nat) : Nat := 0x1a074 + 0x1000 * t
abbrev CAN_TX_PEND (t : Nat) : Nat := 0x1a078 + 0x1000 * t
abbrev CAN_TX_PEND_HI (t : Nat) : Nat := 0x1a07c + 0x1000 * t
abbrev CAN_RX_FULL (t : Nat) : Nat := 0x1a080 + 0x1000 * t
abbrev CAN_RX_FULL_HI (t : Nat) : Nat := 0x1a084 + 0x1000 * t
abbrev CAN_RX_LOCK (t : Nat) : Nat := 0x1a088 + 0x1000 * t
abbrev CAN_RX_LOCK_HI (t : Nat) : Nat := 0x1a08c + 0x1000 * t
abbrev CAN_RX_REL (t : Nat) : Nat := 0x1a090 + 0x1000 * t
abbrev CAN_RX_REL_HI (t : Nat) : Nat := 0x1a094 + 0x1000 * t
abbrev CAN_HP_CTRL (t : Nat) : Nat := 0x1a098 + 0x1000 * t
abbrev CAN_MB_SEL (t : Nat) : Nat := 0x1a09c + 0x1000 * t
abbrev CAN_TX_DONE_CNT (t : Nat) : Nat := 0x1a0a0 + 0x1000 * t
abbrev CAN_RX_CNT (t : Nat) : Nat := 0x1a0a4 + 0x1000 * t
abbrev CAN_RX_NOMATCH (t : Nat) : Nat := 0x1a0a8 + 0x1000 * t
abbrev CAN_RX_LOST (t : Nat) : Nat := 0x1a0ac + 0x1000 * t
abbrev CAN_BUSOFF_CNT (t : Nat) : Nat := 0x1a0b0 + 0x1000 * t
abbrev CAN_NOCLAIM_CNT (t : Nat) : Nat := 0x1a0b4 + 0x1000 * t
abbrev CAN_MB_VIEW (t : Nat) (i : Nat) : Nat := 0x1a400 + 0x1000 * t + 4 * i
abbrev CAN_FILT (t : Nat) (i : Nat) : Nat := 0x1a800 + 0x1000 * t + 4 * i
abbrev MOT_AX_EN : Nat := 0x2a040
abbrev MOT_MOVING : Nat := 0x2a044
abbrev MOT_FAULTED : Nat := 0x2a048
abbrev MOT_HELD : Nat := 0x2a04c
abbrev MOT_TICKS : Nat := 0x2a050
abbrev MOT_SLICE_PEAK : Nat := 0x2a054
abbrev AX_ASTAT (t : Nat) : Nat := 0x2b040 + 0x1000 * t
abbrev AX_CFG (t : Nat) : Nat := 0x2b044 + 0x1000 * t
abbrev AX_STEPCFG (t : Nat) : Nat := 0x2b048 + 0x1000 * t
abbrev AX_XPOS (t : Nat) : Nat := 0x2b04c + 0x1000 * t
abbrev AX_XCMD (t : Nat) : Nat := 0x2b050 + 0x1000 * t
abbrev AX_VEL (t : Nat) : Nat := 0x2b054 + 0x1000 * t
abbrev AX_TARGET (t : Nat) : Nat := 0x2b058 + 0x1000 * t
abbrev AX_VMAX (t : Nat) : Nat := 0x2b05c + 0x1000 * t
abbrev AX_ACC (t : Nat) : Nat := 0x2b060 + 0x1000 * t
abbrev AX_DEC (t : Nat) : Nat := 0x2b064 + 0x1000 * t
abbrev AX_JERK (t : Nat) : Nat := 0x2b068 + 0x1000 * t
abbrev AX_PAPPLY (t : Nat) : Nat := 0x2b06c + 0x1000 * t
abbrev AX_STOP (t : Nat) : Nat := 0x2b070 + 0x1000 * t
abbrev AX_SLIM_LO (t : Nat) : Nat := 0x2b074 + 0x1000 * t
abbrev AX_SLIM_HI (t : Nat) : Nat := 0x2b078 + 0x1000 * t
abbrev AX_LIMCFG (t : Nat) : Nat := 0x2b07c + 0x1000 * t
abbrev AX_UNC (t : Nat) : Nat := 0x2b080 + 0x1000 * t
abbrev AX_UNC_MAX (t : Nat) : Nat := 0x2b084 + 0x1000 * t
abbrev AX_HOME_BACK (t : Nat) : Nat := 0x2b088 + 0x1000 * t
abbrev AX_HOME_MAX (t : Nat) : Nat := 0x2b08c + 0x1000 * t
abbrev AX_CMD_DB (t : Nat) : Nat := 0x2b090 + 0x1000 * t
abbrev AX_CMD_PI (t : Nat) : Nat := 0x2b094 + 0x1000 * t
abbrev AX_LAST_DONE (t : Nat) : Nat := 0x2b098 + 0x1000 * t
abbrev AX_DONE_CNT (t : Nat) : Nat := 0x2b09c + 0x1000 * t
abbrev AX_MS_THR (t : Nat) (i : Nat) : Nat := 0x2b0a0 + 0x1000 * t + 4 * i
abbrev AX_FAULT_CLR (t : Nat) : Nat := 0x2b0c0 + 0x1000 * t
abbrev AX_CMD_STAGE (t : Nat) (i : Nat) : Nat := 0x2b100 + 0x1000 * t + 4 * i
abbrev DRV_DDd_CFG (i : Nat) : Nat := 0x3b040 + 64 * i
abbrev DRV_DDd_ISGAIN (i : Nat) : Nat := 0x3b044 + 64 * i
abbrev DRV_DDd_ICUR (i : Nat) : Nat := 0x3b048 + 64 * i
abbrev DRV_DDd_HOLD (i : Nat) : Nat := 0x3b04c + 64 * i
abbrev DRV_DDd_VSW (i : Nat) : Nat := 0x3b050 + 64 * i
abbrev DRV_DDd_VHYS (i : Nat) : Nat := 0x3b054 + 64 * i
abbrev DRV_DDd_QLOOP (i : Nat) : Nat := 0x3b058 + 64 * i
abbrev DRV_DDd_STALL (i : Nat) : Nat := 0x3b05c + 64 * i
abbrev DRV_DDd_STAT (i : Nat) : Nat := 0x3b060 + 64 * i
abbrev DRV_DDd_IMEAS (i : Nat) : Nat := 0x3b064 + 64 * i
abbrev DRV_DDd_SWCNT (i : Nat) : Nat := 0x3b068 + 64 * i
abbrev SAF_STAT : Nat := 0x3c040
abbrev SAF_CFG_ID : Nat := 0x3c044
abbrev SAF_CFG_SEQ : Nat := 0x3c048
abbrev SAF_CFG_ERR_A : Nat := 0x3c04c
abbrev SAF_CFG_ERR_B : Nat := 0x3c050
abbrev SAF_FUNC_EN : Nat := 0x3c054
abbrev SAF_FUNC_FLT : Nat := 0x3c058
abbrev SAF_REQ : Nat := 0x3c05c
abbrev SAF_IN_DEMAND : Nat := 0x3c060
abbrev SAF_OUT_STAT : Nat := 0x3c064
abbrev SAF_OUT_FLT : Nat := 0x3c068
abbrev SAF_PERIOD_CNT : Nat := 0x3c06c
abbrev SAF_TEST_CNT : Nat := 0x3c070
abbrev SAF_TEST_ABORT : Nat := 0x3c074
abbrev SAF_IN_STATi (i : Nat) : Nat := 0x3c080 + 4 * i
abbrev SAF_FUNC_STATf (i : Nat) : Nat := 0x3c0c0 + 4 * i
abbrev SAF_RT_FUNCf (i : Nat) : Nat := 0x3c100 + 4 * i
abbrev SAF_MARGINf (i : Nat) : Nat := 0x3c140 + 4 * i
abbrev SAF_LAST_DEMANDf (i : Nat) : Nat := 0x3c180 + 4 * i
abbrev KEY_STAT : Nat := 0x3d040
abbrev KEY_RING_BASE : Nat := 0x3d044
abbrev KEY_RING_DB : Nat := 0x3d048
abbrev KEY_RING_PI : Nat := 0x3d04c
abbrev KEY_PLACES : Nat := 0x3d050
abbrev KEY_OCC : Nat := 0x3d054
abbrev KEY_OCC_HI : Nat := 0x3d058
abbrev KEY_PSLOT : Nat := 0x3d05c
abbrev KEY_SLOT_SEL : Nat := 0x3d060
abbrev KEY_SLOT_ATTR : Nat := 0x3d064
abbrev KEY_BANK_SEQ : Nat := 0x3d068
abbrev KEY_JOB_CNT : Nat := 0x3d06c
abbrev KEY_LAST_STATUS : Nat := 0x3d070
abbrev KEY_PAIR_CFG : Nat := 0x3d074
abbrev KEY_OWNER_HASH (i : Nat) : Nat := 0x3d080 + 4 * i
abbrev KEY_DEVID (i : Nat) : Nat := 0x3d0a0 + 4 * i
abbrev KEY_CHAL (i : Nat) : Nat := 0x3d0c0 + 4 * i
abbrev TMP_STAT : Nat := 0x3e040
abbrev TMP_CFG : Nat := 0x3e044
abbrev TMP_FILT : Nat := 0x3e048
abbrev TMP_CMD : Nat := 0x3e04c
abbrev TMP_LOG_IDX : Nat := 0x3e050
abbrev TMP_LOG_SEL : Nat := 0x3e054
abbrev TMP_LOG_LO : Nat := 0x3e058
abbrev TMP_LOG_HI : Nat := 0x3e05c
abbrev TMP_LOG_CLR : Nat := 0x3e060
abbrev RED_CFG : Nat := 0x3f040
abbrev RED_HOLDOFF : Nat := 0x3f044
abbrev RED_DIAG_MASK : Nat := 0x3f048
abbrev RED_CMD : Nat := 0x3f04c
abbrev RED_STAT : Nat := 0x3f050
abbrev RED_CLAIM : Nat := 0x3f054
abbrev RED_LAST_WIN : Nat := 0x3f058
abbrev RED_OFFER : Nat := 0x3f05c
abbrev RED_EPOCH : Nat := 0x3f060
abbrev RED_RECLAIMS : Nat := 0x3f064
abbrev RED_TAKEOVER_CNT : Nat := 0x3f068
abbrev RED_ROUND_CNT : Nat := 0x3f06c
abbrev RED_FAULT_ROUNDS : Nat := 0x3f070
abbrev RED_CW_BASE : Nat := 0x3f074
abbrev RED_CW_SIZE : Nat := 0x3f078
abbrev RED_COPY_CFG : Nat := 0x3f07c
abbrev RED_COPY_STAT : Nat := 0x3f080
abbrev RED_COPY_LATE_CNT : Nat := 0x3f084
abbrev RED_COPY_LAST : Nat := 0x3f088
abbrev RED_TRIAD_WAIT : Nat := 0x3f08c
abbrev RED_TRIAD_STAT : Nat := 0x3f090
abbrev RED_VOTE_DIS : Nat := 0x3f094
abbrev RED_PARTNER : Nat := 0x3f098
abbrev LNK_Pp_CTRL (i : Nat) : Nat := 0x40040 + 64 * i
abbrev LNK_Pp_STAT (i : Nat) : Nat := 0x40044 + 64 * i
abbrev LNK_Pp_ERRCNT (i : Nat) : Nat := 0x40048 + 64 * i
abbrev LNK_Pp_RETRY (i : Nat) : Nat := 0x4004c + 64 * i
abbrev LNK_Pp_MSG_BASE (i : Nat) : Nat := 0x40050 + 64 * i
abbrev LNK_Pp_MSG_DB (i : Nat) : Nat := 0x40054 + 64 * i
abbrev LNK_Pp_MSG_PI (i : Nat) : Nat := 0x40058 + 64 * i
abbrev LNK_Pp_RX_BASE (i : Nat) : Nat := 0x4005c + 64 * i
abbrev LNK_Pp_RX_STAT (i : Nat) : Nat := 0x40060 + 64 * i
abbrev LNK_Pp_OFFSET (i : Nat) : Nat := 0x40064 + 64 * i
abbrev LNK_Pp_DELAY (i : Nat) : Nat := 0x40068 + 64 * i
abbrev LNK_TIME_SRC : Nat := 0x40140
abbrev LNK_TIME_STEPS : Nat := 0x40144
abbrev GPIO_IN : Nat := 0x41040
abbrev GPIO_OUT : Nat := 0x41044
abbrev GPIO_OUT_SET : Nat := 0x41048
abbrev GPIO_OUT_CLR : Nat := 0x4104c
abbrev GPIO_DRIVEN : Nat := 0x41050
abbrev GPIO_GPIOi_CFG (i : Nat) : Nat := 0x41080 + 4 * i
abbrev DBG_SEL : Nat := 0x42040
abbrev DBG_PC : Nat := 0x42044
abbrev DBG_SNAP_INFO : Nat := 0x42048
abbrev DBG_SNAP_PC : Nat := 0x4204c
abbrev DBG_SNAP_CYCLE : Nat := 0x42050
abbrev DBG_SNAP_W : Nat := 0x42054
abbrev DBG_SNAP_W_HI : Nat := 0x42058
abbrev DBG_SNAP_STK (i : Nat) : Nat := 0x42060 + 4 * i

end Sys2Proof.Machine.R
end

