-- ==== Sys2Proof/Machine/Ops.lean ====
section
/-!
DEFINITION. The named operations over registers, memories, errors, events, queues and power domains that every meaning
is written with. A meaning is a function of the memories before the command (read only) and of a working record `W`:
the device and the list of memory writes the command makes. The writes are applied once, at the command's end.
-/
namespace Sys2Proof.Machine

/-! ## Byte memories (R20, R44) -/

/-- A byte memory: cells with strictly rising addresses and no zero byte; an unlisted address reads zero. -/
abbrev Memory := List Host.Cell

/-- What an unlisted address reads as: zero. MRAM is shipped zero (R851); for the RAMs it is a DESIGN CHOICE (log 2). -/
def memDefault : Byte := 0#8

/-- The byte at an address. -/
def memGet : Memory → Nat → Byte
  | [], _ => memDefault
  | (x, y) :: t, a => if x = a then y else memGet t a

/-- The memory with one byte stored; storing what an unlisted address reads as removes the cell. -/
def memSet : Memory → Nat → Byte → Memory
  | [], a, b => if b = memDefault then [] else [(a, b)]
  | (x, y) :: t, a, b =>
    if a < x then (if b = memDefault then (x, y) :: t else (a, b) :: (x, y) :: t)
    else if a = x then (if b = memDefault then t else (a, b) :: t)
    else (x, y) :: memSet t a b

/-- The memory with consecutive bytes stored from an address up. -/
def memPut (m : Memory) : Nat → List Byte → Memory
  | _, [] => m
  | a, b :: bs => memPut (memSet m a b) (a + 1) bs

/-- The memory after the contents of a range are lost (a RAM's domain switched off, R115): nothing is listed there. -/
def memClear (m : Memory) (lo hi : Nat) : Memory := m.filter fun c => decide (c.1 < lo ∨ hi ≤ c.1)

/-- One write of a command to the byte memories. -/
inductive MemWrite where
  | bytes (a : Nat) (d : List Byte)
  | clear (lo hi : Nat)
  | free (a n ctr : Nat)
  deriving DecidableEq, Repr, Inhabited

/-- The free bytes with which the manual's "not defined" leaves an area (log 4). -/
def freeBytes (n ctr : Nat) : List Byte := (List.range n).map fun i => Config.freeByte ctr i

/-- One write applied. -/
def MemWrite.apply (m : Memory) : MemWrite → Memory
  | .bytes a d => memPut m a d
  | .clear lo hi => memClear m lo hi
  | .free a n c => memPut m a (freeBytes n c)

/-- All the writes of a command applied, the last of the list first (the list is kept newest first). -/
def applyWrites (m : Memory) (ws : List MemWrite) : Memory := ws.foldr (fun x m => x.apply m) m

/-- Cells in canonical form: addresses strictly rising, no cell equal to what an unlisted address reads as. -/
abbrev Memory.wf (m : Memory) : Prop := m.Pairwise (fun a b => a.1 < b.1) ∧ ∀ c ∈ m, c.2 ≠ memDefault

/-- End of solver SRAM in BAR2 (R44). -/
abbrev solverEnd : Nat := 0x2800000
/-- End of system SRAM in BAR2 (R44). -/
abbrev systemEnd : Nat := 0x3000000
/-- Where the model's address space holds the MRAM of BAR4 (R44). -/
abbrev mramBase : Nat := 0x10000000
/-- MRAM is 16 MiB (R20). -/
abbrev mramSize : Nat := 0x1000000

/-- The working record of a command: the device, and the memory writes made so far, newest first. -/
structure W extends Dev where
  wq : List MemWrite := []
  deriving DecidableEq, Repr, Inhabited

namespace W

/-! ### Memory through the working record -/

/-- The byte at an address as the command sees it: its own newest write, else the memory before it. -/
def byteIn (m : Memory) (a : Nat) : List MemWrite → Byte
  | [] => memGet m a
  | .bytes b d :: ws => if b ≤ a ∧ a < b + d.length then d.getD (a - b) 0 else byteIn m a ws
  | .clear lo hi :: ws => if lo ≤ a ∧ a < hi then memDefault else byteIn m a ws
  | .free b n c :: ws => if b ≤ a ∧ a < b + n then Config.freeByte c (a - b) else byteIn m a ws

/-- The byte at an address. -/
def byte (w : W) (m : Memory) (a : Nat) : Byte := byteIn m a w.wq

/-- `n` bytes from an address up. -/
def bytes (w : W) (m : Memory) (a n : Nat) : List Byte := (List.range n).map fun i => w.byte m (a + i)

/-- The little-endian value of `n` bytes (R11). -/
def get (w : W) (m : Memory) (a n : Nat) : Nat := leNat (w.bytes m a n)

/-- Bytes stored from an address up. -/
def putBytes (w : W) (a : Nat) (d : List Byte) : W := if d = [] then w else { w with wq := .bytes a d :: w.wq }

/-- The `n`-byte little-endian value `v` stored (R11). -/
def put (w : W) (a n v : Nat) : W := w.putBytes a (toLe n v)

/-- An area whose contents the manual leaves undefined from now on (log 4). -/
def undef (w : W) (a n : Nat) : W :=
  if n = 0 then w else { w with wq := .free a n w.freeCtr :: w.wq, freeCtr := w.freeCtr + 1 }

/-- The contents of a range lost. -/
def lose (w : W) (lo hi : Nat) : W := { w with wq := .clear lo hi :: w.wq }

/-! ### The register file -/

/-- The word listed for an offset, if any. -/
def findReg : List (Nat × Word) → Nat → Option Word
  | [], _ => none
  | (x, y) :: t, a => if x = a then some y else findReg t a

/-- The register file with one word listed for an offset. -/
def putReg : List (Nat × Word) → Nat → Word → List (Nat × Word)
  | [], a, v => [(a, v)]
  | (x, y) :: t, a, v => if a < x then (a, v) :: (x, y) :: t else if a = x then (a, v) :: t else (x, y) :: putReg t a v

/-- The register file with one word stored; a word equal to the reset value `d` is not listed. -/
def setReg (l : List (Nat × Word)) (a : Nat) (v d : Word) : List (Nat × Word) :=
  if v = d then l.filter fun e => e.1 != a else putReg l a v

/-- The stored word of the register at a BAR0 offset. -/
def rd (w : W) (off : Nat) : Word := (findReg w.regs off).getD (regReset off)

/-- A register's stored word replaced. -/
def wr (w : W) (off : Nat) (v : Word) : W := { w with regs := setReg w.regs off v (regReset off) }

/-- A register that shows something brought up to date. -/
def upd (w : W) (off : Nat) (v : Word) : W := if w.rd off = v then w else w.wr off v

/-- The stored word as a number. -/
def rdN (w : W) (off : Nat) : Nat := (w.rd off).toNat

/-- A number stored, modulo 2^32. -/
def wrN (w : W) (off v : Nat) : W := w.wr off (BitVec.ofNat 32 v)

/-- A field of a register. -/
def rdF (w : W) (off lo n : Nat) : Nat := fld (w.rd off) lo n

/-- A bit of a register. -/
def rdB (w : W) (off i : Nat) : Bool := bit (w.rd off) i

/-- A field of a register replaced. -/
def wrF (w : W) (off lo n x : Nat) : W := w.wr off (setFld (w.rd off) lo n x)

/-- A bit of a register replaced. -/
def wrB (w : W) (off i : Nat) (b : Bool) : W := w.wrF off i 1 (b2n b)

/-- A wrapping counter increased by one. -/
def inc (w : W) (off : Nat) : W := w.wrN off (w.rdN off + 1)

/-- A counter increased by one, saturating at 0xFFFF_FFFF. -/
def incSat (w : W) (off : Nat) : W := w.wrN off (satInc 32 (w.rdN off))

/-- A counter field of `n` bits increased by one, saturating. -/
def incSatF (w : W) (off lo n : Nat) : W := w.wrF off lo n (satInc n (w.rdF off lo n))

/-- A register pair (R52) as one 64-bit value. -/
def rd64 (w : W) (off : Nat) : Nat := w.rdN off + 2 ^ 32 * w.rdN (off + 4)

/-- A register pair replaced. -/
def wr64 (w : W) (off v : Nat) : W := (w.wrN off v).wrN (off + 4) (v / 2 ^ 32)

/-- Every register in a range of BAR0 offsets back at its reset value. -/
def resetRegs (w : W) (lo hi : Nat) : W :=
  { w with regs := w.regs.filter fun e => decide (e.1 < lo ∨ hi ≤ e.1) }

/-! ### Errors (R58, R59, R74) -/

/-- A failed access or operation of a page: the code and the count of its ERR register (R59). Code 0 records none. -/
def err (w : W) (page code : Nat) : W :=
  if code = 0 then w
  else w.wr (R.H_ERR page) (BitVec.ofNat 32 (code % 2 ^ 16 + 2 ^ 16 * satInc 16 (w.rdF (R.H_ERR page) 16 16)))

end W

/-! ### The shared error codes (R74) -/
abbrev eBusy : Nat := 0x0001
abbrev eLen : Nat := 0x0002
abbrev eRange : Nat := 0x0003
abbrev eLocked : Nat := 0x0004
abbrev eFull : Nat := 0x0005
abbrev eDomainOff : Nat := 0x0006
abbrev ePerm : Nat := 0x0007
abbrev eCrc : Nat := 0x0008
abbrev eState : Nat := 0x0009
abbrev eSquall : Nat := 0x000A
abbrev eKekLost : Nat := 0x000B
abbrev eSignature : Nat := 0x000C
abbrev eTimeout : Nat := 0x000D

/-- The first code that applies, in the order given (R75); 0 when none does. -/
def firstCode : List (Bool × Nat) → Nat
  | [] => 0
  | (c, e) :: t => if c then e else firstCode t

/-! ## Power domains (R48, R103, R139) -/

/-- The power domain of a page (R48); a reserved page has none. -/
def pageDomain (p : Nat) : Option Nat :=
  if p = 0x05 ∨ p = 0x06 ∨ p = 0x3E then some 0
  else if p = 0x04 ∨ p = 0x40 then some 9
  else if p ≤ 0x03 ∨ p = 0x07 ∨ p = 0x08 ∨ p = 0x09 ∨ p = 0x3F ∨ p = 0x41 ∨ p = 0x42 then some 1
  else if 0x0A ≤ p ∧ p ≤ 0x0F then some 4
  else if 0x10 ≤ p ∧ p ≤ 0x14 then some 2
  else if 0x15 ≤ p ∧ p ≤ 0x18 then some 5
  else if 0x19 ≤ p ∧ p ≤ 0x29 then some 6
  else if 0x2A ≤ p ∧ p ≤ 0x3B then some 7
  else if p = 0x3C then some 3
  else if p = 0x3D then some 8
  else none

/-- The pages of a domain. -/
def domainPages (d : Nat) : List Nat := (List.range 0x43).filter fun p => pageDomain p == some d

namespace W

/-- DOM_STAT of a domain: 0 off, 1 on, 2 retention, 3 in transition (R139). -/
def dom (w : W) (d : Nat) : Nat := w.rdF R.PWR_DOM_STAT (2 * d) 2

/-- DOM_STAT of a domain set. -/
def setDom (w : W) (d v : Nat) : W := w.wrF R.PWR_DOM_STAT (2 * d) 2 v

/-- Do the memories and registers of a domain answer (on, or in retention and so woken, R21; or kept while the solver
array starts, R111)? PD0 and PD1 always do. -/
def domUp (w : W) (d : Nat) : Bool :=
  decide (d ≤ 1) || w.dom d == 1 || w.dom d == 2 || (d == 5 && w.dom 5 == 3 && w.pwr.pd5Kept)

/-- The domain of the page starts and does not answer yet (R111). -/
def gusting (w : W) (p : Nat) : Bool := match pageDomain p with | some d => w.dom d == 3 && !w.domUp d | none => false

/-- Early warning is asserted (R125). -/
def ew (w : W) : Bool := w.rdB R.PWR_STATE 2

/-- The device state of PWR.STATE: 0 Run, 1 Lull, 2 Deep Lull. -/
def pstate (w : W) : Nat := w.rdF R.PWR_STATE 0 2

/-- The Quad-SPI target is the selected host interface (R792). -/
def qspiSel (w : W) : Bool := w.rdB R.SYS_STRAP 0

/-- The operations held for a domain that does not start: each is refused with ERR_DOMAIN_OFF (R22, R113). -/
def heldDrop (d : Nat) (w : W) : W :=
  let mine (e : HeldOp) : Bool := pageDomain (e.off / 0x1000) == some d
  (w.pwr.heldOps.filter mine).foldl (fun w e => w.err (e.off / 0x1000) eDomainOff)
    { w with pwr.heldOps := w.pwr.heldOps.filter fun e => !mine e }

/-! ## MSI-X vectors and interrupt pins (R82, R84, R797) -/

/-- Vector v is asserted: EVTLAT AND its mask is non-zero (R82). -/
def vecAsserted (w : W) (v : Nat) : Bool :=
  (List.range 8).any fun k => (w.rd (R.EVT_VEC_MASK (8 * v + k)) &&& w.rd (R.EVT_EVTLAT k)) != 0#32

/-- Interrupt pin i is driven low (R84). -/
def irqLow (w : W) (i : Nat) : Bool :=
  w.rdB R.EVT_PIN_CFG i &&
    (List.range 8).any fun k => (w.rd (R.EVT_PIN_MASK (8 * i + k)) &&& w.rd (R.EVT_EVTLAT k)) != 0#32

/-- A condition of R797 blocks the messages of vector v. -/
def msixBlocked (w : W) (v : Nat) : Bool :=
  w.qspiSel || w.rdB (R.HIF_MSIX_TABLE (4 * v + 3)) 0 || w.hif.funcMask || !w.hif.bme
    || w.rdF R.HIF_LINK_STAT 8 2 != 0

/-- The host link of R23 is up (R799, R819). -/
def linkUp (w : W) : Bool :=
  if w.qspiSel then w.hif.qsHold || w.rdB R.HIF_CFG 0 else w.hif.perstN && !w.hif.l2

/-- The message of vector v is sent, or held back while blocked (R82, R797). In D3hot an asserted vector sends PM_PME
when PME_En is set (R800); with the host link down and WAKE_EN set it drives PE_WAKE_N low (R801). -/
def msixSend (w : W) (v : Nat) : W :=
  let w := if !w.qspiSel && w.rdB R.HIF_CFG 1 && !w.linkUp then { w with hif.peWakeLow := true } else w
  let w := if !w.qspiSel && w.rdF R.HIF_LINK_STAT 8 2 == 3 && w.hif.pmeEn then
    { w with hif.pmeSent := w.hif.pmeSent + 1 } else w
  if w.msixBlocked v then w
  else { w with hif.msixSent := w.hif.msixSent.setIfInBounds v (w.hif.msixSent.getD v 0 + 1) }

/-- Messages for every vector asserted now and not before (R82). -/
def msixEdges (w0 w : W) : W :=
  (List.range 32).foldl (fun w v => if w.vecAsserted v && !w0.vecAsserted v then w.msixSend v else w) w

/-- The unblocking of vectors between two states: each asserted vector that was blocked and is not any more owes its
message, which the command MSIX_UNBLOCK sends (R797). -/
def msixReleased (w0 w : W) : W :=
  let owed := (List.range 32).foldl (fun o v =>
    if w0.msixBlocked v && !w.msixBlocked v && w.vecAsserted v then o ||| BitVec.ofNat 32 (2 ^ v) else o) w.hif.msixOwed
  { w with hif.msixOwed := owed }

/-! ## The recorder's queue (R93, R780, R781) -/

/-- An item claims a place of the write queue, or is counted as lost; answers also whether this loss is the first since
the last OVERFLOW record was queued, which raises LOST (R781). -/
def recClaim (w : W) (it : RecItem) : W × Bool :=
  if w.recd.queue.length < 32 ∧ w.rdB R.REC_STAT 2 = false then
    ({ w with recd.queue := w.recd.queue ++ [it] }, false)
  else
    let w := w.incSat R.REC_LOST
    let t := BitVec.ofNat 32 w.tsc.toNat
    let first := w.recd.lostSince == 0
    let w := { w with recd.lostSince := w.recd.lostSince + 1, recd.lostLast := t,
                      recd.lostFirst := if first then t else w.recd.lostFirst }
    (w.wrB R.REC_STAT 2 true, first)

/-! ## Events (R64, R81 to R86) -/

/-- Event n reaches the consumers of the event matrix: EVTLAT, the vectors and pins, the scan-engine latches, the
recorder triggers (R81 to R86). `again` delivers the LOST event of a recorder that just lost its first trigger. -/
def route (again : W → W) (w : W) (n : Nat) : W :=
  let k := n / 32
  let b := n % 32
  let was := w.rdB (R.EVT_EVTLAT k) b
  let w0 := w
  let w := w.wrB (R.EVT_EVTLAT k) b true
  let w := if was then w else
    (List.range 32).foldl (fun w v =>
      if w.rdB (R.EVT_VEC_MASK (8 * v + k)) b && !w0.vecAsserted v then w.msixSend v else w) w
  let w := (List.range 4).foldl (fun w e =>
    if w.rdB (R.EVT_SE_MASK (8 * e + k)) b then
      { w with evt.seLatch := w.evt.seLatch.setIfInBounds e (w.evt.seLatch.getD e 0 ||| BitVec.ofNat 256 (2 ^ n)) }
    else w) w
  (List.range 64).foldl (fun w t =>
    let s := w.rd (R.EVT_REC_SEL t)
    if bit s 31 && fld s 0 8 == n && bit ((w.recd.trig.getD t {}).cfg) 0 then
      let (w, first) := w.recClaim ⟨t, 0, [], none⟩
      if first then again w else w
    else w) w

/-- The arm comparators see an occurrence of event n (R35, R324); the command's end submits it. -/
def armWatch (w : W) (n : Nat) : W :=
  if (List.range 8).any fun a => w.rdB (R.SLV_ARM a) 31 && w.rdF (R.SLV_ARM a) 8 8 == n then
    { w with evt.armHits := w.evt.armHits ++ [(n, w.pstate == 2)] }
  else w

/-- One occurrence of local event (page, bit): nothing unless it is enabled; else its pending bit and its global event
(R64); while PD1 is off only the pending bit of a PD0 page is set (R769). `k` bounds the events raised in turn. -/
def occurN : Nat → Nat × Nat → W → W
  | 0, _, w => w
  | k + 1, e, w =>
    if w.rdB (R.H_EVT_EN e.1) e.2 then
      let w := w.wrB (R.H_EVT_PEND e.1) e.2 true
      if w.pwr.held then w
      else match globalEvent e.1 e.2 with
        | some n => (w.armWatch n).route (occurN k E.REC_LOST) n
        | none => w
    else w

/-- One occurrence without the wake of R108. -/
def occur (w : W) (e : Nat × Nat) : W := occurN 3 e w

/-! ## Wake, Gust and domain switching (R102, R106, R108, R111) -/

/-- PWR.STATE.STATE changes, with its event. -/
def setPstate (w : W) (v : Nat) : W :=
  if w.pstate = v then w else (w.wrF R.PWR_STATE 0 2 v).occur E.PWR_STATE_CHANGE

/-- TSC time: the counter, and the XTM time since it stopped (R102). -/
def tscTime (w : W) : Nat := w.tsc.toNat + (if w.pwr.pllSys then 0 else w.pwr.xtmElapsed)

/-- PLL_SYS starts: the TSC takes its stop value plus the elapsed XTM time (R102). -/
def startPllSys (w : W) : W :=
  if w.pwr.pllSys then w
  else { w with tsc := w.tsc + BitVec.ofNat 64 w.pwr.xtmElapsed, pwr.pllSys := true, pwr.xtmElapsed := 0 }

/-- PLL_SYS stops: the TSC stops (R102). -/
def stopPllSys (w : W) : W := { w with pwr.pllSys := false, pwr.xtmElapsed := 0 }

/-- A faulted buck feeds the domain (R96, R99): VCORE and VSRAM logic and memories of PD2 to PD9, VSDS the SerDes of
PD9, VAFE the analogue front end of PD2. -/
def buckFaulted (w : W) (d : Nat) : Bool :=
  let f := w.rdF R.PWR_REG_STAT 4 4
  (d ≥ 2 && f.testBit 0) || ((d = 4 || d = 5 || d = 6) && f.testBit 1) || (d = 9 && f.testBit 2)
    || (d = 2 && f.testBit 3)

/-- An entry in progress is aborted by a wake source or a Gust demand (R109). -/
def abortEntry (w : W) : W :=
  if w.rdF R.PWR_STATE_REQ 0 2 = 0 ∧ w.pwr.lullEntry = false then w
  else
    let w := { w.wr R.PWR_STATE_REQ 0 with pwr.lullEntry := false }
    (w.incSat R.PWR_ENTRY_ABORT).occur E.PWR_ENTRY_ABORT

/-- A domain is demanded (R111): refused in early warning (R126), after a buck fault or XTM failure; else the domain is
in transition until GUST_COMPLETE, and a device in Lull goes to Run. -/
def demand (w : W) (d : Nat) : W :=
  if (w.dom d = 1 ∧ (d ≠ 5 ∨ w.pwr.slvArray = true)) ∨ w.dom d = 3 ∨ w.ew = true ∨ w.pwr.xtmFail = true
      ∨ w.buckFaulted d = true then w
  else
    let w := w.abortEntry
    let w := (w.setPstate 0).startPllSys
    let w := if d = 5 then { w with pwr.pd5Kept := w.dom 5 != 0 } else w
    (w.setDom d 3).wrB R.PWR_STATE 3 true

/-- A wake source wakes the device (R106, R108): from Lull to Run with PD9 for 100 ms; from Deep Lull through Lull,
which starts PD2 and PD3; an entry in progress is aborted (R109). DESIGN CHOICE (log 43): a source that only aborts an entry,
the device still being in Run, wakes nothing, so the 100 ms of PD9 do not start. -/
def wake (w : W) : W :=
  let w := w.abortEntry
  if w.pstate = 0 ∨ w.pwr.held = true ∨ w.pwr.xtmFail = true then w
  else
    let w := if !w.qspiSel && w.rdB R.HIF_CFG 1 && !w.linkUp then { w with hif.peWakeLow := true } else w
    let deep := w.pstate = 2
    let w := if deep then
        (if w.buckFaulted 2 then w else w.setDom 2 3) |> fun w =>
        (if w.buckFaulted 3 then w else w.setDom 3 3) |> fun w => (w.wrB R.PWR_STATE 3 true).setPstate 1
      else w
    let w := (w.setPstate 0).startPllSys
    ({ w with pwr.wakeHold := true }).demand 9

/-- A free number of `n` bits: nothing constrains it (log entry 4). -/
def fresh (w : W) (n : Nat) : W × Nat :=
  ({ w with freeCtr := w.freeCtr + 1 }, Config.freeNat w.freeCtr % 2 ^ n)

/-- `n` free bytes. -/
def freshBytes : (n : Nat) → W → W × List Byte
  | 0, w => (w, [])
  | n + 1, w =>
    let (w, b) := w.fresh 8
    let (w, bs) := freshBytes n w
    (w, BitVec.ofNat 8 b :: bs)

/-- RTC seconds modulo 2^32 (R754). -/
def rtcSec (w : W) : Word := w.rd R.RTC_EPOCH_S

/-- Does an occurrence of a local event wake the device: it is enabled, and PWR.WAKE_MASK selects it (R108)? -/
def wakes (w : W) (e : Nat × Nat) : Bool :=
  match globalEvent e.1 e.2 with
  | some n => w.rdB (R.H_EVT_EN e.1) e.2 && w.rdB (R.PWR_WAKE_MASK (n / 32)) (n % 32)
  | none => false

/-- Between two states the recorder has lost its first trigger, and its LOST event is a wake source (R108, R781). -/
def lostWakes (w0 w : W) : Bool := w0.recd.lostSince == 0 && w.recd.lostSince != 0 && w.wakes E.REC_LOST

/-- One occurrence of a local event, with the wake of R108; the LOST event of a recorder that loses its first trigger to it
wakes in the same way. -/
def raise (w : W) (e : Nat × Nat) : W :=
  let w0 := w
  let w := w.occur e
  if w0.wakes e || lostWakes w0 w then w.wake else w

/-- The device enters Lull (1) or Deep Lull (2); STATE_CHANGE, and a LOST that it causes, are occurrences like any other and may
wake it again (R108, R136). -/
def sleep (w : W) (v : Nat) : W :=
  let w0 := w
  let w := w.setPstate v
  if w.pstate = v ∧ (w.wakes E.PWR_STATE_CHANGE || lostWakes w0 w) = true then w.wake else w

/-- A command of a block that is not held in reset (R114). -/
def live (w : W) (f : W → W) : W := if w.pwr.held then w else f w

/-- A command of a block that runs only while its domain is on. -/
def onIf (w : W) (d : Nat) (f : W → W) : W := if w.dom d = 1 then f w else w

/-- An access to a domain in retention wakes its memories and registers; the solver array stays off (R21). It restarts
the hold-off of R112, and, as a Gust trigger, puts a device in Lull into Run. -/
def retWake (w : W) (d : Nat) : W :=
  if d ≠ 5 then w
  else
    let w := { w with pwr.holdoff := true }
    if w.dom 5 = 2 then (((w.setDom 5 1).abortEntry).setPstate 0).startPllSys else w

/-- An event raised when a condition holds. -/
def raiseIf (w : W) (c : Bool) (e : Nat × Nat) : W := if c then w.raise e else w

/-- The level of a local event line: a rising edge of an enabled line is one occurrence (R64). -/
def line (w : W) (e : Nat × Nat) (lvl : Bool) : W :=
  let was := w.rdB (R.H_EVT_RAW e.1) e.2
  let w := w.wrB (R.H_EVT_RAW e.1) e.2 lvl
  if lvl && !was then w.raise e else w

end W

end Sys2Proof.Machine
end

