-- ==== Sys2Proof/Machine/Reset.lean ====
section
/-!
DEFINITION. The resets of PD1 to PD9 (R114 to R117), of one domain that is switched off (R115), and of one block by
SRST (R60): what each returns to its reset value and what stays; the partition directory at a reset (R174).
-/
namespace Sys2Proof.Machine

/-- Are two sector ranges disjoint? -/
def partsApart (a b : Word) : Bool :=
  let (p, n) := (fld a 0 16, fld a 16 16)
  let (q, k) := (fld b 0 16, fld b 16 16)
  n == 0 || k == 0 || decide (p + n ≤ q ∨ q + k ≤ p)

/-- A partition table that R174 accepts. -/
def partsOk (t : List Word) : Bool :=
  decide (t.length = 8) && t.all (fun x => decide (fld x 0 16 + fld x 16 16 ≤ 4096)) &&
    decide (t.Pairwise fun a b => partsApart a b = true) && decide (17 ≤ fld (t.getD 7 0) 16 16)

namespace W

/-- The reset values of PART0 to PART7 (R173). -/
def partReset : List Word := ({} : AgeSt).part


/-- Registers that count "since power-on" (R138, R172) and RST_CAUSE (R116) keep their values through every reset of
PD1 to PD9 but a power-on reset. -/
def keptRegs : List Nat :=
  [R.SYS_RST_CAUSE, R.PWR_EW_COUNT, R.PWR_ENTRY_ABORT, R.NVM_ECC_CE, R.NVM_ECC_UE]

/-- Is the BAR0 offset in a page of PD0, is it the stored epoch, which lies in backup SRAM (R679), or is its register
kept by the reset? -/
def keptOff (por : Bool) (off : Nat) : Bool :=
  pageDomain (off / 0x1000) == some 0 || off == R.RED_EPOCH || (!por && keptRegs.contains off)

/-- The reset of PD1 to PD9 by a cause, the bit of RST_CAUSE (R114 to R116): every register and all state of PD1 to
PD9 at reset values, the memories of PD4 to PD6 lost; PD0, MRAM and OTP stay, and the write counters restart from the
last flush (R157). The corrected errors of the last two days are kept as the counts since power-on are (log 44). DESIGN CHOICE
(log 44): with no planner run since, the 86,400 s of R146 count from TSC 0, and the growth of deg_max in R161 from 0. -/
def resetAll (w : W) (cause : Nat) : W :=
  let por := cause == 0
  let d : Dev := {
    regs := w.regs.filter fun e => keptOff por e.1,
    rtc := w.rtc, tmp := w.tmp, freeCtr := w.freeCtr,
    age := { log := w.age.log, dir := w.age.dir, part := w.age.part, partBad := w.age.partBad, wcnt := w.age.log.wcnt, ueWords := w.age.ueWords,
             sramCe := if por then [] else w.age.sramCe.map (· - w.tscTime),
             mramCe := if por then [] else w.age.mramCe.map fun e => (e.1, e.2 - w.tscTime) },
    key := { lc := w.key.lc, ownerHash := w.key.ownerHash, otpDead := w.key.otpDead },
    scan := { bootBank := w.scan.bootBank },
    jtag := if por then {} else w.jtag }
  let w1 : W := { d with wq := .clear 0 systemEnd :: w.wq }
  let w1 := { w1 with pwr.below1V := w.pwr.below1V, hif.perstN := w.hif.perstN }
  (w1.wr R.SYS_RST_CAUSE (if por then 1 else w.rd R.SYS_RST_CAUSE)).wrB R.SYS_RST_CAUSE cause true

/-- At a reset of PD1 the directory's table is put in force, or the reset values in place of a refused one (R174); a refusal
stands until start-up sets CFG_ERR for it. -/
def partReload (w : W) : W :=
  let (t, bad) := match w.age.dir with
    | none => (partReset, false)
    | some t => if partsOk t then (t, false) else (partReset, true)
  let w := { w with age.part := t, age.partBad := bad || w.age.partBad, age.dir := w.age.dir.map fun _ => t }
  (t.zipIdx).foldl (fun w e => w.wr (R.NVM_PART e.2) e.1) w

/-- PWR_ON is driven low: the device is in Off (R766). -/
def inOff (w : W) : Bool := w.rdB R.BKP_STAT 1

/-- A wake source of Off releases PWR_ON; start-up follows as after a power-on reset (R768). -/
def offWake (w : W) (cause : Nat) : W :=
  (((w.wrB R.BKP_STAT 1 false).wrN R.BKP_WAKE_CAUSE cause).resetAll 0).partReload

end W

end Sys2Proof.Machine
end

