-- ==== Sys2Proof/Machine/Rtc.lean ====
section
/-!
DEFINITION. The calendar clock and the backup domain, PD0 (chapter 17): supply switch and brown-out latch, backup
registers and their CRC, the clock, its shadow, its setting, its oscillator, and the two alarms.
-/
namespace Sys2Proof.Machine

namespace W

/-! ## Recorder records that other blocks write -/

/-- An internal record claims a place of the recorder's queue (R775, R780). -/
def recInternal (w : W) (kind : Nat) (payload : List Word) : W :=
  if w.pwr.held then w
  else
    let (w, first) := w.recClaim ⟨kind, 3, payload, none⟩
    w.raiseIf first E.REC_LOST

/-! ## Supply switch (R744 to R749) -/

/-- The switch selects VBAT; the first switch since SWO was cleared records its instant (R744, R748). -/
def switchToVbat (sub : Nat) (w : W) : W :=
  if w.rdB R.BKP_STAT 0 then w
  else
    let w := (w.wrB R.BKP_STAT 0 true).wrN R.RTC_SUBSEC (sub % 2 ^ 15)
    let w := if w.rdB R.BKP_FLAGS 2 then w
      else ((w.wrB R.BKP_FLAGS 2 true).wr R.BKP_SWO_TIME w.rtcSec).wrN R.BKP_SWO_SUB (sub % 2 ^ 15)
    (w.incSat R.BKP_SWO_CNT).raise E.BKP_SWO

/-- The switch selects VIN again (R744). -/
def switchToVin (w : W) : W :=
  if w.rdB R.BKP_STAT 0 then ({ w.wrB R.BKP_STAT 0 false with rtc.vselLow := false }).raise E.BKP_SWO_END else w

/-- The HKE measures VBAT while VIN is selected (R749). -/
def measureVbat (mv : Nat) (w : W) : W :=
  if w.rdB R.BKP_STAT 0 || w.pwr.held then w
  else
    let w := w.wrN R.BKP_VBAT (mv % 2 ^ 16)
    if mv % 2 ^ 16 < w.rdF R.BKP_VBAT_LOW_TH 0 16 then (w.wrB R.BKP_FLAGS 3 true).raise E.BKP_VBAT_LOW else w

/-! ## Backup registers (R751, R752) -/

/-- The bytes that BCRC covers, backup SRAM 0x080 to 0x17F: the system area and GPR0 to GPR31 (R751). -/
def bkpCovered (w : W) : List Byte :=
  (List.range 128).map (Config.bkpSystemByte (w.rdF R.RED_EPOCH 0 12)) ++
    (List.range 32).flatMap fun i => toLe 4 (w.rdN (R.BKP_GPR i))

/-- BCRC brought up to date after a write to a covered byte (R752). -/
def bkpUpdateCrc (w : W) : W := w.wrN R.BKP_BCRC (crc32c w.bkpCovered)

/-- The backup registers fail their CRC: the stored epoch is 0 until the next write (R679). -/
def loseEpoch (w : W) : W := (w.wr R.RED_EPOCH 0).wrB R.RED_STAT 8 true

/-- The CRC of the backup registers is checked (R752). -/
def bkpCheckCrc (w : W) : W :=
  if crc32c w.bkpCovered = w.rdN R.BKP_BCRC then w
  else (w.loseEpoch.wrB R.BKP_FLAGS 1 true).raise E.BKP_BKP_CRC

/-! ## The clock (R753, R754) -/

/-- The calendar fields of the present time. -/
def now (w : W) : Civil := civil (w.rd64 R.RTC_EPOCH_S)

/-- TINV: the RTC time is invalid (R761). -/
def tinv (w : W) : Bool := w.rdB R.RTC_STAT 0

/-- RTC seconds as SYSV and RTC_READ give them: all ones while TINV is 1 (R761). -/
def rtcValid (w : W) : Word := if w.tinv then 0xFFFFFFFF#32 else w.rtcSec

/-! ## Alarms (R762 to R765) -/

/-- The match fields of alarm n; a mask bit of 1 ignores its field (R762). -/
def alarmMatch (w : W) (n : Nat) : AlarmMatch :=
  let a := R.RTC_ALMn_MATCH n
  let b := R.RTC_ALMn_MATCH2 n
  let f (m off lo k : Nat) : Option Nat := if w.rdB b (16 + m) then none else some (w.rdF off lo k)
  ⟨f 0 a 0 6, f 1 a 8 6, f 2 a 16 5, f 3 a 24 5, f 4 b 0 4, f 5 b 8 3⟩

/-- Every unmasked field lies in its range (R762). -/
def alarmInRange (a : AlarmMatch) : Bool :=
  let ok (f : Option Nat) (lo hi : Nat) : Bool := match f with | none => true | some x => decide (lo ≤ x ∧ x ≤ hi)
  ok a.sec 0 59 && ok a.min 0 59 && ok a.hour 0 23 && ok a.day 1 31 && ok a.month 1 12 && ok a.wday 1 7

/-- NEXT of alarm n recomputed from a time (R763). -/
def alarmNext (w : W) (n t : Nat) : W :=
  match nextOccurrence (w.alarmMatch n) t with
  | some x => (w.wr64 (R.RTC_ALMn_NEXT n) x).wrB (R.RTC_ALMn_STAT n) 3 false
  | none => (w.wr64 (R.RTC_ALMn_NEXT n) (2 ^ 64 - 1)).wrB (R.RTC_ALMn_STAT n) 3 true

/-- Alarm n fires (R764); with PWRON set it is a wake source of Off (R765). -/
def alarmFire (n : Nat) (w : W) : W :=
  let w := (w.wrB (R.RTC_ALMn_STAT n) 0 true).inc (R.RTC_ALMn_CNT n)
  let w := w.raise (if n = 0 then E.RTC_ALM0 else E.RTC_ALM1)
  if w.inOff && w.rdB (R.RTC_ALMn_CFG n) 2 then w.offWake (2 + n) else w

/-- One alarm at a second tick: it fires when EPOCH_S enters its NEXT while TINV is 0 (R764). -/
def alarmTick (n : Nat) (w : W) : W :=
  let t := w.rd64 R.RTC_EPOCH_S
  if w.rdB (R.RTC_ALMn_CFG n) 0 && !w.tinv && t == w.rd64 (R.RTC_ALMn_NEXT n) then (w.alarmFire n).alarmNext n t
  else w

/-- One alarm at a commit to time `t` (R764). -/
def alarmCommit (n t : Nat) (w : W) : W :=
  if w.rdB (R.RTC_ALMn_CFG n) 0 then
    let w := if w.rd64 (R.RTC_ALMn_NEXT n) ≤ t then
        if w.rdB (R.RTC_ALMn_CFG n) 1 then (w.wrB (R.RTC_ALMn_STAT n) 1 true).alarmFire n
        else (w.wrB (R.RTC_ALMn_STAT n) 2 true).raise E.RTC_ALM_SKIPPED
      else w
    w.alarmNext n t
  else w

/-! ## Second tick and setting (R753, R757 to R759) -/

/-- XT32 has run on to sub-second `sub` of the present second by the time of an access (R753, R756). -/
def subAt (w : W) (sub : Nat) : W := if w.rdB R.RTC_STAT 1 then w.wrF R.RTC_SUBSEC 0 15 sub else w

/-- SUBSEC wraps: the calendar advances one second, from its last second back to its first with TINV set (R753, R754);
alarms due fire, SECOND is raised while TINV is 0 (R770). Nothing happens while XT32 is stopped (R760), and a tick due
at the edge at which a commit takes effect is discarded (R757). -/
def rtcSecond (w : W) : W :=
  if !w.rdB R.RTC_STAT 1 || w.rtc.commit.isSome then w
  else
    let t := w.rd64 R.RTC_EPOCH_S
    let w := w.wr R.RTC_SUBSEC 0
    let w := if t = rtcLast then (w.wr64 R.RTC_EPOCH_S 0).wrB R.RTC_STAT 0 true else w.wr64 R.RTC_EPOCH_S (t + 1)
    let w := w.raiseIf (!w.tinv) E.RTC_SECOND
    (w.alarmTick 0).alarmTick 1

/-- The time that a write of SEC commits: written fields from the set buffer, the others their present values (R757). -/
def bufTime (w : W) (sec : Nat) : Option Nat :=
  let c := w.now
  let b := w.rtc.buf
  let y := b.year.getD c.year
  let mo := b.month.getD c.month
  let d := b.day.getD c.day
  let h := b.hour.getD c.hour
  let mi := b.min.getD c.min
  if sec ≤ 59 ∧ mi ≤ 59 ∧ h ≤ 23 ∧ 1 ≤ mo ∧ mo ≤ 12 ∧ 2000 ≤ y ∧ y ≤ 2199 ∧ 1 ≤ d ∧ d ≤ monthDays y mo then
    some (epochOf y mo d h mi sec)
  else none

/-- The code of a commit: ERR_STATE while XT32 does not run, ERR_RANGE for a time that is none (R758). -/
def commitCode (w : W) (t : Option Nat) : Nat :=
  if !w.rdB R.RTC_STAT 1 then eState
  else match t with
    | none => eRange
    | some x => if x ≤ rtcLast then 0 else eRange

/-- An accepted commit waits for the next XT32 edge and releases the shadow (R756, R757). -/
def commitAccept (w : W) (t : Nat) : W := { w with rtc.commit := some t, rtc.shadow := none }

/-- The commit takes effect at the next XT32 edge (R757, R759). -/
def commitApply (w : W) : W :=
  match w.rtc.commit with
  | none => w
  | some t =>
    let old := w.rtcSec
    let w := { w with rtc.commit := none, rtc.buf := {}, rtc.shadow := none }
    let w := ((w.wr64 R.RTC_EPOCH_S t).wr R.RTC_SUBSEC 0).wrB R.RTC_STAT 0 false
    let w := ((w.wr R.RTC_LAST_SET_OLD old).wrN R.RTC_LAST_SET_NEW t).inc R.RTC_SET_CNT
    let w := ((w.alarmCommit 0 t).alarmCommit 1 t).raise E.RTC_TIME_SET
    w.recInternal 253 [w.rd R.RTC_LAST_SET_OLD, w.rd R.RTC_LAST_SET_NEW]

/-! ## Oscillator and calibration (R755, R760) -/

/-- No XT32 edge for 250 µs (R760); the calibration window in progress ends (R755). -/
def xt32Stop (w : W) : W :=
  if w.rdB R.RTC_STAT 1 then
    (((w.wrB R.RTC_STAT 1 false).wrB R.RTC_STAT 0 true).wrB R.RTC_FLAGS 0 true).raise E.RTC_OSF
  else w

/-- A calibration window starts with the CAL value held at that edge (R755). -/
def calWindow (w : W) : W := { w with rtc.calInForce := w.rd R.RTC_CAL }

/-- XT32 edges resume (R760): the clock counts again and a new calibration window starts (R755). -/
def xt32Restart (w : W) : W := if w.rdB R.RTC_STAT 1 then w else (w.wrB R.RTC_STAT 1 true).calWindow

/-! ## The shadow (R756) -/

/-- Freeze the shadow when none is held (R756). -/
def freezeShadow (w : W) : W :=
  match w.rtc.shadow with
  | some _ => w
  | none => { w with rtc.shadow := some ⟨w.rdN R.RTC_SUBSEC, w.rd64 R.RTC_EPOCH_S⟩ }

/-- A shadow not released within 66 XT32 cycles (R756). -/
def shadowTimeout (w : W) : W :=
  match w.rtc.shadow with
  | some _ => ({ w with rtc.shadow := none }).wrB R.RTC_FLAGS 1 true
  | none => w

/-- A time register's value at a time (R753, R771): page offset 0x048 to 0x06C. -/
def timeField (sub t o : Nat) : Nat :=
  let c := civil t
  if o = 0x048 then sub else if o = 0x04C then c.sec else if o = 0x050 then c.min else if o = 0x054 then c.hour
  else if o = 0x058 then c.day else if o = 0x05C then c.month else if o = 0x060 then c.year
  else if o = 0x064 then c.wday else if o = 0x068 then t else t / 2 ^ 32

/-- Is the page offset one of the ten time registers of R756? -/
def isTimeReg (o : Nat) : Bool := decide (0x048 ≤ o ∧ o ≤ 0x06C)

/-- A host read of a time register: through the shadow, which a read of YEAR releases (R756). -/
def readTime (w : W) (o : Nat) : W × Word :=
  let w := w.freezeShadow
  match w.rtc.shadow with
  | some s =>
    let v := BitVec.ofNat 32 (timeField s.sub s.epoch o)
    (if o = 0x060 then { w with rtc.shadow := none } else w, v)
  | none => (w, 0)

/-! ## Writes of the RTC and BKP pages -/

/-- The code of a write to an RTC register (R758, R760, R762, R771). -/
def rtcCheck (w : W) (o : Nat) (v : Word) : Nat :=
  if o = 0x04C then w.commitCode (w.bufTime (fld v 0 6))
  else if o = 0x044 then (if bit v 0 && !w.rdB R.RTC_STAT 1 then eState else 0)
  else if o = 0x078 then (let c := sgn 14 v.toNat; if c < -4295 ∨ 4295 < c then eRange else 0)
  else if o = 0x0C0 then (if bit v 0 && !alarmInRange (w.alarmMatch 0) then eRange else 0)
  else if o = 0x0E0 then (if bit v 0 && !alarmInRange (w.alarmMatch 1) then eRange else 0)
  else 0

/-- The effect of an accepted write to an RTC register that is more than a store; `none` for a plain one. -/
def rtcWrite (w : W) (o : Nat) (v : Word) : Option W :=
  if o = 0x04C then (w.bufTime (fld v 0 6)).map w.commitAccept
  else if o = 0x050 then some { w with rtc.buf.min := some (fld v 0 6) }
  else if o = 0x054 then some { w with rtc.buf.hour := some (fld v 0 5) }
  else if o = 0x058 then some { w with rtc.buf.day := some (fld v 0 5) }
  else if o = 0x05C then some { w with rtc.buf.month := some (fld v 0 4) }
  else if o = 0x060 then some { w with rtc.buf.year := some (fld v 0 12) }
  else if o = 0x0C0 ∨ o = 0x0E0 then
    let n := if o = 0x0C0 then 0 else 1
    let w := w.wrF (R.RTC_ALMn_CFG n) 0 3 v.toNat
    some (if bit v 0 then w.alarmNext n (w.rd64 R.RTC_EPOCH_S) else w)
  else none

/-- The SET_S pair commits a time in seconds (R757, R758). -/
def rtcSetS (w : W) (t : Nat) : W × Nat :=
  let c := w.commitCode (some t)
  if c = 0 then (w.commitAccept t, 0) else (w, c)

/-- The code of a write to a BKP register (R772). -/
def bkpCheck (_ : W) (o : Nat) (v : Word) : Nat :=
  if o = 0x058 then (if 2000 ≤ fld v 0 16 ∧ fld v 0 16 ≤ 3300 then 0 else eRange) else 0

/-- The effect of an accepted write to a BKP register that is more than a store (R745, R748, R752). -/
def bkpWrite (w : W) (o : Nat) (v : Word) : Option W :=
  if o = 0x044 then
    let w := if bit v 0 && !w.rtc.vselLow then w.wrB R.BKP_FLAGS 0 false else w
    let w := if bit v 1 then w.wrB R.BKP_FLAGS 1 false else w
    let w := if bit v 2 then ((w.wrB R.BKP_FLAGS 2 false).wr R.BKP_SWO_TIME 0).wr R.BKP_SWO_SUB 0 else w
    some (if bit v 3 then w.wrB R.BKP_FLAGS 3 false else w)
  else if o = 0x064 then some (if bit v 0 then w.bkpCheckCrc else w)
  else if 0x100 ≤ o ∧ o < 0x180 then some ((w.wr (R.BKP_GPR ((o - 0x100) / 4)) v).bkpUpdateCrc)
  else none

end W

end Sys2Proof.Machine
end

