-- ==== Sys2Proof/Machine/Ageing.lean ====
section
/-!
DEFINITION. The embedded MRAM with its partitions, its wear and its errors, and the ageing monitors and margin planner
(chapter 04).
-/
namespace Sys2Proof.Machine

/-- 86,400 s of TSC counts. -/
abbrev dayTsc : Nat := 8640000000000

/-- The counts of a list of numbers. -/
def sumN (l : List Nat) : Nat := l.foldl (· + ·) 0

/-- R164: days until `limit` on the least-squares line through the values, oldest first. DESIGN CHOICE (log 44): a single run,
through which no line is determined, gives 65,535 days. -/
def lifeDays (ys : List Nat) (limit : Nat) : Nat :=
  let n : Int := ys.length
  let p : Int := ys.getLast?.getD 0
  let xy := (ys.zipIdx.map fun e => (e.1 : Int) * e.2).sum
  let sx : Int := n * (n - 1) / 2
  let sy : Int := (ys.map Int.ofNat).sum
  let sxx := (ys.zipIdx.map fun e => (e.2 : Int) * e.2).sum
  let a := n * xy - sx * sy
  let b := n * sxx - sx * sx
  if a ≤ 0 ∨ b ≤ 0 then 65535
  else
    let q := ((limit : Int) - p) * b
    (clampI 0 65535 (rounded 164 q a)).toNat

namespace W

/-! ## Partitions (R173, R174) -/

/-- Base and size in bytes of partition i of the table in force, as BAR4 offsets. -/
def partBase (w : W) (i : Nat) : Nat := 4096 * fld (w.age.part.getD i 0) 0 16
def partSize (w : W) (i : Nat) : Nat := 4096 * fld (w.age.part.getD i 0) 16 16

/-- A BAR4 offset lies in partition i. -/
def inPart (w : W) (i off : Nat) : Bool := decide (w.partBase i ≤ off ∧ off < w.partBase i + w.partSize i)

/-- PART0 to PART7 as they stand in the registers. -/
def partRegs (w : W) : List Word := (List.range 8).map fun i => w.rd (R.NVM_PART i)

/-- An accepted write of a PART register goes to the directory; PEND shows a difference from the table in force
(R174). -/
def partWrite (w : W) (i : Nat) (v : Word) : W :=
  let w := w.wr (R.NVM_PART i) v
  ({ w with age.dir := some w.partRegs }).wrB R.NVM_PART_STAT 0 (w.partRegs != w.age.part)

/-! ## MRAM accesses (R154, R156, R158) -/

/-- The spare sectors follow the 16 sectors of the ageing log (R152). -/
def spareTotal (w : W) : Nat := w.partSize 7 / 4096 - 16
def spareUsed (w : W) : Nat := w.age.log.remap.length

/-- The array offset that a BAR4 offset reaches through the remap table (R154). -/
def phys (w : W) (off : Nat) : Nat :=
  match w.age.log.remap.find? fun e => e.1 == off / 4096 with
  | some (_, k) => w.partBase 7 + 4096 * (16 + k) + off % 4096
  | none => off

/-- The byte at a BAR4 offset as a read returns it: zero in a word that stands uncorrectable (R156). -/
def mramByte (w : W) (m : Memory) (off : Nat) : Byte :=
  let p := w.phys off
  if w.age.ueWords.contains (p / 8 * 8) then 0 else w.byte m (mramBase + p)

/-- Bytes of MRAM at a BAR4 offset. -/
def mram (w : W) (m : Memory) (off n : Nat) : List Byte := (List.range n).map fun i => w.mramByte m (off + i)

/-- The little-endian number at a BAR4 offset. -/
def mramN (w : W) (m : Memory) (off n : Nat) : Nat := leNat (w.mram m off n)

/-- The write counter of a sector of the array. DESIGN CHOICE (log 44): WCNT_IDX names a sector of the array, so after a remap it
shows the counter of that sector's own cells and not of its spare's (R172). -/
def wcntOf (w : W) (s : Nat) : Nat := ((findReg w.age.wcnt s).getD 0).toNat

/-- A write of any size to a sector adds 1 to its counter (R158). -/
def wear (w : W) (s : Nat) : W :=
  { w with age.wcnt := setReg w.age.wcnt s (BitVec.ofNat 32 (satInc 32 (w.wcntOf s))) 0 }

/-- A write of `n` bytes at an array offset ends the uncorrectable words that it touches. -/
def ueWritten (w : W) (p n : Nat) : W :=
  if w.age.ueWords = [] then w
  else { w with age.ueWords := w.age.ueWords.filter fun u => decide (u + 8 ≤ p ∨ p + n ≤ u) }

/-- Bytes written into MRAM, sector by sector. -/
def mramPutN : (fuel : Nat) → W → (off : Nat) → List Byte → W
  | 0, w, _, _ => w
  | k + 1, w, off, d =>
    if d = [] then w
    else
      let n := 4096 - off % 4096
      let p := w.phys off
      mramPutN k (((w.putBytes (mramBase + p) (d.take n)).ueWritten p (min n d.length)).wear (p / 4096)) (off + n) (d.drop n)

/-- Bytes written into MRAM from a BAR4 offset up. -/
def mramPut (w : W) (off : Nat) (d : List Byte) : W := mramPutN (d.length / 4096 + 2) w off d

/-- `n` bytes of MRAM from a BAR4 offset up whose contents a cut-off write leaves undefined, sector by sector: each sector
counts as written (R158). -/
def mramUndef : (fuel : Nat) → W → (off n : Nat) → W
  | 0, w, _, _ => w
  | k + 1, w, off, n =>
    if n = 0 then w
    else
      let l := min n (4096 - off % 4096)
      let p := w.phys off
      mramUndef k (((w.undef (mramBase + p) l).ueWritten p l).wear (p / 4096)) (off + l) (n - l)

/-- Of a list of stamped errors, those of the `k`-th day back: 0 the last 24 hours, 1 the 24 hours before. -/
def dayCount (w : W) (k : Nat) (l : List Int) : Nat :=
  (l.filter fun (t : Int) => decide (t + k * dayTsc ≤ w.tscTime ∧ (w.tscTime : Int) < t + (k + 1) * dayTsc)).length

/-- A stamped error is still within the last two days. -/
def recent (w : W) (t : Int) : Bool := decide ((w.tscTime : Int) < t + 2 * dayTsc)

/-- A corrected error at a BAR4 offset (R140, R153). -/
def mramCorrected (w : W) (off : Nat) : W :=
  ({ w with age.mramCe := (w.phys off / 4096, (w.tscTime : Int)) :: w.age.mramCe.filter fun e => w.recent e.2 }).incSat R.NVM_ECC_CE

/-- An uncorrectable error at a BAR4 offset: the read returns zero (R156). -/
def mramLost (w : W) (off : Nat) : W :=
  let u := w.phys off / 8 * 8
  let w := { w with age.ueWords := if w.age.ueWords.contains u then w.age.ueWords else u :: w.age.ueWords }
  (((w.err 0x08 0x0901).wrN R.NVM_UE_ADDR (off / 8 * 8)).incSat R.NVM_ECC_UE).raise E.NVM_NVM_UE

/-- The BAR4 offset through which a word of the array is reached, if there is one (R154). -/
def bar4Of (w : W) (u : Nat) : Option Nat :=
  let o := match w.age.log.remap.find? fun e => w.partBase 7 + 4096 * (16 + e.2) == u / 4096 * 4096 with
    | some (s, _) => 4096 * s + u % 4096
    | none => u
  if w.phys o = u then some o else none

/-- The HKE reads `n` bytes of MRAM from a BAR4 offset up: each standing uncorrectable word there is found again. -/
def mramTouch (off n : Nat) (w : W) : W :=
  ((w.age.ueWords.filterMap w.bar4Of).filter fun o => decide (off < o + 8 ∧ o < off + n)).foldl (fun w o => w.mramLost o) w

/-- What the HKE's reads of MRAM in a command meet (R140): corrected words, which are counted, and words that are found
uncorrectable, at BAR4 offsets; `mramTouch` of the reads that meet them reports the latter. -/
def mramMeets (ces ues : List Nat) (w : W) : W :=
  let w := ces.foldl mramCorrected w
  { w with age.ueWords := ((ues.map fun o => w.phys o / 8 * 8) ++ w.age.ueWords).eraseDups }

/-! ## Sensors (R140 to R144) -/

/-- The domain of a ring-oscillator site (R141). -/
def siteDomain (s : Nat) : Nat := [1, 4, 5, 5, 6, 7, 8, 9].getD s 1

/-- deg_max and its site (R150). -/
def degMax (w : W) : Nat × Nat :=
  (List.range 8).foldl (fun b s =>
    let d := w.rdF (R.AGE_RO_DEG s) 0 24
    if b.1 < d then (d, s) else b) (0, 0)

/-- DEG_MAX shows deg_max and its site (R171). -/
def degSync (w : W) : W :=
  let (d, s) := w.degMax
  w.wrN R.AGE_DEG_MAX (d + 2 ^ 24 * s)

/-- A vetoed voltage or clock step with deg_max beyond the margin of the present settings by DEG_STEP or more (R169):
the settings reach up to deg_max (CODE + STEP − 19) × DEG_STEP. -/
def vetoExceeded (w : W) : Bool :=
  w.rdF R.AGE_VETO 0 2 != 0 &&
    decide ((w.rdF R.PWR_VCORE_SET 0 5 + w.rdF R.AGE_SLV_CLK 0 3 - 19 + 1) * w.rdN R.AGE_DEG_STEP ≤ w.degMax.1)

/-- LIFE takes a value; its DAYS falling below LIFE_WARN raises LIFE_LOW (R167). -/
def setLife (v : Nat) (w : W) : W :=
  let old := w.rdF R.AGE_LIFE 0 16
  let warn := w.rdN R.AGE_LIFE_WARN
  (w.wrN R.AGE_LIFE v).raiseIf (decide (v % 2 ^ 16 < warn ∧ warn ≤ old)) E.AGE_LIFE_LOW

/-- R169 after a change of deg_max, of the settings or of the veto. -/
def vetoCheck (w : W) : W :=
  if w.vetoExceeded then ({ w with age.lifeFault := true }).setLife (w.rdN R.AGE_LIFE / 2 ^ 16 * 2 ^ 16)
  else { w with age.lifeFault := false }

/-- An hourly measurement of site s (R142): oscillator counts of the stressed and the reference oscillator. DESIGN CHOICE
(log 44): with a reference count or a factory ratio of 0, for which the formula has no value, the result is a free value. -/
def roSample (s nStressed nReference : Nat) (w : W) : W :=
  if w.dom (siteDomain s) ≠ 1 ∧ siteDomain s ≠ 1 then w
  else
    let t := w.tscTime
    let k := Config.otpK s
    let den : Int := nReference * k
    let num : Int := 1000000 * den - nStressed * 1000000000000
    let deg := if den = 0 then Config.noDegradation s nStressed nReference % 2 ^ 24 else (clampI 0 0xFFFFFF (rounded 142 num den)).toNat
    let hist := ((t, deg) :: w.age.ro.getD s []).filter fun e => decide (t < e.1 + dayTsc)
    let sum := sumN (hist.map (·.2))
    let n := hist.length
    let mean := (clampI 0 0xFFFFFF (rounded 143 sum n)).toNat
    let w := { w with age.ro := w.age.ro.setIfInBounds s hist }
    ((w.wrF (R.AGE_RO_DEG s) 0 24 mean).degSync).vetoCheck

/-- The hourly comparison of XTM with XT32, in 0.1 ppm (R144). -/
def xtalMeasure (dev : Int) (w : W) : W :=
  (w.wrN R.AGE_XTAL (uns 16 dev)).raiseIf (decide (500 ≤ dev.natAbs)) E.AGE_HEALTH

/-- Episodes of buck b in the last day, saturating at 255 (R171). -/
def episodeCount (w : W) (b : Nat) : Nat :=
  min 255 ((w.age.episodes.filter fun e => e.1 == b && decide (w.tscTime < e.2 + dayTsc)).length)

/-- A buck enters a current-limit episode (R140); each from the sixteenth in a day on raises HEALTH (R170). -/
def buckEpisode (b : Nat) (w : W) : W :=
  let t := w.tscTime
  let w := { w with age.episodes := (b, t) :: w.age.episodes.filter fun e => decide (t < e.2 + dayTsc) }
  let w := (List.range 4).foldl (fun w i => w.wrF R.AGE_REG_HEALTH (8 * i) 8 (w.episodeCount i)) w
  w.raiseIf (decide (16 ≤ w.episodeCount b)) E.AGE_HEALTH

/-! ## The ageing log (R152, R157) -/

/-- Sector i of the ageing log is written. -/
def logWear (w : W) (i : Nat) : W := w.wear (w.phys (w.partBase 7 + 4096 * i) / 4096)

/-- CODE, STEP, the remap table or the trend is written to both copies of the ageing log. DESIGN CHOICE (log 44): the copies
are the first and the last eight sectors, and this data lies in the first sector of each. -/
def logWrite (w : W) : W := (w.logWear 0).logWear 8

/-- The write counters are flushed to one copy of the ageing log, in turn; the copy's eight sectors are written. -/
def wcntFlush (w : W) : W :=
  let b := w.age.log.copyB
  let w := (List.range 8).foldl (fun w i => w.logWear ((if b then 8 else 0) + i)) w
  { w with age.log.wcnt := w.age.wcnt, age.log.copyB := !b }

/-! ## The planner run (R145 to R150, R161, R164 to R168) -/

/-- The canary test of the domains that are on; the last value of the others stands (R140, R143). -/
def canaryTest (w : W) (c : Canary) : W :=
  let set (w : W) (d lo x : Nat) : W := if w.dom d = 1 then w.wrF R.AGE_CANARY lo 8 x else w
  let w := set (set (set w 4 0 c.sys) 5 8 c.slv) 6 16 c.msg
  if w.dom 4 = 1 ∨ w.dom 5 = 1 ∨ w.dom 6 = 1 then w.wrF R.AGE_CANARY 24 3 c.margin else w

/-- A vetoed action: its PENDING bit, and the VETOED event at the run's end (R168). -/
def vetoed (w : W) (i : Nat) : Bool := w.rdB R.AGE_VETO i

/-- Step 3, the normative code of R150; answers also whether it acted and whether a veto withheld it. -/
def planVoltage (w : W) : W × Bool × Bool :=
  let w := w.degSync
  let deg := w.degMax.1
  let want := 20 + deg / w.rdN R.AGE_DEG_STEP
  let (code, step) := if want ≤ 30 then (want, 0) else (30, min 6 (want - 30))
  let needC := decide (w.rdF R.PWR_VCORE_SET 0 5 < code)
  let needS := decide (w.rdF R.AGE_SLV_CLK 0 3 < step)
  let doC := needC && !w.vetoed 0
  let doS := needS && !w.vetoed 1
  let w := if doC then { w.wrF R.PWR_VCORE_SET 0 5 code with age.log.code := code } else w
  let w := if doS then { w.wrF R.AGE_SLV_CLK 0 3 step with age.log.step := step } else w
  let w := if doC || doS then w.logWrite else w
  let w := (w.wrB R.AGE_PENDING 0 (needC && !doC)).wrB R.AGE_PENDING 1 (needS && !doS)
  let w := if w.rdN R.AGE_DEG_FAIL ≤ deg then (w.raise E.AGE_LIFE_LOW).wrF R.AGE_LIFE 0 16 0 else w
  (w, doC || doS, (needC && !doC) || (needS && !doS))

/-- Sector s lies in the spare pool: its cells are judged through the sector that they stand for. -/
def isSpare (w : W) (s : Nat) : Bool := w.inPart 7 (4096 * s) && decide (w.partBase 7 / 4096 + 16 ≤ s)

/-- Sector s is due for remapping (R153). -/
def remapDue (w : W) (s : Nat) : Bool :=
  let p := w.phys (4096 * s) / 4096
  !w.isSpare s &&
    (decide (900000000 ≤ w.wcntOf p)
      || decide (8 ≤ w.dayCount 0 ((w.age.mramCe.filter fun e => e.1 == p).map (·.2)))
      || w.age.ueWords.any fun u => u / 4096 == p)

/-- Candidate sectors: those with a counter, a corrected or an uncorrectable error, and those remapped before. -/
def remapCandidates (w : W) : List Nat :=
  let l : List Nat := (w.age.wcnt.map Prod.fst) ++ (w.age.log.remap.map Prod.fst) ++ (w.age.mramCe.map Prod.fst)
    ++ (w.age.ueWords.map fun u => u / 4096)
  l.eraseDups.mergeSort

/-- NVM.SPARE shows the spares used and free (R172). DESIGN CHOICE (log 44): counts above 255 show modulo 256. -/
def spareSync (w : W) : W :=
  (w.wrF R.NVM_SPARE 0 8 w.spareUsed).wrF R.NVM_SPARE 8 8 (w.spareTotal - w.spareUsed)

/-- Step 4 (R153, R155, R159, R168): due sectors start their remaps while spares are free. -/
def planRemap (w : W) : W × Bool × Bool :=
  let due := w.remapCandidates.filter fun s => w.remapDue s && !w.age.remapQ.contains s
  let free := w.spareTotal - w.spareUsed - w.age.remapQ.length
  let would := if !w.ew && w.pwr.ckptImg.isNone then due.take free else []
  let veto := w.vetoed 2
  let take := if veto then [] else would
  let w := { w with age.remapQ := w.age.remapQ ++ take }
  let w := w.wrB R.AGE_PENDING 2 ((veto && due != []) || decide (free < due.length))
  (w.raiseIf (decide (free - take.length < 8)) E.AGE_SPARE_LOW, take != [], veto && would != [])

/-- Step 5 (R161): an interval is halved while its trigger holds, down to its floor. DESIGN CHOICE (log 44): before the first
halving since a reset deg_max has grown from 0. -/
def planRates (w : W) : W × Bool × Bool :=
  let s := w.rdF R.AGE_SCRUB 0 8
  let m := w.rdF R.AGE_SCRUB 8 8
  let t := w.rdF R.AGE_SCRUB 16 8
  let deg := w.degMax.1
  let twice (l : List Int) : Bool := decide (2 * w.dayCount 1 l ≤ w.dayCount 0 l)
  let hs := decide (4 < s) && (twice w.age.sramCe || decide (w.rdF R.AGE_CANARY 24 3 ≤ 3))
  let hm := decide (3 < m) && twice (w.age.mramCe.map (·.2))
  let ht := decide (3 < t) && decide (w.age.degHalved + w.rdN R.AGE_DEG_STEP ≤ deg)
  let need := hs || hm || ht
  let go := need && !w.vetoed 3
  let w := w.wrB R.AGE_PENDING 3 (need && !go)
  if go then
    let w := if hs then w.wrF R.AGE_SCRUB 0 8 (max 4 (s / 2)) else w
    let w := if hm then w.wrF R.AGE_SCRUB 8 8 (max 3 (m / 2)) else w
    (if ht then { w.wrF R.AGE_SCRUB 16 8 (max 3 (t / 2)) with age.degHalved := deg } else w, true, false)
  else (w, false, need)

/-- Step 6 (R164 to R167, R169). DESIGN CHOICE (log 44): of equal results the mechanism of the lowest SRC gave it; while deg_max is
at or above DEG_FAIL (R150), or R169 sets it, DAYS stays 0 and SRC names the mechanism of the smallest fitted result. -/
def planLife (w : W) : W :=
  let wmax := (w.age.wcnt.map fun e => e.2.toNat).max?.getD 0
  let now := (w.degMax.1, wmax, w.spareUsed, 7 - w.rdF R.AGE_CANARY 24 3)
  let trend := (now :: w.age.log.trend).take 90
  let runs := w.age.log.runs + 1
  let w := { w with age.log.trend := trend, age.log.runs := runs }.logWrite
  let ys := trend.reverse
  let d := [lifeDays (ys.map (·.1)) (w.rdN R.AGE_DEG_FAIL), lifeDays (ys.map (·.2.1)) 1000000000,
    lifeDays (ys.map (·.2.2.1)) w.spareTotal, lifeDays (ys.map (·.2.2.2)) 7]
  let best := d.min?.getD 65535
  let src := (d.findIdx fun x => x == best) + 1
  let days := if w.rdN R.AGE_DEG_FAIL ≤ w.degMax.1 ∨ w.vetoExceeded = true then 0 else best
  let w := { w with age.lifeFault := w.vetoExceeded }
  w.setLife (days + 2 ^ 16 * src + 2 ^ 31 * b2n (decide (30 ≤ runs)))

/-- A planner run (R147): its six steps in order, of which only the first `steps` take place when early warning stops it
(R149). -/
def plannerRun (c : Option Canary) (steps : Nat) (w : W) : W :=
  let w := { w with age.log.lastRtc := if w.tinv then none else some (w.rd64 R.RTC_EPOCH_S), age.lastTsc := w.tscTime,
                    age.ran := true, age.deferred := false }
  let w := match c with | some c => if 1 ≤ steps then w.canaryTest c else w | none => w
  let w := if 2 ≤ steps then w.wcntFlush else w
  let (w, a3, v3) := if 3 ≤ steps then w.planVoltage else (w, false, false)
  let (w, a4, v4) := if 4 ≤ steps then w.planRemap else (w, false, false)
  let (w, a5, v5) := if 5 ≤ steps then w.planRates else (w, false, false)
  let w := if 6 ≤ steps then w.planLife else w
  let w := (w.raiseIf (a3 || a4 || a5) E.AGE_ACTION).raiseIf (v3 || v4 || v5) E.AGE_VETOED
  if steps < 6 then w else (w.wr R.AGE_LAST_RUN w.rtcSec).raise E.AGE_PLAN_DONE

/-- Less than 20 hours have passed since the previous run (R145): by TSC time since a run after the last reset, else by the RTC
time in the ageing log. -/
def ranEarly (w : W) : Bool :=
  if w.age.ran then decide (w.tscTime < w.age.lastTsc + 7200000000000)
  else match w.age.log.lastRtc with | some l => decide (w.rd64 R.RTC_EPOCH_S < l + 72000) | none => false

/-- The scheduled run (R145), once in a calendar day: skipped less than 20 h after the previous run or when an RTC set
brought it about; deferred in Deep Lull (R148). -/
def plannerScheduled (c : Canary) (steps : Nat) (bySet : Bool) (w : W) : W :=
  let t := w.rd64 R.RTC_EPOCH_S
  if w.tinv || decide (t % 86400 < w.rdN R.AGE_RUN_TIME) || w.ranEarly || bySet || w.age.log.schedDay == some (t / 86400)
      || w.pwr.held then w
  else
    let w := { w with age.log.schedDay := some (t / 86400) }
    if w.pstate = 2 then { w with age.deferred := true } else w.plannerRun (some c) steps

/-- The run by TSC while the RTC time is invalid (R146, R148). -/
def plannerTsc (c : Canary) (steps : Nat) (w : W) : W :=
  if !w.tinv || decide (w.tscTime < w.age.lastTsc + dayTsc) || w.pwr.held then w
  else if w.pstate = 2 then { w with age.deferred := true }
  else w.plannerRun (some c) steps

/-- The deferred run takes place at the wake (R148); the canary rows' domains are still off. -/
def plannerDeferred (w : W) : W :=
  if w.age.deferred && w.pstate != 2 then w.plannerRun none 6 else w

/-- A started remap commits (R154): the sector is copied to the lowest free spare and redirected. The read of the copy meets
corrected words and words now uncorrectable at BAR4 offsets (R140, R156). -/
def remapComplete (ces ues : List Nat) (m : Memory) (w : W) : W :=
  match w.age.remapQ with
  | [] => w
  | s :: rest =>
    if w.spareTotal ≤ w.spareUsed then { w with age.remapQ := [] }
    else
      let own := fun (o : Nat) => decide (o / 4096 = s)
      let w := w.mramMeets (ces.filter own) (ues.filter own)
      let d := w.mram m (4096 * s) 4096
      let w := w.mramTouch (4096 * s) 4096
      let w := { w with age.log.remap := (s, w.spareUsed) :: w.age.log.remap, age.remapQ := rest }
      ((w.mramPut (4096 * s) d).logWrite).spareSync.raise E.NVM_NVM_REMAP

/-! ## Scrubbing (R161, R162) -/

/-- An MRAM scrub pass found corrected words and uncorrectable ones at BAR4 offsets; the corrected are rewritten. -/
def mramScrub (ces ues : List Nat) (w : W) : W :=
  let w := ces.foldl (fun w a => (w.mramCorrected a).wear (w.phys a / 4096)) w
  ues.foldl (fun w a => w.mramLost a) w

/-! ## Writes of the AGE and NVM pages -/

/-- The code of a write to an AGE register (R171). -/
def ageCheck (_ : W) (o : Nat) (v : Word) : Nat :=
  let x := v.toNat
  let within (lo hi : Nat) : Nat := if lo ≤ x ∧ x ≤ hi then 0 else eRange
  if o = 0x044 then within 0 86399
  else if o = 0x058 then within 1000 10000
  else if o = 0x05C then within 20000 100000
  else if o = 0x064 then within 1 65535
  else 0

/-- The effect of an accepted AGE write that is more than a store; a NOW run tests the canary rows `c`. -/
def ageWrite (w : W) (o : Nat) (v : Word) (c : Canary) (steps : Nat) : Option W :=
  if o = 0x040 then some (if bit v 0 then w.plannerRun (some c) steps else w)
  else if o = 0x048 then some ((w.wrN R.AGE_VETO (fld v 0 4)).vetoCheck)
  else if o = 0x058 then some ((w.wr R.AGE_DEG_STEP v).vetoCheck)
  else none

/-- The effect of an accepted NVM write that is more than a store. -/
def nvmWrite (w : W) (o : Nat) (v : Word) : Option W :=
  if 0x080 ≤ o ∧ o < 0x0A0 then some (w.partWrite ((o - 0x080) / 4) v) else none

end W

end Sys2Proof.Machine
end

