-- ==== Sys2Proof/Machine/Float.lean ====
section
/-!
DEFINITION. IEEE 754-2019 binary64 and binary32 arithmetic on bit patterns, round to nearest with ties to even (R288,
R493, R582 use it): operands are decoded exactly, computed exactly as a dyadic or rational number, and rounded once.
The payload of a NaN result is settled by the block that computes it; here it is the default quiet NaN.
-/
namespace Sys2Proof.Machine

/-- A binary interchange format: fraction bits and exponent bits. -/
structure Fmt where
  mb : Nat
  eb : Nat
  deriving DecidableEq, Repr

/-- binary64. -/
def b64 : Fmt := ⟨52, 11⟩
/-- binary32. -/
def b32 : Fmt := ⟨23, 8⟩

namespace Fmt

/-- Exponent of the least significant bit of a subnormal number. -/
def emin (f : Fmt) : Int := 2 - (2 ^ (f.eb - 1) : Nat) - (f.mb : Int)
/-- Bit pattern of +infinity. -/
def infBits (f : Fmt) : Nat := (2 ^ f.eb - 1) * 2 ^ f.mb
/-- Weight of the sign bit. -/
def signBit (f : Fmt) : Nat := 2 ^ (f.mb + f.eb)
/-- The default quiet NaN: sign 0, quiet bit set, payload zero. -/
def qnan (f : Fmt) : Nat := f.infBits + 2 ^ (f.mb - 1)

end Fmt

/-- A decoded number: not a number, infinity, or the finite value `± m × 2^e` (zero has `m = 0`). -/
inductive FVal where
  | nan
  | inf (neg : Bool)
  | fin (neg : Bool) (m : Nat) (e : Int)
  deriving DecidableEq, Repr

/-- The number that a bit pattern stands for. -/
def fdecode (f : Fmt) (b : Nat) : FVal :=
  let s := decide (f.signBit ≤ b)
  let b := b % f.signBit
  let ex := b / 2 ^ f.mb
  let fr := b % 2 ^ f.mb
  if ex = 2 ^ f.eb - 1 then (if fr = 0 then .inf s else .nan)
  else if ex = 0 then .fin s fr f.emin
  else .fin s (fr + 2 ^ f.mb) (f.emin + ((ex : Int) - 1))

/-- A sign applied to the magnitude's bit pattern. -/
def withSign (f : Fmt) (neg : Bool) (b : Nat) : Nat := if neg then b + f.signBit else b

/-- `m × 2^e`, plus a non-zero amount below it when `sticky`, rounded to nearest, ties to even. -/
def fround (f : Fmt) (neg : Bool) (m : Nat) (e : Int) (sticky : Bool) : Nat :=
  if m = 0 then withSign f neg 0
  else
    -- two more bits below, the last one sticky
    let m := 4 * m + (if sticky then 1 else 0)
    let e := e - 2
    let len : Int := (m.log2 : Int) + 1
    let q := max f.emin (e + len - (f.mb + 1))
    let r :=
      if q ≤ e then m <<< (e - q).toNat
      else
        let k := (q - e).toNat
        let t := m >>> k
        let rem := m % 2 ^ k
        let half := 2 ^ (k - 1)
        if half < rem ∨ (rem = half ∧ t % 2 = 1) then t + 1 else t
    let bits := (q - f.emin).toNat * 2 ^ f.mb + r
    withSign f neg (min bits f.infBits)

/-- An exact rational `± num / den` rounded. -/
def fofRat (f : Fmt) (neg : Bool) (num den : Nat) : Nat :=
  if den = 0 then (if num = 0 then f.qnan else withSign f neg f.infBits)
  else
    let k := (f.mb + 3 + den.log2 + 1) - num.log2
    let n := num <<< k
    fround f neg (n / den) (-(k : Int)) (n % den != 0)

/-- An integer rounded. -/
def fofInt (f : Fmt) (x : Int) : Nat := fround f (decide (x < 0)) x.natAbs 0 false

def fisNan (f : Fmt) (a : Nat) : Bool := fdecode f a == .nan
def fisFinite (f : Fmt) (a : Nat) : Bool := match fdecode f a with | .fin _ _ _ => true | _ => false
def fisZero (f : Fmt) (a : Nat) : Bool := a % f.signBit == 0
def fneg (f : Fmt) (a : Nat) : Nat := if f.signBit ≤ a then a - f.signBit else a + f.signBit
def fabs (f : Fmt) (a : Nat) : Nat := a % f.signBit

/-- The exact sum of two finite numbers, rounded; a zero sum of opposite signs is +0. -/
def finAdd (f : Fmt) (s1 : Bool) (m1 : Nat) (e1 : Int) (s2 : Bool) (m2 : Nat) (e2 : Int) : Nat :=
  let e := min e1 e2
  let a : Int := (m1 <<< (e1 - e).toNat : Nat)
  let b : Int := (m2 <<< (e2 - e).toNat : Nat)
  let x := (if s1 then -a else a) + (if s2 then -b else b)
  if x = 0 then withSign f (s1 && s2) 0 else fround f (decide (x < 0)) x.natAbs e false

def fadd (f : Fmt) (a b : Nat) : Nat :=
  match fdecode f a, fdecode f b with
  | .nan, _ => f.qnan
  | _, .nan => f.qnan
  | .inf s, .inf t => if s = t then withSign f s f.infBits else f.qnan
  | .inf s, _ => withSign f s f.infBits
  | _, .inf s => withSign f s f.infBits
  | .fin s m e, .fin t n g => finAdd f s m e t n g

def fsub (f : Fmt) (a b : Nat) : Nat := if fisNan f b then f.qnan else fadd f a (fneg f b)

def fmul (f : Fmt) (a b : Nat) : Nat :=
  match fdecode f a, fdecode f b with
  | .nan, _ => f.qnan
  | _, .nan => f.qnan
  | .inf s, .inf t => withSign f (s != t) f.infBits
  | .inf s, .fin t m _ => if m = 0 then f.qnan else withSign f (s != t) f.infBits
  | .fin s m _, .inf t => if m = 0 then f.qnan else withSign f (s != t) f.infBits
  | .fin s m e, .fin t n g => fround f (s != t) (m * n) (e + g) false

def fdiv (f : Fmt) (a b : Nat) : Nat :=
  match fdecode f a, fdecode f b with
  | .nan, _ => f.qnan
  | _, .nan => f.qnan
  | .inf _, .inf _ => f.qnan
  | .inf s, .fin t _ _ => withSign f (s != t) f.infBits
  | .fin s _ _, .inf t => withSign f (s != t) 0
  | .fin s m e, .fin t n g =>
    if n = 0 then (if m = 0 then f.qnan else withSign f (s != t) f.infBits)
    else
      let k := (f.mb + 3 + n.log2 + 1) - m.log2
      let q := m <<< k
      fround f (s != t) (q / n) (e - g - (k : Int)) (q % n != 0)

/-- Fused multiply-add `a × b + c`, rounded once. -/
def ffma (f : Fmt) (a b c : Nat) : Nat :=
  match fdecode f a, fdecode f b, fdecode f c with
  | .nan, _, _ => f.qnan
  | _, .nan, _ => f.qnan
  | _, _, .nan => f.qnan
  | .fin s m e, .fin t n g, .fin u k h => finAdd f (s != t) (m * n) (e + g) u k h
  | .fin _ _ _, .fin _ _ _, .inf u => withSign f u f.infBits
  | _, _, _ => fadd f (fmul f a b) c

/-- Integer square root, by binary digits from `2^k` down. -/
def isqrtFrom (n : Nat) : (k r : Nat) → Nat
  | 0, r => r
  | k + 1, r => let t := r + 2 ^ k; if t * t ≤ n then isqrtFrom n k t else isqrtFrom n k r

/-- Integer square root. -/
def isqrt (n : Nat) : Nat := isqrtFrom n (n.log2 / 2 + 1) 0

def fsqrt (f : Fmt) (a : Nat) : Nat :=
  match fdecode f a with
  | .nan => f.qnan
  | .inf s => if s then f.qnan else f.infBits
  | .fin s m e =>
    if m = 0 then a
    else if s then f.qnan
    else
      -- an even exponent and enough bits for a rounded root
      let k : Nat := 2 * (f.mb + 3) + (if (e - 2 * (f.mb + 3 : Nat)) % 2 = 0 then 0 else 1)
      let n := m <<< k
      let r := isqrt n
      fround f false r ((e - (k : Int)) / 2) (r * r != n)

/-- The order of two numbers that are not NaN, as the order of integers; -0 equals +0. -/
def fkey (f : Fmt) (a : Nat) : Int := if f.signBit ≤ a then -((a - f.signBit : Nat) : Int) else a

def flt (f : Fmt) (a b : Nat) : Bool := !fisNan f a && !fisNan f b && decide (fkey f a < fkey f b)
def fle (f : Fmt) (a b : Nat) : Bool := !fisNan f a && !fisNan f b && decide (fkey f a ≤ fkey f b)
def feq (f : Fmt) (a b : Nat) : Bool := !fisNan f a && !fisNan f b && decide (fkey f a = fkey f b)

/-- minimumNumber of IEEE 754-2019: -0 below +0, a NaN operand is ignored. -/
def fminNum (f : Fmt) (a b : Nat) : Nat :=
  if fisNan f a then (if fisNan f b then f.qnan else b)
  else if fisNan f b then a
  else if fkey f a < fkey f b ∨ (fkey f a = fkey f b ∧ f.signBit ≤ a) then a else b

/-- maximumNumber of IEEE 754-2019. -/
def fmaxNum (f : Fmt) (a b : Nat) : Nat :=
  if fisNan f a then (if fisNan f b then f.qnan else b)
  else if fisNan f b then a
  else if fkey f b < fkey f a ∨ (fkey f a = fkey f b ∧ f.signBit ≤ b) then a else b

/-- Integer nearest to `m × 2^e`, ties to even. -/
def roundEven (m : Nat) (e : Int) : Nat :=
  if 0 ≤ e then m <<< e.toNat
  else
    let k := (-e).toNat
    let t := m >>> k
    let rem := m % 2 ^ k
    let half := 2 ^ (k - 1)
    if half < rem ∨ (rem = half ∧ t % 2 = 1) then t + 1 else t

/-- The finite number rounded to the nearest integer, ties to even; `none` for NaN and infinities. -/
def ftoInt (f : Fmt) (a : Nat) : Option Int :=
  match fdecode f a with
  | .fin s m e => some (if s then -(roundEven m e : Int) else (roundEven m e : Int))
  | _ => none

/-- The finite number truncated toward zero. -/
def ftruncInt (f : Fmt) (a : Nat) : Option Int :=
  match fdecode f a with
  | .fin s m e =>
    let t : Nat := if 0 ≤ e then m <<< e.toNat else m >>> (-e).toNat
    some (if s then -(t : Int) else (t : Int))
  | _ => none

/-- Conversion between formats, rounded; a NaN becomes the default quiet NaN. -/
def fconv (f g : Fmt) (a : Nat) : Nat :=
  match fdecode f a with
  | .nan => g.qnan
  | .inf s => withSign g s g.infBits
  | .fin s m e => fround g s m e false

/-! ## Short names for binary64, on 64-bit patterns -/

namespace F64

abbrev add (a b : Nat) : Nat := fadd b64 a b
abbrev sub (a b : Nat) : Nat := fsub b64 a b
abbrev mul (a b : Nat) : Nat := fmul b64 a b
abbrev div (a b : Nat) : Nat := fdiv b64 a b
abbrev fma (a b c : Nat) : Nat := ffma b64 a b c
abbrev sqrt (a : Nat) : Nat := fsqrt b64 a
abbrev neg (a : Nat) : Nat := Machine.fneg b64 a
abbrev abs (a : Nat) : Nat := Machine.fabs b64 a
abbrev lt (a b : Nat) : Bool := flt b64 a b
abbrev le (a b : Nat) : Bool := fle b64 a b
abbrev eq (a b : Nat) : Bool := feq b64 a b
abbrev isNan (a : Nat) : Bool := fisNan b64 a
abbrev isFin (a : Nat) : Bool := fisFinite b64 a
abbrev ofInt (x : Int) : Nat := fofInt b64 x
abbrev ofNat (x : Nat) : Nat := fround b64 false x 0 false
abbrev ofRat (x : Int) (d : Nat) : Nat := fofRat b64 (decide (x < 0)) x.natAbs d
abbrev toInt (a : Nat) : Option Int := ftoInt b64 a
abbrev of32 (a : Nat) : Nat := fconv b32 b64 a
abbrev to32 (a : Nat) : Nat := fconv b64 b32 a
/-- -1, 0 or 1 by the sign; 0 for a zero. -/
def sgn (a : Nat) : Int := if fisZero b64 a then 0 else if b64.signBit ≤ a then -1 else 1
def min (a b : Nat) : Nat := if lt b a then b else a
def max (a b : Nat) : Nat := if lt a b then b else a
/-- A number with the sign of an integer -1, 0 or 1 (0 gives zero). -/
def scaleSgn (s : Int) (a : Nat) : Nat := if s = 0 then 0 else if s < 0 then neg a else a

end F64

end Sys2Proof.Machine
end

