-- ==== Sys2Proof/Machine/Motion.lean ====
section
/-!
DEFINITION. Valve and damper motion (chapter 13): the command queue of an axis, its states, the normative profile of
R582, step generation, microstepping, coil-current regulation, homing by stall and the claim's hold on the axes.
-/
namespace Sys2Proof.Machine

/-! ## The profile (R582) -/

/-- The profile state after one update. -/
structure Prof where
  x : Nat
  v : Nat
  a : Nat
  arrived : Bool
  overshoot : Bool
  deriving DecidableEq, Repr

/-- dt of R582, 25 µs, in binary64. -/
def axDt : Nat := F64.ofRat 25 1000000

/-- One update of the profile, the normative code of R582 (all operands binary64 patterns). -/
def profileStep (tgt vm ac dc jk x v a : Nat) : Prof :=
  let two := F64.ofNat 2
  let d := F64.sub tgt x
  let s2 := F64.mul (F64.mul two dc) (F64.abs d)
  let dc2 := F64.mul dc dc
  let vs := if F64.sgn jk = 0 then F64.sqrt s2
    else F64.sub
      (F64.sqrt (F64.add (F64.div (F64.mul dc2 dc2) (F64.mul (F64.ofNat 4) (F64.mul jk jk))) s2))
      (F64.div dc2 (F64.mul two jk))
  let vt := F64.scaleSgn (F64.sgn d) (F64.min vm vs)
  let sv := F64.sgn v
  let dv :=
    if sv ≠ 0 ∧ (F64.sgn vt ≠ sv ∨ F64.lt (F64.abs vt) (F64.abs v) = true) then
      let lim := if F64.sgn vt = sv then F64.sub (F64.abs v) (F64.abs vt) else F64.abs v
      F64.scaleSgn (-sv) (F64.min (F64.mul dc axDt) lim)
    else
      let t := F64.sub vt v
      F64.scaleSgn (F64.sgn t) (F64.min (F64.mul ac axDt) (F64.abs t))
  let (a, dv) :=
    if F64.sgn jk ≤ 0 then (a, dv)
    else
      let ad := F64.div dv axDt
      let j := F64.mul jk axDt
      let a := F64.add a (F64.max (F64.neg j) (F64.min j (F64.sub ad a)))
      let a := if F64.sgn a = F64.sgn ad ∧ F64.lt (F64.abs ad) (F64.abs a) = true then ad else a
      (a, F64.mul a axDt)
  let vn := F64.add v dv
  let vn := if F64.le (F64.abs v) vm then F64.max (F64.neg vm) (F64.min vm vn) else vn
  let (vn, a) := if sv ≠ 0 ∧ F64.sgn vn = -sv then (0, 0) else (vn, a)
  let xn := F64.add x (F64.mul (F64.div (F64.add v vn) two) axDt)
  let r := F64.sub tgt xn
  let past := decide (F64.sgn r ≠ F64.sgn d)
  if (past || F64.le (F64.abs r) (F64.mul (F64.abs vn) axDt))
      && F64.le (F64.abs vn) (F64.mul (F64.mul two dc) axDt) then ⟨tgt, 0, 0, true, false⟩
  else ⟨xn, vn, a, false, past⟩

/-- Where a stop with DEC from x at v ends: the ramp stop's target (R582). -/
def stopTarget (dc jk x v : Nat) : Nat :=
  let two := F64.ofNat 2
  let av := F64.abs v
  let d := F64.div (F64.mul av av) (F64.mul two dc)
  let d := if F64.sgn jk = 0 then d else F64.add d (F64.div (F64.mul av dc) (F64.mul two jk))
  F64.add x (F64.scaleSgn (F64.sgn v) d)

/-- The loss of an immediate stop from speed v (R602): 1024 × ceil(v² / (2 × DEC × 1024)), 512 more when the coils are
de-energised. -/
def stopLoss (v dec : Nat) (deenergised : Bool) : Nat :=
  let q := match fdecode b64 v with
    | .fin _ m e =>
      let num := if 0 ≤ e then m * m * 2 ^ (2 * e.toNat) else m * m
      let den := (if 0 ≤ e then 1 else 2 ^ (2 * (-e).toNat)) * (2 * dec * 1024)
      if den = 0 then 0 else (num + den - 1) / den
    | _ => 0
  1024 * q + (if deenergised then 512 else 0)

/-- The largest position of R570. -/
def posMax : Int := 2147483392

/-! ### Axis states (R607) -/
abbrev axDISABLED : Nat := 0
abbrev axIDLE : Nat := 1
abbrev axMOVING : Nat := 2
abbrev axHOMING : Nat := 3
abbrev axDWELL : Nat := 4
abbrev axSTOPPING : Nat := 5
abbrev axFAULT : Nat := 6
abbrev axHELD : Nat := 7

/-! ### Command statuses (R578) -/
abbrev stSUPERSEDED : Nat := 0x2C01
abbrev stSTOPPED : Nat := 0x2C02
abbrev stFAULTED : Nat := 0x2C03
abbrev stLIMIT : Nat := 0x2C04
abbrev stHOMEFAIL : Nat := 0x2C05
abbrev stNOCLAIM : Nat := 0x2C06

/-- cos and sin of k steps of 2π / 1024 in units of 2^-120. -/
def turn : Nat → Int × Int
  | 0 => (2 ^ 120, 0)
  | k + 1 =>
    let p := turn k
    let c : Int := 1329202973443536572322978140960776172
    let s : Int := 8155989654563034982999647902476720
    ((p.1 * c - p.2 * s) / 2 ^ 120, (p.1 * s + p.2 * c) / 2 ^ 120)

/-- cos (2π e / 1024) in units of 2^-120, exact at the quarters. -/
def cos120 (e : Nat) : Int :=
  let e := e % 1024
  let q := if e ≤ 512 then e else 1024 - e
  if q = 256 then 0 else if q < 256 then (turn q).1 else -(turn (512 - q)).1

namespace W

def axis (w : W) (n : Nat) : AxSt := w.ax.getD n {}
def setAx (w : W) (n : Nat) (a : AxSt) : W := { w with ax := w.ax.setIfInBounds n a }
def modAx (w : W) (n : Nat) (f : AxSt → AxSt) : W := w.setAx n (f (w.axis n))

/-- The axis page. -/
abbrev axPage (n : Nat) : Nat := 0x2B + n

def axState (w : W) (n : Nat) : Nat := w.rdF (R.AX_ASTAT n) 0 3
def setAxState (w : W) (n s : Nat) : W := w.wrF (R.AX_ASTAT n) 0 3 s
def axReferenced (w : W) (n : Nat) : Bool := w.rdB (R.AX_ASTAT n) 6
def axDirect (w : W) (n : Nat) : Bool := w.rdB (R.AX_CFG n) 0

/-- The device holds a claim (R668). -/
def hasClaim (w : W) : Bool := w.rdF R.RED_CLAIM 0 16 != 0
/-- Triad mode: claim gating is off (R661). -/
def triad (w : W) : Bool := w.rdF R.RED_CFG 0 2 == 2

/-- Position in mu that the int32 register holds. -/
def axPos (w : W) (off : Nat) : Int := sgn 32 (w.rdN off)
def wrInt (w : W) (off : Nat) (x : Int) : W := w.wrN off (uns 32 x)

/-- Commands in flight: the active one and the queued ones (R577). -/
def axInFlight (w : W) (n : Nat) : Nat := (w.axis n).queue.length + (if (w.axis n).active.isSome then 1 else 0)

/-- ASTAT as it reads, with the commands in flight (R615). -/
def axAstat (w : W) (n : Nat) : Word := setFld (w.rd (R.AX_ASTAT n)) 20 3 (w.axInFlight n)

/-! ## Ending commands (R578) -/

/-- The active command ends with a status; LIMIT is shown in ASTAT. DEDUCED (log 57): any status but OK is a failed operation
of the block, whose code ERR records (R59). -/
def axEnd (w : W) (n status : Nat) : W :=
  match (w.axis n).active with
  | none => w
  | some c =>
    let w := w.err (axPage n) status
    let w := w.modAx n fun a => { a with active := none, ended := a.ended ++ [(c.tag, status)], homeStep := 0, armed := false }
    w.wrB (R.AX_ASTAT n) 9 (status == stLIMIT)

/-- The active and every queued command end with a status. -/
def axEndAll (w : W) (n status : Nat) : W :=
  let w := w.axEnd n status
  let q := (w.axis n).queue
  let w := q.foldl (fun w _ => (w.err (axPage n) status).wrB (R.AX_ASTAT n) 9 (status == stLIMIT)) w
  w.modAx n fun a => { a with queue := [], ended := a.ended ++ q.map fun c => (c.tag, status) }

/-- LAST_DONE, DONE_CNT and the DONE event of the commands ended up to this update (R578). -/
def axFlush (w : W) (n : Nat) : W :=
  match (w.axis n).ended.getLast? with
  | none => w
  | some (tag, st) =>
    let k := (w.axis n).ended.length
    let w := w.modAx n fun a => { a with ended := [] }
    ((w.wrN (R.AX_LAST_DONE n) (tag % 2 ^ 16 + 2 ^ 16 * st)).wrN (R.AX_DONE_CNT n) (w.rdN (R.AX_DONE_CNT n) + k)).raise
      (E.AX_DONE n)

/-! ## Stops, faults, the claim (R601 to R608) -/

/-- UNC increased, saturating; above UNC_MAX the axis is not referenced (R602, R603). -/
def axAddUnc (w : W) (n loss : Nat) : W :=
  let w := w.wrN (R.AX_UNC n) (satAdd 32 (w.rdN (R.AX_UNC n)) loss)
  if w.rdN (R.AX_UNC_MAX n) < w.rdN (R.AX_UNC n) then w.wrB (R.AX_ASTAT n) 6 false else w

/-- An immediate stop (R601, R602, R604); the steps already due in the present tick stay due. -/
def axImmediate (w : W) (n : Nat) (deenergised : Bool) : W :=
  let a := w.axis n
  let w := w.axAddUnc n (stopLoss a.v.toNat a.dec.toNat deenergised)
  let w := w.modAx n fun a => { a with v := 0, a := 0, ramp := false, halted := true,
                                       x := BitVec.ofNat 64 (F64.ofInt (w.axPos (R.AX_XCMD n))) }
  (w.wr (R.AX_VEL n) 0).wrF (R.AX_ASTAT n) 3 2 0

/-- The axis enters FAULT (R604, R607): every command ends FAULTED, the coils are de-energised. -/
def axFault (w : W) (n rsn : Nat) : W :=
  let w := (w.axEndAll n stFAULTED).axImmediate n true
  ((w.setAxState n axFAULT).wrF (R.AX_ASTAT n) 16 4 rsn).raise (E.AX_FAULT n)

/-- The device's claim rank becomes 0: every enabled axis enters HELD, its commands end NO_CLAIM (R607, R608). -/
def axesHeld (w : W) : W :=
  if w.triad then w
  else (List.range 16).foldl (fun w n =>
    if w.axState n = axDISABLED ∨ w.axState n = axHELD then w
    else ((w.axEndAll n stNOCLAIM).axImmediate n true).setAxState n axHELD) w

/-- The device gains a claim: HELD axes become IDLE, not referenced (R607). -/
def axesReleased (w : W) : W :=
  (List.range 16).foldl (fun w n =>
    if w.axState n = axHELD then
      (((w.setAxState n axIDLE).wrB (R.AX_ASTAT n) 6 false).wr (R.AX_UNC n) 0xFFFFFFFF#32)
    else w) w

/-! ## Accepting commands (R574 to R576) -/

/-- A command word 0 as a command. -/
def axParse (w0 a0 a1 a2 : Word) : AxCmd := ⟨fld w0 0 4, bit w0 4, fld w0 16 16, a0, a1, a2⟩

/-- The range check of one command (R574 step 3); `first` allows NOW; `w0` is the raw first word. -/
def axCmdRange (w : W) (n : Nat) (first : Bool) (w0 : Word) (c : AxCmd) : Bool :=
  let z (x : Word) := x == 0#32
  fld w0 5 11 != 0 || (c.now && !first) ||
  match c.op with
  | 1 => !(z c.a2) || decide (posMax < (sgn 32 c.a0.toNat).natAbs)
  | 2 => !(z c.a2)
  | 3 => !(z c.a1) || !(z c.a2) || decide (128000000 < (sgn 32 c.a0.toNat).natAbs)
  | 4 => !(z c.a1) || !(z c.a2) || decide (1 < c.a0.toNat)
  | 5 => decide (1 < c.a0.toNat) || decide (128000000 < c.a1.toNat) || z c.a1 ||
      (w.axDirect n && decide ((w.rdN (R.DRV_DDd_VSW n) : Int) - w.rdN (R.DRV_DDd_VHYS n) ≤ c.a1.toNat))
  | 6 => !(z c.a1) || !(z c.a2)
  | 7 => !(z c.a1) || !(z c.a2) || c.a0 == 0#32 || decide (60000000 < c.a0.toNat)
  | _ => true

/-- A HOME that the axis cannot perform (R574 step 1). -/
def axHomeBad (w : W) (n : Nat) (c : AxCmd) : Bool :=
  c.op == 5 && (if w.axDirect n then w.rdF (R.DRV_DDd_STALL n) 0 16 == 0 else w.rdF (R.AX_CFG n) 9 2 != 2)

/-- The checks of a doorbell of `count` commands with raw first words (R574, in the order of R75). -/
def axCheck (w : W) (n count : Nat) (cs : List (Word × AxCmd)) : Nat :=
  let st := w.axState n
  let now := match cs with | c :: _ => c.2.now | [] => false
  firstCode [
    (st == axDISABLED || st == axFAULT || st == axHELD || cs.any (fun c => w.axHomeBad n c.2), eState),
    (decide (4 < count), eLen),
    ((cs.zipIdx).any (fun c => w.axCmdRange n (c.2 == 0) c.1.1 c.1.2), eRange),
    (decide (4 < (if now then 0 else w.axInFlight n) + count), eFull)]

/-- Accepted commands enter the queue; a NOW command first supersedes the active and queued ones (R576). -/
def axAccept (w : W) (n : Nat) (cs : List AxCmd) : W :=
  let w := match cs with
    | c :: _ => if c.now then w.axEndAll n stSUPERSEDED else w
    | [] => w
  w.modAx n fun a => { a with queue := a.queue ++ cs }

/-- One command submitted, as AX_CMD does (R575): its status. -/
def axSubmit (w : W) (n : Nat) (w0 a0 a1 a2 : Word) : W × Nat :=
  let c := axParse w0 a0 a1 a2
  let code := w.axCheck n 1 [(w0, c)]
  if code = 0 then (w.axAccept n [c], 0) else (w.err (axPage n) code, code)

/-- The doorbell of the staging area (R574): code of a refusal, else the commands taken. -/
def axStaged (w : W) (n count : Nat) : List (Word × AxCmd) :=
  (List.range (min count 4)).map fun i =>
    let o := (w.rdF (R.AX_CMD_PI n) 0 2 + i) % 4
    let f (k : Nat) := w.rd (R.AX_CMD_STAGE n (4 * o + k))
    (f 0, axParse (f 0) (f 1) (f 2) (f 3))

def axDoorbellCode (w : W) (n count : Nat) : Nat := w.axCheck n count (w.axStaged n count)

def axDoorbell (w : W) (n count : Nat) : W :=
  let cs := (w.axStaged n count).map (·.2)
  (w.axAccept n cs).wrF (R.AX_CMD_PI n) 0 2 (w.rdF (R.AX_CMD_PI n) 0 2 + count)

/-! ## The update (R582 to R593) -/

/-- The grid g of an axis in mu (R588, R591). -/
def axGrid (w : W) (n : Nat) : Nat :=
  if w.axDirect n then 2 ^ w.rdF (R.AX_ASTAT n) 12 4 else 256 / 2 ^ w.rdF (R.AX_CFG n) 1 4

/-- vstep of R588 in binary64. -/
def axVstep (w : W) (n : Nat) : Nat :=
  if w.axDirect n then F64.ofNat 128000000
  else F64.ofRat (w.axGrid n * 50000000 : Nat) (w.rdF (R.AX_STEPCFG n) 0 10)

/-- Soft limits apply (R581). -/
def axLimited (w : W) (n : Nat) : Bool := w.rdB (R.AX_LIMCFG n) 0 && w.axReferenced n

/-- A move to a target begins: R581 at activation, R587 clears OVERSHOOT; x starts from XCMD when the axis was idle. -/
def axBegin (w : W) (n state : Nat) (tgt : Int) (cap : Option Nat) : W :=
  let idle := w.axState n == axIDLE
  let w := w.modAx n fun a => { a with tgt := BitVec.ofNat 64 (F64.ofInt tgt), cap := cap, ramp := false, halted := false,
                                       x := if idle then BitVec.ofNat 64 (F64.ofInt (w.axPos (R.AX_XCMD n))) else a.x,
                                       a := if idle then 0 else a.a }
  (w.wrInt (R.AX_TARGET n) tgt).setAxState n state

/-- A ramp stop begins (R580, R601). -/
def axRamp (w : W) (n : Nat) : W :=
  let w := w.modAx n fun a => { a with ramp := true, cap := none, halted := false,
                                       tgt := BitVec.ofNat 64 (stopTarget (F64.ofNat a.dec.toNat) (F64.ofNat a.jerk.toNat) a.x.toNat a.v.toNat) }
  w.setAxState n axSTOPPING

/-- The oldest queued command becomes active (R573, R577, R581). -/
def axActivate (w : W) (n : Nat) : W :=
  let a := w.axis n
  match a.active, a.queue with
  | none, c :: rest =>
    if w.axState n = axIDLE ∨ c.now = true then
      let w := (w.setAx n { a with active := some c, queue := rest }).wrF (R.AX_ASTAT n) 7 2 0
      let arg := sgn 32 c.a0.toNat
      let lo := sgn 32 (w.rdN (R.AX_SLIM_LO n))
      let hi := sgn 32 (w.rdN (R.AX_SLIM_HI n))
      let cap := if c.a1 = 0#32 then none else some c.a1.toNat
      let move (t : Int) : W :=
        if decide (t < -posMax) || decide (posMax < t) then w.axEnd n eRange
        else if w.axLimited n && (decide (t < lo) || decide (hi < t)) then w.axEnd n stLIMIT
        else w.axBegin n axMOVING t cap
      match c.op with
      | 1 => move arg
      | 2 => move (w.axPos (R.AX_TARGET n) + arg)
      | 3 =>
        let t := if arg < 0 then (if w.axLimited n then lo else -posMax) else (if w.axLimited n then hi else posMax)
        w.axBegin n axMOVING t (some arg.natAbs)
      | 4 => if c.a0 = 0#32 then w.axRamp n else ((w.axImmediate n false).axEnd n 0).setAxState n axIDLE
      | 5 =>
        let w := w.wrB (R.AX_ASTAT n) 6 false
        let w := w.axBegin n axHOMING (if c.a0 = 0#32 then -posMax else posMax) (some c.a1.toNat)
        w.modAx n fun a => { a with homeStep := 1, homeDist := 0, armed := false, stall := 0 }
      | 6 =>
        if w.rd (R.AX_VEL n) ≠ 0#32 then w.axEnd n eState
        else
          let w := (((w.wrInt (R.AX_XPOS n) arg).wrInt (R.AX_XCMD n) arg).wr (R.AX_UNC n) 0).wrB (R.AX_ASTAT n) 6 true
          let w := w.modAx n fun a => { a with x := BitVec.ofNat 64 (F64.ofInt arg), halted := false }
          w.axEnd n 0
      -- a DWELL that supersedes a motion holds position and speed until it ends (DESIGN CHOICE, log 57)
      | _ => (w.modAx n fun a => { a with ramp := false }).setAxState n axDWELL
    else w
  | _, _ => w

/-- The target resolution r_t of R592. -/
def axTargetRes (w : W) (n : Nat) (r : Nat) : Nat :=
  let vf256 := (w.axPos (R.AX_VEL n)).natAbs       -- 256 × vf
  let up := (those 8 fun k => decide (256 * w.rdN (R.AX_MS_THR n k) ≤ vf256)).length
  let down := (those 8 fun k => decide (15 * 16 * w.rdN (R.AX_MS_THR n k) ≤ vf256)).length
  if r < up then up else if down < r then down else r

/-- Steps of a direct-drive axis toward XCMD, one by one: each step instant may coarsen the grid (R589, R591, R593). -/
def ddSteps : (fuel : Nat) → (rt : Nat) → (diff : Int) → (e r : Nat) → (k : Int) → Int × Nat × Nat × Int
  | 0, _, diff, e, r, k => (diff, e, r, k)
  | f + 1, rt, diff, e, r, k =>
    let g : Int := (2 ^ r : Nat)
    if (g.natAbs : Int) ≤ diff.natAbs then
      let s : Int := if diff < 0 then -1 else 1
      let e := uns 10 ((e : Int) + s * g)
      let r := ((those 9 fun q => decide (r < q ∧ q ≤ rt) && e % 2 ^ q == 0).max?).getD r
      ddSteps f rt (diff - s * g) e r (k + s)
    else (diff, e, r, k)

/-- The steps due after an update: XPOS follows XCMD (R589, R591 to R593), but not after an immediate stop (R601); DIR follows the
steps (R590). -/
def axSteps (w : W) (n : Nat) : W :=
  let xp := w.axPos (R.AX_XPOS n)
  let diff := if (w.axis n).halted then 0 else w.axPos (R.AX_XCMD n) - xp
  if w.axDirect n then
    let r := w.rdF (R.AX_ASTAT n) 12 4
    let rt := w.axTargetRes n r
    let r := if rt < r then rt else r
    let (left, e, r, k) := ddSteps 4096 rt diff (w.axis n).e r 0
    let w := w.modAx n fun a => { a with e := e, steps := k }
    let w := (w.wrInt (R.AX_XPOS n) (xp + (diff - left))).wrF (R.AX_ASTAT n) 12 4 r
    if k = 0 then w else w.wrB (R.AX_ASTAT n) 5 (decide (0 < k))
  else
    let g : Int := w.axGrid n
    let k := Int.tdiv diff g
    let w := w.modAx n fun a => { a with e := uns 10 ((a.e : Int) + k * g), steps := k }
    let w := w.wrInt (R.AX_XPOS n) (xp + k * g)
    if k = 0 then w else w.wrB (R.AX_ASTAT n) 5 (decide (0 < k))

/-- A stall during homing (R605 step 3, 4): the axis stops without de-energising, takes ARG2 as its position and moves
HOME_BACK away. -/
def axStall (w : W) (n : Nat) : W :=
  let a := w.axis n
  match a.active with
  | some c =>
    if c.op = 5 ∧ a.homeStep = 1 ∧ a.armed = true then
      let w := w.axImmediate n false
      let p := sgn 32 c.a2.toNat
      let w := (w.wrInt (R.AX_XPOS n) p).wrInt (R.AX_XCMD n) p
      let back : Int := w.rdN (R.AX_HOME_BACK n)
      let t := if c.a0 = 0#32 then p + back else p - back
      w.modAx n fun a => { a with homeStep := 4, armed := false, halted := false, x := BitVec.ofNat 64 (F64.ofInt p),
                                  tgt := BitVec.ofNat 64 (F64.ofInt t), cap := some c.a1.toNat }
    else w
  | none => w

/-- What an arrival or a rest ends (R573, R580, R581, R605). -/
def axArrive (w : W) (n : Nat) (arrived : Bool) : W :=
  let a := w.axis n
  let rest := a.v = 0
  if a.ramp = true then
    if rest then
      let w := w.modAx n fun a => { a with ramp := false }
      let w := match a.active with
        | some c => w.axEnd n (if c.op = 5 then stHOMEFAIL else 0)
        | none => w
      w.setAxState n axIDLE
    else w
  else if arrived then
    match a.active with
    | some c =>
      let w := w.wrB (R.AX_ASTAT n) 8 (c.op ≤ 2 || a.homeStep == 4)
      let w := if c.op = 5 ∧ a.homeStep = 4 then ((w.wrB (R.AX_ASTAT n) 6 true).wr (R.AX_UNC n) 0).axEnd n 0
        else if c.op = 3 ∨ c.op = 5 then w.axEnd n stLIMIT
        else w.axEnd n 0
      w.setAxState n axIDLE
    | none => w.setAxState n axIDLE
  else w

/-- The profile step of an axis that moves (R582, R585, R587, R605). DEDUCED (log 57): homing runs at VH whatever VMAX is, which
R605 takes as vm; the pulse generator's vstep still bounds it (R588). -/
def axProfile (w : W) (n : Nat) : W :=
  let a := w.axis n
  let vm := F64.min (F64.ofNat a.vmax.toNat) (w.axVstep n)
  let vm := match a.cap with
    | some c => if w.axState n = axHOMING then F64.min (w.axVstep n) (F64.ofNat c) else F64.min vm (F64.ofNat c)
    | none => vm
  let p := profileStep a.tgt.toNat vm (F64.ofNat a.acc.toNat) (F64.ofNat a.dec.toNat) (F64.ofNat a.jerk.toNat)
    a.x.toNat a.v.toNat a.a.toNat
  let av := F64.abs a.v.toNat
  let an := F64.abs p.v
  let phase := if F64.lt av an then 1 else if F64.lt an av then 3 else if F64.sgn p.v = 0 then 0 else 2
  let old := w.axPos (R.AX_XCMD n)
  let xc := (F64.toInt p.x).getD 0
  let vel := (F64.toInt p.v).getD 0
  let w := w.modAx n fun a => { a with x := BitVec.ofNat 64 p.x, v := BitVec.ofNat 64 p.v, a := BitVec.ofNat 64 p.a,
                                       homeDist := if a.homeStep = 1 then a.homeDist + (xc - old).natAbs else 0 }
  let w := (w.wrInt (R.AX_XCMD n) xc).wrInt (R.AX_VEL n) vel
  let w := (w.wrF (R.AX_ASTAT n) 3 2 phase).wrB (R.AX_ASTAT n) 8 false
  let w := if p.overshoot then w.wrB (R.AX_ASTAT n) 7 true else w
  let a := w.axis n
  let w := if a.homeStep = 1 ∧ (match a.active with | some c => decide (vel.natAbs = c.a1.toNat) | none => false) = true
    then w.modAx n fun a => { a with armed := true } else w
  let w := if a.homeStep = 1 ∧ w.rdN (R.AX_HOME_MAX n) < a.homeDist then
      (w.modAx n fun a => { a with homeStep := 5 }).axRamp n
    else w
  w.axArrive n p.arrived

/-- Pending profile values come into force (R586). -/
def axApply (w : W) (n : Nat) : W :=
  let w := w.modAx n fun a => { a with vmax := w.rd (R.AX_VMAX n), acc := w.rd (R.AX_ACC n), dec := w.rd (R.AX_DEC n),
                                       jerk := w.rd (R.AX_JERK n), applyNow := false }
  w.wr (R.AX_PAPPLY n) 0

/-- The reference current of a direct-drive axis in mA (R599). -/
def ddIref (w : W) (n : Nat) : Nat :=
  if w.rdB (R.DRV_DDd_STAT n) 3 then w.rdF (R.DRV_DDd_ICUR n) 16 16 else w.rdF (R.DRV_DDd_ICUR n) 0 16

/-- The coil current of R594 in 10^-6 mA, from the voltage of an ISA or ISB input in µV. -/
def ddCurrent (w : W) (n : Nat) (v : Int) : Int := (v - 900000) * (w.rdF (R.DRV_DDd_ISGAIN n) 0 16 : Nat)

/-- A coil current as IMEAS shows it; a current beyond int16 shows a free value (R617, log 57). -/
def ddImeas (w : W) (n : Nat) (v : Int) : W × Nat :=
  let i := rounded 594 (w.ddCurrent n v) 1000000
  if -32768 ≤ i ∧ i ≤ 32767 then (w, uns 16 i) else w.fresh 16

/-- cos θ for coil A, sin θ for coil B, in units of 2^-120 (R591). -/
def ddAngle (w : W) (n : Nat) (coilB : Bool) : Int :=
  if coilB then cos120 ((w.axis n).e + 768) else cos120 (w.axis n).e

/-- Quiet mode: the duty (1 + s m cos θ) / 2, with sin θ for coil B, in units of 2.5 ns of a period (R596). -/
def ddDuty (w : W) (n : Nat) (coilB : Bool) (s : Int) : Int :=
  match fdecode b64 (w.axis n).m.toNat with
  | .fin _ k x =>
    let den : Nat := 2 ^ (120 + (-x).toNat)
    rounded 596 (5000 * (den + s * w.ddAngle n coilB * (k * 2 ^ x.toNat : Nat))) den
  | _ => 5000

/-- Strong mode: the direction in which a coil is driven, none while both half-bridges are low: in slow decay, and with a reference
below 1 % of IRUN (R597). -/
def ddDrive (w : W) (n : Nat) (coilB : Bool) : Option Bool :=
  let c := w.ddAngle n coilB
  if decide (c.natAbs * w.ddIref n * 100 < w.rdF (R.DRV_DDd_ICUR n) 0 16 * 2 ^ 120)
      || (if coilB then (w.axis n).decayB else (w.axis n).decayA) then none
  else some (decide (0 ≤ c))

/-- The switching edges of the coils between two instants start their blanking times (R597). -/
def ddEdges (w0 : W) (n : Nat) (w : W) : W :=
  let moved (b : Bool) : Bool :=
    w.rdB (R.DRV_DDd_STAT n) 0 && (!w0.rdB (R.DRV_DDd_STAT n) 0 || w.ddDrive n b != w0.ddDrive n b)
  w.modAx n fun a => { a with edgeA := if moved false then w.tscTime else a.edgeA,
                              edgeB := if moved true then w.tscTime else a.edgeB }

/-- The mode of a direct-drive axis at a tick by its speed (R598), the end of HOLDING (R599), and the latest coil currents from the
voltages at ISA and ISB in µV (R594). -/
def ddMode (w : W) (n : Nat) (vA vB : Int) : W :=
  let vel := (w.axPos (R.AX_VEL n)).natAbs
  let reg := w.rdF (R.DRV_DDd_CFG n) 24 2
  let was := w.rdB (R.DRV_DDd_STAT n) 0
  let vsw := w.rdN (R.DRV_DDd_VSW n)
  let strong := if reg = 1 then false else if reg = 2 then true
    else if was then !decide ((vel : Int) < vsw - w.rdN (R.DRV_DDd_VHYS n)) else decide (vsw ≤ vel)
  let w := if strong != was then w.inc (R.DRV_DDd_SWCNT n) else w
  let w := (w.wrB (R.DRV_DDd_STAT n) 0 strong).wrB (R.AX_ASTAT n) 10 strong
  let w := if vel ≠ 0 then w.wrB (R.DRV_DDd_STAT n) 3 false else w
  let (w, a) := w.ddImeas n vA
  let (w, b) := w.ddImeas n vB
  w.wrN (R.DRV_DDd_IMEAS n) (a + 2 ^ 16 * b)

/-- The quiet loop of R596 at a tick, with the coil currents sampled at the period centre, and the stall count (R606). -/
def ddQuiet (w : W) (n : Nat) (vA vB : Int) : W :=
  if w.rdB (R.DRV_DDd_STAT n) 0 then w
  else
    let a := w.axis n
    let iref := w.ddIref n
    let fa := F64.ofRat (w.ddCurrent n vA) 1000000
    let fb := F64.ofRat (w.ddCurrent n vB) 1000000
    let imeas := F64.sqrt (F64.add (F64.mul fa fa) (F64.mul fb fb))
    -- 900 mV × IS_GAIN in mA: IS_GAIN is in mA per V
    let e := F64.div (F64.sub (F64.ofNat iref) imeas) (F64.ofRat (9 * w.rdF (R.DRV_DDd_ISGAIN n) 0 16 : Nat) 10)
    let kp := F64.ofNat (w.rdF (R.DRV_DDd_QLOOP n) 0 16)
    let ki := F64.ofNat (w.rdF (R.DRV_DDd_QLOOP n) 16 16)
    let g := F64.add (F64.mul kp (F64.sub e a.ePrev.toNat)) (F64.mul ki e)
    let m := F64.max 0 (F64.min (F64.ofNat 1) (F64.add a.m.toNat (F64.div g (F64.ofNat 65536))))
    let m16 := ((F64.toInt (F64.mul m (F64.ofNat 65535))).getD 0).toNat
    let thr := w.rdF (R.DRV_DDd_STALL n) 0 16 * w.rdF (R.DRV_DDd_STALL n) 16 8
    let below := F64.lt (F64.mul m (F64.ofNat 65535)) (F64.ofRat thr 256)
    let w := w.setAx n { a with m := BitVec.ofNat 64 m, ePrev := BitVec.ofNat 64 e,
                                stall := if below && a.armed then a.stall + 1 else 0 }
    w.wrF (R.DRV_DDd_STAT n) 16 16 m16

/-- The DIAG input of an axis is active or not (R604, R606): a fault, or during homing of a step/dir axis a stall. -/
def axDiagLevel (w : W) (n : Nat) (active : Bool) : W :=
  let w := w.wrB (R.AX_ASTAT n) 11 active
  let st := w.axState n
  if !active || st == axDISABLED || st == axFAULT then w
  else
    let mode := w.rdF (R.AX_CFG n) 9 2
    if mode = 1 then w.axFault n 2
    else if mode = 2 then
      if st = axHOMING then (if w.axDirect n then w else w.axStall n) else w.axFault n 3
    else w

/-- The engine clocks that an axis slot used; SLICE_PEAK shows the most of one in the last second (R613). -/
def axSlot (clocks : Nat) (w : W) : W :=
  let p := w.mot.ticks
  let l := (w.mot.slices.filter fun e => decide (p < e.1 + 40000 ∧ clocks < e.2)) ++ [(p, clocks)]
  { w with mot.slices := l }.wrF R.MOT_SLICE_PEAK 0 10 ((l.headD (0, 0)).2)

/-- The motion of an enabled axis that is neither in FAULT nor HELD at an update (R580, R582). -/
def axMotion (n : Nat) (vA vB : Int) (active : Bool) (w : W) : W :=
  let w := w.axActivate n
  let w := if (w.axis n).active = none ∧ (w.axis n).v ≠ 0 ∧ (w.axis n).ramp = false then w.axRamp n
    else if (w.axis n).active = none ∧ (w.axis n).v = 0 ∧ (w.axis n).ramp = false then w.setAxState n axIDLE else w
  let s := w.axState n
  let w := if s = axMOVING ∨ s = axHOMING ∨ s = axSTOPPING then w.axProfile n
    else w.wrF (R.AX_ASTAT n) 3 2 0
  -- a DIAG that is active when stall detection arms is a stall (R605, R606)
  let w := if active && w.axState n == axHOMING then w.axDiagLevel n true else w
  let w := w.axSteps n
  if w.axDirect n && decide (n < 8) then w.ddQuiet n vA vB else w

/-- The update of one axis at its slot of a tick (R571, R582): the voltages at ISA and ISB in µV, the level at the DIAG pin, which
DIAG_POL makes active or not (R616), and the engine clocks of the slot. -/
def axUpdate (n : Nat) (vA vB : Int) (diag : Bool) (clocks : Nat) (w : W) : W :=
  if w.dom 7 ≠ 1 then w else
  let w := if n = 0 then { w.inc R.MOT_TICKS with mot.ticks := w.mot.ticks + 1 } else w
  let w := w.axSlot clocks
  let active := diag != w.rdB (R.AX_CFG n) 8
  let w := if (w.axis n).applyNow then w.axApply n else w
  let w := w.axDiagLevel n active
  let w0 := w
  let w := if w.axDirect n && decide (n < 8) && w.axState n != axDISABLED then w.ddMode n vA vB else w
  let st := w.axState n
  let w := if st = axDISABLED ∨ st = axFAULT ∨ st = axHELD then w.modAx n fun a => { a with steps := 0 }
    else w.axMotion n vA vB active
  let w := if w.axDirect n && decide (n < 8) then w0.ddEdges n w else w
  let st := w.axState n
  let ph := w.rdF (R.AX_ASTAT n) 3 2
  let boundary := ph != (w.axis n).phase || st == axIDLE || st == axDWELL || st == axHELD
  let w := w.modAx n fun a => { a with phase := ph }
  let w := if w.rdB (R.AX_PAPPLY n) 1 && boundary then w.axApply n else w
  w.axFlush n

/-! ## The other events of an axis -/

/-- A DWELL's time has elapsed (R573); an axis that still has a speed then stops by a ramp (R580). -/
def axDwellElapsed (n : Nat) (w : W) : W :=
  if w.axState n = axDWELL then
    let w := w.axEnd n 0
    if (w.axis n).v = 0 then w.setAxState n axIDLE else w.axRamp n
  else w

/-- HOLD_DLY after VEL became 0 the reference drops to IHOLD (R599). -/
def axHoldExpiry (n : Nat) (w : W) : W :=
  if w.rd (R.AX_VEL n) = 0#32 then w.wrB (R.DRV_DDd_STAT n) 3 true else w

/-- The chopping comparator of a coil, with `v` µV at its input (R597): a coil that is driven, its current at or above its reference
and its blanking time over, decays slowly. -/
def chopTrip (n : Nat) (coilB : Bool) (v : Int) (w : W) : W :=
  let a := w.axis n
  let above := decide ((w.ddAngle n coilB).natAbs * w.ddIref n * 1000000 ≤ (w.ddCurrent n v).natAbs * 2 ^ 120)
  let blank := decide (w.tscTime < (if coilB then a.edgeB else a.edgeA) + w.rdF (R.DRV_DDd_CFG n) 16 8)
  if w.rdB (R.DRV_DDd_STAT n) 0 && (w.ddDrive n coilB).isSome && above && !blank then
    w.setAx n (if coilB then { a with decayB := true, edgeB := w.tscTime } else { a with decayA := true, edgeA := w.tscTime })
  else w

/-- TOFF of slow decay has passed: the coil is driven again (R597). -/
def chopOff (n : Nat) (coilB : Bool) (w : W) : W :=
  let a := w.axis n
  if coilB then (if a.decayB then w.setAx n { a with decayB := false, edgeB := w.tscTime } else w)
  else if a.decayA then w.setAx n { a with decayA := false, edgeA := w.tscTime } else w

/-- A voltage in µV at or above the over-current threshold (R600). -/
def ocAbove (w : W) (n : Nat) (v : Int) : Bool := decide (w.rdF (R.DRV_DDd_CFG n) 0 8 * 3515625 ≤ (v - 900000).natAbs * 1000)

/-- A cause that keeps an axis in FAULT: an over-current input at or above OC_TH, an active DIAG input (R607). -/
def axCause (w : W) (n : Nat) (vA vB : Int) (level : Bool) : Bool :=
  (w.axDirect n && (w.ocAbove n vA || w.ocAbove n vB)) || level != w.rdB (R.AX_CFG n) 8

/-- The over-current comparator of a coil, with `v` µV at its input (R600): at or above its threshold it trips, and the gates are held
low by FAULT. -/
def axOverCurrent (n : Nat) (coilB : Bool) (v : Int) (w : W) : W :=
  if w.axState n = axDISABLED ∨ w.axDirect n = false ∨ w.ocAbove n v = false then w
  else
    let w := w.wrB (R.DRV_DDd_STAT n) (if coilB then 2 else 1) true
    if w.axState n = axFAULT then w else w.axFault n 1

/-- The DIAG pin of an axis takes a level, which DIAG_POL makes active or not (R604, R606, R616). -/
def axDiag (n : Nat) (level : Bool) (w : W) : W := w.axDiagLevel n (level != w.rdB (R.AX_CFG n) 8)

/-- A direct-drive axis has seen m below its threshold for STALL.N updates during homing (R606). -/
def axStallDetected (n : Nat) (w : W) : W :=
  if w.axDirect n && decide (max 1 (w.rdF (R.DRV_DDd_STALL n) 24 8) ≤ (w.axis n).stall) then w.axStall n else w

/-- The STOP register (R579); IMMEDIATE prevails. An axis in FAULT or HELD has no command and stays there (R607). -/
def axStopWrite (w : W) (n : Nat) (v : Word) : W :=
  if w.axState n = axFAULT ∨ w.axState n = axHELD then w
  else if bit v 1 then ((w.axEndAll n stSTOPPED).axImmediate n false).setAxState n axIDLE
  else if bit v 0 then
    let w := w.axEndAll n stSTOPPED
    if (w.axis n).v = 0 then w.setAxState n axIDLE else w.axRamp n
  else w

/-- FAULT_CLR.CLEAR (R607): the axis returns to IDLE; the caller has checked that no cause remains. -/
def axClear (w : W) (n : Nat) : W :=
  let w := (w.setAxState n axIDLE).wrF (R.AX_ASTAT n) 16 4 0
  if n < 8 then w.wrF (R.DRV_DDd_STAT n) 1 2 0 else w

/-! ## Enabling, reset (R610, R611) -/

/-- The refusals of an enable (R611). R617's Caution lets an axis be enabled with the reset value 0 of STALL, so its N is not among the
ranges that refuse the enable (DEDUCED, log 57). -/
def axEnableCode (w : W) (n : Nat) : Nat :=
  let d := w.axDirect n
  let sc := R.AX_STEPCFG n
  let thr := (List.range 8).map fun k => w.rdN (R.AX_MS_THR n k)
  let bad :=
    (d && decide (8 ≤ n)) || decide (8 < w.rdF (R.AX_CFG n) 1 4) || w.rdF (R.AX_CFG n) 9 2 == 3
      || decide (w.rdF sc 0 10 < 5 ∨ 1000 < w.rdF sc 0 10) || decide (w.rdF sc 10 11 < 10 ∨ 2000 < w.rdF sc 10 11)
      || (d && !decide (thr.Pairwise (· ≤ ·))) || decide (w.rdN (R.AX_VMAX n) < 1 ∨ 128000000 < w.rdN (R.AX_VMAX n))
      || (d && (decide (w.rdF (R.DRV_DDd_CFG n) 0 8 < 1) || decide (w.rdF (R.DRV_DDd_CFG n) 8 8 < 4)
        || decide (160 < w.rdF (R.DRV_DDd_CFG n) 8 8) || decide (w.rdF (R.DRV_DDd_CFG n) 16 8 < 10)
        || decide (100 < w.rdF (R.DRV_DDd_CFG n) 16 8) || w.rdF (R.DRV_DDd_CFG n) 24 2 == 3
        || decide (w.rdF (R.DRV_DDd_ISGAIN n) 0 16 < 1)
        || decide (w.rdN (R.DRV_DDd_VSW n) ≤ w.rdN (R.DRV_DDd_VHYS n))))
  if bad then eRange else 0

/-- CTRL.EN := 1 accepted: IDLE, or HELD without a claim (R607). -/
def axEnable (w : W) (n : Nat) : W :=
  if w.axState n = axDISABLED then w.setAxState n (if w.hasClaim || w.triad then axIDLE else axHELD) else w

/-- CTRL.EN := 0 (R604, R607): commands end STOPPED; the axis is in no drive mode. -/
def axDisable (w : W) (n : Nat) : W :=
  if w.axState n = axDISABLED then w
  else
    let w := (((w.axEndAll n stSTOPPED).axImmediate n true).setAxState n axDISABLED).wrB (R.AX_ASTAT n) 10 false
    if n < 8 then w.wrB (R.DRV_DDd_STAT n) 0 false else w

/-- SRST of an AX page (R610): commands are abandoned without event; an enabled axis then stands IDLE. -/
def axSrst (w : W) (n : Nat) : W :=
  let en := w.rdB (R.H_CTRL (axPage n)) 0
  let w := (w.resetRegs (0x1000 * axPage n + 0x40) (0x1000 * axPage n + 0x1000)).setAx n {}
  w.setAxState n (if en then axIDLE else axDISABLED)

/-- SRST of the DRV page: every enabled direct-drive axis is in FAULT with reason 4; the loops and the modes start anew (R610). -/
def drvSrst (w : W) : W :=
  (List.range 8).foldl (fun w n =>
    let w := (w.modAx n fun a => { a with m := 0, ePrev := 0, stall := 0, decayA := false, decayB := false }).wrB (R.AX_ASTAT n) 10 false
    if !w.axDirect n || w.axState n == axDISABLED then w
    else if w.axState n = axFAULT then w.wrF (R.AX_ASTAT n) 16 4 4
    else w.axFault n 4)
    (w.resetRegs 0x3B040 0x3C000)

/-! ## Register writes -/

/-- The code of a write to an AX register at page offset o (R574, R579, R607, R611, R614, R616). What R611 checks at the
enable is accepted here (R849); a VMAX written while the axis is enabled meets no later check (log entry 32). -/
def axWriteCode (w : W) (n o : Nat) (v : Word) : Nat :=
  let en := w.rdB (R.H_CTRL (axPage n)) 0
  let x := v.toNat
  if o = 0x044 then firstCode [(en, eState), (fld v 9 2 == 3, eRange)]
  else if o = 0x048 ∨ (0x0A0 ≤ o ∧ o < 0x0C0) then
    firstCode [(en, eState), (decide (0x0A0 ≤ o ∧ 500000 < x), eRange)]
  else if o = 0x05C then firstCode [(en && decide (x < 1 ∨ 128000000 < x), eRange)]
  else if o = 0x060 ∨ o = 0x064 then firstCode [(decide (x = 0), eRange)]
  else if o = 0x070 then firstCode [(!en, eState)]
  else if o = 0x078 then firstCode [(decide (sgn 32 x < sgn 32 (w.rdN (R.AX_SLIM_LO n))), eRange)]
  else if o = 0x090 then w.axDoorbellCode n (fld v 0 3)
  else 0

/-- The effect of an accepted AX write that is more than a store. -/
def axWrite (w : W) (n o : Nat) (v : Word) : Option W :=
  if o = 0x05C ∨ o = 0x060 ∨ o = 0x064 ∨ o = 0x068 then
    some ((w.wr (0x1000 * axPage n + o) v).wrB (R.AX_PAPPLY n) 1 true)
  else if o = 0x06C then
    some (if bit v 0 then (w.modAx n fun a => { a with applyNow := true }).wrB (R.AX_PAPPLY n) 0 true else w)
  else if o = 0x070 then some (w.axStopWrite n v)
  else if o = 0x084 then
    let w := w.wr (R.AX_UNC_MAX n) v
    some (if v.toNat < w.rdN (R.AX_UNC n) then w.wrB (R.AX_ASTAT n) 6 false else w)
  else if o = 0x090 then some (w.axDoorbell n (fld v 0 3))
  else none

/-- The code of a write to a DRV register (R611, R617); its ranges are checked when the axis is enabled (R611, R849). -/
def drvWriteCode (w : W) (o : Nat) (v : Word) : Nat :=
  let d := (o - 0x40) / 64
  let k := (o - 0x40) % 64
  let en := w.rdB (R.H_CTRL (axPage d)) 0 && w.axDirect d
  if k = 8 ∨ k = 12 then 0
  else if k = 0 then firstCode [(en, eState), (fld v 24 2 == 3, eRange)]
  else firstCode [(en, eState)]

end W

end Sys2Proof.Machine
end

