-- ==== Sys2Proof/Machine/Twin.lean ====
section
/-!
DEFINITION. Twins, claims and the quad (chapter 15): health, claim rounds, pairing, the Crosswind copy, link ports,
host link messages, time synchronisation, and the sender of Triad mode.
-/
namespace Sys2Proof.Machine

/-! ## Areas of system SRAM that configuration must keep apart (R435, R699) -/

/-- Two areas (base, size) share a byte; an area of size 0 overlaps nothing (R435). -/
def overlaps (a b : Nat × Nat) : Bool := decide (0 < a.2 ∧ 0 < b.2 ∧ a.1 < b.1 + b.2 ∧ b.1 < a.1 + a.2)

/-- Pairing compares against this device's revision (R681). -/
abbrev sysRev : Word := 0x960000A1#32

namespace W

/-- The five areas of task t (R435), SYSV only while a size is configured. -/
def taskAreas (w : W) (t : Nat) : List (Nat × Nat) :=
  let sz := w.rdN (R.TASK_IN_SIZE t)
  [(w.rdN (R.TASK_IN_BASE t), sz), (w.rdN (R.TASK_OUT_BASE t), 2 * w.rdN (R.TASK_OUT_SIZE t)),
   (w.rdN (R.TASK_RET_BASE t), 2 * ((w.rdN (R.TASK_RET_SIZE t) + 63) / 64 * 64)),
   (w.rdN (R.TASK_LOC_BASE t), w.rdN (R.TASK_LOC_SIZE t)),
   (w.rdN (R.TASK_SYSV_BASE t), if w.rdN (R.TASK_SYSV_BASE t) = 0 then 0 else 2048)]

/-- The execution area and the station table. -/
def fixedAreas (w : W) : List (Nat × Nat) :=
  [(w.rdN R.SCAN_CODE_BASE, w.rdN R.SCAN_CODE_SIZE), (w.rdN R.SCAN_STN_BASE, 16 * w.rdN R.SCAN_STN_COUNT)]

/-- The DMA rings (R808). -/
def dmaAreas (w : W) : List (Nat × Nat) := (List.range 4).map fun c => (w.rdN (R.HIF_CHc_BASE c), 256 * 32)

/-- The Crosswind area while it counts: empty unless COPY is enabled for a task. -/
def cwArea (w : W) : Nat × Nat :=
  (w.rdN R.RED_CW_BASE, if w.rdF R.RED_COPY_CFG 0 4 = 0 then 0 else w.rdN R.RED_CW_SIZE)

/-- The Crosswind area overlaps an area it must keep clear of (R699). -/
def cwOverlap (w : W) : Bool :=
  let cw := (w.rdN R.RED_CW_BASE, w.rdN R.RED_CW_SIZE)
  ((List.range 4).flatMap w.taskAreas ++ w.fixedAreas ++ w.dmaAreas).any (overlaps cw)

/-! ## Roles, gaining and dropping a claim (R661, R668, R671, R672) -/

/-- MODE: 0 SOLO, 1 TWIN, 2 TRIAD (R661). -/
def redMode (w : W) : Nat := w.rdF R.RED_CFG 0 2
def redRank (w : W) : Nat := w.rdF R.RED_CFG 4 4
def qid (w : W) : Nat := w.rdF R.SYS_STRAP 1 2
def healthy (w : W) : Bool := w.rdB R.RED_STAT 5
def paired (w : W) : Bool := w.rdB R.RED_STAT 3
def trained (w : W) (p : Nat) : Bool := w.rdB (R.LNK_Pp_STAT p) 0

/-- Claim-gated pads are driven: with a claim, or in Triad mode (R671). -/
def padsOn (w : W) : Bool := w.triad || w.hasClaim

/-- STAT.ROLE follows the latch, the claim and the mode (R699). -/
def roleSync (w : W) : W :=
  w.wrF R.RED_STAT 0 2 (if w.tw.latched then 3 else if w.hasClaim then 1 else if w.redMode = 1 then 2 else 0)

/-- A source's TIME_SRC (R692): the partner over port 3 without a claim; port 3 − q with one; else its own. -/
def timeSrc (w : W) : Nat :=
  if (List.range 4).all (fun p => !w.trained p) then 7
  else if !w.hasClaim then (if w.trained 3 && w.tw.prevWin == 2 then 4 else 0)
  else
    let q := w.qid
    if 1 ≤ q && q ≤ 3 && w.trained (3 - q) && w.tw.srcClaim then 4 - q else 0

/-- The port of a source: port p is source p + 1. -/
def srcPort (src : Nat) : Option Nat := if 1 ≤ src ∧ src ≤ 4 then some (src - 1) else none

/-- TIME_SRC brought up to date; a follower whose source is gone raises SYNC_LOST (R693). -/
def timeSync (w : W) : W :=
  let old := w.rdF R.LNK_TIME_SRC 0 3
  let src := w.timeSrc
  let w := w.wrN R.LNK_TIME_SRC src
  match srcPort old with
  | some p => if src = old then w
    else ({ w.wrB (R.LNK_Pp_STAT p) 8 false with tw.syncRun := w.tw.syncRun.setIfInBounds p 0, tw.halfRate := false,
                                                 tw.slew := 0 }).raise E.LNK_SYNC_LOST
  | none => w

/-- COPY_STAT and STAT.STALE: a task with COPY enabled is not current on the standby, which is the partner of a unit with a
claim and else this unit (R685). -/
def staleSync (w : W) : W :=
  let w := w.wrF R.RED_COPY_STAT 0 4 (if w.hasClaim then w.tw.rep.toNat else w.tw.cur.toNat)
  let have_ := if w.hasClaim then w.tw.rep else w.tw.cur
  let s := (List.range 4).any fun n => w.rdB R.RED_COPY_CFG n && !have_.getLsbD n
  if w.rdB R.RED_STAT 2 = s then w else (w.wrB R.RED_STAT 2 s).raise E.RED_STALE_CHANGE

/-- Task n becomes current or stale on this unit. -/
def setCur (w : W) (n : Nat) (b : Bool) : W :=
  let m : BitVec 4 := BitVec.ofNat 4 (2 ^ n)
  { w with tw.cur := if b then w.tw.cur ||| m else w.tw.cur &&& ~~~m }.staleSync

/-- This device serves a partner's split job (R379). -/
def serving (w : W) : Bool := w.rdB R.QP_SPLIT_STAT 4

/-- The message entries that a split job had reserved are free again (R373). -/
def splitFree (w : W) : W :=
  { w with tw.splitRes := ((w.tw.splitRes.setIfInBounds 0 0).setIfInBounds 1 0).setIfInBounds 2 0 }

/-- This device stops serving and discards the block data (R379, R380). -/
def serveStop (w : W) : W :=
  if w.serving then
    ((({ w with slv.served := none }).wrB R.QP_SPLIT_STAT 4 false).undef (w.rdN R.QP_SPLIT_BASE) (w.rdN R.QP_SPLIT_LEN)).raise E.QP_SERVE_END
  else w

/-- A split job falls back to the whole device for a reason (R373, R378). -/
def splitFallback (w : W) (reason : Nat) : W :=
  ((w.wrF R.QP_SPLIT_STAT 0 4 reason).incSat R.QP_FALLBACK_CNT).raise E.QP_SPLIT_FALLBACK

/-- The lead abandons the split and restarts the job whole: REASON 8 for a message that did not come, 9 for a link or
wiring error or a lost claim (R378). The reserved message entries stay reserved until the job ends (R373). -/
def splitAbort (reason : Nat) (w : W) : W :=
  match w.slv.run with
  | some r =>
    if r.split then
      ({ w with slv.run := some { r with split := false, flags := r.flags ||| 24 } }).splitFallback reason
    else w
  | none => w

/-- The unit loses its claim (R668, R672): its pads are disabled, its axes are held (R608), it serves no split job
(R379), and its own state is no longer the one the new active unit sends. -/
def dropClaim (w : W) (relinquish : Bool) : W :=
  let w := (w.wrF R.RED_CLAIM 0 16 0).roleSync
  let w := w.serveStop.splitAbort 9
  let w := (w.raiseIf relinquish E.RED_RELINQUISH).raise E.RED_CLAIM_LOST
  let w := w.axesHeld
  ({ w with tw.cur := 0 }).staleSync.timeSync

/-- The unit gains a claim (R672): its pads are enabled and its axes leave HELD (R607). -/
def gainClaim (w : W) (c : Nat) : W :=
  (((w.wrF R.RED_CLAIM 0 16 c).roleSync.raise E.RED_CLAIM_WON).axesReleased).staleSync.timeSync

/-- The claim of SOLO mode: RANK with the stored epoch while RANK is not 0 and the device is healthy (R661, R662). -/
def soloEval (w : W) : W :=
  if w.redMode ≠ 0 then w
  else
    let want := w.redRank != 0 && w.healthy
    let held := w.rdF R.RED_CLAIM 0 16
    let keep := want && held / 4096 == w.redRank
    let w := if held ≠ 0 ∧ keep = false then w.dropClaim (!w.healthy) else w
    if want && !w.hasClaim then w.gainClaim (w.redRank * 4096 + w.rdF R.RED_EPOCH 0 12) else w

/-! ## Health (R674, R675) -/

/-- The causes of R674, before the mask. -/
def diagRaw (w : W) : Nat :=
  let fault (t : Nat) : Bool := w.rdF (R.TASK_STATE t) 0 2 == 3
  b2n ((List.range 4).any fun t => fault t && w.rdF (R.TASK_STATE t) 8 4 == 3)
    + 2 * b2n ((List.range 4).any fault)
    + 4 * b2n w.saf.fault
    + 8 * b2n w.ew
    + 16 * b2n (w.tw.sysUe != [])
    + 32 * b2n w.tw.wdtWarn
    + 64 * b2n (w.rdF R.PWR_REG_STAT 4 4 != 0)
    + 128 * b2n w.pwr.xtmFail
    + 256 * b2n w.tw.relq

/-- Health is evaluated: a unit that stops being healthy relinquishes its claim at once (R675). -/
def health (w : W) : W :=
  let d := w.diagRaw &&& (w.rdF R.RED_DIAG_MASK 0 6 ||| 0x1C0)
  let w := (w.wrF R.RED_STAT 16 9 d).wrB R.RED_STAT 5 (d == 0)
  if d = 0 then w.soloEval
  else
    let w := { w with tw.heldOff := false }
    if w.hasClaim && !w.triad then w.dropClaim true else w

/-- TWIN_OK_OUT (R675). -/
def twinOkOut (w : W) : Bool := w.healthy && w.redMode == 1

/-! ## Claim rounds (R664 to R670) -/

/-- The stored epoch is written (R679): EPOCH_LOST ends, the CRC of the backup registers follows (R752). -/
def storeEpoch (w : W) (e : Nat) : W :=
  ((w.wrN R.RED_EPOCH (e % 4096)).wrB R.RED_STAT 8 false).bkpUpdateCrc

/-- R677: the preferred unit may offer a reclaim. -/
def reclaimOk (w : W) : Bool :=
  !w.tw.latched && w.healthy && w.tw.heldOff && w.paired && !w.rdB R.RED_STAT 2 && decide (w.rdF R.RED_RECLAIMS 0 2 < 3)

/-- The claim offered in a round (R669), 0 for none. -/
def offer (w : W) : Nat :=
  let held := w.rdF R.RED_CLAIM 0 16
  let e := (w.tw.eRef.getD (w.rdF R.RED_EPOCH 0 12) + 1) % 4096
  let last := w.rdF R.RED_LAST_WIN 0 16
  if held ≠ 0 then held
  else if w.redRank = 0 || !w.healthy || w.tw.listen != 3 then 0
  else if w.tw.latched && w.tw.prevWin == 2 then 0
  else if last ≠ 0 ∧ last / 4096 < w.redRank ∧ w.reclaimOk = false then 0
  else w.redRank * 4096 + e

/-- A claim round starts (R665): every unit in TWIN mode joins it. -/
def startRound (w : W) : W :=
  if w.redMode ≠ 1 ∨ w.tw.inRound = true then w
  else
    let w := (w.wrN R.RED_OFFER w.offer).inc R.RED_ROUND_CNT
    { w with tw.inRound := true, tw.lost := none, tw.fast := false }

/-- At the sample of claim bit i, CLM reads low while this unit has released it: it loses the round (R666, R668). -/
def claimBitLost (i : Nat) (w : W) : W :=
  let o := w.rdF R.RED_OFFER 0 16
  if w.tw.inRound && w.tw.lost.isNone && o != 0 && !o.testBit i then
    let w := { w with tw.lost := some i }
    if w.hasClaim then w.dropClaim false else w
  else w

/-- What the samples of the 16 claim bits, bit 15 first, say of an offered claim: lost (released and low), and faulted (drove a 1 and
sampled high) (R666, R667); `at_` is the bit at which it was seen to lose already. -/
def claimBits (offer line : Nat) (at_ : Option Nat) : (n : Nat) → (lost faulted : Bool) → Bool × Bool
  | 0, l, f => (l, f)
  | n + 1, l, f =>
    let o := offer.testBit n
    let s := line.testBit n
    claimBits offer line at_ n (l || (!o && s && offer != 0) || at_ == some n) (f || (!l && o && !s))

/-- LATCHED is raised and the unit takes the role (R670, R678). -/
def latch (w : W) : W := ({ w with tw.latched := true }).roleSync.raise E.RED_LATCHED

/-- The count of faulted rounds and CLM_FAULT (R667). -/
def faultCount (w : W) (faulted : Bool) : W :=
  if faulted then
    let w := w.incSat R.RED_FAULT_ROUNDS
    let k := satInc 2 w.tw.faultRun
    let w := { w with tw.faultRun := k, tw.goodRun := 0 }
    if k = 3 ∧ w.rdB R.RED_STAT 6 = false then (w.wrB R.RED_STAT 6 true).raise E.RED_CLM_FAULT else w
  else
    let k := satInc 2 w.tw.goodRun
    let w := { w with tw.faultRun := 0, tw.goodRun := k }
    if k = 3 then w.wrB R.RED_STAT 6 false else w

/-- A round won (R668, R677, R678, R686): a reclaim when the previous one was the partner's; the claim is gained unless it is held
already or the unit is not healthy any more. -/
def roundWon (w : W) (win prev : Nat) : W :=
  let w := if prev = 2 then
      let k := satInc 2 (w.rdF R.RED_RECLAIMS 0 2)
      let w := w.wrN R.RED_RECLAIMS k
      if k = 3 then w.latch else w
    else w
  if w.hasClaim || !w.healthy then w
  else
    let w := if prev = 1 then w
      else
        let w := w.incSat R.RED_TAKEOVER_CNT
        if w.rdB R.RED_STAT 2 then w.wrB R.RED_STAT 10 true else w
    w.gainClaim win

/-- A round that this unit does not win (R668, R670). -/
def roundLost (w : W) (win : Nat) : W :=
  let w := if win ≠ 0 ∧ win / 4096 = w.redRank then (w.wrB R.RED_STAT 7 true).latch else w
  if w.hasClaim then w.dropClaim false else w

/-- A round ends with the 16 sampled claim bits and the end field (R666 to R670, R677 to R679). -/
def claimRoundEnd (line : Nat) (endLow : Bool) (w : W) : W :=
  if !w.tw.inRound || w.redMode != 1 then w
  else
    let o := w.rdF R.RED_OFFER 0 16
    let (lost, drive) := claimBits o line w.tw.lost 16 false false
    let faulted := endLow || drive
    let w := ({ w with tw.inRound := false }).faultCount faulted
    let win := if faulted then 0 else line
    let w := w.wrN R.RED_LAST_WIN win
    let won := win != 0 && o == win && !lost
    let w := if win = 0 then w
      else
        let w := { w with tw.eRef := some (win % 4096) }
        if win % 4096 = w.rdF R.RED_EPOCH 0 12 then w else w.storeEpoch (win % 4096)
    let prev : Nat := w.tw.prevWin
    let w : W := { w with tw.prevWin := if won then 1 else if win = 0 then 0 else 2 }
    let w := if won then w.roundWon win prev else w.roundLost win
    let w := if w.tw.prevWin = 2 then { w with tw.partnerWon := true, tw.partnerGap := 0 }
      else if w.tw.partnerWon then
        if w.tw.partnerGap + 1 = 3 then
          ({ w with tw.partnerWon := false, tw.partnerGap := 0 }).raise E.RED_PARTNER_DOWN
        else { w with tw.partnerGap := w.tw.partnerGap + 1 }
      else w
    let w := w.timeSync
    if w.tw.fast then w.startRound else w

/-- TWIN_OK_IN falls (R676): the fast takeover starts a round, after the one in progress. -/
def twinOkFall (w : W) : W :=
  let w := (w.wrB R.RED_STAT 4 false).raise E.RED_PARTNER_DOWN
  if w.redMode = 1 ∧ w.healthy = true ∧ w.hasClaim = false ∧ w.tw.latched = false ∧ w.rdB R.RED_CFG 8 = true then
    if w.tw.inRound then { w with tw.fast := true } else w.startRound
  else w

/-- TWIN_OK_IN has been seen high (the level that the filter passes). -/
def twinOkIn (w : W) (okIn : Bool) : W := if okIn then w.wrB R.RED_STAT 4 true else w

/-! ## CMD, start-up and timers (R674, R677, R678, R680) -/

/-- A write of RED.CMD (R699). -/
def redCmd (w : W) (v : Word) : W :=
  let w := if bit v 0 then { w with tw.relq := true } else w
  let w := if bit v 1 then { w with tw.relq := false } else w
  let w := if bit v 2 then ({ w with tw.latched := false }).wr R.RED_RECLAIMS 0 else w
  let w := if bit v 3 then
      (if w.hasClaim then { w with tw.resync := 0xF } else ({ w with tw.cur := 0 }).staleSync) else w
  w.roleSync.health

/-- HOLDOFF seconds of uninterrupted health have passed (R677). -/
def reclaimHoldoff (w : W) : W := if w.healthy then { w with tw.heldOff := true } else w

/-- A reclaim is older than 86,400 s (R678). -/
def reclaimExpiry (w : W) : W := w.wrN R.RED_RECLAIMS (w.rdF R.RED_RECLAIMS 0 2 - 1)

/-- 3 ms of listening have passed (R680). -/
def listenExpiry (okIn : Bool) (w : W) : W :=
  if w.tw.listen = 1 then
    let w := w.twinOkIn okIn
    { w with tw.listen := if w.rdB R.RED_STAT 4 && !w.paired then 2 else 3 }
  else w

/-- Pairing has not completed after 2 s (R680). -/
def pairingTimeout (w : W) : W :=
  if w.tw.listen = 2 then ({ w with tw.listen := 3 }).wrB R.RED_STAT 9 true else w

/-! ## Triad mode (R695, R697) -/

/-- The positions reachable from this device over ring links that are up, itself among them; none without a link. -/
def ringReach (w : W) : List Nat :=
  let q := w.qid
  let a := (q + 1) % 3
  let b := (q + 2) % 3
  let up0 := w.trained 0
  let up1 := w.trained 1
  if !up0 && !up1 then []
  else [q] ++ (if up0 || w.tw.third then [a] else []) ++ (if up1 || w.tw.third then [b] else [])

/-- The sender of Triad mode is chosen again; a change of sender raises the common epoch (R697). -/
def triadSync (w : W) : W :=
  if !w.triad then w
  else
    let s := w.ringReach.min?
    let w := match s, w.tw.sender with
      | some x, some y => if x = y then w else w.storeEpoch (w.rdF R.RED_EPOCH 0 12 + 1)
      | _, _ => w
    let w := { w with tw.sender := match s with | some x => some x | none => w.tw.sender }
    let w := w.wrF R.RED_TRIAD_STAT 0 2 (w.tw.sender.getD 0)
    let mine := s == some w.qid && w.redRank != 0
    let c := if mine then w.redRank * 4096 + w.rdF R.RED_EPOCH 0 12 else 0
    let held := w.rdF R.RED_CLAIM 0 16
    if c = held then w
    else if c = 0 then w.dropClaim false
    else if held = 0 then w.gainClaim c
    else (w.wrF R.RED_CLAIM 0 16 c)

/-! ## Link ports (R40, R689) -/

/-- The pair (position, port) that port p expects of its partner (R40). -/
def expectedPeer (w : W) (p : Nat) : Nat × Nat :=
  let q := w.qid
  if p = 3 then (q, 3)
  else if w.triad then (if p = 0 then ((q + 1) % 3, 1) else ((q + 2) % 3, 0))
  else ((q + p + 1) % 4, 2 - p)

/-- Link port p may train: PD9 is on, the port is enabled, its transmitters run (R126), and its mode uses it (R695). -/
def linkReady (w : W) (p : Nat) : Bool :=
  w.dom 9 == 1 && w.rdB (R.LNK_Pp_CTRL p) 0 && !w.ew && !(w.triad && decide (2 ≤ p))

/-- Pairing over port 3 (R680, R681), before the pair key. -/
def pairWith (w : W) (peer : Peer) : W :=
  if peer.rank % 16 = w.redRank then (w.wrB R.RED_STAT 7 true).latch
  else if peer.rev = sysRev ∧ peer.mode = w.redMode then
    let own (t : Nat) := (w.rd (R.TASK_RET_SIG t), w.rd (R.TASK_OUT_SIZE t), w.rd (R.TASK_RET_SIZE t))
    let bad := (List.range 4).foldl (fun b t => if peer.tasks[t]? = some (own t) then b else b + 2 ^ t) 0
    let e := w.rdF R.RED_EPOCH 0 12
    let w := if newer 12 (peer.epoch % 4096) e then w.storeEpoch peer.epoch else w
    let w := w.wrN R.RED_PARTNER (peer.rank % 16 + 16 * (peer.mode % 4))
    let w := { w with tw.nocopy := BitVec.ofNat 4 bad, tw.cur := 0, tw.rep := 0, tw.cwCycle := Vector.replicate 4 none,
                      tw.cwGap := 0xF, tw.listen := if w.tw.listen = 2 then 3 else w.tw.listen }
    (w.wrB R.RED_STAT 3 true).staleSync
  else w

/-- Port p trains: it learns its partner's position and port and the polarity of its lanes (R40, R689). `third` is what
the ring neighbours report of the link between them in Triad mode. -/
def linkTrained (p rpos rport inv : Nat) (third : Bool) (peer : Peer) (w : W) : W :=
  if !w.linkReady p || w.trained p then w
  else
    let wrong := decide (w.expectedPeer p ≠ (rpos, rport))
    let w := w.wrN (R.LNK_Pp_STAT p) (1 + 2 * b2n wrong + 4 * (rpos % 4) + 16 * (rport % 4) + 64 * (inv % 4))
    let w := (w.raise E.LNK_LINK_CHANGE).raiseIf wrong E.LNK_WIRING_ERR
    let w := if p = 3 && !wrong then w.pairWith peer else w
    (({ w with tw.third := third }).triadSync).timeSync

/-- Port p goes down (R689): a split job is abandoned (R378), pairing and the copies end with port 3 (R685). -/
def linkDown (p : Nat) (w : W) : W :=
  if !w.trained p then w
  else
    let w := ((w.wr (R.LNK_Pp_STAT p) 0).wr (R.LNK_Pp_OFFSET p) 0).wr (R.LNK_Pp_DELAY p) 0
    let w := { w with tw.syncRun := w.tw.syncRun.setIfInBounds p 0 }
    let w := w.raise E.LNK_LINK_CHANGE
    let w := if p < 3 then w.splitAbort 9 else w
    let w := if p = 3 then
        ({ w.wrB R.RED_STAT 3 false with tw.cur := 0, tw.rep := 0, tw.cwGap := 0xF,
                                         tw.cwCycle := Vector.replicate 4 none }).staleSync
      else w
    w.triadSync.timeSync

/-- A link error: a fourth failed attempt at a packet, or loss of lane lock for 10 µs (R689). -/
def linkError (p : Nat) (laneLost third : Bool) (w : W) : W :=
  if !w.trained p then w
  else
    let w := if laneLost then w
      else
        let w := w.wrF (R.LNK_Pp_ERRCNT p) 16 16 (satAdd 16 (w.rdF (R.LNK_Pp_ERRCNT p) 16 16) 4)
        w.wrN (R.LNK_Pp_RETRY p) (satAdd 32 (w.rdN (R.LNK_Pp_RETRY p)) 3)
    ({ w with tw.third := third }).linkDown p

/-- A packet that port p sent was received after so many CRC errors, at most three, each answered by a retransmission (R689). -/
def linkRetried (w : W) (p retries : Nat) : W :=
  if retries = 0 then w else w.wrN (R.LNK_Pp_RETRY p) (satAdd 32 (w.rdN (R.LNK_Pp_RETRY p)) retries)

/-- A packet that port p received came after so many CRC errors (R689, R700). -/
def linkCrcErrs (w : W) (p errs : Nat) : W :=
  if errs = 0 then w else w.wrF (R.LNK_Pp_ERRCNT p) 16 16 (satAdd 16 (w.rdF (R.LNK_Pp_ERRCNT p) 16 16) errs)

/-! ## Host link messages (R690, R691) -/

/-- The entries of a message doorbell. -/
def msgEntries (w : W) (m : Memory) (p count : Nat) : List LnkMsg :=
  (List.range (min count 8)).map fun i =>
    let a := w.rdN (R.LNK_Pp_MSG_BASE p) + 16 * ((w.rdF (R.LNK_Pp_MSG_PI p) 0 3 + i) % 8)
    ⟨w.get m a 4, w.get m (a + 4) 4, w.get m (a + 8) 2⟩

/-- Is an area inside system SRAM? -/
def inSystem (a n : Nat) : Bool := decide (solverEnd ≤ a ∧ a + n ≤ systemEnd)

/-- The code of a message doorbell, in the order of R690; with PD4 off, which holds the ring, the link engine learns
ERR_DOMAIN_OFF (R22, R75). -/
def msgCode (w : W) (m : Memory) (p count : Nat) : Nat :=
  let es := w.msgEntries m p count
  firstCode [(!w.domUp 4, eDomainOff),
    (!w.trained p, eState),
    (decide (8 < count) || es.any (fun e => decide (4096 < e.len)), eLen),
    (es.any (fun e => e.len == 0 || !inSystem e.src e.len), eRange),
    (decide (8 < (w.tw.msgs.getD p []).length + w.tw.splitRes.getD p 0 + count), eFull)]

/-- An accepted message doorbell. DESIGN CHOICE (log 80): the entries come from the host's doorbell and from split jobs (R373);
R88 names a SYS service as well, and R511 lists none that sends a message. -/
def msgDoorbell (w : W) (m : Memory) (p count : Nat) : W :=
  let es := w.msgEntries m p count
  ({ w with tw.msgs := w.tw.msgs.setIfInBounds p (w.tw.msgs.getD p [] ++ es) }).wrF (R.LNK_Pp_MSG_PI p) 0 3
    (w.rdF (R.LNK_Pp_MSG_PI p) 0 3 + count)

/-- A message of the partner reaches port p after `errs` CRC errors: it takes the lowest free receive slot, or waits on the sender
(R689, R691). -/
def msgReceive (p tag pos : Nat) (data : List Byte) (errs : Nat) (w : W) : W :=
  if !w.trained p || w.dom 4 != 1 then w
  else
    let w := w.linkCrcErrs p errs
    match (List.range 8).find? fun i => !w.rdB (R.LNK_Pp_RX_STAT p) i with
    | none => w
    | some i =>
      let head := toLe 4 data.length ++ toLe 2 (tag % 2 ^ 16) ++ toLe 2 (pos % 4) ++ toLe 8 w.tsc.toNat
        ++ List.replicate 48 0
      let w := w.putBytes (w.rdN (R.LNK_Pp_RX_BASE p) + 4160 * i) (head ++ data)
      (w.wrB (R.LNK_Pp_RX_STAT p) i true).raise E.LNK_MSG_RX

/-- The oldest message in flight on port p is delivered at the partner (R691). With PD4 off its data read as zeros, and the link
engine learns ERR_DOMAIN_OFF, which it records in LNK.ERR (R22; DESIGN CHOICE, log 48). `retries` retransmissions preceded the
delivery (R689). -/
def msgDelivered (p retries : Nat) (m : Memory) (w : W) : W :=
  match w.tw.msgs.getD p [] with
  | [] => w
  | e :: rest =>
    if w.trained p then
      let w := w.linkRetried p retries
      let up := w.domUp 4
      let d := if up then w.bytes m e.src e.len else List.replicate e.len 0
      { w with tw.msgs := w.tw.msgs.setIfInBounds p rest, tw.msgOut := some (p, e.tag, d) }.err 0x40 (if up then 0 else eDomainOff)
    else w

/-! ## Time synchronisation (R692, R693) -/

/-- One exchange of four timestamps in ns over the port of the time source; `claim` says whether the device at position
0 behind the port holds a claim (R692, R693); `retries` and `errs` are the CRC errors of the packets sent and received (R689). -/
def timeExchange (p : Nat) (t1 t2 t3 t4 : Int) (claim : Bool) (retries errs : Nat) (w : W) : W :=
  if !w.trained p then w
  else
    let w := (w.linkRetried p retries).linkCrcErrs p errs
    let w := (if p = 3 then w else { w with tw.srcClaim := claim }).timeSync
    if srcPort (w.rdF R.LNK_TIME_SRC 0 3) ≠ some p then w
    else
      let num := (t2 - t1) - (t4 - t3)
      let off := rounded 693 num 2
      let dnum := (t2 - t1) + (t4 - t3)
      let dly := rounded 693 dnum 2
      let w := (w.wrN (R.LNK_Pp_OFFSET p) (uns 32 off)).wrN (R.LNK_Pp_DELAY p) (uns 32 dly)
      let locked := w.rdB (R.LNK_Pp_STAT p) 8
      let small := decide (off.natAbs < 20)
      let run := if small then satInc 4 (w.tw.syncRun.getD p 0) else 0
      let w := { w with tw.syncRun := w.tw.syncRun.setIfInBounds p run }
      let lose := locked && decide (1000 ≤ off.natAbs)
      let w := w.wrB (R.LNK_Pp_STAT p) 8 ((locked || decide (8 ≤ run)) && !lose)
      let w := w.raiseIf lose E.LNK_SYNC_LOST
      let counts := rounded 694 off 10
      if 1000 ≤ off then
        ({ w with tsc := w.tsc + BitVec.ofInt 64 counts, tw.halfRate := false, tw.slew := 0 }).incSat R.LNK_TIME_STEPS
      else if off ≤ -1000 then
        let started := !w.tw.halfRate
        let w := { w with tw.halfRate := true, tw.ahead := off.natAbs, tw.slew := 0 }
        if started then w.incSat R.LNK_TIME_STEPS else w
      else { w with tw.halfRate := false, tw.slew := counts }

/-! ## Crosswind on the standby (R682 to R685) -/

/-- The bytes that the CRC-32C of a copy message closes (R682): its header, the committed IMG_OUT, the lines. DESIGN CHOICE (log 81):
the widths of the header's fields and of an offset, which the manual does not give. -/
def cwBody (n : Nat) (c : CwCopy) : List Byte :=
  toLe 4 n ++ toLe 8 c.cycle ++ toLe 8 c.cstamp ++ toLe 4 (b2n c.whole) ++ toLe 4 c.out.length ++ c.out
    ++ c.lines.flatMap fun l => toLe 4 l.1 ++ toLe 4 l.2.length ++ l.2

/-- The standby receives a copy message of task n after `errs` CRC errors (R682, R684, R685): it is complete when it is whole and its
CRC is correct. Lines join a copy that waits only when the task is current or a waiting whole copy makes it so, and no copy has
been missed since; a copy that was missed keeps the task STALE until a whole one comes. -/
def copyReceive (n : Nat) (c : CwCopy) (good : Bool) (errs : Nat) (w : W) : W :=
  if !w.paired || w.hasClaim || w.tw.nocopy.getLsbD n then w
  else
    let w := w.linkCrcErrs 3 errs
    let good := good && c.crc == crc32c (cwBody n c)
    let missing := match w.tw.cwCycle.getD n none with
      | some k => decide (c.cycle % 2 ^ 32 ≠ (k + 1) % 2 ^ 32)
      | none => false
    let m : BitVec 4 := BitVec.ofNat 4 (2 ^ n)
    let w := { w with tw.cwCycle := w.tw.cwCycle.setIfInBounds n (some c.cycle) }
    let w := if missing || !good then ({ w with tw.cwGap := w.tw.cwGap ||| m }).setCur n false else w
    if !good then w
    else
      let quarter := w.rdN R.RED_CW_SIZE / 4
      let half := w.tw.cwHalf.getLsbD n
      let size := min (quarter / 2) (c.out.length + (c.lines.map (·.2.length)).sum)
      let (w, junk) := freshBytes size w
      let w := if w.dom 4 = 1 then w.putBytes (w.rdN R.RED_CW_BASE + n * quarter + (if half then quarter / 2 else 0)) junk
        else w
      let w := if c.whole then { w with tw.cwGap := w.tw.cwGap &&& ~~~m } else w
      let (whole, lines) := match w.tw.cw.getD n none with
        | some old => (old.whole, old.lines)
        | none => (false, [])
      let usable := !w.tw.cwGap.getLsbD n && (w.tw.cur.getLsbD n || whole)
      let c' := if c.whole then c else { c with whole := whole, lines := lines ++ (if usable then c.lines else []) }
      { w with tw.cw := w.tw.cw.setIfInBounds n (some c'), tw.cwHalf := w.tw.cwHalf ^^^ m }

/-! ## Writes of the RED and LNK pages -/

/-- The code of a write to a RED register (R661, R695, R699, R849). -/
def redCheck (w : W) (o : Nat) (v : Word) : Nat :=
  let x := v.toNat
  if o = 0x040 then firstCode [(w.paired, eState), (fld v 0 2 == 3 || (fld v 0 2 == 2 && w.qid == 3), eRange)]
  else if o = 0x044 then (if 1 ≤ x ∧ x ≤ 3600 then 0 else eRange)
  else if o = 0x074 then
    firstCode [(w.paired, eState), (decide (systemEnd < x + w.rdN R.RED_CW_SIZE), eLen),
      (decide (x < solverEnd ∨ x % 4096 ≠ 0), eRange)]
  else if o = 0x078 then
    firstCode [(w.paired, eState), (decide (systemEnd < w.rdN R.RED_CW_BASE + x), eLen),
      (decide (x % 8192 ≠ 0 ∨ x < 65536 ∨ 4194304 < x), eRange)]
  else if o = 0x07C then firstCode [(w.paired, eState), (fld v 0 4 != 0 && w.cwOverlap, eRange)]
  else if o = 0x08C then (if 10 ≤ x ∧ x ≤ 1000 then 0 else eRange)
  else 0

/-- A write of CFG (R661, R662, R680, R695): a claim of the old mode, or held with a RANK that is 0 now, ends, listening starts in TWIN
mode, and Triad mode uses no link port 2 or 3. -/
def redCfgWrite (w : W) (v : Word) : W :=
  let old := w.redMode
  let w := w.wr R.RED_CFG (v &&& 0x1F3#32)
  let w := if w.redMode = old then w
    else
      let w := if w.hasClaim then w.dropClaim false else w
      { w with tw.listen := if w.redMode = 1 then 1 else 0, tw.inRound := false, tw.lost := none, tw.prevWin := 0,
               tw.sender := none }
  let w := if w.redRank = 0 ∧ w.hasClaim = true then w.dropClaim false else w
  let w := if w.triad then (w.linkDown 2).linkDown 3 else w
  w.roleSync.soloEval.triadSync.timeSync

/-- The effect of an accepted RED write that is more than a store. -/
def redWrite (w : W) (o : Nat) (v : Word) : Option W :=
  if o = 0x040 then some (w.redCfgWrite v)
  else if o = 0x048 then some (w.wrN R.RED_DIAG_MASK (fld v 0 6)).health
  else if o = 0x04C then some (w.redCmd v)
  else if o = 0x07C then some (w.wrN R.RED_COPY_CFG (fld v 0 4)).staleSync
  else none

/-- The code of a write to an LNK register (R690, R700, R849). -/
def lnkCheck (w : W) (m : Memory) (o : Nat) (v : Word) : Nat :=
  if 0x040 ≤ o ∧ o < 0x140 then
    let p := (o - 0x040) / 64
    let k := (o - 0x040) % 64
    if k = 0x10 then
      firstCode [(decide (systemEnd < v.toNat + 128), eLen), (decide (v.toNat < solverEnd ∨ v.toNat % 64 ≠ 0), eRange)]
    else if k = 0x1C then
      firstCode [(decide (systemEnd < v.toNat + 8 * 4160), eLen), (decide (v.toNat < solverEnd ∨ v.toNat % 64 ≠ 0), eRange)]
    else if k = 0x14 then w.msgCode m p (fld v 0 4)
    else 0
  else 0

/-- The effect of an accepted LNK write that is more than a store: enabling or disabling a port, a message doorbell. -/
def lnkWrite (w : W) (m : Memory) (o : Nat) (v : Word) : Option W :=
  if 0x040 ≤ o ∧ o < 0x140 then
    let p := (o - 0x040) / 64
    let k := (o - 0x040) % 64
    if k = 0 then
      let w := w.wrN (R.LNK_Pp_CTRL p) (fld v 0 1)
      some (if bit v 0 then w else w.linkDown p)
    else if k = 0x14 then some (w.msgDoorbell m p (fld v 0 4))
    else none
  else none

end W

end Sys2Proof.Machine
end

