-- ==== Sys2Proof/Machine/Ecc.lean ====
section
/-!
DEFINITION. Errors that the codes of the SRAMs find (R140, R161, R162, R674): corrected words are counted, an
uncorrectable word of system SRAM makes the unit unhealthy until it is written again.
-/
namespace Sys2Proof.Machine.W

/-- n corrected words of the SRAMs (R140). -/
def sramCorrected (w : W) (n : Nat) : W :=
  { w with age.sramCe := List.replicate n (w.tscTime : Int) ++ w.age.sramCe.filter w.recent }

/-- An uncorrectable word at a BAR2 offset; in system SRAM it is a cause of R674 while it stands. -/
def sramLost (w : W) (a : Nat) : W :=
  let k := a / 8
  if solverEnd ≤ a ∧ a < systemEnd ∧ w.tw.sysUe.contains k = false then
    ({ w with tw.sysUe := k :: w.tw.sysUe }).health
  else w

/-- A write of `n` bytes at a BAR2 offset ends the uncorrectable words that it covers. -/
def sramWritten (w : W) (a n : Nat) : W :=
  if w.tw.sysUe.any (fun k => decide (a ≤ 8 * k ∧ 8 * k + 8 ≤ a + n)) then
    ({ w with tw.sysUe := w.tw.sysUe.filter fun k => decide (8 * k < a ∨ a + n < 8 * k + 8) }).health
  else w

/-- The memory domain of a BAR2 offset: PD5 for solver SRAM, PD4 for system SRAM. -/
def bar2Domain (off : Nat) : Nat := if off < solverEnd then 5 else 4

/-- An uncorrectable word of solver SRAM that the host or the fabric reads (R283). -/
def slvLostWord (w : W) (a : Nat) : W :=
  (((w.err 0x15 0x1607).wrN R.SLV_UE_ADDR (a / 8 * 8)).incSat R.SLV_ECC_UE).raise E.SLV_SRAM_UE

/-- A corrected word at a BAR2 offset (R140, R283). -/
def bar2Corrected (w : W) (off : Nat) : W :=
  if systemEnd ≤ off ∨ w.domUp (bar2Domain off) = false then w
  else
    let w := w.sramCorrected 1
    if off < solverEnd then w.incSat R.SLV_ECC_CE else w

/-- The bytes of the 8-byte word that holds offset `a`, replaced in a read of `d` from `off` up. -/
def wordSubst (off a : Nat) (d sub : List Byte) : List Byte :=
  (List.range d.length).map fun i =>
    if (off + i) / 8 = a / 8 then sub.getD ((off + i) % 8) 0 else d.getD i 0

/-- What an uncorrectable word within `n` bytes at `off` makes of a fabric read of them: in solver SRAM the word reads zero
(R283); what it reads as in system SRAM is not stated: free bytes (log 4). -/
def sramEcc (off n : Nat) (e : Ecc) (r : W × List Byte) : W × List Byte :=
  match e with
  | .ok => r
  | .ce => (r.1.bar2Corrected off, r.2)
  | .ue a =>
    if a / 8 * 8 + 8 ≤ off ∨ off + n ≤ a / 8 * 8 then r
    else if a < solverEnd then (r.1.slvLostWord a, wordSubst off a r.2 [])
    else
      let f := freshBytes 8 (r.1.sramLost a)
      (f.1, wordSubst off a r.2 f.2)

/-- A fabric read of `n` bytes of SRAM at a BAR2 offset (R283, R674). -/
def sramRead (off n : Nat) (e : Ecc) (m : Memory) (w : W) : W × List Byte := sramEcc off n e (w, w.bytes m off n)

/-- What a command's own reads of SRAM meet (R140, R283, R674): corrected words, which are counted, and uncorrectable ones, at
BAR2 offsets. Answers also the memory as those reads see it: an uncorrectable word of solver SRAM zero, one of system SRAM, of
which the manual states no reading, free bytes (log 4). A memory whose domain does not answer is not read. -/
def sramMeets (ces ues : List Nat) (m : Memory) (w : W) : W × Memory :=
  (ues.filter fun a => decide (a < systemEnd) && w.domUp (bar2Domain a)).foldl (fun r a =>
    if a < solverEnd then (r.1.slvLostWord a, memPut r.2 (a / 8 * 8) (List.replicate 8 0))
    else
      let w := r.1.sramLost a
      ({ w with freeCtr := w.freeCtr + 1 }, memPut r.2 (a / 8 * 8) (freeBytes 8 w.freeCtr)))
    (ces.foldl bar2Corrected w, m)

/-- An SRAM scrub pass over system, solver and message RAM (R140, R161, R162, R283): each corrected word is rewritten and
counted, each uncorrectable one found. An offset at or above the end of system SRAM stands for a word of message RAM. -/
def sramScrub (ces ues : List Nat) (w : W) : W :=
  let w := ces.foldl (fun w a => if systemEnd ≤ a then w.onIf 6 fun w => w.sramCorrected 1 else w.bar2Corrected a) w
  ues.foldl (fun w a => if a < solverEnd then (if w.domUp 5 then w.slvLostWord a else w) else w.sramLost a) w

end Sys2Proof.Machine.W
end

