-- ==== Sys2Proof/Machine/HostIf.lean ====
section
/-!
DEFINITION. The PCI Express side of the host interface (chapter 19): the link and its power states, MSI-X blocking, and
the four DMA channels.
-/
namespace Sys2Proof.Machine

/-- A host-side failure of a DMA request (R811): an Unsupported Request or Completer Abort, a poisoned or ECRC-failing
completion. -/
abbrev eHostErr : Nat := 0x0501
abbrev eAborted : Nat := 0x0502

namespace W

/-! ## The link (R799 to R802, R822) -/

/-- The PCI Express side of the host interface works: PD9 is on, and start-up has reached phase 9 (R119, R124). -/
def hifOn (w : W) : Bool :=
  !w.pwr.held && w.dom 9 == 1 && w.rdF R.SYS_BOOT_STAT 0 4 == 9

/-- The PCI Express link may train or is trained (R124): PCI Express is selected, phase 9 has been reached, and PE_PERST_N is
high. -/
def linkOk (w : W) : Bool := !w.qspiSel && w.hif.perstN && w.hifOn

/-- LINK_STAT.UP follows the link while the interface works, with HOST_LINK at each change (R799, R822); the vectors that a
change unblocks owe their message (R797). -/
def linkSync (w0 w : W) (changed : Bool) : W :=
  let up := !w.qspiSel && w.linkUp
  let w := if w.hifOn then
      let w := w.wrB R.HIF_LINK_STAT 4 up
      if up != (!w0.qspiSel && w0.linkUp) || changed then w.raise E.HIF_HOST_LINK else w
    else w
  msixReleased w0 w

/-- The PCI Express link or the device power state changes (R822): speed, width, link state, D3hot, lane reversal. -/
def hostLink (speed width lstate : Nat) (d3 laneRev : Bool) (w : W) : W :=
  if !w.linkOk then w
  else
    let w0 := w
    let ds := if d3 then 3 else 0
    let changed := w.rdF R.HIF_LINK_STAT 8 2 != ds
    let w := if lstate % 8 = 0 then w else { w with hif.l2 := false }
    let w := w.wrF R.HIF_LINK_STAT 0 4 (speed % 4 + 4 * (width % 4))
    let w := ((w.wrF R.HIF_LINK_STAT 5 3 lstate).wrF R.HIF_LINK_STAT 8 2 ds).wrB R.HIF_LINK_STAT 10 laneRev
    linkSync w0 w changed

/-- PME_Turn_Off is acknowledged: the host link is down until it next leaves Detect (R799). -/
def pmeTurnOff (w : W) : W :=
  if !w.linkOk then w
  else linkSync w { w.wrF R.HIF_LINK_STAT 5 3 3 with hif.l2 := true } false

/-- A configuration write (R797, R800, R812). -/
def configWrite (bme funcMask pmeEn : Bool) (w : W) : W :=
  if !w.linkOk then w
  else msixReleased w { w with hif.bme := bme, hif.funcMask := funcMask, hif.pmeEn := pmeEn }

/-- The owed message of an asserted vector whose last blocking condition has ended is sent once (R797). -/
def msixUnblock (v : Nat) (w : W) : W :=
  if w.hif.msixOwed.getLsbD v && w.vecAsserted v && !w.msixBlocked v then
    ({ w with hif.msixOwed := w.hif.msixOwed &&& ~~~(BitVec.ofNat 32 (2 ^ v)) }).msixSend v
  else w

/-! ## DMA (R808 to R812) -/

/-- IN_FLIGHT of a channel. -/
def dmaInFlight (w : W) (c : Nat) : Nat := w.rdF (R.HIF_CHc_STAT c) 8 9

/-- Byte address of ring entry i of a channel. -/
def dmaEntry (w : W) (c i : Nat) : Nat := w.rdN (R.HIF_CHc_BASE c) + 32 * (i % 256)

/-- The code of a doorbell, in the order of R808. -/
def dmaCode (w : W) (c count : Nat) : Nat :=
  firstCode [(w.qspiSel || !w.rdB (R.HIF_CHc_CTRL c) 0, eState), (decide (256 < count), eLen),
    (decide (256 < w.dmaInFlight c + count), eFull)]

/-- An accepted doorbell (R808). -/
def dmaAccept (w : W) (c count : Nat) : W :=
  (w.wrF (R.HIF_CHc_PI c) 0 8 (w.rdF (R.HIF_CHc_PI c) 0 8 + count)).wrF (R.HIF_CHc_STAT c) 8 9 (w.dmaInFlight c + count)

/-- The status and BYTES of a descriptor, DONE last (R806, R809); with PD4 off the write is ignored, and the engine learns
ERR_DOMAIN_OFF (R22). -/
def dmaStatus (w : W) (addr code moved : Nat) : W :=
  if w.domUp 4 then (w.put (addr + 28) 4 moved).put (addr + 24) 4 (code + 2 ^ 16) else w.err 0x04 eDomainOff

/-- The descriptor at the head of a channel ends: status, indexes, and DMA_DONE when it asks for it (R811, R822). -/
def dmaEnd (w : W) (c addr code moved : Nat) (ctl : Word) : W :=
  let w := w.dmaStatus addr code moved
  let w := (w.wrF (R.HIF_CHc_CI c) 0 8 (w.rdF (R.HIF_CHc_CI c) 0 8 + 1)).wrF (R.HIF_CHc_STAT c) 8 9 (w.dmaInFlight c - 1)
  let w := ({ w with hif.dma := w.hif.dma.setIfInBounds c none }).wrB (R.HIF_CHc_STAT c) 0 false
  let w := w.wrN (R.HIF_CHc_BYTES c) (w.rdN (R.HIF_CHc_BYTES c) + moved)
  w.raiseIf (bit ctl 2) E.HIF_DMA_DONE

/-- The check of a descriptor at its start, in the order of R810. -/
def dmaCheck (w : W) (ctl : Word) (len haddr doff : Nat) : Nat :=
  firstCode [(!w.domUp (bar2Domain doff), eDomainOff),
    (decide (4194304 < len) || !(decide (doff + len ≤ solverEnd) || decide (solverEnd ≤ doff ∧ doff + len ≤ systemEnd)),
      eLen),
    (decide (2 ≤ fld ctl 0 2) || fld ctl 3 13 != 0 || decide (len % 4 ≠ 0 ∨ haddr % 4 ≠ 0 ∨ doff % 4 ≠ 0), eRange)]

/-- A channel starts its next descriptor (R810, R812). DESIGN CHOICE (log 48): while PD4 is off, which holds the ring, the
descriptor waits. The read of the descriptor meets corrected and uncorrectable words at BAR2 offsets (R140). -/
def dmaStart (c : Nat) (ces ues : List Nat) (m : Memory) (w : W) : W :=
  let st := R.HIF_CHc_STAT c
  if w.qspiSel || !w.rdB (R.HIF_CHc_CTRL c) 0 || w.rdB st 1 || (w.hif.dma.getD c none).isSome || w.dmaInFlight c == 0
      || !w.hif.bme || w.rdF R.HIF_LINK_STAT 8 2 != 0 || w.dom 4 != 1 then w
  else
    let a := w.dmaEntry c (w.rdF (R.HIF_CHc_CI c) 0 8)
    let own := fun (o : Nat) => decide (a ≤ o ∧ o < a + 24)
    let (w, m) := w.sramMeets (ces.filter own) (ues.filter own) m
    let ctl := BitVec.ofNat 32 (w.get m a 4)
    let len := w.get m (a + 4) 4
    let haddr := w.get m (a + 8) 8
    let doff := w.get m (a + 16) 4
    let reserved := w.get m (a + 20) 4 != 0
    let code := w.dmaCheck ctl len haddr doff
    let code := if code = 0 ∧ reserved then eRange else code
    if code ≠ 0 then (w.err 0x04 code).dmaEnd c a code 0 ctl
    else if len = 0 then w.dmaEnd c a 0 0 ctl
    else
      let w := w.retWake (bar2Domain doff)
      ({ w with hif.dma := w.hif.dma.setIfInBounds c (some ⟨a, ctl, len, haddr, doff⟩) }).wrB st 0 true

/-- Data moved by a descriptor in execution: into device memory from the host's bytes, or out to the host as the code of
the memory delivers them (R283). Answers the bytes moved. -/
def dmaMove (w : W) (m : Memory) (j : DmaJob) (data : List Byte) (n : Nat) (e : Ecc) : W × Nat :=
  let w := w.retWake (bar2Domain j.doff)
  if fld j.ctl 0 2 = 0 then
    let d := data.take n
    (w.putBytes j.doff d, d.length)
  else
    let r := sramRead j.doff n e m w
    ({ r.1 with hif.dmaOut := some (j.haddr, r.2) }, n)

/-- A descriptor has moved all its data (R813): `data` are the bytes the host returned for a host-to-device transfer, `e`
what the code of the device memory found. Where its memory's domain has gone off meanwhile nothing moves, and the status
is ERR_DOMAIN_OFF (R22). -/
def dmaDone (c : Nat) (data : List Byte) (e : Ecc) (m : Memory) (w : W) : W :=
  match w.hif.dma.getD c none with
  | none => w
  | some j =>
    if fld j.ctl 0 2 = 0 ∧ data.length < j.len then w
    else if !w.domUp (bar2Domain j.doff) then (w.err 0x04 eDomainOff).dmaEnd c j.addr eDomainOff 0 j.ctl
    else
      let (w, n) := w.dmaMove m j data j.len e
      w.dmaEnd c j.addr 0 n j.ctl

/-- A byte of HOST_ERRS counts one more, saturating, and raises HOST_ERR when it increases (R822). -/
def hostErr (w : W) (i : Nat) : W :=
  if w.rdF R.HIF_HOST_ERRS (8 * i) 8 = 255 then w
  else (w.incSatF R.HIF_HOST_ERRS (8 * i) 8).raise E.HIF_HOST_ERR

/-- A host-side failure ends a descriptor and halts its channel, keeping the data already moved (R811). -/
def dmaFail (c code : Nat) (data : List Byte) (m : Memory) (w : W) : W :=
  match w.hif.dma.getD c none with
  | none => w
  | some j =>
    let (w, n) := if w.domUp (bar2Domain j.doff) then w.dmaMove m j data (min data.length j.len) .ok else (w, 0)
    let w := (w.err 0x04 code).dmaEnd c j.addr code n j.ctl
    (w.wrB (R.HIF_CHc_STAT c) 1 true).raise E.HIF_DMA_HALT

/-- Unsupported Request, Completer Abort, or a poisoned or ECRC-failing completion (R811). -/
def dmaHalt (c : Nat) (poisoned : Bool) (data : List Byte) (m : Memory) (w : W) : W :=
  if (w.hif.dma.getD c none).isNone then w
  else (if poisoned then w.hostErr 2 else w).dmaFail c eHostErr data m

/-- No completion within 50 ms (R811). -/
def dmaTimeout (c : Nat) (data : List Byte) (m : Memory) (w : W) : W :=
  if (w.hif.dma.getD c none).isNone then w else (w.hostErr 1).dmaFail c eTimeout data m

/-- Every waiting descriptor of a channel ends with a code, from ring index `i` on, `n` of them (R811). -/
def dmaFlush (m : Memory) (c code : Nat) : (n i : Nat) → W → W
  | 0, _, w => w
  | n + 1, i, w =>
    let a := w.dmaEntry c i
    let ctl := BitVec.ofNat 32 (w.get m a 4)
    dmaFlush m c code n (i + 1) ((w.err 0x04 code).dmaEnd c a code 0 ctl)

/-- A write of CHc_CMD (R811): RESUME continues a halted channel; ABORT ends the waiting descriptors and clears HALT. -/
def dmaCmd (w : W) (m : Memory) (c : Nat) (v : Word) : W :=
  let w := if bit v 0 then w.wrB (R.HIF_CHc_STAT c) 1 false else w
  if bit v 1 then
    let job := w.hif.dma.getD c none
    let busy := b2n job.isSome
    let ci := w.rdF (R.HIF_CHc_CI c) 0 8
    let w := dmaFlush m c eAborted (w.dmaInFlight c - busy) (ci + busy) w
    -- a descriptor in execution goes on; the ring's next index lies behind the aborted ones
    let w := if job.isSome then
        ({ w with hif.dma := w.hif.dma.setIfInBounds c job }).wrB (R.HIF_CHc_STAT c) 0 true
      else w
    w.wrB (R.HIF_CHc_STAT c) 1 false
  else w

/-- Every descriptor in flight is abandoned (R61): its status reads ERR_STATE and no event is raised. -/
def dmaAbandon (w : W) : W :=
  (List.range 4).foldl (fun w c =>
    let n := w.dmaInFlight c
    let ci := w.rdF (R.HIF_CHc_CI c) 0 8
    let w := (List.range n).foldl (fun w i => (w.err 0x04 eState).dmaStatus (w.dmaEntry c (ci + i)) eState 0) w
    let w := ((w.wrF (R.HIF_CHc_STAT c) 8 9 0).wrB (R.HIF_CHc_STAT c) 0 false).wrF (R.HIF_CHc_CI c) 0 8 (ci + n)
    { w with hif.dma := w.hif.dma.setIfInBounds c none }) w

/-- PE_PERST_N low (R802): descriptors abandoned, channels disabled, the configuration space at its reset values. -/
def perstLow (w : W) : W :=
  if w.qspiSel || !w.hif.perstN then { w with hif.perstN := false }
  else
    let w0 := w
    let w := w.dmaAbandon
    let w := (List.range 4).foldl (fun w c => w.wrB (R.HIF_CHc_CTRL c) 0 false) w
    let w := { w with hif.perstN := false, hif.bme := false, hif.funcMask := false, hif.pmeEn := false, hif.l2 := false }
    linkSync w0 ((w.wrF R.HIF_LINK_STAT 0 4 0).wrF R.HIF_LINK_STAT 5 6 0) false

/-- PE_PERST_N rises (R124, R801): the link may train, PE_WAKE_N is released, the device wakes. -/
def perstRise (w : W) : W :=
  if w.qspiSel || w.hif.perstN then { w with hif.perstN := true }
  else linkSync w (({ w with hif.perstN := true, hif.peWakeLow := false }).wake) false

/-! ## Writes of the HIF page -/

/-- The code of a write to a HIF register (R808, R823). -/
def hifCheck (w : W) (o : Nat) (v : Word) : Nat :=
  if 0x100 ≤ o ∧ o < 0x180 then
    let c := (o - 0x100) / 32
    let k := (o - 0x100) % 32
    if k = 4 then
      firstCode [(decide (systemEnd < v.toNat + 8192), eLen), (decide (v.toNat < solverEnd ∨ v.toNat % 8192 ≠ 0), eRange)]
    else if k = 8 then w.dmaCode c (fld v 0 9)
    else 0
  else 0

/-- The effect of an accepted HIF write that is more than a store; BOOT_CTRL.GO takes effect in `hostWord` while the
device waits for an image (R820). -/
def hifWrite (w : W) (m : Memory) (o : Nat) (v : Word) : Option W :=
  if o = 0x040 then
    let w := w.wr R.HIF_CFG (v &&& 3#32)
    some (if bit v 1 then w else { w with hif.peWakeLow := false })
  else if 0x100 ≤ o ∧ o < 0x180 then
    let c := (o - 0x100) / 32
    let k := (o - 0x100) % 32
    if k = 8 then some (w.dmaAccept c (fld v 0 9))
    else if k = 0x18 then some (w.dmaCmd m c v)
    else none
  else if o = 0x04C then
    let w := w.wrB R.HIF_BOOT_CTRL 1 (bit v 1)
    some (if bit v 0 && !w.rdB R.SYS_BOOT_STAT 9 then (w.wrF R.HIF_BOOT_CTRL 16 16 eState).err 0x04 eState else w)
  else if 0x800 ≤ o ∧ o < 0xA00 then
    some (msixReleased w (w.wr (0x4000 + o) (if o % 16 = 12 then v &&& 1#32 else v)))
  else none

end W

end Sys2Proof.Machine
end

