-- ==== Sys2Proof/Machine/Crypto.lean ====
section
/-!
DEFINITION. The cryptography that the security engine is named to perform (R711, R718, R719): SHA-256 and SHA-384
(FIPS 180-4), AES (FIPS 197) with GCM (SP 800-38D), CMAC (SP 800-38B) and KW (SP 800-38F), key derivation in counter mode
(SP 800-108), and P-256 and P-384 with ECDSA (FIPS 186-4) and ECDH. The standards are named by the manual; their
algorithms are PRESUMED (log entry 60).
-/
namespace Sys2Proof.Machine.Crypto

/-! ## SHA-2 -/

/-- The word size of a SHA-2 function and the rotations of its functions. -/
structure Sha where
  bits : Nat
  rounds : Nat
  /-- Rotations of the big sigmas, and rotations and shift of the small ones. -/
  s0 : Nat × Nat × Nat
  s1 : Nat × Nat × Nat
  g0 : Nat × Nat × Nat
  g1 : Nat × Nat × Nat

def sha256P : Sha := ⟨32, 64, (2, 13, 22), (6, 11, 25), (7, 18, 3), (17, 19, 10)⟩
def sha512P : Sha := ⟨64, 80, (28, 34, 39), (14, 18, 41), (1, 8, 7), (19, 61, 6)⟩

/-- The first primes. -/
def primes (n : Nat) : List Nat :=
  ((List.range 420).filter fun p => decide (2 ≤ p) && (List.range p).all fun d => decide (d < 2) || p % d != 0).take n

/-- The integer root of degree `k` of `n`, found bit by bit from bit `b` down. -/
def iroot (k n : Nat) : (b : Nat) → Nat → Nat
  | 0, r => r
  | b + 1, r => iroot k n b (if (r + 2 ^ b) ^ k ≤ n then r + 2 ^ b else r)

/-- The first `bits` bits of the fractional part of the root of degree `k` of `p`. -/
def rootFrac (k bits p : Nat) : Nat := iroot k (p * 2 ^ (bits * k)) (bits + 6) 0 % 2 ^ bits

/-- The round constants: from the cube roots of the primes. -/
def shaK (c : Sha) : List Nat := (primes c.rounds).map (rootFrac 3 c.bits)
def sha256K : List Nat := shaK sha256P
def sha512K : List Nat := shaK sha512P

/-- The initial values: from the square roots of the first eight primes, and of the next eight for SHA-384. -/
def sha256H : List Nat := (primes 8).map (rootFrac 2 32)
def sha384H : List Nat := ((primes 16).drop 8).map (rootFrac 2 64)

def rotr (c : Sha) (n x : Nat) : Nat := (x >>> n) ||| (x <<< (c.bits - n)) % 2 ^ c.bits
def rot3 (c : Sha) (r : Nat × Nat × Nat) (x : Nat) : Nat := rotr c r.1 x ^^^ rotr c r.2.1 x ^^^ rotr c r.2.2 x
def rot2 (c : Sha) (r : Nat × Nat × Nat) (x : Nat) : Nat := rotr c r.1 x ^^^ rotr c r.2.1 x ^^^ (x >>> r.2.2)

/-- The message schedule, kept newest first. -/
def schedule (c : Sha) : (n : Nat) → List Nat → List Nat
  | 0, w => w
  | n + 1, w =>
    let x := (rot2 c c.g1 (w.getD 1 0) + w.getD 6 0 + rot2 c c.g0 (w.getD 14 0) + w.getD 15 0) % 2 ^ c.bits
    schedule c n (x :: w)

/-- One round on the eight working variables. -/
def shaRound (c : Sha) (v : List Nat) (kw : Nat × Nat) : List Nat :=
  match v with
  | [a, b, cc, d, e, f, g, h] =>
    let m := 2 ^ c.bits
    let ch := (e &&& f) ^^^ ((m - 1 - e) &&& g)
    let t1 := h + rot3 c c.s1 e + ch + kw.1 + kw.2
    let t2 := rot3 c c.s0 a + ((a &&& b) ^^^ (a &&& cc) ^^^ (b &&& cc))
    [(t1 + t2) % m, a, b, cc, (d + t1) % m, e, f, g]
  | _ => v

/-- One block, as a list of words, into the hash value. -/
def shaBlock (c : Sha) (k : List Nat) (h blk : List Nat) : List Nat :=
  let w := (schedule c (c.rounds - 16) blk.reverse).reverse
  (h.zip ((k.zip w).foldl (shaRound c) h)).map fun x => (x.1 + x.2) % 2 ^ c.bits

/-- Consecutive chunks of `n` elements, at most `fuel` of them. -/
def chunks {α : Type} (n : Nat) : (fuel : Nat) → List α → List (List α)
  | 0, _ => []
  | f + 1, l => if l.isEmpty then [] else l.take n :: chunks n f (l.drop n)

/-- The padded message. -/
def shaPad (c : Sha) (m : List Byte) : List Byte :=
  let blk := 2 * c.bits
  let z := (blk - (m.length + 1 + c.bits / 4) % blk) % blk
  m ++ [0x80#8] ++ List.replicate z 0#8 ++ toBe (c.bits / 4) (8 * m.length)

/-- A digest of `out` bytes. -/
def sha (c : Sha) (k h : List Nat) (out : Nat) (m : List Byte) : List Byte :=
  let p := shaPad c m
  let v := (chunks (2 * c.bits) p.length p).foldl (fun h b => shaBlock c k h ((chunks (c.bits / 8) 16 b).map beNat)) h
  (v.flatMap (toBe (c.bits / 8))).take out

def sha256 (m : List Byte) : List Byte := sha sha256P sha256K sha256H 32 m
def sha384 (m : List Byte) : List Byte := sha sha512P sha512K sha384H 48 m

/-! ## AES -/

/-- Multiplication by x in GF(2^8). -/
def xtime (a : Nat) : Nat := if a < 128 then 2 * a else (2 * a - 256) ^^^ 0x1B

/-- Product in GF(2^8), from the bits of `b`. -/
def gmul (a b : Nat) : Nat :=
  ((List.range 8).foldl (fun s i => (if b.testBit i then s.1 ^^^ s.2 else s.1, xtime s.2)) ((0, a) : Nat × Nat)).1

/-- Inverse in GF(2^8), 0 for 0. -/
def ginv (a : Nat) : Nat := ((List.range 256).find? fun b => gmul a b == 1).getD 0

def rotl8 (x n : Nat) : Nat := ((x <<< n) ||| (x >>> (8 - n))) % 256

/-- The S-box. -/
def sbox : Array Nat :=
  ((List.range 256).map fun a =>
    let b := ginv a
    b ^^^ rotl8 b 1 ^^^ rotl8 b 2 ^^^ rotl8 b 3 ^^^ rotl8 b 4 ^^^ 0x63).toArray

def sub (x : Nat) : Nat := sbox.getD x 0
/-- The inverse S-box. -/
def isbox : Array Nat := ((List.range 256).map fun y => ((List.range 256).find? fun x => sub x == y).getD 0).toArray
def isub (x : Nat) : Nat := isbox.getD x 0

def xorL (a b : List Nat) : List Nat := (a.zip b).map fun x => x.1 ^^^ x.2

/-- The key schedule as words of four bytes, newest first: word i from word i − 1 and word i − Nk. -/
def expand (nk : Nat) : (n i : Nat) → (rcon : Nat) → List (List Nat) → List (List Nat)
  | 0, _, _, w => w
  | n + 1, i, rcon, w =>
    let t := w.getD 0 []
    let rot := t.drop 1 ++ t.take 1
    let (t, rcon) :=
      if i % nk = 0 then (match rot.map sub with | a :: r => ((a ^^^ rcon) :: r, xtime rcon) | [] => ([], rcon))
      else if 6 < nk ∧ i % nk = 4 then (t.map sub, rcon) else (t, rcon)
    expand nk n (i + 1) rcon (xorL t (w.getD (nk - 1) []) :: w)

/-- The round keys, 16 bytes each. -/
def roundKeys (key : List Byte) : List (List Nat) :=
  let nk := key.length / 4
  let w := chunks 4 nk (key.map (·.toNat))
  chunks 16 (nk + 7) (expand nk (4 * (nk + 7) - nk) nk 1 w.reverse).reverse.flatten

/-- ShiftRows by a sign: byte r + 4c comes from column c + r, or c − r for the inverse. -/
def shiftRows (inv : Bool) (s : List Nat) : List Nat :=
  (List.range 16).map fun i =>
    let r := i % 4
    let c := i / 4
    s.getD (r + 4 * ((if inv then c + 4 - r else c + r) % 4)) 0

def mixColumn (m : List Nat) (c : List Nat) : List Nat :=
  (List.range 4).map fun r => (List.range 4).foldl (fun x k => x ^^^ gmul (c.getD k 0) (m.getD ((k + 4 - r) % 4) 0)) 0
def mixColumns (m s : List Nat) : List Nat := (chunks 4 4 s).flatMap (mixColumn m)

/-- AES encryption of one block with a list of round keys. -/
def aesEnc (rk : List (List Nat)) (blk : List Nat) : List Nat :=
  match rk with
  | [] => blk
  | k0 :: ks =>
    let s := ks.dropLast.foldl (fun s k => xorL (mixColumns [2, 3, 1, 1] (shiftRows false (s.map sub))) k) (xorL blk k0)
    xorL (shiftRows false (s.map sub)) (ks.getLastD [])

/-- AES decryption of one block. -/
def aesDec (rk : List (List Nat)) (blk : List Nat) : List Nat :=
  match rk.reverse with
  | [] => blk
  | k0 :: ks =>
    let s := ks.dropLast.foldl (fun s k => mixColumns [14, 11, 13, 9] (xorL ((shiftRows true s).map isub) k)) (xorL blk k0)
    xorL ((shiftRows true s).map isub) (ks.getLastD [])

def nats (b : List Byte) : List Nat := b.map (·.toNat)
def bytesOf (n : List Nat) : List Byte := n.map (BitVec.ofNat 8)

/-! ## GCM (SP 800-38D) -/

/-- Product in GF(2^128), most significant bit first. -/
def gf128 (x y : Nat) : Nat :=
  ((List.range 128).foldl (fun s i =>
    let z := if x.testBit (127 - i) then s.1 ^^^ s.2 else s.1
    (z, if s.2 % 2 = 1 then (s.2 / 2) ^^^ (0xE1 <<< 120) else s.2 / 2)) ((0, y) : Nat × Nat)).1

/-- The bytes padded with zeros to whole blocks. -/
def pad16 (m : List Byte) : List Byte := m ++ List.replicate ((16 - m.length % 16) % 16) 0#8

def ghash (h : Nat) (m : List Byte) : Nat :=
  (chunks 16 (m.length / 16 + 1) m).foldl (fun y b => gf128 (y ^^^ beNat b) h) 0

/-- Counter mode from the block after `j0`. -/
def gctr (rk : List (List Nat)) (j0 : List Byte) (m : List Byte) : List Byte :=
  ((chunks 16 (m.length / 16 + 1) m).zipIdx.map fun b =>
    let c := (beNat (j0.drop 12) + 1 + b.2) % 2 ^ 32
    bytesOf (xorL (nats b.1) (aesEnc rk (nats (j0.take 12 ++ toBe 4 c))))).flatten

/-- Ciphertext and tag from a 12-byte IV; `dec` takes the ciphertext as input. -/
def gcm (dec : Bool) (key iv aad m : List Byte) : List Byte × List Byte :=
  let rk := roundKeys key
  let h := beNat (bytesOf (aesEnc rk (List.replicate 16 0)))
  let j0 := iv ++ [0#8, 0#8, 0#8, 1#8]
  let o := gctr rk j0 m
  let c := if dec then m else o
  let s := ghash h (pad16 aad ++ pad16 c ++ toBe 8 (8 * aad.length) ++ toBe 8 (8 * c.length))
  (o, bytesOf (xorL (nats (toBe 16 s)) (aesEnc rk (nats j0))))

/-! ## CMAC (SP 800-38B) and key derivation (SP 800-108) -/

def dbl128 (x : Nat) : Nat := if x.testBit 127 then ((2 * x) % 2 ^ 128) ^^^ 0x87 else 2 * x

def cmac (key m : List Byte) : List Byte :=
  let rk := roundKeys key
  let e := fun (x : Nat) => beNat (bytesOf (aesEnc rk (nats (toBe 16 x))))
  let k1 := dbl128 (e 0)
  let n := if m.isEmpty then 1 else (m.length + 15) / 16
  let last := m.drop (16 * (n - 1))
  let lastBlk := if last.length = 16 then beNat last ^^^ k1
    else beNat (last ++ [0x80#8] ++ List.replicate (15 - last.length) 0#8) ^^^ dbl128 k1
  let y := (chunks 16 (n - 1) m).foldl (fun y b => e (y ^^^ beNat b)) 0
  toBe 16 (e (y ^^^ lastBlk))

/-- SP 800-108 in counter mode with CMAC: `n` bytes. What each iteration's input holds besides label and context (the
counter's and the length's widths, the separator) is not stated: the free function Config.kdfInput (log entry 61). -/
def kdf (key label ctx : List Byte) (n : Nat) : List Byte :=
  ((List.range ((n + 15) / 16)).flatMap fun i => cmac key (Config.kdfInput (i + 1) label ctx n)).take n

/-! ## KW (SP 800-38F) -/

/-- The steps of the wrapping function W on the semiblocks A, R1 to Rn. -/
def kwStep (rk : List (List Nat)) (s : List Nat × List (List Nat)) (t : Nat) : List Nat × List (List Nat) :=
  match s.2 with
  | [] => s
  | r :: rs =>
    let b := aesEnc rk (s.1 ++ r)
    (xorL (b.take 8) (nats (toBe 8 t)), rs ++ [b.drop 8])

def kwWrap (kek p : List Byte) : List Byte :=
  let r := chunks 8 (p.length / 8) (nats p)
  let (a, r) := ((List.range (6 * r.length)).map (· + 1)).foldl (kwStep (roundKeys kek)) (List.replicate 8 0xA6, r)
  bytesOf (a ++ r.flatten)

def kwUnstep (rk : List (List Nat)) (s : List Nat × List (List Nat)) (t : Nat) : List Nat × List (List Nat) :=
  match s.2.getLast? with
  | none => s
  | some r =>
    let b := aesDec rk (xorL s.1 (nats (toBe 8 t)) ++ r)
    (b.take 8, b.drop 8 :: s.2.dropLast)

/-- The unwrapped key; none when the integrity check fails. -/
def kwUnwrap (kek c : List Byte) : Option (List Byte) :=
  let n := c.length / 8 - 1
  let r := chunks 8 n (nats (c.drop 8))
  let (a, r) := ((List.range (6 * n)).map fun i => 6 * n - i).foldl (kwUnstep (roundKeys kek)) (nats (c.take 8), r)
  if a = List.replicate 8 0xA6 then some (bytesOf r.flatten) else none

/-! ## Elliptic curves (FIPS 186-4, D.1.2) -/

/-- A prime curve y² = x³ − 3x + b, its base point and order, and the size of a coordinate. -/
structure Curve where
  p : Nat
  n : Nat
  b : Nat
  gx : Nat
  gy : Nat
  size : Nat

def p256 : Curve where
  p := 0xffffffff00000001000000000000000000000000ffffffffffffffffffffffff
  n := 0xffffffff00000000ffffffffffffffffbce6faada7179e84f3b9cac2fc632551
  b := 0x5ac635d8aa3a93e7b3ebbd55769886bc651d06b0cc53b0f63bce3c3e27d2604b
  gx := 0x6b17d1f2e12c4247f8bce6e563a440f277037d812deb33a0f4a13945d898c296
  gy := 0x4fe342e2fe1a7f9b8ee7eb4a7c0f9e162bce33576b315ececbb6406837bf51f5
  size := 32

def p384 : Curve where
  p := 0xfffffffffffffffffffffffffffffffffffffffffffffffffffffffffffffffeffffffff0000000000000000ffffffff
  n := 0xffffffffffffffffffffffffffffffffffffffffffffffffc7634d81f4372ddf581a0db248b0a77aecec196accc52973
  b := 0xb3312fa7e23ee7e4988e056be3f82d19181d9c6efe8141120314088f5013875ac656398d8a2ed19d2a85c8edd3ec2aef
  gx := 0xaa87ca22be8b05378eb1c71ef320ad746e1d3b628ba79b9859f741e082542a385502f25dbf55296c3a545e3872760ab7
  gy := 0x3617de4a96262c6f5d9e98bf9292dc29f8f41dbd289a147ce9da3113b5f0b8c00a60b1ce1d7e819d7a431d7c90ea0e5f
  size := 48

/-- `a ^ e mod m`, over the `k` low bits of `e`. -/
def powMod (m : Nat) : (k e a acc : Nat) → Nat
  | 0, _, _, acc => acc
  | k + 1, e, a, acc => powMod m k (e / 2) (a * a % m) (if e % 2 = 1 then acc * a % m else acc)

/-- The inverse modulo a prime below 2^384. -/
def invMod (m a : Nat) : Nat := powMod m 384 (m - 2) (a % m) 1

/-- A point in Jacobian coordinates; Z = 0 is the point at infinity. -/
structure Pt where
  x : Nat
  y : Nat
  z : Nat

def ptInf : Pt := ⟨1, 1, 0⟩

/-- Difference modulo p. -/
def subM (p a b : Nat) : Nat := (a + (p - b % p)) % p

def ptDouble (c : Curve) (a : Pt) : Pt :=
  let p := c.p
  if a.z = 0 ∨ a.y = 0 then ptInf
  else
    let zz := a.z * a.z % p
    let m := 3 * subM p a.x zz * ((a.x + zz) % p) % p
    let yy := a.y * a.y % p
    let s := 4 * a.x * yy % p
    let x := subM p (m * m % p) (2 * s)
    ⟨x, subM p (m * subM p s x % p) (8 * yy * yy), 2 * a.y * a.z % p⟩

def ptAdd (c : Curve) (a b : Pt) : Pt :=
  let p := c.p
  if a.z = 0 then b
  else if b.z = 0 then a
  else
    let za := a.z * a.z % p
    let zb := b.z * b.z % p
    let u1 := a.x * zb % p
    let u2 := b.x * za % p
    let s1 := a.y * zb % p * b.z % p
    let s2 := b.y * za % p * a.z % p
    if u1 = u2 then (if s1 = s2 then ptDouble c a else ptInf)
    else
      let h := subM p u2 u1
      let r := subM p s2 s1
      let hh := h * h % p
      let hhh := hh * h % p
      let v := u1 * hh % p
      let x := subM p (subM p (r * r % p) hhh) (2 * v)
      ⟨x, subM p (r * subM p v x % p) (s1 * hhh), h * a.z % p * b.z % p⟩

/-- `k · a`, over the `n` low bits of `k`. -/
def ptMul (c : Curve) : (n k : Nat) → Pt → Pt
  | 0, _, _ => ptInf
  | n + 1, k, a =>
    let h := ptMul c n (k / 2) (ptDouble c a)
    if k % 2 = 1 then ptAdd c h a else h

/-- Affine coordinates; none for the point at infinity. -/
def affine (c : Curve) (a : Pt) : Option (Nat × Nat) :=
  if a.z = 0 then none
  else
    let zi := invMod c.p a.z
    let z2 := zi * zi % c.p
    some (a.x * z2 % c.p, a.y * z2 % c.p * zi % c.p)

/-- `k · (x, y)`. -/
def mulAff (c : Curve) (k x y : Nat) : Option (Nat × Nat) := affine c (ptMul c (8 * c.size) k ⟨x, y, 1⟩)

/-- A public key X ‖ Y that lies on the curve (R711). -/
def onCurve (c : Curve) (q : List Byte) : Bool :=
  let x := beNat (q.take c.size)
  let y := beNat (q.drop c.size)
  decide (q.length = 2 * c.size ∧ x < c.p ∧ y < c.p ∧ y * y % c.p = (x * x % c.p * x + (c.p - 3) * x + c.b) % c.p)

/-- The public key X ‖ Y of a private key. -/
def pubOf (c : Curve) (d : Nat) : List Byte :=
  match mulAff c d c.gx c.gy with
  | some (x, y) => toBe c.size x ++ toBe c.size y
  | none => List.replicate (2 * c.size) 0#8

/-- The integer of a digest, its leftmost bits (FIPS 186-4, 6.4). -/
def digestInt (c : Curve) (h : List Byte) : Nat := beNat (h.take c.size)

/-- ECDSA with the per-message secret k; an unusable k gives zeros. -/
def ecdsaSign (c : Curve) (d k : Nat) (h : List Byte) : List Byte :=
  match mulAff c (k % c.n) c.gx c.gy with
  | none => List.replicate (2 * c.size) 0#8
  | some (x, _) =>
    let r := x % c.n
    toBe c.size r ++ toBe c.size (powMod c.n 384 (c.n - 2) (k % c.n) 1 * ((digestInt c h + r * d) % c.n) % c.n)

/-- ECDSA verification of r ‖ s over a digest with the public key X ‖ Y. -/
def ecdsaVerify (c : Curve) (q h sig : List Byte) : Bool :=
  let r := beNat (sig.take c.size)
  let s := beNat (sig.drop c.size)
  if sig.length ≠ 2 * c.size ∨ r = 0 ∨ s = 0 ∨ c.n ≤ r ∨ c.n ≤ s then false
  else
    let w := invMod c.n s
    let g := ptMul c (8 * c.size) (digestInt c h * w % c.n) ⟨c.gx, c.gy, 1⟩
    let k := ptMul c (8 * c.size) (r * w % c.n) ⟨beNat (q.take c.size), beNat (q.drop c.size), 1⟩
    match affine c (ptAdd c g k) with
    | some (x, _) => x % c.n == r
    | none => false

/-- The shared x-coordinate (R711). -/
def ecdhX (c : Curve) (d : Nat) (q : List Byte) : List Byte :=
  match mulAff c d (beNat (q.take c.size)) (beNat (q.drop c.size)) with
  | some (x, _) => toBe c.size x
  | none => List.replicate c.size 0#8

end Sys2Proof.Machine.Crypto
end

