-- ==== Sys2Proof/Machine/Keys.lean ====
section
/-!
DEFINITION. The key store, the job places of the security engine, its persistent banks, tamper inputs and Squall
(chapter 16). The operations themselves stand in KeyOps.lean.
-/
namespace Sys2Proof.Machine

open Crypto

/-! ## Attribute words (R705, R706) -/

def aType (a : Word) : Nat := fld a 0 4
/-- Bytes of key material of a TYPE (R719). -/
def keyLen (t : Nat) : Nat := [0, 16, 32, 32, 64, 48, 96].getD t 0
def isAes (t : Nat) : Bool := t == 1 || t == 2
def isPriv (t : Nat) : Bool := t == 3 || t == 5
def isPub (t : Nat) : Bool := t == 4 || t == 6
/-- The curve of an EC TYPE. -/
def curveOf (t : Nat) : Curve := if t ≤ 4 then p256 else p384
abbrev bENC : Nat := 4
abbrev bDEC : Nat := 5
abbrev bMAC : Nat := 6
abbrev bSIGN : Nat := 7
abbrev bVERIFY : Nat := 8
abbrev bWRAP : Nat := 9
abbrev bUNWRAP : Nat := 10
abbrev bDERIVE : Nat := 11
abbrev bAGREE : Nat := 12
abbrev bEXPORT : Nat := 13

/-- The use bits that fit a TYPE (R706): DERIVE needs an AES-256 parent (R711). -/
def usesOf (t : Nat) : Nat :=
  if t = 1 then 0x2670 else if t = 2 then 0x2E70 else if isPriv t then 0x3180 else 0x2100

/-- Is the attribute word of a new key one that R705 and R706 permit? -/
def attrOk (a : Word) : Bool :=
  let t := aType a
  decide (1 ≤ t ∧ t ≤ 6) && a.toNat &&& 0x20E0C000 == 0 && (fld a 4 10 * 16) &&& (0x3FF0 - usesOf t) == 0

/-- The attribute word with its ORIGIN (R707). -/
def withOrigin (a : Word) (o : Nat) : Word := setFld a 30 2 o

/-- The public key X ‖ Y of an EC key (R711). -/
def pubKey (k : KeySlot) : List Byte :=
  let t := aType k.attr
  if isPriv t then pubOf (curveOf t) (beNat k.mat) else k.mat

/-- KEYINFO of a statement (R728). -/
def keyInfo (k : KeySlot) : List Byte :=
  let x := if isAes (aType k.attr) then (cmac k.mat (List.replicate 16 0)).take 8 else pubKey k
  x ++ List.replicate (96 - x.length) 0

/-- Bytes of an ASCII label. -/
def ascii (s : String) : List Byte := s.toList.map fun c => BitVec.ofNat 8 c.toNat

/-- The block-specific statuses (R712). -/
abbrev eAuthFail : Nat := 0x3E01
abbrev eSlotEmpty : Nat := 0x3E02
abbrev eSlotOccupied : Nat := 0x3E03
abbrev eBankFail : Nat := 0x3E04

/-- The OTP secret, 32 bytes. -/
def otpSecret : List Byte := toBe 32 Config.otpSecret

/-- The KEK of a nonce (R718). -/
def kekOf (nonce : List Byte) : List Byte := kdf otpSecret (ascii "KEK") nonce 32

/-- The device identity key (R709): extra random bits reduced into 1 to n − 1. -/
def dik : Nat := beNat (kdf otpSecret Config.dikLabel [] 40) % (p256.n - 1) + 1

/-- The attribute word of a fixed slot: its TYPE; the other bits are not stated (R708). -/
def fixedAttr (s : Nat) : Word :=
  setFld (setFld (BitVec.ofNat 32 (Config.fixedAttr s)) 30 2 0) 0 4 (if s = 65 then 5 else 3)

/-! ## Blobs (R719, R720) -/

/-- A blob of a key under a KEK with an IV. -/
def blobOf (kek iv : List Byte) (sel : Nat) (k : KeySlot) : List Byte :=
  let h := toLe 4 0xB10B ++ toLe 1 1 ++ toLe 1 sel ++ toLe 2 0 ++ toLe 4 k.attr.toNat ++ toLe 4 0 ++ iv ++ toLe 4 0
  let (c, t) := gcm false kek iv h k.mat
  h ++ c ++ t

def blobN (b : List Byte) (o n : Nat) : Nat := leNat ((b.drop o).take n)
def blobAttr (b : List Byte) : Word := BitVec.ofNat 32 (blobN b 8 4)

/-- An input length other than 48 + Lk (R720). -/
def blobLenBad (b : List Byte) : Bool :=
  let t := aType (blobAttr b)
  decide (b.length < 48) || (decide (1 ≤ t ∧ t ≤ 6) && b.length != 48 + keyLen t)

/-- A wrong MAGIC or VER, a reserved bit or a reserved TYPE (R720). -/
def blobBad (b : List Byte) : Bool :=
  blobN b 0 4 != 0xB10B || blobN b 4 1 != 1 || blobN b 6 2 != 0 || blobN b 12 4 != 0 || blobN b 28 4 != 0 ||
    decide (1 < blobN b 5 1) || (blobAttr b).toNat &&& 0x20E0C000 != 0 ||
    !decide (1 ≤ aType (blobAttr b) ∧ aType (blobAttr b) ≤ 6)

/-- The key of a blob; none when its tag fails. -/
def unblob (kek b : List Byte) : Option KeySlot :=
  let n := b.length - 48
  let (p, t) := gcm true kek ((b.drop 16).take 12) (b.take 32) ((b.drop 32).take n)
  if t = b.drop (32 + n) then some ⟨blobAttr b, p⟩ else none

namespace W

/-! ## Slots and the registers that show them (R741, R742) -/

def slotKey (w : W) (s : Nat) : Option KeySlot := (w.key.slots.find? fun e => e.1 == s).map (·.2)
def slotUsed (w : W) (s : Nat) : Bool := w.key.slots.any fun e => e.1 == s

/-- A slot filled, or emptied. -/
def setKeySlot (w : W) (s : Nat) (k : Option KeySlot) : W :=
  let rest := w.key.slots.filter fun e => e.1 != s
  { w with key.slots := match k with | some k => (s, k) :: rest | none => rest }

def zeroised (w : W) : Bool := w.rdB R.KEY_STAT 4
def kekLost (w : W) : Bool := w.rdB R.KEY_STAT 5
def rngReady (w : W) : Bool := w.rdB R.KEY_STAT 7 && !w.rdB R.KEY_STAT 8

/-- Occupancy, places and BUSY follow the state. -/
def keySync (w : W) : W :=
  if w.dom 8 ≠ 1 then w
  else
    let bits := fun (lo n : Nat) => (List.range n).foldl (fun x i => x + b2n (w.slotUsed (lo + i)) * 2 ^ i) 0
    let held := (w.key.jobs.map (·.place)).foldl (fun x p => x ||| 2 ^ p) 0
    let w' := (((w.wrN R.KEY_OCC (bits 0 32)).wrN R.KEY_OCC_HI (bits 32 32)).wrN R.KEY_PSLOT (bits 64 8)).wrN R.KEY_PLACES
      (held + 2 ^ 16 * (16 - w.key.jobs.length))
    w'.wrB R.KEY_STAT 12 (w.key.jobs.any fun j => j.state == 2)

/-- Random bytes from the generator (R729): free, and one request more. -/
def rand (w : W) (n : Nat) : W × List Byte :=
  let (w, x) := w.fresh (8 * n)
  ({ w with key.requests := w.key.requests + 1 }, toBe n x)

/-- Bytes into consecutive registers, byte 0 lowest. -/
def wrBytes (w : W) (reg : Nat → Nat) (b : List Byte) : W :=
  (List.range (b.length / 4)).foldl (fun w i => w.wrN (reg i) (leNat ((b.drop (4 * i)).take 4))) w

/-- The bytes of consecutive registers. -/
def regBytes (w : W) (reg : Nat → Nat) (n : Nat) : List Byte := (List.range n).flatMap fun i => toLe 4 (w.rdN (reg i))

def devid (w : W) : List Byte := w.regBytes R.KEY_DEVID 8
def chal (w : W) : List Byte := w.regBytes R.KEY_CHAL 4

/-- A new challenge (R725). -/
def newChal (w : W) : W :=
  let (w, c) := w.rand 16
  w.wrBytes R.KEY_CHAL c

/-- The key-state bits of STAT set, with KSTATE_CHANGE for a change and a new challenge (R725, R730). -/
def setKstate (w : W) (zero lost none_ : Bool) : W :=
  let v := b2n zero + 2 * b2n lost + 4 * b2n none_
  if w.rdF R.KEY_STAT 4 3 = v then w else ((w.wrF R.KEY_STAT 4 3 v).raise E.KEY_KSTATE_CHANGE).newChal

/-! ## Persistent banks (R721 to R724) -/

def bankBase (w : W) (b : Nat) : Nat := w.partBase 4 + 0x80000 * b
def bankMagic (w : W) (m : Memory) (b : Nat) : Bool := w.mramN m (w.bankBase b) 4 == 0x4B42
def bankSeq (w : W) (m : Memory) (b : Nat) : Nat := w.mramN m (w.bankBase b + 4) 4
def bankValid (w : W) (m : Memory) (b : Nat) : Bool :=
  let o := w.bankBase b
  w.bankMagic m b && w.mramN m (o + 1184) 4 == crc32c (w.mram m o 1184) && w.mramN m (o + 1188) 4 == 0xA55AC33C

/-- The bank that holds the newest valid image (R723). DESIGN CHOICE (log 55): of two valid banks with equal sequence numbers,
bank A. -/
def bankInForce (w : W) (m : Memory) : Option Nat :=
  match w.bankValid m 0, w.bankValid m 1 with
  | true, true => some (if newer 32 (w.bankSeq m 1) (w.bankSeq m 0) then 1 else 0)
  | true, false => some 0
  | false, true => some 1
  | false, false => none

/-- The 1,184 bytes of a bank image before its CRC; the blob of each record takes a fresh IV. -/
def bankImage (w : W) (seq lc : Nat) (kek : List Byte) (slots : List (Nat × KeySlot)) : W × List Byte :=
  let head := toLe 4 0x4B42 ++ toLe 4 seq ++ toLe 1 lc ++ List.replicate 55 0#8
  (List.range 7).foldl (fun (acc : W × List Byte) i =>
    match (slots.find? fun e => e.1 == 65 + i).map (·.2) with
    | none => (acc.1, acc.2 ++ List.replicate 160 0#8)
    | some k =>
      let (w, iv) := acc.1.rand 12
      let b := blobOf kek iv 0 k
      (w, acc.2 ++ toLe 4 1 ++ List.replicate 12 0#8 ++ b ++ List.replicate (144 - b.length) 0#8)) (w, head)

/-- A bank write starts (R722): all but the commit word is written first. -/
def bankStart (b : BankJob) (w : W) : W :=
  let kek := match b.kek with | some k => k.1 | none => w.tmp.kek
  let lc := if b.owner.isSome then 1 else w.key.lc
  let (w, img) := w.bankImage b.seq lc kek b.slots
  let o := w.bankBase b.bank
  let w := (w.mramPut (o + 1188) (toLe 4 0)).mramPut o (img ++ toLe 4 (crc32c img))
  { w with key.bank := some b }

/-- The bank and the sequence number of the next write (R722). -/
def bankNext (w : W) (m : Memory) : Nat × Nat :=
  match w.bankInForce m with
  | some b => (1 - b, (w.bankSeq m b + 1) % 2 ^ 32)
  | none => (0, 1)

/-- The sequence number of a REPROVISION: one above the highest in a bank of correct magic (R739). -/
def bankTop (w : W) (m : Memory) : Nat :=
  let s := ((List.range 2).filter (w.bankMagic m)).map (w.bankSeq m)
  match newest 32 s with
  | some x => (x + 1) % 2 ^ 32
  | none => 1

/-! ## Start of the security engine (R709, R723, R729, R730) -/

/-- The fixed slot 64 and DEVID. -/
def loadDik (w : W) : W :=
  if w.key.otpDead then w
  else
    let k : KeySlot := ⟨fixedAttr 64, toBe 32 dik⟩
    (w.setKeySlot 64 (some k)).wrBytes R.KEY_DEVID (sha256 (pubKey k))

/-- The records of the bank in force loaded (R723, R730). -/
def loadBank (m : Memory) (w : W) : W :=
  let torn := fun (w : W) => (w.wrB R.KEY_STAT 9 true).raise E.KEY_BANK_TORN
  match w.bankInForce m with
  | none => if w.bankMagic m 0 || w.bankMagic m 1 then torn w else w
  | some b =>
    let w := (w.wrN R.KEY_BANK_SEQ (w.bankSeq m b)).wrB R.KEY_STAT 10 (b == 1)
    let w := if !w.bankValid m (1 - b) && w.bankMagic m (1 - b) then torn w else w
    (List.range 7).foldl (fun w i =>
      let r := w.bankBase b + 64 + 160 * i
      if w.mramN m r 4 ≠ 1 then w
      else
        let n := 48 + keyLen (aType (blobAttr (w.mram m (r + 16) 12)))
        match unblob w.tmp.kek (w.mram m (r + 16) n) with
        | some k => w.setKeySlot (65 + i) (some k)
        | none => torn w) w

/-- The security engine starts; `rngOk` is the outcome of the start-up health tests. Jobs accepted while it starts stay (R113). -/
def sceStart (m : Memory) (rngOk : Bool) (w : W) : W :=
  let w := { w with key.slots := [], key.pair := none, key.bank := none, key.requests := 0 }
  let w := w.wrF R.KEY_STAT 0 3 w.key.lc
  let w := if rngOk then w.wrB R.KEY_STAT 7 true else (w.wrB R.KEY_STAT 8 true).raise E.KEY_RNG_FAIL
  let w := (w.wrBytes R.KEY_OWNER_HASH w.key.ownerHash).newChal
  let w :=
    if w.key.lc = 0 then w.setKstate false false true
    else
      let zero := w.rdB R.TMP_STAT 0
      let lost := w.rdB R.BKP_FLAGS 0 || w.rdB R.BKP_FLAGS 1 || w.key.otpDead || w.tmp.kek != kekOf w.tmp.nonce
      let w := (w.setKstate zero lost false).loadDik
      if zero || lost then w else ((w.loadBank m).mramTouch (w.bankBase 0) 1192).mramTouch (w.bankBase 1) 1192
  w.keySync

/-- The keys with which the HKE verifies (R856): those loaded while PD8 is on, else those that its start would load. -/
def keyView (m : Memory) (w : W) : W := if w.dom 8 = 1 then w else w.sceStart m true

/-- PD8 switches off: its keys and jobs are gone (R710); a bank write is torn. -/
def sceStop (w : W) : W :=
  { w with key.slots := [], key.pair := none, key.jobs := [], key.bank := none, key.requests := 0 }

/-! ## Squall (R733 to R738) -/

/-- The power state of a tamper log entry (R738). -/
def logState (w : W) : Nat :=
  if w.inOff then 3 else if !w.rdB R.SYS_BOOT_STAT 4 || w.pwr.held then 4 else w.pstate

/-- A tamper log entry (R738). -/
def tamperLog (w : W) (cause : Nat) : W :=
  let i := w.rdF R.TMP_LOG_IDX 0 4
  let n := w.rdF R.TMP_LOG_IDX 8 8
  let hi := cause + 8 * w.logState + 64 * b2n w.tinv + 2 ^ 16 * w.rdF R.RTC_SUBSEC 0 15
  let w := { w with tmp.log := w.tmp.log.setIfInBounds i (w.rtcSec, BitVec.ofNat 32 hi) }
  let w := w.wrN R.TMP_LOG_IDX ((i + 1) % 16 + 256 * satInc 8 n)
  if 16 ≤ n then w.wrB R.TMP_STAT 6 true else w

/-- Squall: every key, the KEK and its nonce are erased (R734 to R736). -/
def squall (cause : Nat) (w : W) : W :=
  let w := (w.tamperLog cause).wrB R.TMP_STAT 0 true
  let w := { w with tmp.kek := List.replicate 32 0, tmp.nonce := List.replicate 32 0, key.slots := [], key.pair := none,
                    key.bank := none, key.requests := 0 }
  let hit := fun (j : SecJob) =>
    if j.state = 3 then { j with output := [] }
    else if j.state = 2 then { j with ran := true, writing := false, status := eSquall, output := [], squall := true }
    else { j with input := [], squall := true }
  let w : W := { w with key.jobs := w.key.jobs.map hit }
  let w := w.raise E.TMP_SQUALL
  if w.dom 8 ≠ 1 then w
  else
    let w := w.wrB R.KEY_STAT 11 false
    (w.setKstate true (w.rdB R.KEY_STAT 5) (w.rdB R.KEY_STAT 6)).keySync

/-- An enabled input or the mesh is active. -/
def tamperActive (w : W) : Bool := w.rdF R.TMP_STAT 1 5 != 0

/-- Every enabled input and the mesh are inactive again (R740). -/
def tamperCleared (was : Bool) (w : W) : W := w.raiseIf (was && !w.tamperActive) E.TMP_TAMPER_CLEAR

/-- A TMP input completes its filter run (R731). -/
def tamperInput (i : Nat) (active : Bool) (sub : Nat) (w : W) : W :=
  if w.rtc.vselLow || !w.rdB R.TMP_CFG (4 * i) || w.rdB R.TMP_STAT (1 + i) == active then w
  else
    let was := w.tamperActive
    let w := (w.wrN R.RTC_SUBSEC (sub % 2 ^ 15)).wrB R.TMP_STAT (1 + i) active
    if active then w.squall (1 + i) else w.tamperCleared was

/-- A mesh bit that does not match (R732). -/
def meshMismatch (sub : Nat) (w : W) : W :=
  if w.rtc.vselLow || !w.rdB R.TMP_CFG 16 then w
  else
    let w := (w.wrN R.RTC_SUBSEC (sub % 2 ^ 15) : W)
    let w := { w with tmp.mesh := satInc 3 w.tmp.mesh }
    if w.rdF R.TMP_CFG 17 3 ≤ w.tmp.mesh ∧ w.rdB R.TMP_STAT 5 = false then (w.wrB R.TMP_STAT 5 true).squall 5 else w

/-- A mesh bit without a mismatch (R732). -/
def meshMatch (w : W) : W :=
  if w.rtc.vselLow || !w.rdB R.TMP_CFG 16 then w
  else
    let was := w.tamperActive
    (({ w with tmp.mesh := 0 }).wrB R.TMP_STAT 5 false).tamperCleared was

/-- The code of a write to a TMP register (R733, R738, R743). -/
def tmpCheck (w : W) (o : Nat) (v : Word) : Nat :=
  if o = 0x044 then (if fld v 17 3 = 0 then eRange else 0)
  else if o = 0x048 then (if (List.range 4).any fun i => fld v (8 * i) 8 == 0 then eRange else 0)
  else if o = 0x04C then (if v = 0x5A11D0CE#32 then 0 else eRange)
  else if o = 0x060 then (if w.key.lc = 2 ∧ bit v 0 = true then ePerm else 0)
  else 0

/-- The effect of an accepted write to a TMP register that is more than a store. -/
def tmpWrite (w : W) (o : Nat) (v : Word) : Option W :=
  if o = 0x044 then
    let was := w.tamperActive
    let w := w.wr R.TMP_CFG (v &&& 0x000F3333#32)
    let w := (List.range 4).foldl (fun w i => if bit v (4 * i) then w else w.wrB R.TMP_STAT (1 + i) false) w
    let w := if bit v 16 then w else ({ w with tmp.mesh := 0 }).wrB R.TMP_STAT 5 false
    some (w.tamperCleared was)
  else if o = 0x04C then some (w.squall 6)
  else if o = 0x060 then
    some (if bit v 0 then (({ w with tmp.log := Vector.replicate 16 (0, 0) }).wr R.TMP_LOG_IDX 0).wrB R.TMP_STAT 6 false
      else w)
  else none

/-! ## The pair key (R727) -/

/-- At the completion of pairing the units agree the pair key. -/
def pairKey (peer : Peer) (w : W) : W :=
  if w.dom 8 ≠ 1 ∨ w.rdB R.KEY_PAIR_CFG 0 = false then w
  else
    let key := match w.slotKey 66, w.slotKey 67 with
      | some own, some other =>
        if other.mat = peer.pub ∧ aType other.attr = 4 then
          let ids := if beNat w.devid ≤ beNat peer.devid then w.devid ++ peer.devid else peer.devid ++ w.devid
          some (kdf (ecdhX p256 (beNat own.mat) other.mat) (ascii "PAIR") ids 32)
        else none
      | _, _ => none
    (({ w with key.pair := key }).wrB R.KEY_STAT 11 key.isSome).raise E.KEY_PAIR_KEY

/-! ## Signed images and safety tables (R520, R646, R856) -/

/-- The key that may verify an image or a table. -/
def verifyKey (w : W) (slot : Nat) : Option KeySlot :=
  if slot < 68 ∨ 71 < slot ∨ w.key.lc = 0 ∨ 3 < w.key.lc then none
  else match w.slotKey slot with
    | some k =>
      if (aType k.attr = 3 ∨ aType k.attr = 4) ∧ bit k.attr bVERIFY = true ∧ bit k.attr (25 + w.key.lc) = true then some k
      else none
    | none => none

/-- A signature r ‖ s over SHA-256 of the bytes with the key of a slot. -/
def verifySig (w : W) (slot : Nat) (msg sig : List Byte) : Bool :=
  match w.verifyKey slot with
  | some k => ecdsaVerify p256 (pubKey k) (sha256 msg) sig
  | none => false

/-! ## Job places (R714 to R717) -/

/-- The lowest free place. -/
def freePlace (w : W) : Nat := ((List.range 16).find? fun p => !w.key.jobs.any fun j => j.place == p).getD 0

/-- The code of a ring doorbell (R715). -/
def keyDbCode (w : W) (k : Nat) : Nat :=
  firstCode [(decide (16 < k), eLen), (decide (16 < w.key.jobs.length + k), eFull)]

/-- The job of the ring entry at `a` (R714). With PD4 off the entry and its input read zero, and the engine learns
ERR_DOMAIN_OFF, which the job takes as its status (R22; DEDUCED, log 55). -/
def ringJob (m : Memory) (w : W) (a : Nat) : SecJob :=
  if !w.domUp 4 then
    { place := w.freePlace, host := true, op := 0, slot := 0, slot2 := 0, attr := 0, input := [], cap := 0, out := 0, entry := a,
      copy := eDomainOff }
  else
    let len := w.get m (a + 12) 4
    let src := w.get m (a + 8) 4
    let ok := len ≤ 4096 ∧ inSystem src len = true
    { place := w.freePlace, host := true, op := w.get m a 2, slot := w.get m (a + 2) 1, slot2 := w.get m (a + 3) 1,
      attr := BitVec.ofNat 32 (w.get m (a + 4) 4), input := if ok then w.bytes m src len else [],
      cap := w.get m (a + 20) 4, out := w.get m (a + 16) 4, entry := a, copy := if ok then 0 else eLen }

/-- An accepted ring doorbell copies each entry and its input into the engine (R715). -/
def keyDoorbell (m : Memory) (k : Nat) (w : W) : W :=
  let pi := w.rdF R.KEY_RING_PI 0 4
  let w := (List.range k).foldl (fun w i =>
    let a := w.rdN R.KEY_RING_BASE + 64 * ((pi + i) % 16)
    let up := w.domUp 4
    let w := { w with key.jobs := w.key.jobs ++ [w.ringJob m a] }
    if up then w.put (a + 34) 1 (w.get m (a + 34) 1 / 2 * 2) else w) w
  (w.wrN R.KEY_RING_PI ((pi + k) % 16)).keySync

/-- The job in the executing place, changed. -/
def setJob (w : W) (j : SecJob) : W :=
  { w with key.jobs := w.key.jobs.map fun x => if x.place = j.place then j else x }

def execJob (w : W) : Option SecJob := w.key.jobs.find? fun j => j.state == 2

/-- The code of a write to a KEY register. -/
def keyCheck (w : W) (o : Nat) (v : Word) : Nat :=
  if o = 0x044 then
    firstCode [(decide (v.toNat < solverEnd ∨ systemEnd ≤ v.toNat ∨ v.toNat % 1024 ≠ 0), eRange)]
  else if o = 0x048 then w.keyDbCode (fld v 0 5)
  else if o = 0x060 then (if 71 < fld v 0 7 then eRange else 0)
  else 0

/-- The effect of an accepted write to a KEY register that is more than a store. -/
def keyWrite (w : W) (m : Memory) (o : Nat) (v : Word) : Option W :=
  if o = 0x048 then some (w.keyDoorbell m (fld v 0 5)) else none

end W

end Sys2Proof.Machine
end

