-- ==== Sys2Proof/Machine/KeyOps.lean ====
section
/-!
DEFINITION. The checks of a security job and the operations of the security engine (R706, R707, R711, R717, R725, R728,
R737, R739). A job passes three commands: its start, which checks it; its operation; and its completion.
-/
namespace Sys2Proof.Machine

open Crypto

/-! ## What each operation needs (R711) -/

/-- The use bit that an operation needs of the key in SLOT. -/
def opUse (op : Nat) : Option Nat :=
  match op with
  | 0x04 => some bEXPORT
  | 0x08 => some bDERIVE
  | 0x10 => some bENC
  | 0x11 => some bDEC
  | 0x12 => some bMAC
  | 0x13 => some bMAC
  | 0x14 => some bWRAP
  | 0x15 => some bUNWRAP
  | 0x20 => some bSIGN
  | 0x21 => some bVERIFY
  | 0x22 => some bAGREE
  | _ => none

/-- The operation names a key in SLOT that must hold one. -/
def opHasKey (op : Nat) : Bool := (opUse op).isSome || [0x06, 0x07, 0x30].contains op

/-- The slot that must be an empty volatile one. -/
def opTarget (j : SecJob) : Option Nat :=
  if [0x01, 0x02, 0x03, 0x05].contains j.op then some j.slot
  else if [0x08, 0x15, 0x22].contains j.op then some j.slot2 else none

/-- The operation needs random bits (R729). -/
def opRandom (op : Nat) : Bool := [0x01, 0x02, 0x04, 0x06, 0x20, 0x30, 0x38, 0x40, 0x42].contains op

/-- The operation codes of R711. -/
def opCodes : List Nat :=
  [0x01, 0x02, 0x03, 0x04, 0x05, 0x06, 0x07, 0x08, 0x10, 0x11, 0x12, 0x13, 0x14, 0x15, 0x18, 0x19, 0x20, 0x21, 0x22, 0x30,
   0x38, 0x40, 0x41, 0x42]

/-- AADLEN of a GCM input (R711). -/
def gcmAad (i : List Byte) : Nat := blobN i 12 2

namespace W

/-- The requester's bits of a key are set: use, master, world and life cycle (R706). -/
def keyGrants (w : W) (j : SecJob) (use : Nat) (k : KeySlot) : Bool :=
  bit k.attr use && bit k.attr (if j.host then 16 else 17 + j.task) && bit k.attr (if j.worldS then 25 else 24) &&
    decide (1 ≤ w.key.lc ∧ w.key.lc ≤ 3) && bit k.attr (25 + w.key.lc)

/-- The job carries an owner authorisation (R702, R711). -/
def needsAuth (w : W) (j : SecJob) : Bool :=
  (j.op == 0x41 && w.key.lc != 0) || j.op == 0x42 ||
    (w.key.lc == 2 && (j.op == 0x06 || (j.op == 0x07 && decide (67 ≤ j.slot))))

/-- The message of an owner authorisation (R726). -/
def authMsg (w : W) (j : SecJob) : List Byte :=
  let head := fun s => ascii s ++ w.devid ++ w.chal
  let key := (w.slotKey j.slot).getD default
  match j.op with
  | 0x41 => head "LC" ++ j.input.take 1
  | 0x42 => head "RP"
  | 0x06 => head "PS" ++ toLe 1 j.slot2 ++ toLe 4 key.attr.toNat ++ keyInfo key
  | _ => head "PE" ++ toLe 1 j.slot

/-- An owner authorisation fails (R726). -/
def authBad (w : W) (j : SecJob) : Bool :=
  let a := if j.op = 0x41 then j.input.drop 1 else j.input
  let pub := a.take 64
  sha256 pub != w.key.ownerHash || !onCurve p256 pub || !ecdsaVerify p256 pub (sha256 (w.authMsg j)) (a.drop 64)

/-- The transitions of R702. -/
def lcMoveOk (w : W) (t : Nat) : Bool :=
  (t == 4 && w.key.lc != 4) || (w.key.lc == 1 && t == 2) || (w.key.lc == 2 && t == 3)

/-- An input whose length does not match its layout (R711). -/
def inputBad (w : W) (j : SecJob) : Bool :=
  let n := j.input.length
  let k := (w.slotKey j.slot).getD default
  let t := aType k.attr
  let at_ := aType j.attr
  let coord := (curveOf t).size
  let aad := gcmAad j.input
  match j.op with
  | 0x03 => n != keyLen at_
  | 0x04 => n != 1
  | 0x05 => blobLenBad j.input
  | 0x08 => decide (256 < n)
  | 0x10 => decide (n < 14 + aad)
  | 0x11 => decide (n < 14 + aad + 16)
  | 0x12 => false
  | 0x13 => decide (n < 16)
  | 0x15 => n != (if at_ = 1 then 24 else 40)
  | 0x18 => false
  | 0x19 => false
  | 0x20 => (w.slotUsed j.slot && n != coord)
  | 0x21 => (w.slotUsed j.slot && n != 3 * coord)
  | 0x22 => (w.slotUsed j.slot && (decide (n < 2 * coord) || decide (2 * coord + 256 < n)))
  | 0x30 => decide (64 < n)
  | 0x40 => n != 64
  | 0x41 => n != 1 + (if w.needsAuth j then 128 else 0)
  | 0x42 => n != 128
  | _ => n != (if w.needsAuth j then 128 else 0)

/-- The bytes that the operation will put out. -/
def outLen (w : W) (j : SecJob) : Nat :=
  let n := j.input.length
  let t := aType ((w.slotKey j.slot).getD default).attr
  let coord := (curveOf t).size
  match j.op with
  | 0x02 => 2 * (curveOf (aType j.attr)).size
  | 0x04 => 48 + keyLen t
  | 0x10 => n - 14 - gcmAad j.input + 16
  | 0x11 => n - 14 - gcmAad j.input - 16
  | 0x12 => 16
  | 0x14 => 8 + keyLen (aType ((w.slotKey j.slot2).getD default).attr)
  | 0x18 => 32
  | 0x19 => 48
  | 0x20 => 2 * coord
  | 0x30 => if j.slot = 65 then 288 else 320
  | 0x38 => j.cap
  | 0x40 => 160
  | 0x42 => 160
  | _ => 0

/-- A value that R711 gives no place to: slots, attribute words, key types. -/
def jobRange (w : W) (j : SecJob) : Bool :=
  let t := aType ((w.slotKey j.slot).getD default).attr
  let at_ := aType j.attr
  let vol := match opTarget j with | some s => decide (63 < s) | none => false
  let newKey := [0x01, 0x02, 0x03, 0x08, 0x15, 0x22].contains j.op
  !opCodes.contains j.op || decide (71 < j.slot) || decide (71 < j.slot2) || vol || (newKey && !attrOk j.attr) ||
    match j.op with
    | 0x01 => !isAes at_
    | 0x02 => !isPriv at_
    | 0x03 => !isPub at_ || !onCurve (curveOf at_) j.input
    | 0x04 => decide (1 < blobN j.input 0 1)
    | 0x05 => blobBad j.input
    | 0x06 => decide (63 < j.slot) || decide (j.slot2 < 67) ||
        (j.slot2 == 67 && w.slotUsed j.slot && t != 4)
    | 0x08 => !isAes at_ || j.input.length == 0
    | 0x14 => w.slotUsed j.slot2 && !isAes (aType ((w.slotKey j.slot2).getD default).attr)
    | 0x15 => !isAes at_
    | 0x22 => at_ != 2 || (w.slotUsed j.slot && !onCurve (curveOf t) (j.input.take (2 * (curveOf t).size)))
    | 0x30 => decide (j.input.length < 16)
    | 0x38 => j.cap == 0
    | _ => false

/-- ERR_PERM (R701, R706 to R708, R711). -/
def jobPerm (w : W) (j : SecJob) : Bool :=
  let fixed := fun s => decide (64 ≤ s ∧ s ≤ 66)
  let lcBad := (w.key.lc == 0 && !([0x40, 0x18, 0x19, 0x38, 0x41].contains j.op)) ||
    (w.key.lc == 4 && !([0x18, 0x19].contains j.op))
  let key := match opUse j.op, w.slotKey j.slot with
    | some u, some k => !w.keyGrants j u k ||
        ([0x08, 0x22].contains j.op && (j.attr.toNat / 16 % 2 ^ 25) &&& (2 ^ 25 - 1 - k.attr.toNat / 16 % 2 ^ 25) != 0)
    | _, _ => false
  let wrapped := j.op == 0x14 && match w.slotKey j.slot2 with | some k => !w.keyGrants j bEXPORT k | none => false
  lcBad || ([0x40, 0x41, 0x42].contains j.op && !j.host) ||
    (((opUse j.op).isSome || j.op == 0x06 || j.op == 0x07) && fixed j.slot) || (j.op == 0x14 && fixed j.slot2) ||
    (match opTarget j with | some s => fixed s | none => false) || (j.op == 0x06 && fixed j.slot2) || key || wrapped

/-- ERR_STATE (R702, R720, R724, R729, R739). DEDUCED (log 55): a change of the persistent slots draws the IVs of its blobs, so a
persistent ERASE needs random bits as well. -/
def jobState (w : W) (j : SecJob) : Bool :=
  ((opRandom j.op || (j.op == 0x07 && decide (67 ≤ j.slot))) && !w.rngReady) || (j.op == 0x40 && w.key.lc != 0) ||
    (j.op == 0x41 && !w.lcMoveOk (blobN j.input 0 1)) ||
    (j.op == 0x42 && (!(w.zeroised || w.kekLost) || w.key.lc == 0 || w.key.lc == 4 || w.tamperActive)) ||
    ((j.op == 0x05 || j.op == 0x04) && blobN j.input (if j.op = 0x05 then 5 else 0) 1 == 1 && w.key.pair.isNone) ||
    (w.ew && (j.op == 0x06 || (j.op == 0x07 && decide (67 ≤ j.slot))))

/-- Operations that a lost or erased KEK still permits (R737). -/
def kekFree (op : Nat) : Bool := [0x18, 0x19, 0x41, 0x42].contains op

/-- The code of a job's checks, in the order of R75 (R717). An output larger than its capacity ends an accepted SYS job (R515), so
KEY_SUBMIT (`submit`) leaves that check to the job's start. -/
def secCode (w : W) (j : SecJob) (submit : Bool := false) : Nat :=
  firstCode [
    (j.copy == eDomainOff, eDomainOff), (w.zeroised && !kekFree j.op, eSquall), (w.kekLost && !kekFree j.op, eKekLost), (w.jobPerm j, ePerm),
    (w.jobState j, eState),
    (j.copy == eLen || decide (4096 < j.input.length) || w.inputBad j || (!submit && decide (j.cap < w.outLen j)) ||
      (j.host && (decide (4096 < j.cap) || (decide (0 < w.outLen j) && !inSystem j.out (w.outLen j)))), eLen),
    (w.jobRange j, eRange), (w.needsAuth j && w.authBad j, eSignature),
    (opHasKey j.op && !w.slotUsed j.slot, eSlotEmpty), (j.op == 0x14 && !w.slotUsed j.slot2, eSlotEmpty),
    (j.op == 0x30 && !w.slotUsed (if j.slot = 65 then 64 else 65), eSlotEmpty),
    (match opTarget j with | some s => w.slotUsed s | none => false, eSlotOccupied)]

/-- The oldest accepted job takes the executing place and is checked (R716, R717, R736). -/
def keyJobStart (w : W) : W :=
  if w.execJob.isSome || w.dom 8 != 1 then w
  else match w.key.jobs.find? fun j => j.state == 1 with
    | none => w
    | some j =>
      let c := if j.squall && j.copy != eDomainOff then eSquall else w.secCode j
      (w.setJob { j with state := 2, status := c, ran := c != 0 }).keySync

/-- The operation of the executing job (R711): what it puts out, or a status; `none` while it goes on. -/
def secRun (op : Nat) (f : SecJob → W → W × Nat × List Byte) (w : W) : W :=
  match w.execJob with
  | some j =>
    if j.op = op ∧ j.ran = false then
      let (w, c, out) := f j w
      -- a bank write that the operation has started ends it (R722)
      (w.setJob { j with ran := true, status := c, output := if c = 0 then out else [], writing := w.key.bank.isSome }).keySync
    else w
  | none => w

/-- The executing job completes: its status and output are written (R715, R717). DESIGN CHOICE (log 55): with PD4 off the write of
a host job's status and output is ignored (R22), and what the engine learns is recorded in KEY.ERR; the job's own status,
LAST_STATUS and the events stay those of the job. -/
def keyJobComplete (w : W) : W :=
  match w.execJob with
  | some j =>
    if !j.ran || j.writing then w
    else
      let auth := w.needsAuth j
      let t := w.tsc.toNat
      let w :=
        if j.host then
          let w := if w.domUp 4 then
              (w.putBytes j.out j.output).putBytes (j.entry + 32)
                (toLe 4 (j.status + 2 ^ 16) ++ toLe 4 j.output.length ++ toLe 8 t)
            else w.err 0x3D eDomainOff
          { w with key.jobs := w.key.jobs.filter fun x => x.place != j.place }
        else if j.orphan then { w with key.jobs := w.key.jobs.filter fun x => x.place != j.place }
        else w.setJob { j with state := 3, tscEnd := t }
      let w := if auth && w.rngReady then w.newChal else w
      let w := (w.inc R.KEY_JOB_CNT).wrN R.KEY_LAST_STATUS (j.status + 2 ^ 16 * (j.op % 2 ^ 16))
      ((w.err 0x3D j.status).raise E.KEY_JOB_DONE).raiseIf (j.status != 0) E.KEY_JOB_ERR |>.keySync
  | none => w

/-- The bank write reaches its commit word and the change takes effect, or it fails (R712, R722). -/
def bankComplete (ok : Bool) (w : W) : W :=
  match w.key.bank with
  | none => w
  | some b =>
    let j := w.execJob
    let w : W := { w with key.bank := none }
    let w :=
      if !ok then
        match j with
        | some j => w.setJob { j with writing := false, status := eBankFail, output := [] }
        | none => w
      else
        let w := w.mramPut (w.bankBase b.bank + 1188) (toLe 4 0xA55AC33C)
        let w : W := { w with key.slots := b.slots.filter (fun e => 65 ≤ e.1) ++ w.key.slots.filter fun e => e.1 < 65 }
        let w := (w.wrN R.KEY_BANK_SEQ b.seq).wrB R.KEY_STAT 10 (b.bank == 1)
        let w := match b.kek with
          | some (k, n) => { w with tmp.kek := k, tmp.nonce := n }
          | none => w
        let w := match b.owner with
          | some h =>
            let w : W := { w with key.ownerHash := h, key.lc := 1 }
            ((w.wrBytes R.KEY_OWNER_HASH h).wrF R.KEY_STAT 0 3 1).raise E.KEY_LC_CHANGE
          | none => w
        -- DESIGN CHOICE (log 55): the DIK is derived again with a new KEK, not only at the next start of PD8
        let w := if b.kek.isSome then ((w.loadDik).wrB R.TMP_STAT 0 false).setKstate false false false else w
        match j with
        | some j => w.setJob { j with writing := false }
        | none => w
    w.keySync

/-- The generator reseeds after 2^20 requests; a health test that fails stops it until the next start of PD8 (R729). -/
def rngReseed (ok : Bool) (w : W) : W :=
  if w.dom 8 ≠ 1 ∨ (ok = true ∧ w.key.requests < 2 ^ 20) then w
  else if ok then { w with key.requests := 0 }
  else if w.rdB R.KEY_STAT 8 then w
  else (w.wrB R.KEY_STAT 8 true).raise E.KEY_RNG_FAIL

/-! ## The operations (R711) -/

/-- A private key of a curve: 1 to n − 1, free (R711). -/
def randPriv (w : W) (c : Curve) : W × List Byte :=
  let (w, x) := w.rand (c.size + 8)
  (w, toBe c.size (beNat x % (c.n - 1) + 1))

def keyOf (w : W) (s : Nat) : KeySlot := (w.slotKey s).getD default

def opGenSym (j : SecJob) (w : W) : W × Nat × List Byte :=
  let (w, k) := w.rand (keyLen (aType j.attr))
  (w.setKeySlot j.slot (some ⟨withOrigin j.attr 0, k⟩), 0, [])

def opGenEc (j : SecJob) (w : W) : W × Nat × List Byte :=
  let (w, d) := w.randPriv (curveOf (aType j.attr))
  let k : KeySlot := ⟨withOrigin j.attr 0, d⟩
  (w.setKeySlot j.slot (some k), 0, pubKey k)

def opImportPub (j : SecJob) (w : W) : W × Nat × List Byte :=
  (w.setKeySlot j.slot (some ⟨withOrigin j.attr 1, j.input⟩), 0, [])

/-- The KEK that KEKSEL names. -/
def kekSel (w : W) (sel : Nat) : List Byte := if sel = 0 then w.tmp.kek else w.key.pair.getD []

def opWrap (j : SecJob) (w : W) : W × Nat × List Byte :=
  let (w, iv) := w.rand 12
  let sel := blobN j.input 0 1
  (w, 0, blobOf (w.kekSel sel) iv sel (w.keyOf j.slot))

def opUnwrap (j : SecJob) (w : W) : W × Nat × List Byte :=
  match unblob (w.kekSel (blobN j.input 5 1)) j.input with
  | some k => (w.setKeySlot j.slot (some k), 0, [])
  | none => (w, eAuthFail, [])

/-- A change of the persistent slots starts its bank write (R722). -/
def persistentChange (m : Memory) (w : W) (slot : Nat) (k : Option KeySlot) : W :=
  let (bank, seq) := w.bankNext m
  let rest := w.key.slots.filter fun e => e.1 != slot
  w.bankStart { bank := bank, seq := seq, slots := match k with | some k => (slot, k) :: rest | none => rest }

/-- PERSIST; no bank write starts in early warning (R724). -/
def opPersist (m : Memory) (j : SecJob) (w : W) : W × Nat × List Byte :=
  if w.ew then (w, eState, []) else (w.persistentChange m j.slot2 (some (w.keyOf j.slot)), 0, [])

/-- ERASE; no bank write starts in early warning (R724). -/
def opErase (m : Memory) (j : SecJob) (w : W) : W × Nat × List Byte :=
  if j.slot < 67 then (w.setKeySlot j.slot none, 0, [])
  else if w.ew then (w, eState, []) else (w.persistentChange m j.slot none, 0, [])

def opDerive (j : SecJob) (w : W) : W × Nat × List Byte :=
  let k := kdf (w.keyOf j.slot).mat j.input [] (keyLen (aType j.attr))
  (w.setKeySlot j.slot2 (some ⟨withOrigin j.attr 2, k⟩), 0, [])

def opGcm (dec : Bool) (j : SecJob) (w : W) : W × Nat × List Byte :=
  let n := gcmAad j.input
  let body := j.input.drop (14 + n)
  let text := if dec then body.take (body.length - 16) else body
  let (o, t) := gcm dec (w.keyOf j.slot).mat (j.input.take 12) ((j.input.drop 14).take n) text
  if dec then (if t = body.drop (body.length - 16) then (w, 0, o) else (w, eAuthFail, [])) else (w, 0, o ++ t)

def opCmacGen (j : SecJob) (w : W) : W × Nat × List Byte := (w, 0, cmac (w.keyOf j.slot).mat j.input)

def opCmacVer (j : SecJob) (w : W) : W × Nat × List Byte :=
  let n := j.input.length - 16
  (w, if cmac (w.keyOf j.slot).mat (j.input.take n) = j.input.drop n then 0 else eAuthFail, [])

def opKwWrap (j : SecJob) (w : W) : W × Nat × List Byte :=
  (w, 0, kwWrap (w.keyOf j.slot).mat (w.keyOf j.slot2).mat)

def opKwUnwrap (j : SecJob) (w : W) : W × Nat × List Byte :=
  match kwUnwrap (w.keyOf j.slot).mat j.input with
  | some k => (w.setKeySlot j.slot2 (some ⟨withOrigin j.attr 1, k⟩), 0, [])
  | none => (w, eAuthFail, [])

def opSha256 (j : SecJob) (w : W) : W × Nat × List Byte := (w, 0, sha256 j.input)
def opSha384 (j : SecJob) (w : W) : W × Nat × List Byte := (w, 0, sha384 j.input)

/-- A signature with a free per-message secret. -/
def signWith (w : W) (k : KeySlot) (digest : List Byte) : W × List Byte :=
  let c := curveOf (aType k.attr)
  let (w, x) := w.randPriv c
  (w, ecdsaSign c (beNat k.mat) (beNat x) digest)

def opSign (j : SecJob) (w : W) : W × Nat × List Byte :=
  let (w, s) := w.signWith (w.keyOf j.slot) j.input
  (w, 0, s)

def opVerify (j : SecJob) (w : W) : W × Nat × List Byte :=
  let k := w.keyOf j.slot
  let c := curveOf (aType k.attr)
  (w, if ecdsaVerify c (pubKey k) (j.input.take c.size) (j.input.drop c.size) then 0 else eAuthFail, [])

def opEcdh (j : SecJob) (w : W) : W × Nat × List Byte :=
  let k := w.keyOf j.slot
  let c := curveOf (aType k.attr)
  let z := ecdhX c (beNat k.mat) (j.input.take (2 * c.size))
  -- CMAC-AES-256 takes the shared x-coordinate as its key; how 48 bytes are reduced to 32 is not stated
  let z := if z.length = 32 then z else toBe 32 (Config.ecdhKey (beNat z))
  (w.setKeySlot j.slot2 (some ⟨withOrigin j.attr 2, kdf z (j.input.drop (2 * c.size)) [] 32⟩), 0, [])

/-- A statement (R728). -/
def opStatement (j : SecJob) (w : W) : W × Nat × List Byte :=
  let k := w.keyOf j.slot
  let signer := if j.slot = 65 then 64 else 65
  let body := toLe 4 0x57A7 ++ toLe 1 1 ++ toLe 1 j.slot ++ toLe 1 signer ++ toLe 1 w.key.lc ++
    toLe 1 (w.rdF R.KEY_STAT 4 3) ++ toLe 3 0 ++ toLe 4 k.attr.toNat ++ toLe 8 w.tsc.toNat ++ toLe 4 w.rtcSec.toNat ++
    toLe 4 j.input.length ++ w.devid ++ keyInfo k ++ j.input ++ List.replicate (64 - j.input.length) 0
  let (w, s) := w.signWith (w.keyOf signer) (if signer = 64 then sha256 body else sha384 body)
  (w, 0, body ++ s)

def opRandomBytes (j : SecJob) (w : W) : W × Nat × List Byte :=
  let (w, x) := w.rand j.cap
  (w, 0, x)

/-- New KEK, AK and pairing key, and the bank image that brings them into force (R718, R725, R739). -/
def newDevice (seq bank : Nat) (owner : Option (List Byte)) (w : W) : W × Nat × List Byte :=
  let (w, nonce) := w.rand 32
  let (w, ak) := w.randPriv p384
  let (w, pk) := w.randPriv p256
  let akS : KeySlot := ⟨fixedAttr 65, ak⟩
  let pkS : KeySlot := ⟨fixedAttr 66, pk⟩
  (w.bankStart { bank := bank, seq := seq, slots := [(65, akS), (66, pkS)], owner := owner, kek := some (kekOf nonce, nonce) },
    0, pubKey akS ++ pubKey pkS)

def opProvision (m : Memory) (j : SecJob) (w : W) : W × Nat × List Byte :=
  let (bank, seq) := w.bankNext m
  w.newDevice seq bank (some (sha256 j.input))

def opReprovision (m : Memory) (_ : SecJob) (w : W) : W × Nat × List Byte := w.newDevice (w.bankTop m) (w.bankNext m).1 none

/-- The life cycle advances (R701, R702, R733). -/
def opLcAdvance (j : SecJob) (w : W) : W × Nat × List Byte :=
  let t := blobN j.input 0 1
  let w : W := { w with key.lc := t, key.otpDead := w.key.otpDead || t == 4 }
  let w := (w.wrF R.KEY_STAT 0 3 t).raise E.KEY_LC_CHANGE
  let w := if t = 2 then w
    else
      -- the tamper event of the entry cuts off every other job; this one completes
      let w := w.squall 7
      w.setJob { j with state := 2 }
  (w, 0, [])

end W

end Sys2Proof.Machine
end

