-- ==== Sys2Proof/Machine/Filters.lean ====
section
/-!
DEFINITION. The filters of the analogue chain (chapters 05 and 06). The manual gives their response within limits and no
coefficients. Each is a nominal filter that meets the limits plus a bounded free deviation of its coefficients (Config), small
enough that every value of it meets them too (DESIGN CHOICE, log 40).
-/
namespace Sys2Proof.Machine

/-- π times 10^50, truncated. -/
def pi50 : Nat := 314159265358979323846264338327950288419716939937510

/-- The free number `x` brought into −b to b. -/
def bounded (b : Nat) (x : Int) : Int := x % (2 * b + 1) - b

/-! ### Stages 1 to 3 (R176, R177) -/

/-- One clock of the modulator: `acc` is the input less the stream so far, `u` the input, `full` what one bit stands for. Where
the difference leaves −full to full the bit is the one that brings it back; within it, either (R176; DESIGN CHOICE, log 40). -/
def modClock (full : Int) (acc u : Int) (free : Bool) : Int × Bool :=
  let e := acc + u
  let b := if full < e then true else if e < -full then false else free
  (if b then e - full else e + full, b)

/-- The 1-bit stream of one output period, newest bit first, from the inputs, oldest first (R176). -/
def modStream (full : Int) (free : Nat → Bool) (acc : Int) (us : List Int) : Int × List Bool :=
  us.zipIdx.foldl (fun s e => let (acc, b) := modClock full s.1 e.1 (free e.2); (acc, b :: s.2)) (acc, [])

/-- The number of ways to write j as a sum of three numbers below 64: weight j of the sinc³ decimation by 64 (R176). -/
def sincTap (j : Nat) : Int :=
  let t (k : Nat) : Int := if k ≤ j then ((j - k + 1) * (j - k + 2) / 2 : Nat) else 0
  t 0 - 3 * t 64 + 3 * t 128

/-- A stage-2 result in 2^-18 of the stream's amplitude, from the latest 190 bits, newest first (R176). -/
def stage2 (bits : List Bool) : Int :=
  ((bits.take 190).zipIdx.map fun e => if e.1 then sincTap e.2 else -sincTap e.2).sum

/-- The first half of the nominal FIR of stage 3 in 2^-32: 238 symmetric taps at 64 ksps, which undo the droop of stage 2 and are
−3 dB at 6.4 kHz (R177). -/
def firHalf : List Int :=
  [3823, 1267, -4695, -12203, -17169, -14856, -2603, 17542, 37930, 47365]
  ++ [36022, 1456, -47276, -90317, -103742, -70679, 7707, 107146, 185477, 198444]
  ++ [121019, -34953, -216574, -344728, -345446, -186596, 96646, 402439, 594777, 559498]
  ++ [262426, -217381, -700167, -967445, -854527, -336725, 431945, 1154510, 1498855, 1241529]
  ++ [388358, -787215, -1819946, -2228111, -1726017, -384105, 1343933, 2760729, 3195552, 2305157]
  ++ [275806, -2178412, -4050756, -4440809, -2964734, 2648, 3384425, 5773645, 6001020, 3676062]
  ++ [-538727, -5075849, -8023736, -7909719, -4392862, 1445702, 7391228, 10909255, 10197167, 5047893]
  ++ [-2869487, -10502421, -14559838, -12893298, -5548648, 5000624, 14631491, 19142449, 16035271, 5770484]
  ++ [-8097104, -20084250, -24893794, -19683510, -5543479, 12530342, 27318787, 32187141, 23954859, 4624309]
  ++ [-18883565, -37093445, -41677999, -29094949, -2630665, 28180727, 50816739, 54655391, 35655613, -1128456]
  ++ [-42490358, -71499589, -74032787, -45017184, 8168364, 66860749, 106980953, 107923883, 61437367, -22878014]
  ++ [-117920127, -185863552, -189669027, -105784891, 66215792, 300582590, 550431231, 759759400, 878942206]

/-- Tap i of stage 3, 0 to 237, in 2^-32: within 2^-27 of the nominal one (R177). -/
def firTap (i : Nat) : Int :=
  let k := min i (237 - i)
  firHalf.getD k 0 + bounded 32 (Config.firDev k)

/-- The sum of the taps of stage 3: its gain at 0 Hz. -/
def firGain : Int := ((List.range 238).map firTap).sum

/-- Stage 3 (R177, R179): the FIR over the latest 238 stage-2 results, newest first, as a raw sample. The taps are symmetric: the
delay is 118.5 stage-2 samples at every frequency, with the 94.5 clocks of stage 2 and the 1.5 clocks from the newest bit to the
sample's instant 30 output samples. One bit of the stream stands for `full` / 100 of the full-scale input. -/
def stage3 (fir : List Int) (full : Nat) : Int :=
  let sum := ((List.range 238).map fun i => firTap i * fir.getD i 0).sum
  rounded 177 (sum * (full * 8388607 : Nat)) (max 1 firGain * (100 * 2 ^ 18 : Nat))

/-! ### The coil integrator (R184) -/

/-- The nominal taps of the integrator's increment in 2^-40: with the 0.1 Hz pole they make the response of R184. -/
def coilNominal : List Int :=
  [6080175586, 30585409173, -51650629007, 124150625694, -277485300448, 559621875547, -1018949663453, 1684415780694]
  ++ [-2542739813252, 3522410521163, -4494947317135, 5298655969773, -5780367054897, 5841094969882, -5467678287062, 4737137896007]
  ++ [-3791880867772, 2796233024913, -1891781880592, 1167485323289, -652083158980, 326096789673, -143828619594, 54746318830]
  ++ [-17397201092, 4368588195, -780270797, 75685309]

/-- Tap i of the integrator's increment, in 2^-40 (R184). -/
def coilTap (i : Nat) : Int := coilNominal.getD i 0 + bounded 4096 (Config.coilDev i)

/-! ### The fractional delay (R197) -/

/-- The nominal interpolation in 2^-32: row p holds, for each of the latest 32 samples, the coefficient of the p-th power of the
delay, 0 to 1 sample (R197). -/
def fracNominal : List (List Int) :=
  [[4294982440, -12889, -472767, 3122970, -11690928, 32404255, -73287233, 141865698]
    ++ [-241391637, 366827315, -502645415, 624357818, -704334514, 720384459, -663827213, 543486498]
    ++ [-383569686, 216090120, -70942848, -32344424, 88217115, -103425074, 91751278, -67944492]
    ++ [43292540, -23912612, 11393059, -4609706, 1538370, -401889, 74123, -7379]]
  ++ [[-12462129144, 45768975558, -130840016776, 351436371503, -832480754327, 1742982169362, -3255912426760, 5473107822064]
    ++ [-8332783974078, 11539638117305, -14565108139298, 16746965313383, -17475020631791, 16401983198913, -13592561792142, 9539113621088]
    ++ [-5026101032943, 892722997329, 2211705699868, -3985523322113, 4495975212769, -4077226571989, 3166699182843, -2153594037253]
    ++ [1290505812383, -679549314878, 311296906323, -121782367679, 39445372728, -10026826658, 1802143895, -174932569]]
  ++ [[14391096387, -87343710090, 315537906682, -906772185758, 2218729809514, -4735943355885, 8963047408857, -15212617654658]
    ++ [23338486881106, -32528133398430, 41291892556068, -47736757130918, 50092233509634, -47317447675278, 39540541456806, -28120666862055]
    ++ [15274974980007, -3406008345225, -5601945335051, 10845771455308, -12478165698804, 11426456229604, -8928674677114, 6098394574509]
    ++ [-3666540912587, 1935973443182, -888919688853, 348469094507, -113080595733, 28794900083, -5184102915, 504063571]]
  ++ [[-8522616105, 66948289277, -283808423079, 883019883100, -2250728054849, 4924750987002, -9478735352616, 16289635969306]
    ++ [-25238470991937, 35468834861392, -45358395682532, 52806978331301, -55812716589107, 53151793035276, -44884847572197, 32450597129194]
    ++ [-18272812316508, 5022623196777, 5168489307967, -11239519806609, 13302800343300, -12346993645777, 9727995667184, -6682975726245]
    ++ [4035878094279, -2138684584791, 985008544863, -387179413115, 125949845468, -32145132377, 5799946494, -565173220]]
  ++ [[2650947623, -24986001821, 119998876573, -402799427846, 1073548261911, -2415628527933, 4739561838774, -8262044141923]
    ++ [12946037083364, -18366663149335, 23686192579886, -27796532653619, 29618773991408, -28465531040285, 24319568410572, -17898250115270]
    ++ [10458800756587, -3414253742362, -2085668179035, 5445133076551, -6688682429000, 6313609162613, -5024730945562, 3476017583092]
    ++ [-2110270686392, 1123027718416, -519086122574, 204678933258, -66770931241, 17086235911, -3090629864, 301916557]]
  ++ [[-352278478, 3907520858, -20888810073, 75116761907, -209072534091, 483845043537, -967971918975, 1711933073235]
    ++ [-2713287983874, 3886344217888, -5054599912242, 5979358194685, -6423271665069, 6229190677233, -5382675468491, 4029170539112]
    ++ [-2434820577097, 904873227387, 307457346509, -1065893286284, 1368096272635, -1315861131370, 1058720472333, -737847684082]
    ++ [450430254953, -240768348175, 111700754109, -44186364872, 14456336191, -3709181337, 672642724, -65874328]]

/-- The weight of sample k, 0 the newest, for a delay of m / 1,024 sample, in 2^-32 over 1,024^5 (R197). -/
def fracTap (m k : Nat) : Int :=
  (fracNominal.zipIdx.map fun r => r.1.getD k 0 * (((m ^ r.2 * 1024 ^ (5 - r.2) : Nat)) : Int)).sum
    + bounded 512 (Config.fracDev m k) * (1024 ^ 5 : Nat)

/-- Stage 5 (R178, R197): the stage-4 results, newest first, delayed by 4 + d / 1,024 samples. -/
def stage5 (d : Int) (z : List Int) : Int :=
  let n := (4 + d / 1024).toNat
  let m := (d % 1024).toNat
  if m = 0 then z.getD n 0
  else rounded 197 (((List.range 32).map fun k => fracTap m k * z.getD (n + k) 0).sum) (2 ^ 32 * 1024 ^ 5)

/-! ### The 90 degree shift (R239) -/

/-- The delay of the 90 degree shift in samples. -/
abbrev hilbertDelay : Nat := 1201

/-- The weight at distance k from the middle, in 2^-32: 2 / (π k) under the window (1 − (k / 1,202)²)^7 for an odd k, and the free
deviation (R239). -/
def hilbertTap (k : Nat) : Int :=
  if k % 2 = 0 then 0
  else ((2 ^ 33 * 10 ^ 50 * (1202 ^ 2 - k ^ 2) ^ 7 / (pi50 * k * 1202 ^ 14) : Nat) : Int) + bounded 16 (Config.hilbertDev k)

/-! ### Resampling and transform (R269) -/

/-- sin of x / 2^96, |x| up to about 2^97, in 2^-96, by twenty terms of its series. -/
def sinSeries (x : Int) : Int :=
  let step (s : Int × Int) (k : Nat) : Int × Int :=
    let t := -(s.2 * x / 2 ^ 96 * x / 2 ^ 96) / ((2 * k + 2) * (2 * k + 3) : Nat)
    (s.1 + t, t)
  ((List.range 20).foldl step (x, x)).1

/-- sin(π a / d) in 2^-96, 0 < d. -/
def sinPi (a : Int) (d : Nat) : Int :=
  let r := a % (2 * d : Nat)
  let (s, r) : Int × Int := if r < d then (1, r) else (-1, r - d)
  let r := if 2 * r ≤ d then r else d - r
  s * sinSeries (r * ((pi50 * 2 ^ 96 / 10 ^ 50 : Nat) : Int) / d)

/-- cos(π a / d) in 2^-96, 0 < d. -/
def cosPi (a : Int) (d : Nat) : Int := sinPi (2 * a + d) (2 * d)

/-- The weight of a sample that lies a / d samples from the point, in 2^-96: sin(π x) / (π x) under the window (1 − (x / 24)²)^4. -/
def resampleTap (a : Int) (d : Nat) : Int :=
  if a = 0 then 2 ^ 96
  else if (24 * d : Nat) ≤ a.natAbs then 0
  else sinPi a d * (d * 10 ^ 50 : Nat) * (((24 * d) ^ 2 - a.natAbs ^ 2) ^ 4 : Nat) / (a * (pi50 * (24 * d) ^ 8 : Nat))

/-- The 2,048 points of a window that spans `span` / `den` samples from sample 24 of `x` on (R269). -/
def resample (x : List Int) (span den : Nat) : List Int :=
  (List.range 2048).map fun j =>
    -- the point lies at j span / (2048 den) samples from sample 24
    let d := 2048 * den
    let k := j * span / d
    (((x.drop k).take 49).zipIdx.map fun e => e.1 * resampleTap (((24 + k : Nat) : Int) * d + (j * span % d : Nat) - ((k + e.2 : Nat) : Int) * d) d).sum
      / 2 ^ 96

/-- √2 in 2^-64. -/
def sqrt2 : Nat := isqrt (2 ^ 129)

/-- The rms coefficient of bin m of the 2,048 points `p`, real and imaginary part, in the points' unit (R269). -/
def rmsBin (p : List Int) (m : Nat) : Int × Int :=
  let sum (f : Int → Nat → Int) : Int := (p.zipIdx.map fun e => e.1 * f (2 * m * e.2) 2048).sum
  let scale (x : Int) : Int := if m = 0 then x / (2048 * 2 ^ 96) else x * sqrt2 / (2048 * 2 ^ 160)
  (scale (sum cosPi), scale (-(sum sinPi)))

end Sys2Proof.Machine
end

