-- ==== Sys2Proof/Machine/Meter.lean ====
section
/-!
DEFINITION. Metering inputs and sensor correction (chapter 05): the stages of the analogue channels, frequency trackers,
correction blocks and tables, waveform capture, RTD channels, pulse inputs. The commands bring the voltages at the pins; the
filters are those of Filters.lean (log 40); what the engine makes of their results is computed exactly and rounded once (log 41).
-/
namespace Sys2Proof.Machine

/-- The finite value of a binary32 pattern in units of 2^-149. -/
def q32 (b : Word) : Option Int :=
  match fdecode b32 b.toNat with
  | .fin s m e => let v : Nat := m <<< (e + 149).toNat; some (if s then -(v : Int) else v)
  | _ => none

/-- The correctly rounded square root of a quotient. -/
def fsqrtRat (f : Fmt) (num den : Nat) : Nat :=
  if num = 0 ∨ den = 0 then 0
  else
    let k := f.mb + 4 + den.log2
    let n := num <<< (2 * k)
    let r := isqrt (n / den)
    fround f false r (-(k : Int)) (r * r != n / den || n % den != 0)

/-- The integer nearest to a quotient, ties away from zero. -/
def divAway (num : Int) (den : Nat) : Int :=
  let q : Nat := (2 * num.natAbs + den) / (2 * den)
  if num < 0 then -(q : Int) else q

/-- floor of the base-2 logarithm of a positive quotient. -/
def log2Rat (a b : Nat) : Int :=
  let k : Int := (a.log2 : Int) - b.log2
  if (if 0 ≤ k then decide (b * 2 ^ k.toNat ≤ a) else decide (b ≤ a * 2 ^ (-k).toNat)) then k else k - 1

/-- arctangent of 1000 / F, with F in 0.1 mHz, as a quotient: the series of R185's atan(0.1 / f) to eight terms. -/
def atanRat (fq : Nat) : Int × Nat :=
  let z : Nat := 1000
  let terms : List (Int × Nat) := (List.range 8).map fun k => (if k % 2 = 0 then 1 else -1, 2 * k + 1)
  let den := fq ^ 15 * (15 * 13 * 11 * 9 * 7 * 5 * 3)
  ((terms.map fun e => e.1 * ((z ^ e.2 * fq ^ (15 - e.2) * (2027025 / e.2) : Nat) : Int)).sum, den)

/-- L of the normative correction (R195) for a block whose mean square in counts is `s / (n 2^64)` and whose scale is
`sc 2^-149`: the integer nearest to 256 log2 of the rms, saturated to int16. -/
def corrL (s n sc : Nat) : Int :=
  if s = 0 ∨ n = 0 ∨ sc = 0 then -32768
  else clampI (-32768) 32767 ((log2Rat ((s * sc ^ 2) ^ 256) ((n * 2 ^ (64 + 298)) ^ 256) + 1) / 2)

/-- Gain and phase of a table at L, both over one denominator (R195). -/
def corrAt (t : List CorrBp) (l : Int) : Int × Int × Nat :=
  match t with
  | [] => (0, 0, 1)
  | b0 :: _ =>
    let bl := t.getLastD {}
    if l ≤ b0.l then (b0.g, b0.p, 1)
    else if bl.l ≤ l then (bl.g, bl.p, 1)
    else
      let i := (t.takeWhile fun b => decide (b.l ≤ l)).length - 1
      let a := t.getD i {}
      let b := t.getD (i + 1) {}
      let n := (b.l - a.l).toNat
      (a.g * n + (l - a.l) * (b.g - a.g), a.p * n + (l - a.l) * (b.p - a.p), n)

/-- d of the normative correction in 1/1,024 sample before the clamp (R195), and whether it is clamped. -/
def corrD (delay p : Int) (den fq : Nat) (auto : Bool) : Int × Bool :=
  let (an, ad) := atanRat fq
  -- DELAY − p 81920 / (π F) + atan(1000 / F) 8.192e10 / (π F)
  let c := 10 ^ 50
  let dq : Nat := den * ad * pi50 * fq
  let num : Int := delay * dq - p * 81920 * c * ad + (if auto then an * 81920000000 * c * den else 0)
  let d := divAway num dq
  (clampI (-4096) 4096 d, decide (d < -4096 ∨ 4096 < d))

/-- The gain of the normative correction in binary64 (R185, R195). -/
def corrGain (g : Int) (den fq : Nat) (auto : Bool) : Nat :=
  let k := F64.ofRat (100000000 * den + g) (100000000 * den)
  if auto then F64.mul k (fsqrtRat b64 (fq ^ 2 + 1000000) (fq ^ 2)) else k

/-! ### The stages of a channel (R176) -/

/-- Positive full scale of a raw sample (R179). -/
abbrev rawMax : Nat := 8388607

/-- What one bit of the stream stands for, in percent of the full-scale input: above it, since a result beyond full scale clips (R181;
open, log 40). -/
def modFull : Nat := 101 + Config.modRange % 100

/-- A clipped stage-3 result (R181). -/
def clipRaw (raw : Int) : Int := clampI (-8388607) 8388607 raw

/-- exp(−2π 0.1 / 16,000) times 10^40: the pole of the high-pass filter (R183) and of the integrator's leakage (R184). -/
def pole40 : Int := 9999607308628828783296906972370775341429

/-- The high-pass filter in 2^-32 count (R183): y is the previous result, x and x1 the present and the previous input in
counts. -/
def highPass (y x x1 : Int) : Int := rounded 183 (pole40 * (y + (x - x1) * 2 ^ 32)) (10 ^ 40)

/-- The coil integrator in 2^-32 count (R184): a leaky sum of increments that the latest raw samples, newest first, make. -/
def coilInt (y : Int) (raws : List Int) : Int :=
  rounded 184 (pole40 * y * 2 ^ 8 + ((List.range 28).map fun i => coilTap i * raws.getD i 0).sum * 10 ^ 40) (10 ^ 40 * 2 ^ 8)

/-- Stage 6 (R176): a stage-5 result in 2^-32 count times SCALE times the correction gain, in binary32. -/
def stage6 (c : Int) (scale : Word) (gain : DWord) : Word :=
  let r := match fdecode b32 scale.toNat, fdecode b64 gain.toNat with
    | .fin s m e, .fin t n g => fround b32 ((s != t) != decide (c < 0)) (c.natAbs * m * n) (e + g - 32) false
    | _, _ => fmul b32 (fmul b32 (fofRat b32 (decide (c < 0)) c.natAbs (2 ^ 32)) scale.toNat) (F64.to32 gain.toNat)
  BitVec.ofNat 32 r

/-- The finite values of corrected samples in units of 2^-149, none with one that is no finite number. -/
def finiteAll (h : List Word) : Option (List Int) := h.mapM q32

/-- The voltage shifted by −90 degrees in units of 2^-181 (R239): antisymmetric taps about the sample that lies the delay back;
`h` are the corrected samples, newest first. None with a sample that is no finite number. -/
def quadrature (h : List Word) : Option Int :=
  (finiteAll h).map fun x =>
    ((List.range hilbertDelay).map fun i =>
      hilbertTap (i + 1) * (x.getD (hilbertDelay + 1 + i) 0 - x.getD (hilbertDelay - 1 - i) 0)).sum

namespace W

/-! ### Channels -/

def chOf (w : W) (n : Nat) : AfeCh := w.mtr.ch.getD n {}
def setCh (w : W) (n : Nat) (c : AfeCh) : W := { w with mtr.ch := w.mtr.ch.setIfInBounds n c }

def chEn (w : W) (n : Nat) : Bool := w.rdB (R.AFE_CHn_CFG n) 0
def chMode (w : W) (n : Nat) : Nat := w.rdF (R.AFE_CHn_CFG n) 1 3

/-- Stage 4 of the channel is the high-pass filter or the integrator (R182, R185). -/
def chAuto (w : W) (n : Nat) : Bool := w.chMode n == 3 || w.rdB (R.AFE_CHn_CFG n) 7

/-- The last corrected sample of the channel counts: it is enabled and past its first 64 samples (R189). -/
def chValid (w : W) (n : Nat) : Bool := w.chEn n && w.rdB (R.AFE_CHn_STAT n) 2

/-- The nominal frequency in 0.1 mHz (R191). -/
def nominal (w : W) : Nat := if w.rdB R.MTR_NOM 0 then 600000 else 500000

/-- The frequency that tracker t shows its consumers, in 0.1 mHz (R191, R192). -/
def trkFreq (w : W) (t : Nat) : Nat := w.rdF (R.MTR_FREQ t) 0 20

/-- Gain and delay for the next block from a table, a level and the settings in force (R195). -/
def corrSet (w : W) (n : Nat) (c : AfeCh) (l : Int) : W :=
  let fq := max 1 (w.trkFreq (w.rdF (R.AFE_CHn_CFG n) 8 2))
  let auto := w.chAuto n
  let (g, p, den) := if w.rdB (R.AFE_CHn_CFG n) 10 then corrAt c.tab l else (0, 0, 1)
  let (d, clamp) := corrD c.delay p den fq auto
  let w := w.setCh n { c with gain := BitVec.ofNat 64 (corrGain g den fq auto), d := d }
  if clamp then w.wrB (R.AFE_CHn_STAT n) 1 true else w

/-- The static settings and a committed table come into force (R188, R194, R201). -/
def chApply (w : W) (n : Nat) (c : AfeCh) : W × AfeCh :=
  let c := { c with scale := w.rd (R.AFE_CHn_SCALE n), delay := sgn 14 (w.rdN (R.AFE_CHn_DELAY n)) }
  match c.pend with
  | none => (w, c)
  | some t => ((w.wrB R.AFE_CORR_STAT n true).raise E.AFE_CORR_APPLIED, { c with tab := t, pend := none })

/-- A channel is enabled (R189, R198, R201). DESIGN CHOICE (log 40): what the modulator and the stages remember is cleared. -/
def chEnable (w : W) (n : Nat) : W :=
  let (w, c) := w.chApply n (w.chOf n)
  let w := w.wrB (R.AFE_CHn_STAT n) 2 false
  w.corrSet n { c with warm := 64, blk := 0, sum2 := 0, acc := 0, bits := [], fir := [], raws := [], y := 0, z := [], hist := [] }
    ((c.tab.headD {}).l)

/-- L at the end of a block (R195); with a SCALE that is no finite number, rms times SCALE is infinite, or not a number and
then not above 0. -/
def blockLevel (c : AfeCh) : Int :=
  match q32 c.scale with
  | some sc => corrL c.sum2 c.blk sc.natAbs
  | none => if fisNan b32 c.scale.toNat || c.sum2 == 0 then -32768 else 32767

/-- Samples of a correction block (R193). -/
abbrev blockLen : Nat := 3200

/-- The end of a correction block of channel n, once its 3,200 samples are in (R193 to R195). -/
def blockEnd (n : Nat) (w : W) : W :=
  let c := w.chOf n
  if !w.chEn n || c.blk != blockLen then w
  else
    let l := blockLevel c
    let (w, c) := w.chApply n c
    w.corrSet n { c with blk := 0, sum2 := 0 } l

/-- The reference voltage in nV: 1.200 V, or the one at the pins (R179). -/
def refNv (w : W) (ext : Nat) : Nat := if w.rdB R.AFE_REF_CFG 0 then ext else 1200000000

/-- One output period of the modulator and of stage 2 of channel n: the differential input in nV at each of its 256 clocks, oldest
first (R176, R179). -/
def chDecimate (n : Nat) (v : List Int) (ext : Nat) (w : W) (c : AfeCh) : AfeCh :=
  let gain : Int := (200 * 2 ^ w.rdF (R.AFE_CHn_CFG n) 4 3 : Nat)
  let full : Int := (w.refNv ext * modFull : Nat)
  let (acc, new) := modStream full (Config.modBit w.freeCtr n) c.acc (v.map fun x => gain * x)
  let bits := new ++ c.bits
  { c with acc := acc, bits := bits.take 126,
           fir := ((List.range 4).map (fun k => stage2 (bits.drop (64 * k))) ++ c.fir).take 238 }

/-- One output sample of channel n from its input in nV and the voltage at the reference pins (R176 to R189). A block whose end no
command has brought ends first (R193). -/
def chSample (n : Nat) (v : List Int) (ext : Nat) (w : W) : W :=
  let one := BitVec.ofNat 24 (2 ^ n)
  if !w.chEn n then { w with mtr.clip := w.mtr.clip &&& ~~~one }
  else
    let w := w.blockEnd n
    let c := w.chDecimate n v ext (w.chOf n)
    let raw := stage3 c.fir modFull
    let clipped := decide (rawMax ≤ raw.natAbs)
    let first := clipped && !w.rdB (R.AFE_CHn_STAT n) 0
    let w := if clipped then (w.wrB (R.AFE_CHn_STAT n) 0 true).incSatF (R.AFE_CHn_STAT n) 16 16 else w
    let w := w.raiseIf first E.AFE_OVL
    let w := w.wrB (R.AFE_CHn_STAT n) 2 (c.warm == 0)
    let raws := (clipRaw raw :: c.raws).take 28
    let y := if w.chMode n = 3 then coilInt c.y raws
      else if w.rdB (R.AFE_CHn_CFG n) 7 then highPass c.y (clipRaw raw) (c.raws.headD 0) else clipRaw raw * 2 ^ 32
    let z := (y :: c.z).take 40
    let s5 := stage5 c.d z
    let x := stage6 s5 c.scale c.gain
    let w := w.setCh n { c with warm := c.warm - 1, blk := c.blk + 1, sum2 := c.sum2 + s5.natAbs ^ 2, raws := raws,
                                y := y, z := z, hist := (x :: c.hist).take (2 * hilbertDelay + 1) }
    { w with mtr.x := w.mtr.x.setIfInBounds n x,
             mtr.clip := if clipped then w.mtr.clip ||| one else w.mtr.clip &&& ~~~one }

/-! ### Waveform capture (R206 to R208) -/

def captOn (w : W) : Bool := w.rdB R.MTR_CAPT_CTRL 31

/-- The channels of MASK, ascending. -/
def captChans (w : W) : List Nat := those 24 fun c => w.rdB R.MTR_CAPT_CTRL c

/-- The samples of one output period join the block being filled. -/
def captSample (w : W) : W :=
  if !w.captOn then w
  else
    let row := (List.range 24).map fun n =>
      if w.rdB R.MTR_CAPT_CTRL 30 then w.mtr.x.getD n 0 else BitVec.ofInt 32 ((w.chOf n).raws.headD 0)
    { w with mtr.capt := w.mtr.capt ++ [(w.tsc, row)] }

/-- A capture block of 32 samples is written, or lost (R206, R208). -/
def captBlock (w : W) : W :=
  if !w.captOn || decide (w.mtr.capt.length < 32) then w
  else
    let rows := w.mtr.capt.take 32
    let w := { w with mtr.capt := w.mtr.capt.drop 32 }
    let seq := w.mtr.captSeq
    let w := { w with mtr.captSeq := seq + 1#32 }
    if w.dom 4 ≠ 1 ∨ w.pwr.pllSys = false then (w.incSat R.MTR_CAPT_LOST).raise E.MTR_CAPT_LOST
    else
      let chans := w.captChans
      let size := 16 + 128 * chans.length
      let idx := w.rdN R.MTR_CAPT_WR % max 1 (w.rdN R.MTR_CAPT_SIZE)
      let a := w.rdN R.MTR_CAPT_BASE + size * idx
      let data := chans.flatMap fun c => rows.flatMap fun r => toLe 4 (r.2.getD c 0).toNat
      let head := toLe 8 ((rows.headD (0, [])).1).toNat ++ toLe 4 seq.toNat
        ++ toLe 4 (w.rdF R.MTR_CAPT_CTRL 0 24)
      let w := w.putBytes a (head ++ data)
      (w.wrN R.MTR_CAPT_WR ((idx + 1) % max 1 (w.rdN R.MTR_CAPT_SIZE))).raise E.MTR_CAPT_BLOCK

/-! ### Frequency trackers (R190 to R192) -/

def trkEn (w : W) (t : Nat) : Bool := w.rdB R.MTR_TRK_SRC (8 * t + 7)

/-- FREQt takes a frequency, LOCK and OOR; the events of R191. -/
def trkSet (w : W) (t fq : Nat) (lock oor : Bool) : W :=
  let was := w.rdB (R.MTR_FREQ t) 20
  let w := w.wrN (R.MTR_FREQ t) (fq % 2 ^ 20 + 2 ^ 20 * b2n lock + 2 ^ 21 * b2n oor)
  if was && !lock then w.raise E.MTR_FREQ_OOR
  else if !was && lock then w.raise E.MTR_FREQ_LOCK else w

def trkOf (w : W) (t : Nat) : TrkSt := w.mtr.trk.getD t {}
def setTrk (w : W) (t : Nat) (k : TrkSt) : W := { w with mtr.trk := w.mtr.trk.setIfInBounds t k }

/-- The channel that tracker t follows (R190). -/
def trkSrc (w : W) (t : Nat) : Nat := w.rdF R.MTR_TRK_SRC (8 * t) 5

/-- One output period of tracker t (R190): the band-limited signal of its source, and its positive zero crossings. -/
def trkSample (t : Nat) (w : W) : W :=
  if !w.trkEn t then w
  else
    let k := w.trkOf t
    let c := w.chOf (w.trkSrc t)
    let x := if w.chEn (w.trkSrc t) then c.raws.headD 0 else 0
    let win := (x :: k.win).take 64
    let b := Config.bandLimit win
    let cross := if k.prev < 0 ∧ 0 ≤ b then k.cross ++ [65536 * k.n + Config.crossFrac k.prev b % 65536] else k.cross
    w.setTrk t { k with win := win, prev := b, n := k.n + 1, cross := cross, sum2 := k.sum2 + x.natAbs ^ 2 }

/-- The mean frequency of `cycles` cycles from the first crossing of a window, in 0.1 mHz; none while they are not complete. -/
def trkMean (k : TrkSt) (cycles : Nat) : Option Nat :=
  match k.cross.head?, k.cross[cycles]? with
  | some a, some b => some (rounded 190 (cycles * 16000 * 10000 * 65536 : Nat) (max 1 (b - a) : Nat)).toNat
  | _, _ => none

/-- The measurement of a window (R190): over 10 cycles while that is below 55 Hz, else over 12; the frequency and the cycles. -/
def trkMeasure (k : TrkSt) : Option (Nat × Nat) :=
  match trkMean k 10 with
  | none => none
  | some f => if f < 550000 then some (f, 10) else (trkMean k 12).map fun f => (f, 12)

/-- The source's rms in the window is at or above 10 % of the rms of full scale (R191). -/
def trkStrong (k : TrkSt) : Bool := k.n != k.start && decide ((k.n - k.start) * rawMax ^ 2 ≤ 200 * k.sum2)

/-- Samples after which a window without its cycles ends with no frequency: 13 cycles at 42.5 Hz (DESIGN CHOICE, log 40). -/
abbrev trkTimeout : Nat := 4894

/-- The frequency that a tracker which is not locked shows (R191). -/
def heldFreq (w : W) (t : Nat) : Nat := if w.mtr.lastLock.getD t 0 = 0 then w.nominal else w.mtr.lastLock.getD t 0

/-- An averaging window of tracker t ends (R190, R191): its cycles are complete, or they have not come in time. -/
def trackerWindow (t : Nat) (w : W) : W :=
  let k := w.trkOf t
  if !w.trkEn t then w
  else
    let fresh (k : TrkSt) (used : Nat) : TrkSt := { k with start := k.n, sum2 := 0, cross := k.cross.drop used }
    match trkMeasure k with
    | some (fq, cycles) =>
      let w := w.setTrk t (fresh k cycles)
      if trkStrong k && decide (425000 ≤ fq ∧ fq ≤ 690000) then
        { w with mtr.lastLock := w.mtr.lastLock.setIfInBounds t fq }.trkSet t fq true false
      else w.trkSet t (w.heldFreq t) false true
    | none =>
      if k.n - k.start < trkTimeout then w
      else (w.setTrk t (fresh k k.cross.length)).trkSet t (w.heldFreq t) false true

/-- The trackers after a write of NOM or TRK_SRC: one that is not enabled shows the nominal frequency (R192), one that is
enabled and not locked its last locked one, or the nominal, with OOR (R191). -/
def trkSync (w : W) : W :=
  (List.range 4).foldl (fun w t =>
    if !w.trkEn t then (w.setTrk t {}).trkSet t w.nominal false false
    else if w.rdB (R.MTR_FREQ t) 20 then w
    else w.trkSet t (w.heldFreq t) false true) w

/-- The order-5 clocks of one output period; SLICE_STAT shows the most of one in the last second (R205). -/
def sliceSample (clocks : Nat) (w : W) : W :=
  let p := w.mtr.periods
  let l := (w.mtr.slices.filter fun e => decide (p < e.1 + 16000 ∧ clocks < e.2)) ++ [(p, clocks)]
  { w with mtr.periods := p + 1, mtr.slices := l }.wrF R.MTR_SLICE_STAT 0 12 ((l.headD (0, 0)).2)

/-! ### RTD channels (R209 to R216) -/

/-- The nominal resistance of RTD channel n in 0.1 mΩ (R214). -/
def rnom (w : W) (n : Nat) : Nat :=
  let r := w.rdN (R.AFE_RTm_RNOM n)
  if r ≠ 0 then r
  else match w.rdF (R.AFE_RTm_CFG n) 0 2 with
    | 0 => 1000000
    | 1 => 5000000
    | _ => 10000000

/-- 10^40 times the Callendar–Van Dusen ratio R / R_0 at a temperature in µ°C (R213). -/
def cvd (t : Int) : Int :=
  -- 1 + A t + B t^2 + C (t - 100) t^3, t = T 1e-6 °C; A 3.9083e-3, B -5.775e-7, C -4.183e-12
  let base : Int := (10 : Int) ^ 40 + 39083 * (10 : Int) ^ 27 * t - 5775 * (10 : Int) ^ 18 * t ^ 2
  if t < 0 then base - 4183 * (t - 100000000) * t ^ 3 * 10 else base

/-- The temperature in µ°C, truncated, at which the ratio is greatest: A / (2 abs B) (R213). -/
def cvdTop : Int := 3383809523

/-- The largest temperature in µ°C from `lo` up to `cvdTop`, by binary digits, whose ratio does not exceed `num / den`. -/
def cvdSolve (num : Int) (den : Nat) : (k : Nat) → Int → Int
  | 0, t => t
  | k + 1, t =>
    let u := t + 2 ^ k
    cvdSolve num den k (if u ≤ cvdTop ∧ cvd u * den ≤ num * (10 : Int) ^ 40 then u else t)

/-- The ratio `num / den` lies below, or above, that of a temperature in µ°C. -/
def ratioBelow (t num : Int) (den : Nat) : Bool := decide (num * (10 : Int) ^ 40 < cvd t * den)
def ratioAbove (t num : Int) (den : Nat) : Bool := decide (cvd t * den < num * (10 : Int) ^ 40)

/-- The temperature in mK for a resistance `num / den` over R_0: the equation solved to 1 µK and rounded (R213); open above the
equation's greatest ratio, 1 + A² / (4 abs B). -/
def rtdTemp (num : Int) (den : Nat) : Int :=
  if ((231000000 + 39083 ^ 2 : Nat) : Int) * den < num * 231000000 then Config.rtdAbove num den
  else rounded 213 (cvdSolve num den 32 (-242000000)) 1000

/-- The result of RTD channel n: V_x, V_ref in nV, and whether the excitation pin reached compliance (R213 to R216);
answers whether a flag went to 1. -/
def rtdResult (n : Nat) (vx vref zx zref : Int) (comp : Bool) (w : W) : W × Bool :=
  let den := vref - zref
  let num : Int := w.rdN R.AFE_RREF * (vx - zx)
  let (w, num, den) := if den ≤ 0 then (let (w, f) := w.fresh 32; (w, (f : Int), 1)) else (w, num, den.toNat)
  let res : Int := rounded 340 num den
  let rn := w.rnom n
  let opn := comp || decide (vref < 20000000) || decide (1150000000 ≤ vx)
  let short := decide (2 * num < (rn * den : Nat))
  let oor := ratioBelow (-50000000) num (den * rn) || ratioAbove 200000000 num (den * rn)
  let valid := !opn && !short && !oor
  let temp := BitVec.ofNat 32 (uns 32 (rtdTemp num (den * rn)))
  let was := w.rdN (R.AFE_RTm_STAT n)
  let now := b2n valid + 2 * b2n opn + 4 * b2n short + 8 * b2n oor
  let w := (w.wrN (R.AFE_RTm_STAT n) now).wrN (R.AFE_RTm_RES n) (uns 32 res)
  let w := w.wr (R.AFE_RTm_T n) (if opn || short then w.mtr.rtValid.getD n 0 else temp)
  let w := if valid then { w with mtr.rtValid := w.mtr.rtValid.setIfInBounds n temp } else w
  (w, decide ((now / 2) &&& (7 - was / 2 % 8) ≠ 0))

/-- The slot of pair k, the one that runs, ends: the three converter results in nV, and whether IEXk reached its compliance
(R210, R211). -/
def rtdSlot (k : Nat) (vs vr vref : Int) (comp : Bool) (w : W) : W :=
  if w.mtr.rtdPos ≠ k then w
  else
    let w := { w with mtr.rtdPos := k + 1 }
    if !w.rdB (R.AFE_RTP_CFG k) 0 then w
    else
      let z := w.mtr.zero
      let (w, a) := w.rtdResult (2 * k) vs vref (z.getD 0 0) (z.getD 2 0) comp
      let (w, b) := w.rtdResult (2 * k + 1) vr vref (z.getD 1 0) (z.getD 2 0) comp
      let w := if comp then w.err 0x11 0x1201 else w
      w.raiseIf (a || b) E.AFE_RTD_FAULT

/-- The zero readings that end the 1 s cycle, in nV (R210). -/
def rtdZero (za zb zref : Int) (w : W) : W :=
  ({ w with mtr.zero := #v[za, zb, zref], mtr.rtdPos := 0 }.inc R.AFE_RTD_SEQ).raise E.AFE_RTD_DONE

/-- The excitation current of pair k in µA, set by IEX (R212). -/
def iexCurrent (w : W) (k : Nat) : Nat :=
  match w.rdF (R.AFE_RTP_CFG k) 1 2 with | 0 => 100 | 1 => 250 | 2 => 500 | _ => 1000

/-- Excitation source IEXk is on: its pair's slot runs, and the pair is enabled; any other is high-impedance (R210, R211). -/
def iexOn (w : W) (k : Nat) : Bool := w.dom 2 == 1 && w.mtr.rtdPos == k && w.rdB (R.AFE_RTP_CFG k) 0

/-! ### Pulse inputs (R217 to R224) -/

/-- Input n is the direction input of a paired input (R219). -/
def isDir (w : W) (n : Nat) : Bool := n % 2 == 1 && w.rdB (R.PLS_PIn_CFG (n - 1)) 2

/-- Input n is paired (R219). -/
def isPaired (w : W) (n : Nat) : Bool := n % 2 == 0 && w.rdB (R.PLS_PIn_CFG n) 2

/-- The accepted level of input n as it stands at a pulse sample: a change accepted in that same sample applies only from the
next one (R220). -/
def levelAt (w : W) (n sample : Nat) : Bool := w.rdB (R.PLS_PIn_STAT n) 0 != (w.mtr.levelAt.getD n none == some sample)

/-- The direction that a counting edge of input n accepted at a pulse sample has: forward (R220, R221). -/
def edgeFwd (w : W) (n sample : Nat) : Bool :=
  !w.isPaired n || (w.levelAt (n + 1) sample != w.rdB (R.PLS_PIn_CFG n) 3)

/-- An accepted level is a counting edge of input n (R218, R219). -/
def isCounting (w : W) (n : Nat) (level : Bool) : Bool :=
  w.rdB (R.PLS_PIn_CFG n) 0 && !w.isDir n && level != w.rdB (R.PLS_PIn_CFG n) 1

/-- A counting edge of input n accepted at a pulse sample (R220, R223, R224). -/
def countEdge (n sample : Nat) (fwd : Bool) (w : W) : W :=
  let lo := if fwd then R.PLS_PIn_FWD n else R.PLS_PIn_REV n
  let w := (w.wr64 lo (w.rd64 lo + 1)).wrB (R.PLS_PIn_STAT n) 1 fwd
  let w := if w.mtr.counted.getLsbD n then w.wrN (R.PLS_PIn_PERIOD n) (min (sample - w.mtr.edgeAt.getD n 0) 0xFFFFFFFF) else w
  let w := { w with mtr.counted := w.mtr.counted ||| BitVec.ofNat 64 (2 ^ n), mtr.edgeAt := w.mtr.edgeAt.setIfInBounds n sample }
  w.raiseIf (w.rdB (if n < 32 then R.PLS_EDGE_MASK else R.PLS_EDGE_MASK_HI) (n % 32)) E.PLS_PLS_EDGE

/-- A level that reverts before its debounce run completes (R217). -/
def pulseGlitch (n : Nat) (w : W) : W := w.incSatF (R.PLS_PIn_STAT n) 16 16

/-! ### Correction tables (R199 to R203) -/

/-- The 88 bytes of the table area of channel n. -/
def tabBytes (w : W) (n : Nat) : List Byte := (List.range 22).flatMap fun i => toLe 4 (w.rdN (R.AFE_CORR_TABn (22 * n + i)))

/-- Breakpoints 0 to k - 1 of a table. -/
def tabBps (t : List Byte) (k : Nat) : List CorrBp :=
  (List.range k).map fun i =>
    let b := t.drop (8 + 8 * i)
    ⟨sgn 16 (leNat (b.take 2)), sgn 32 (leNat ((b.drop 2).take 4)), sgn 16 (leNat ((b.drop 6).take 2))⟩

/-- The code of a commit of table n (R200, R202). -/
def corrCode (w : W) (n : Nat) : Nat :=
  let t := w.tabBytes n
  let k := (t.getD 3 0).toNat
  let bps := tabBps t (min k 9)
  firstCode [(decide (9 < k), eLen),
    (k == 0 || leNat (t.take 2) != 0x5C0E || (t.getD 2 0).toNat != n ||
      !decide (bps.Pairwise fun a b => a.l < b.l), eRange),
    (crc32c (t.take 80) != leNat ((t.drop 80).take 4), eCrc),
    ((w.chOf n).pend.isSome, eBusy)]

/-- A write of CORR_COMMIT: each selected table is checked by itself (R200 to R202). -/
def corrCommit (w : W) (v : Word) : W :=
  (List.range 24).foldl (fun w n =>
    if !bit v n then w
    else
      let code := w.corrCode n
      if code ≠ 0 then (w.err 0x11 code).raise E.AFE_CORR_ERR
      else
        let t := w.tabBytes n
        w.setCh n { w.chOf n with pend := some (tabBps t (t.getD 3 0).toNat) }) w

/-! ### Writes of the MTR, AFE and PLS pages -/

/-- The code of a write of a MTR register (R207, R228). -/
def mtrCheck (w : W) (o : Nat) (v : Word) : Nat :=
  if o = 0x044 then
    firstCode [((List.range 4).any fun t => decide (23 < fld v (8 * t) 5), eRange)]
  else if o = 0x060 then
    firstCode [(decide (systemEnd ≤ v.toNat), eLen), (decide (v.toNat < solverEnd ∨ v.toNat % 4096 ≠ 0), eRange)]
  else if o = 0x064 then firstCode [(decide (4096 < v.toNat), eLen), (decide (v.toNat < 2), eRange)]
  else if o = 0x05C ∧ bit v 31 then
    let m := (those 24 fun c => bit v c).length
    firstCode [(decide (systemEnd < w.rdN R.MTR_CAPT_BASE + (16 + 128 * m) * w.rdN R.MTR_CAPT_SIZE), eLen),
      (decide (w.rdN R.MTR_CAPT_SIZE < 2), eRange)]
  else 0

/-- The effect of an accepted write of a MTR register that is more than a store. -/
def mtrWrite (w : W) (o : Nat) (v : Word) : Option W :=
  if o = 0x040 then some ((w.wr R.MTR_NOM (v &&& 1#32)).trkSync)
  else if o = 0x044 then some ((w.wr R.MTR_TRK_SRC (v &&& 0x9F9F9F9F#32)).trkSync)
  else if o = 0x05C then
    some { w.wr R.MTR_CAPT_CTRL (v &&& 0xC0FFFFFF#32) with mtr.capt := [] }
  else none

/-- The code of a write of an AFE register (R180, R182, R187, R200, R229, R230). -/
def afeCheck (w : W) (o : Nat) (v : Word) : Nat :=
  if 0x040 ≤ o ∧ o < 0x1C0 then
    let n := (o - 0x040) / 16
    if o % 16 = 0 then
      let old := w.rd (R.AFE_CHn_CFG n)
      firstCode [(bit old 0 && fld v 1 9 != fld old 1 9, eState),
        (decide (3 < fld v 1 3 ∨ 5 < fld v 4 3), eRange)]
    else if o % 16 = 8 then
      let d := sgn 14 v.toNat
      firstCode [(decide (d < -4096 ∨ 4096 < d), eRange)]
    else 0
  else if o = 0x1C0 then
    firstCode [(bit v 0 != w.rdB R.AFE_REF_CFG 0 && (List.range 24).any w.chEn, eState)]
  else if o = 0x1C4 then
    let sel := those 24 fun n => bit v n
    if sel ≠ [] ∧ sel.all (fun n => w.corrCode n != 0) then w.corrCode (sel.headD 0) else 0
  else if 0x200 ≤ o ∧ o < 0x220 then firstCode [(bit v 0 && w.rdN R.AFE_RREF == 0, eState)]
  else if 0x240 ≤ o ∧ o < 0x340 ∧ o % 16 = 0 then firstCode [(fld v 0 2 == 3, eRange)]
  else 0

/-- The effect of an accepted write of an AFE register that is more than a store: the reserved words of a correction table keep zero
(R15, R199). DESIGN CHOICE (log 40): a write of EN = 1 to a channel that is enabled already is no enabling. -/
def afeWrite (w : W) (o : Nat) (v : Word) : Option W :=
  if 0x040 ≤ o ∧ o < 0x1C0 then
    let n := (o - 0x040) / 16
    if o % 16 = 0 then
      let was := w.chEn n
      let w := w.wr (R.AFE_CHn_CFG n) (v &&& 0x7FF#32)
      some (if bit v 0 && !was then w.chEnable n
        else if !bit v 0 && was then w.wrB (R.AFE_CHn_STAT n) 2 false else w)
    else if o % 16 = 12 then
      some (if bit v 0 then (w.wrB (R.AFE_CHn_STAT n) 0 false).wrF (R.AFE_CHn_STAT n) 16 16 0 else w) |>.map fun w =>
        if bit v 1 then w.wrB (R.AFE_CHn_STAT n) 1 false else w
    else none
  else if o = 0x1C4 then some (w.corrCommit v)
  else if 0x400 ≤ o ∧ o < 0x400 + 0x58 * 24 ∧ ((o - 0x400) % 0x58 = 4 ∨ (o - 0x400) % 0x58 = 84) then some w
  else none

/-- A refused write of CORR_COMMIT raises CORR_ERR (R200). -/
def afeRefused (w : W) (o : Nat) : W := if o = 0x1C4 then w.raise E.AFE_CORR_ERR else w

/-- The code of a write of a PLS register (R219, R233). -/
def plsCheck (w : W) (o : Nat) (v : Word) : Nat :=
  if 0x040 ≤ o ∧ o < 0x840 ∧ o % 32 = 0 then
    let n := (o - 0x040) / 32
    let old := w.rd (R.PLS_PIn_CFG n)
    firstCode [(fld v 1 3 != fld old 1 3 && (bit old 0 || (w.isDir n && w.rdB (R.PLS_PIn_CFG (n - 1)) 0)), eState),
      (bit v 2 && n % 2 == 1, eRange)]
  else 0

end W

end Sys2Proof.Machine
end

