-- ==== Sys2Proof/Machine/Water.lean ====
section
/-!
DEFINITION. Density and specific enthalpy of water at 1.6 MPa by IAPWS-IF97 region 1 (R247), computed exactly from the
standard's coefficients and rounded to binary64. PRESUMED: the coefficients are the published standard's, which the
specification names and does not print (log 42).
-/
namespace Sys2Proof.Machine.Water

/-- One term of the region 1 equation: exponents I and J, and the coefficient n as `m / 10^e`. -/
structure Term where
  i : Nat
  j : Int
  m : Int
  e : Nat
  deriving DecidableEq, Repr

/-- The 34 terms of the region 1 equation. -/
def terms : List Term :=
  [⟨0, -2, 14632971213167, 14⟩, ⟨0, -1, -84548187169114, 14⟩, ⟨0, 0, -37563603672040, 13⟩,
   ⟨0, 1, 33855169168385, 13⟩, ⟨0, 2, -95791963387872, 14⟩, ⟨0, 3, 15772038513228, 14⟩,
   ⟨0, 4, -16616417199501, 15⟩, ⟨0, 5, 81214629983568, 17⟩, ⟨1, -9, 28319080123804, 17⟩,
   ⟨1, -7, -60706301565874, 17⟩, ⟨1, -1, -18990068218419, 15⟩, ⟨1, 0, -32529748770505, 15⟩,
   ⟨1, 1, -21841717175414, 15⟩, ⟨1, 3, -52838357969930, 18⟩, ⟨2, -3, -47184321073267, 17⟩,
   ⟨2, 0, -30001780793026, 17⟩, ⟨2, 1, 47661393906987, 18⟩, ⟨2, 3, -44141845330846, 19⟩,
   ⟨2, 17, -72694996297594, 29⟩, ⟨3, -4, -31679644845054, 18⟩, ⟨3, 0, -28270797985312, 19⟩,
   ⟨3, 6, -85205128120103, 23⟩, ⟨4, -5, -22425281908000, 19⟩, ⟨4, -2, -65171222895601, 20⟩,
   ⟨4, 10, -14341729937924, 26⟩, ⟨5, -8, -40516996860117, 20⟩, ⟨8, -11, -12734301741641, 22⟩,
   ⟨8, -6, -17424871230634, 23⟩, ⟨21, -29, -68762131295531, 32⟩, ⟨23, -31, 14478307828521, 33⟩,
   ⟨29, -38, 26335781662795, 36⟩, ⟨30, -39, -11947622640071, 36⟩, ⟨31, -40, 18228094581404, 37⟩,
   ⟨32, -41, -93537087292458, 39⟩]

/-- A rational power with a signed exponent. -/
def rpow (x : Rat) : Int → Rat
  | .ofNat n => x ^ n
  | .negSucc n => (x ^ (n + 1))⁻¹

/-- Reduced pressure 1.6 MPa / 16.53 MPa. -/
def pr : Rat := 160 / 1653

/-- Inverse reduced temperature 1386 K / T at θ in °C. -/
def tau (th : Nat) : Rat := 138600 / (27315 + 100 * (th : Rat))

/-- The derivative of the equation by the reduced pressure. -/
def gammaPi (th : Nat) : Rat :=
  (terms.map fun t =>
    if t.i = 0 then 0
    else -((t.m : Rat) / 10 ^ t.e) * t.i * (71 / 10 - pr) ^ (t.i - 1) * rpow (tau th - 1222 / 1000) t.j).sum

/-- The derivative of the equation by the inverse reduced temperature. -/
def gammaTau (th : Nat) : Rat :=
  (terms.map fun t => ((t.m : Rat) / 10 ^ t.e) * (71 / 10 - pr) ^ t.i * t.j * rpow (tau th - 1222 / 1000) (t.j - 1)).sum

/-- A rational rounded to binary64. -/
def toF64 (x : Rat) : Nat := fofRat b64 (decide (x.num < 0)) x.num.natAbs x.den

/-- RHO[θ] in kg/m³, θ 0 to 200 (R247): p / (R T π γ_π), with R = 461.526 J/(kg K). -/
def rho (th : Nat) : Nat :=
  toF64 (1600000 / (461526 / 1000 * ((27315 + 100 * (th : Rat)) / 100) * pr * gammaPi th))

/-- H[θ] in J/kg (R247): R T τ γ_τ. -/
def enthalpy (th : Nat) : Nat :=
  toF64 (461526 / 1000 * ((27315 + 100 * (th : Rat)) / 100) * tau th * gammaTau th)

/-- The linear interpolation of R246 in a table, at x in °C (binary64): T[i] + (x − i)(T[i + 1] − T[i]). -/
def lin (t : Nat → Nat) (x : Nat) : Nat :=
  let i := (min ((ftruncInt b64 x).getD 0) 199).toNat
  F64.add (t i) (F64.mul (F64.sub x (F64.ofNat i)) (F64.sub (t (i + 1)) (t i)))

end Sys2Proof.Machine.Water
end

