-- ==== Sys2Proof/Machine/Quantity.lean ====
section
/-!
DEFINITION. Billed quantities (chapter 06): slots and their additions, electrical, thermal and pulse meter points, freeze
snapshots, intervals and demand, the billing store, live values and harmonics.
-/
namespace Sys2Proof.Machine

/-- The meter point of a slot (R234). -/
inductive Point where
  | e (i : Nat) | h (i : Nat) | p (i : Nat)
  deriving DecidableEq, Repr

/-- FLAGS bits of a summary (R278). -/
structure SumFlags where
  rev : Bool
  timeSet : Bool
  part : Bool
  rtcInv : Bool
  lowVin : Bool
  qual : Bool

namespace W

/-! ### Slots and views (R234, R235, R252, R253) -/

def slotOf (w : W) (s : Nat) : Slot := w.qty.slot.getD s {}
def setSlot (w : W) (s : Nat) (x : Slot) : W := { w with qty.slot := w.qty.slot.setIfInBounds s x }

/-- The meter point that slot s belongs to; the reverse slot of a paired pulse point belongs to the pair's point. -/
def slotPoint (w : W) (s : Nat) : Point :=
  if s < 56 then .e (s / 7)
  else if s < 104 then .h ((s - 56) / 6)
  else if w.isDir (s - 104) then .p (s - 105) else .p (s - 104)

def eCfg (w : W) (e : Nat) : Word := w.rd (R.QTY_Ee_CFG e)
def hCfg (w : W) (h : Nat) : Word := w.rd (R.QTY_Hh_CFG h)
def pCfg (w : W) (n : Nat) : Word := w.rd (R.QTY_Pn_CFG n)

def pointEn (w : W) : Point → Bool
  | .e i => bit (w.eCfg i) 0
  | .h i => bit (w.hCfg i) 0
  | .p i => bit (w.pCfg i) 0

/-- RES and DIGITS of a point. -/
def pointRes (w : W) : Point → Nat × Nat
  | .e i => (fld (w.eCfg i) 18 4, fld (w.eCfg i) 22 4)
  | .h i => (fld (w.hCfg i) 15 4, fld (w.hCfg i) 19 4)
  | .p i => (fld (w.pCfg i) 1 4, fld (w.pCfg i) 5 4)

/-- REG and RCNT of slot s for a fine value (R252). -/
def view (w : W) (s fine : Nat) : Nat × Nat :=
  let (res, digits) := w.pointRes (w.slotPoint s)
  let u := fine / 10 ^ res
  (u % 10 ^ digits, u / 10 ^ digits % 256)

/-- Whole fine units added to slot s; ROLL follows a change of RCNT (R235, R253). -/
def addFine (w : W) (s : Nat) (n : Nat) (rem : DWord) : W :=
  let x := w.slotOf s
  let fine := x.fine + BitVec.ofNat 64 n
  let rolls := (w.view s x.fine.toNat).2 != (w.view s fine.toNat).2
  let w := w.setSlot s { fine := fine, rem := rem, roll := x.roll || rolls }
  w.raiseIf (rolls && !x.roll) E.QTY_ROLLOVER

/-- A non-negative amount in fine units (binary64) added to slot s (R235); for a result that is no finite number the
fine units added are free. -/
def addTo (w : W) (s amount : Nat) : W :=
  let t := F64.add (w.slotOf s).rem.toNat amount
  match ftruncInt b64 t with
  | some n => w.addFine s n.toNat (BitVec.ofNat 64 (F64.sub t (F64.ofInt n)))
  | none => let (w, n) := w.fresh 64; w.addFine s n 0#64

/-! ### Freeze snapshots (R258, R259) -/

/-- A freeze is requested for a cause (a bit of FRZ_CAUSE); a request during a copy is merged into it. -/
def freeze (cause : Nat) (w : W) : W :=
  if w.dom 2 ≠ 1 then w
  else match w.qty.frz with
    | some _ => w.wrB R.QTY_FRZ_CAUSE cause true
    | none =>
      let w := (w.inc R.QTY_FRZ_SEQ).wrN R.QTY_FRZ_CAUSE (2 ^ cause)
      { w with qty.frz := some (w.tscTime, w.rtcSec.toNat, w.qty.slot.toList) }

/-- The copy ends: the quantity area and the summaries show it (R258, R259). -/
def freezeDone (w : W) : W :=
  match w.qty.frz with
  | none => w
  | some (t, r, slots) =>
    let w := (w.wr64 R.QTY_FRZ_TSC t).wrN R.QTY_FRZ_RTC r
    let w := slots.zipIdx.foldl (fun w e =>
      let (reg, rcnt) := w.view e.2 e.1.fine.toNat
      (((w.wr64 (R.QTY_Qs_FINE e.2) e.1.fine.toNat).wrN (R.QTY_Qs_VIEW e.2) reg).wrN (R.QTY_Qs_VIEW_HI e.2)
        (reg / 2 ^ 32 % 256 + 256 * rcnt + 2 ^ 16 * b2n e.1.roll))) w
    let w := w.qty.sums.foldl (fun w e => w.wr e.1 e.2) w
    let w := { w with qty.frz := none, qty.sums := [] }
    ((w.inc R.QTY_FRZ_SEQ).wrB R.QTY_FREEZE 0 false).raise E.QTY_FREEZE_DONE

/-- A W1C write of ROLL of slot s (R253). -/
def rollClear (s : Nat) (w : W) : W :=
  (w.setSlot s { w.slotOf s with roll := false }).wrB (R.QTY_Qs_VIEW_HI s) 16 false

/-! ### Electrical meter points (R236 to R241) -/

/-- Elements of a point (R236). -/
def elems (w : W) (e : Nat) : Nat := min 3 (fld (w.eCfg e) 1 2 + 1)
def vChan (w : W) (e j : Nat) : Nat := fld (w.eCfg e) (3 + 5 * j) 5
def iChan (w : W) (e j : Nat) : Nat := fld (w.rd (R.QTY_Ee_ICH e)) (5 * j) 5

/-- One output period of element j of point e: its corrected samples, and the shifted voltage with the current delayed as much
(R238, R239). The reactive product belongs to the step in which the shift delivers it, and is free where a sample that the shift takes
is no finite number (DESIGN CHOICE, log 40). -/
def elemSample (w : W) (e j : Nat) : W :=
  let v := w.vChan e j
  let i := w.iChan e j
  let valid := w.chValid v && w.chValid i
  let clip := w.mtr.clip.getLsbD v || w.mtr.clip.getLsbD i
  let k := 3 * e + j
  let one := BitVec.ofNat 8 (2 ^ e)
  let w := if clip then { w with qty.elOvl := w.qty.elOvl ||| one } else w
  let w := if !valid then { w with qty.elInv := w.qty.elInv ||| one } else w
  if !valid then w
  else
    let a := w.qty.el.getD k {}
    let (x, y) := (w.mtr.x.getD v 0, w.mtr.x.getD i 0)
    let prod (x y : Word) : Nat := F64.mul (F64.of32 x.toNat) (F64.of32 y.toNat)
    let a := { a with n := a.n + 1 }
    let a := match q32 x with | some p => { a with vv := a.vv + p * p } | none => { a with sv := F64.add a.sv (prod x x) }
    let a := match q32 y with | some q => { a with ii := a.ii + q * q } | none => { a with si := F64.add a.si (prod y y) }
    let a := match q32 x, q32 y with
      | some p, some q => { a with vi := a.vi + p * q }
      | _, _ => { a with sp := F64.add a.sp (prod x y) }
    let (w, a) := match quadrature (w.chOf v).hist, q32 ((w.chOf i).hist.getD hilbertDelay 0) with
      | some vq, some yd => (w, { a with qi := a.qi + vq * yd })
      | _, _ => let (w, f) := w.fresh 64; (w, { a with sq := f })
    { w with qty.el := w.qty.el.setIfInBounds k a }

/-- The electrical points take one output period. -/
def elecSample (w : W) : W :=
  (List.range 8).foldl (fun w e =>
    if bit (w.eCfg e) 0 then (List.range (w.elems e)).foldl (fun w j => w.elemSample e j) w else w) w

/-- CREEP of an element: its rms current is below 0.0002 of full scale (R238). -/
def creeps (w : W) (c : Nat) (a : ElemAcc) : Bool :=
  match q32 (w.chOf c).scale with
  | some sc => a.si == 0 && decide (a.ii * 50000000 < (a.n : Int) * 8388607 ^ 2 * sc ^ 2)
  | none => false

/-- Two to the power 298: the sums of an element count in units of its reciprocal. -/
def unit298 : Nat := 2 ^ 298

/-- One element at the end of a step: its sums, those of p and q at zero where it creeps, and whether it does (R238). -/
abbrev ElemEnd := ElemAcc × Bool

/-- The elements of point e at the end of a step. -/
def elemEnds (w : W) (e : Nat) : List ElemEnd :=
  (List.range (w.elems e)).map fun j =>
    let a := w.qty.el.getD (3 * e + j) {}
    let cr := decide (0 < a.n) && w.creeps (w.iChan e j) a
    (if cr then { a with vi := 0, qi := 0, sp := 0, sq := 0 } else a, cr)

/-- The rms of an element's voltage and current in binary64 (R238): no finite number where a sample is none. -/
def elemV (a : ElemAcc) : Nat := if a.sv ≠ 0 then a.sv else fsqrtRat b64 a.vv.natAbs (a.n * unit298)
def elemI (a : ElemAcc) : Nat := if a.si ≠ 0 then a.si else fsqrtRat b64 a.ii.natAbs (a.n * unit298)

/-- The mean of an element's p and q in binary64 (R238, R280). -/
def elemP (a : ElemAcc) : Nat := if a.sp ≠ 0 then a.sp else F64.ofRat a.vi (max 1 a.n * unit298)
def elemQ (a : ElemAcc) : Nat := if a.sq ≠ 0 then a.sq else F64.ofRat a.qi (max 1 a.n * unit298 * 2 ^ 32)

/-- S of an element in binary64: vrms times irms (R238). -/
def elemS (a : ElemAcc) : Nat :=
  if a.sv ≠ 0 ∨ a.si ≠ 0 then F64.mul (elemV a) (elemI a)
  else if a.n = 0 then 0 else fsqrtRat b64 (a.vv * a.ii).natAbs (a.n ^ 2 * unit298 ^ 2)

/-- The energies of an enabled point's step go to their slots (R240); what a sum that is no finite number adds, and to which of its
registers, is free. -/
def elecEnergy (e : Nat) (js : List ElemEnd) (w : W) : W :=
  let base := 7 * e
  let (w, p) : W × Int := if js.any fun x => x.1.sp != 0 then (let (w, f) := w.fresh 1; (w, 2 * (f : Int) - 1))
    else (w, (js.map fun x => x.1.vi).sum)
  let (w, q) : W × Int := if js.any fun x => x.1.sq != 0 then (let (w, f) := w.fresh 1; (w, 2 * (f : Int) - 1))
    else (w, (js.map fun x => x.1.qi).sum)
  let s := (js.map fun x => F64.div (F64.mul (elemS x.1) (F64.ofNat x.1.n)) (F64.ofNat 16000)).foldl F64.add 0
  let slotP := if 0 ≤ p then base else base + 1
  let slotQ := base + (if 0 ≤ p ∧ 0 ≤ q then 2 else if p < 0 ∧ 0 ≤ q then 3 else if p < 0 then 4 else 5)
  let den := 16000 * 18 * unit298
  let add (w : W) (slot : Nat) (open_ : Bool) (amount : Nat) : W :=
    if open_ then (let (w, a) := w.fresh 64; w.addFine slot a 0#64) else w.addTo slot amount
  ((add (add w slotP (js.any fun x => x.1.sp != 0) (fofRat b64 false (5 * p.natAbs) den)) slotQ (js.any fun x => x.1.sq != 0)
    (fofRat b64 false (5 * q.natAbs) (den * 2 ^ 32)))).addTo (base + 6) (F64.div s (F64.ofRat 36 10))

/-- The live block of point e at the end of a step, whether it is enabled or not (R280). -/
def elecLive (e : Nat) (js : List ElemEnd) (w : W) : W :=
  let f32 (x : Int) (d : Nat) : Nat := if d = 0 then 0 else fofRat b32 (decide (x < 0)) x.natAbs d
  let put (w : W) (off v : Nat) : W := w.wrN (R.HRM_LIVEe (20 * e + off / 4)) v
  let w := (List.range 3).foldl (fun w j =>
    match js[j]? with
    | none => (List.range 5).foldl (fun w k => put w (20 * j + 4 * k) 0) w
    | some (a, _) =>
      let d := a.n * unit298
      let rms (special sum : Nat) : Nat := if special ≠ 0 then F64.to32 special else if a.n = 0 then 0 else fsqrtRat b32 sum d
      let avg (special : Nat) (x : Int) (d : Nat) : Nat := if special ≠ 0 then F64.to32 special else f32 x d
      let w := put w (20 * j) (rms a.sv a.vv.natAbs)
      let w := put w (20 * j + 4) (rms a.si a.ii.natAbs)
      put (put (put w (20 * j + 8) (avg a.sp a.vi d)) (20 * j + 12) (avg a.sq a.qi (d * 2 ^ 32))) (20 * j + 16) (F64.to32 (elemS a))) w
  let sum (g : ElemAcc → Nat) : Nat := (js.map fun x => g x.1).foldl F64.add 0
  let pt := sum elemP
  let st := sum elemS
  let w := put (put (put w 60 (F64.to32 pt)) 64 (F64.to32 (sum elemQ))) 68 (F64.to32 st)
  let w := put w 72 (if fisZero b64 st then 0x3F800000 else F64.to32 (F64.div pt st))
  put w 76 (b2n (w.qty.elOvl.getLsbD e) + 2 * b2n (js.any fun x => decide (0 < x.1.n)) + 4 * b2n (js.any fun x => x.2))

/-- The end of an electrical step of point e (R238, R240, R280). -/
def elecPoint (e : Nat) (w : W) : W :=
  let js := w.elemEnds e
  (if bit (w.eCfg e) 0 then w.elecEnergy e js else w).elecLive e js

/-- The end of an electrical step (R238, R240); its clipped and invalid samples mark the interval in which it ends (R241, R261,
R264). -/
def elecStep (w : W) : W :=
  let w := w.inc R.HRM_LIVE_SEQ
  let w := (List.range 8).foldl (fun w e => w.elecPoint e) w
  let w := { w with qty.qualE := w.qty.qualE ||| w.qty.elOvl ||| w.qty.elInv,
                    qty.el := Vector.replicate 24 {}, qty.elOvl := 0, qty.elInv := 0 }
  (w.inc R.HRM_LIVE_SEQ).raise E.HRM_LIVE

/-! ### Thermal meter points (R242 to R249) -/

def thOf (w : W) (h : Nat) : ThermSt := w.qty.th.getD h {}
def setTh (w : W) (h : Nat) (t : ThermSt) : W := { w with qty.th := w.qty.th.setIfInBounds h t }

/-- A status bit of Hh_STAT; THERM_ERR is raised when one of the first three is set. -/
def thFlag (w : W) (h i : Nat) (b : Bool) : W :=
  let was := w.rdB (R.QTY_Hh_STAT h) i
  (w.wrB (R.QTY_Hh_STAT h) i b).raiseIf (b && !was) E.QTY_THERM_ERR

/-- A temperature register in °C, binary64. -/
def rtTemp (w : W) (n : Nat) : Nat := F64.ofRat (sgn 32 (w.rdN (R.AFE_RTm_T n))) 1000

/-- A step without energy marks the interval (R264). -/
def qualH (w : W) (h : Nat) : W := { w with qty.qualH := w.qty.qualH ||| BitVec.ofNat 8 (2 ^ h) }

/-- kc of the normative step in J/(m³ K) (R246). -/
def thermKc (tf tr dt tm : Nat) : Nat :=
  let rho := Water.lin Water.rho tm
  let h := Water.lin Water.enthalpy
  if F64.le (F64.ofRat 1 100) (F64.abs dt) then F64.div (F64.mul rho (F64.sub (h tf) (h tr))) dt
  else
    let tc := F64.div (F64.add tf tr) (F64.ofNat 2)
    let d := F64.ofRat 5 1000
    F64.div (F64.mul rho (F64.sub (h (F64.add tc d)) (h (F64.sub tc d)))) (F64.ofRat 1 100)

/-- One step of thermal point h with signed volume dv in m³ (binary64), normative in R246. -/
def thermStep (h dv : Nat) (w : W) : W :=
  let cfg := w.hCfg h
  let k := fld cfg 11 3
  let base := 56 + 6 * h
  let fwd := F64.le 0 dv
  let ml := F64.mul (F64.abs dv) (F64.ofNat 1000000)
  let volSlot := if fwd then base + 4 else base + 5
  let tf := w.rtTemp (2 * k)
  let tr := w.rtTemp (2 * k + 1)
  let ok := w.rdB (R.AFE_RTm_STAT (2 * k)) 0 && w.rdB (R.AFE_RTm_STAT (2 * k + 1)) 0 &&
    F64.le 0 (F64.min tf tr) && F64.le (F64.max tf tr) (F64.ofNat 200)
  if !ok then
    let w := (w.addTo volSlot ml).thFlag h 0 true
    let t := w.thOf h
    let due := match t.errAt with | none => true | some a => decide (a + 100000000 ≤ w.tscTime)
    let w := if due then (w.incSatF (R.QTY_Hh_STAT h) 16 16).setTh h { t with errAt := some w.tscTime } else w
    w.qualH h
  else
    let w := w.thFlag h 0 false
    let dt := F64.sub tf tr
    let kc := thermKc tf tr dt (if bit cfg 14 then tr else tf)
    let en := F64.div (F64.mul (F64.mul kc (F64.abs dt)) (F64.abs dv)) (F64.ofRat 36 10)
    let dtmin := F64.mul (F64.ofNat (fld cfg 23 9)) (F64.ofRat 1 100)
    let mode := fld cfg 1 2
    let target : Option Nat :=
      if F64.lt 0 dt && F64.le dtmin dt && mode != 1 then some base
      else if F64.lt dt 0 && F64.le dtmin (F64.neg dt) && mode != 0 then some (base + 2)
      else none
    let w := match target with
      | some s => w.addTo (if fwd then s else s + 1) en
      | none => w
    let w := w.addTo volSlot ml
    if fwd then w
    else
      let one := BitVec.ofNat 8 (2 ^ h)
      let first := !w.qty.revH.getLsbD h
      let w := { w.wrB (R.QTY_Hh_STAT h) 3 true with qty.revH := w.qty.revH ||| one }
      w.raiseIf first E.QTY_REVERSED

/-- The signed volume of a step of flow q in m³/h (binary64) over the TSC time since the previous step (R242). -/
def flowVol (w : W) (h q : Nat) : Nat :=
  F64.mul q (F64.div (F64.ofRat (w.tscTime - (w.thOf h).last : Nat) 100000000) (F64.ofNat 3600))

/-- The mean corrected current since the previous step, in A; free without a sample that is a number (R242). -/
def meanI (w : W) (h : Nat) : W × Nat :=
  let t := w.thOf h
  if t.n = 0 || t.bad then w.fresh 64 else (w, F64.ofRat t.sum (t.n * 2 ^ 149))

/-- The step of a bus or analogue thermal point at RTD_DONE (R242, R244, R245). -/
def thermTimed (h : Nat) (w : W) : W :=
  let cfg := w.hCfg h
  let src := fld cfg 3 2
  if !bit cfg 0 || (src != 1 && src != 2) then w
  else
    let w := if src == 1 then
        let t := w.thOf h
        let stale := if t.wrote then 0 else t.stale + 1
        let w := w.setTh h { t with stale := stale, wrote := false }
        let w := if 3 ≤ stale then w.thFlag h 1 true else w
        if w.rdB (R.QTY_Hh_STAT h) 1 then w
        else w.thermStep h (w.flowVol h (F64.of32 (w.rdN (R.QTY_Hh_FLOW_IN h))))
      else
        let (w, i) := w.meanI h
        if F64.lt i (F64.ofRat 36 10000) then w.thFlag h 2 true
        else
          let w := w.thFlag h 2 false
          let di := F64.max 0 (F64.sub i (F64.ofRat 4 1000))
          let v := w.flowVol h (F64.mul di (F64.of32 (w.rdN (R.QTY_Hh_FLOWK h))))
          w.thermStep h (if F64.lt v 0 then 0 else v)
    w.setTh h { w.thOf h with last := w.tscTime, sum := 0, n := 0, bad := false }

/-- The steps that RTD_DONE ends (R242). -/
def thermAll (w : W) : W := (List.range 8).foldl (fun w h => w.thermTimed h) w

/-- A corrected sample joins the current of the analogue thermal points (R242). -/
def thermSample (w : W) : W :=
  (List.range 8).foldl (fun w h =>
    let cfg := w.hCfg h
    let c := fld cfg 5 6
    if bit cfg 0 && fld cfg 3 2 == 2 && w.chValid c then
      let t := w.thOf h
      match q32 (w.mtr.x.getD c 0) with
      | some x => w.setTh h { t with sum := t.sum + x, n := t.n + 1 }
      | none => w.setTh h { t with n := t.n + 1, bad := true }
    else w) w

/-- The pulse steps of a counting edge of input n (R242, R246). -/
def thermPulse (n : Nat) (fwd : Bool) (w : W) : W :=
  (List.range 8).foldl (fun w h =>
    let cfg := w.hCfg h
    if bit cfg 0 && fld cfg 3 2 == 0 && fld cfg 5 6 == n then
      let v : Int := w.rdN (R.QTY_Hh_FLOWK h)
      let w := w.thermStep h (F64.ofRat (if fwd then v else -v) 1000000000)
      w.setTh h { w.thOf h with last := w.tscTime }
    else w) w

/-- A value supplied for Hh_FLOW_IN (R244, R249). -/
def flowIn (h : Nat) (v : Word) (w : W) : W :=
  let w := w.wr (R.QTY_Hh_FLOW_IN h) v
  (w.setTh h { w.thOf h with stale := 0, wrote := true }).wrB (R.QTY_Hh_STAT h) 1 false

/-! ### Pulse meter points and the commands of one output period -/

/-- A counting edge adds to its pulse meter point (R250). -/
def pulseMeter (n : Nat) (fwd : Bool) (w : W) : W :=
  let cfg := w.pCfg n
  if !bit cfg 0 then w
  else w.addTo (if fwd then 104 + n else 105 + n) (F64.ofNat (fld cfg 13 16 * 10 ^ fld cfg 9 4))

/-- A pulse input's level is accepted at a pulse sample, or reverts before (R217 to R224, R250). -/
def pulseAccept (n : Nat) (level accepted : Bool) (sample : Nat) (w : W) : W :=
  if w.dom 2 ≠ 1 then w
  else if !accepted then w.pulseGlitch n
  else if w.rdB (R.PLS_PIn_STAT n) 0 == level then w
  else
    let fwd := w.edgeFwd n sample
    let counts := w.isCounting n level
    let w := { w.wrB (R.PLS_PIn_STAT n) 0 level with mtr.levelAt := w.mtr.levelAt.setIfInBounds n (some sample) }
    let w := w.raiseIf (w.isDir n) E.PLS_PLS_DIR
    if counts then ((w.countEdge n sample fwd).pulseMeter n fwd).thermPulse n fwd else w

/-- The corrected samples of the analysed point join the harmonic window; a clipped one marks it (R269, R272). -/
def winSample (w : W) : W :=
  match w.qty.winPoint with
  | none => w
  | some e =>
    let chans := (List.range 3).map (w.vChan e) ++ (List.range 3).map (w.iChan e)
    let used := (List.range (w.elems e)).flatMap fun j => [w.vChan e j, w.iChan e j]
    { w with qty.winBuf := (chans.map fun c => w.mtr.x.getD c 0) :: w.qty.winBuf,
             qty.winOvl := w.qty.winOvl || used.any fun c => w.mtr.clip.getLsbD c }

/-- One output period of 62.5 µs (R204): for each channel the differential input in nV at each of the modulator's 256 clocks, the
voltage at the reference pins in nV, and the clocks that the work of order 5 used. -/
def outputPeriod (vin : List (List Int)) (ext slice : Nat) (w : W) : W :=
  if w.dom 2 ≠ 1 then w
  else
    let w := (List.range 24).foldl (fun w n => w.chSample n (vin.getD n []) ext) w
    let w := { w with freeCtr := w.freeCtr + 1 }
    let w := (List.range 4).foldl (fun w t => w.trkSample t) w
    (((w.captSample.winSample).elecSample).thermSample).sliceSample slice

/-! ### Intervals and demand (R261 to R265) -/

/-- FLAGS of a summary (R278). -/
def sumFlags (w : W) (len : Nat) (f : SumFlags) : Nat :=
  min len 65535 + 2 ^ 16 * b2n f.rev + 2 ^ 17 * b2n f.timeSet + 2 ^ 18 * b2n f.part + 2 ^ 19 * b2n f.rtcInv
    + 2 ^ 20 * b2n f.lowVin + 2 ^ 21 * b2n f.qual + 2 ^ 24 * w.rdF R.QTY_INTV_SEQ 0 8

/-- The two words of a 64-bit value at a BAR0 offset. -/
def pairWords (off : Nat) (v : Nat) : List (Nat × Word) :=
  [(off, BitVec.ofNat 32 v), (off + 4, BitVec.ofNat 32 (v / 2 ^ 32))]

/-- The difference of slot s since the interval's start, modulo 2^64 (R262). -/
def slotDelta (w : W) (s : Nat) : Nat := ((w.slotOf s).fine - w.qty.intvFine.getD s 0).toNat

/-- A demand of point e that is the highest of its kind (R265). -/
def maxDem (e dem : Nat) (w : W) : W :=
  if flt b32 (w.rdN (R.HRM_MAXDEM (2 * e))) dem then
    ((w.wrN (R.HRM_MAXDEM (2 * e)) dem).wr (R.HRM_MAXDEM (2 * e + 1)) w.rtcSec).raise E.QTY_MAXDEM
  else w

/-- The summary of an enabled E point (R262, R264, R265). -/
def sumE (e len : Nat) (timeSet : Bool) (w : W) : W :=
  let part := w.qty.partE.getLsbD e
  let ap := w.slotDelta (7 * e)
  let (w, dem) := if len = 0 then w.fresh 32 else (w, fofRat b32 false (36 * ap) (10 * len))
  let fl := w.sumFlags len ⟨false, timeSet, part, w.tinv, w.qty.lowVin, w.qty.qualE.getLsbD e⟩
  let off := R.QTY_Ee_SUM (6 * e)
  let words := pairWords off ap ++ pairWords (off + 8) (w.slotDelta (7 * e + 1)) ++
    [(off + 16, BitVec.ofNat 32 dem), (off + 20, BitVec.ofNat 32 fl)]
  let w := { w with qty.sums := w.qty.sums ++ words }
  if timeSet || part || w.tinv then w else w.maxDem e dem

/-- The summary of an enabled H point (R262, R264). -/
def sumH (h len : Nat) (timeSet : Bool) (w : W) : W :=
  let off := R.QTY_Hh_SUM (20 * h)
  let d := fun q => w.slotDelta (56 + 6 * h + q)
  let net := fun a b => uns 64 ((d a : Int) - d b)
  let fl := w.sumFlags len ⟨w.qty.revH.getLsbD h, timeSet, w.qty.partH.getLsbD h, w.tinv, w.qty.lowVin,
    w.qty.qualH.getLsbD h⟩
  let words := (List.range 6).flatMap (fun q => pairWords (off + 8 * q) (d q)) ++ pairWords (off + 48) (net 0 1) ++
    pairWords (off + 56) (net 2 3) ++ pairWords (off + 64) (net 4 5) ++ [(off + 72, BitVec.ofNat 32 fl)]
  { w with qty.sums := w.qty.sums ++ words }

/-- An interval ends, at a boundary of RTC time or by an RTC set (R262, R263). -/
def intvEnd (timeSet : Bool) (w : W) : W :=
  if w.dom 2 ≠ 1 then w
  else
    let t := w.tscTime - w.qty.intvStart
    let len := (rounded 264 t 100000000).toNat
    let w := { w with qty.sums := [] }
    let w := (List.range 8).foldl (fun w e => if bit (w.eCfg e) 0 then w.sumE e len timeSet else w) w
    let w := (List.range 8).foldl (fun w h => if bit (w.hCfg h) 0 then w.sumH h len timeSet else w) w
    let w : W := { w with qty.intvStart := w.tscTime, qty.intvFine := w.qty.slot.map (·.fine), qty.partE := 0,
                          qty.partH := 0, qty.qualE := 0, qty.qualH := 0, qty.revH := 0,
                          qty.lowVin := decide (w.rdF R.PWR_VIN_MON 0 16 < 3000) }
    ((w.inc R.QTY_INTV_SEQ).freeze 3).raise E.QTY_INTV_END

/-- VIN_MON takes a reading in mV; one below 3.0 V marks the running interval (R138, R264). -/
def vinMon (mv : Nat) (w : W) : W :=
  let w := w.wrF R.PWR_VIN_MON 0 16 mv
  if mv < 3000 then { w with qty.lowVin := true } else w

/-! ### The billing store (R266 to R268) -/

/-- BAR4 offset of a sector of the billing store: the last two of partition 0 (R266). -/
def storeBase (w : W) (sector : Nat) : Nat := w.partBase 0 + w.partSize 0 - 8192 + 4096 * sector

/-- ROLL bits of all slots as a number. -/
def rollBits (w : W) : Nat := (w.qty.slot.toList.zipIdx.map fun e => 2 ^ e.2 * b2n e.1.roll).sum

/-- The bytes of a billing-store write (R266). -/
def storeImage (w : W) (seq cause : Nat) : List Byte :=
  let body := toLe 4 0xB1C0 ++ toLe 4 seq ++ toLe 8 w.tscTime ++ toLe 4 w.rtcSec.toNat ++ toLe 4 cause ++ toLe 8 0
    ++ w.qty.slot.toList.flatMap (fun s => toLe 8 s.fine.toNat) ++ toLe 32 w.rollBits
    ++ (List.range 16).flatMap fun i => toLe 4 (w.rdN (R.HRM_MAXDEM i))
  body ++ toLe 4 (crc32c body) ++ toLe 4 0x5AC33CA5

/-- A billing-store write starts for a cause: 0 periodic, 1 early warning, 2 request, 3 entry (R266, R267). -/
def storeStart (cause : Nat) (w : W) : W :=
  if w.dom 2 ≠ 1 then w
  else if w.qty.store.isSome then
    if cause = 0 then w else { w with qty.storeNext := some (w.qty.storeNext.getD 0 ||| 2 ^ cause) }
  else
    let seq := (w.rdN R.QTY_STORE_SEQ + 1) % 2 ^ 32
    let sector := if w.rdN R.QTY_STORE_SEQ = 0 then 0 else 1 - w.rdF R.QTY_STORE_STAT 4 1
    { w.wrB R.QTY_STORE_STAT 1 true with qty.store := some ⟨sector, seq, w.storeImage seq (2 ^ cause)⟩ }

/-- An area whose write was cut off (R115, R134, R268): its first bytes `head` are as written, the contents after them up
to the commit word at `n` are free, and the commit word is not there (log 45). -/
def tear (w : W) (off n : Nat) (head : List Byte := []) : W :=
  let w := mramUndef (n / 4096 + 3) w off (n + 4)
  (w.putBytes (mramBase + w.phys off) head).putBytes (mramBase + w.phys (off + n)) (toLe 4 0)

/-- A further request that came during a write starts now (R267). -/
def storeAgain (w : W) : W :=
  match w.qty.storeNext with
  | none => w.wrB R.QTY_STORE_STAT 0 false
  | some c =>
    let w := { w with qty.storeNext := none }
    let seq := (w.rdN R.QTY_STORE_SEQ + 1) % 2 ^ 32
    let sector := if w.rdN R.QTY_STORE_SEQ = 0 then 0 else 1 - w.rdF R.QTY_STORE_STAT 4 1
    { w.wrB R.QTY_STORE_STAT 1 true with qty.store := some ⟨sector, seq, w.storeImage seq c⟩ }

/-- The billing-store write commits, or fails for a reason other than reset (R267, R274). -/
def storeDone (ok : Bool) (w : W) : W :=
  match w.qty.store with
  | none => w
  | some j =>
    let w := { w.wrB R.QTY_STORE_STAT 1 false with qty.store := none }
    let w := if ok then
        let w := (w.mramPut (w.storeBase j.sector) j.img).wrN R.QTY_STORE_SEQ j.seq
        ((w.wrB R.QTY_STORE_STAT 2 true).wrF R.QTY_STORE_STAT 4 1 j.sector).raise E.QTY_STORE_DONE
      else ((w.tear (w.storeBase j.sector) 1476).wrB R.QTY_STORE_STAT 2 false).raise E.QTY_STORE_FAIL
    w.storeAgain

/-- The image of a sector when it is valid (R268). -/
def storeValid (w : W) (m : Memory) (sector : Nat) : Option (List Byte) :=
  let b := w.mram m (w.storeBase sector) 1480
  let n := fun o k => leNat ((b.drop o).take k)
  if n 0 4 = 0xB1C0 ∧ n 1472 4 = crc32c (b.take 1472) ∧ n 1476 4 = 0x5AC33CA5 then some b else none

/-- PD2 starts: slots, ROLL and MAXDEM come from the newest valid write, and a freeze follows (R259, R268). -/
def qtyStart (m : Memory) (w : W) : W :=
  let cands : List (Nat × Nat × List Byte) := [0, 1].filterMap fun s => (w.storeValid m s).map fun b => (leNat ((b.drop 4).take 4), s, b)
  let w : W := match newest 32 (cands.map (·.1)) with
    | none => (w.wrB R.QTY_STORE_STAT 3 true).raise E.QTY_STORE_BLANK
    | some q =>
      match cands.find? fun c => c.1 == q with
      | none => w
      | some (_, s, b) =>
        let roll := leNat ((b.drop 1376).take 32)
        let slots := Vector.ofFn fun i : Fin 168 =>
          ({ fine := BitVec.ofNat 64 (leNat ((b.drop (32 + 8 * i.val)).take 8)), roll := roll.testBit i.val } : Slot)
        let w : W := { w with qty.slot := slots }
        let w := (List.range 16).foldl (fun w i => w.wrN (R.HRM_MAXDEM i) (leNat ((b.drop (1408 + 4 * i)).take 4))) w
        (w.wrN R.QTY_STORE_SEQ q).wrF R.QTY_STORE_STAT 4 1 s
  let w := (w.mramTouch (w.storeBase 0) 1480).mramTouch (w.storeBase 1) 1480
  let w : W := { w with qty.intvStart := w.tscTime, qty.intvFine := w.qty.slot.map (·.fine),
                        qty.th := Vector.replicate 8 { last := w.tscTime } }
  w.freeze 4

/-! ### Harmonics (R269 to R273) -/

/-- Periods of the fundamental in a window (R269). -/
def nc (w : W) : Nat := if w.rdB R.MTR_NOM 0 then 12 else 10

/-- The channel of signal s of point e: 0 to 2 V1 to V3, 3 to 5 I1 to I3 (R279). -/
def sigChan (w : W) (e s : Nat) : Nat := if s < 3 then w.vChan e s else w.iChan e (s - 3)

/-- The window of the next selected point starts (R269). DESIGN CHOICE (log 40): the 48 samples before it are kept, since the
resampling takes 24 samples on either side of a point and so analyses each window 24 samples late. -/
def winStart (w : W) : W :=
  let sel := those 8 fun e => w.rdB R.HRM_CTRL e
  let after := match w.qty.winPoint with | none => 0 | some p => p + 1
  match (sel.filter fun e => decide (after ≤ e)).head?.or sel.head? with
  | none => { w with qty.winPoint := none, qty.winBuf := [] }
  | some e =>
    let t := w.rdF (R.AFE_CHn_CFG (w.vChan e 0)) 8 2
    let before := (List.range 48).reverse.map fun k => (List.range 6).map fun s => (w.chOf (w.sigChan e s)).hist.getD k 0
    { w with qty.winTrk := (List.range 4).map w.trkFreq, qty.winPre := before, qty.winPoint := some e,
             qty.winTsc := w.tscTime, qty.winF := w.trkFreq t,
             qty.winLock := w.rdB (R.MTR_FREQ t) 20, qty.winOvl := false, qty.winBuf := [] }

/-- The binary digits of the angle of x + iy over 2π, `k` of them: 1 in the lower half plane, then of the doubled angle. -/
def angleBits : (k : Nat) → (x y : Int) → (acc : Nat) → Nat
  | 0, _, _, acc => acc
  | k + 1, x, y, acc =>
    let b := if y < 0 ∨ (y = 0 ∧ x < 0) then 1 else 0
    let u := x * x - y * y
    let v := 2 * x * y
    let s := max u.natAbs.log2 v.natAbs.log2 - 160
    angleBits k (u / 2 ^ s) (v / 2 ^ s) (2 * acc + b)

/-- The angle of x + iy in units of π / 2^32, from 0 up to but not including 2^33. -/
def angle (x y : Int) : Nat := angleBits 33 (x * 2 ^ 80) (y * 2 ^ 80) 0

/-- One signal's bin as the analysis uses it: |C_m|² in units of 2^-80 over a denominator, and its angle in units of π / 2^32. -/
structure Bin where
  num : Nat := 0
  den : Nat := 1
  ang : Int := 0

/-- A bin divided by the residual response of its channel's stage-4 compensation (R185, R273): at f_m = m f / N_c, with `fc` the
frequency of the channel's own tracker, the magnitude error 1 − g_auto(fc) / sqrt(1 + (0.1 / f_m)²) and the phase
atan(0.1 / f_m) − (f_m / fc) atan(0.1 / fc), which is e_h. With f in 0.1 mHz, 0.1 Hz is 1000. -/
def binOf (auto : Bool) (nc fq fc m : Nat) (re im : Int) : Bin :=
  let sq := re.natAbs ^ 2 + im.natAbs ^ 2
  let a : Int := angle re im
  if !auto || m == 0 || fq == 0 || fc == 0 then { num := sq, ang := a }
  else
    -- (1 + (1000 nc / (m fq))²) / (1 + (1000 / fc)²)
    let num := sq * ((m * fq) ^ 2 + (1000 * nc) ^ 2) * fc ^ 2
    let den := (m * fq) ^ 2 * (fc ^ 2 + 1000000)
    let lead := angle (m * fq : Nat) (1000 * nc : Nat)
    let e : Int := (lead : Int) - (m * fq * angle fc 1000 / (nc * fc) : Nat)
    { num := num, den := den, ang := a - e }

/-- Y_h² of one signal in units of 2^-81 (R270), over the denominator `den`: `c m` gives |C_m|² in units of 2^-80 over it. -/
def yh2 (group nc h : Nat) (c : Nat → Nat) : Nat :=
  let m := h * nc
  let half := nc / 2
  if h = 0 ∨ group = 0 then 2 * c m
  else if group = 1 then 2 * (c (m - 1) + c m + c (m + 1))
  else c (m - half) + c (m + half) + 2 * ((List.range (2 * half - 1)).map fun i => c (m - half + 1 + i)).sum

/-- The phase of order h in units of π / 32,768 (R271), from angles in units of π / 2^32; +π, which the signed field
cannot hold, shows as either end of its range (log 11). -/
def phaseOf (h : Nat) (am a1 : Int) : Nat :=
  let x := (am - h * a1) % (2 ^ 33 : Int)
  let x := if (2 ^ 32 : Int) < x then x - 2 ^ 33 else x
  let r := rounded 271 x (2 ^ 17)
  uns 16 (if r = 32768 then (if Config.roundUp 272 32768 1 then 32767 else -32768) else r)

/-- The words of MAG, PHASE and THD of signal s (R270, R271, R279) from its bins; `a1` is the angle of V1's fundamental. -/
def hrmWords (w : W) (s : Nat) (on : Bool) (bins : Nat → Bin) (a1 : Int) : List (Nat × Word) :=
  let nc := w.nc
  let group := w.rdF R.HRM_CTRL 8 2
  -- one scale for all bins: units of 2^-81 times 2^-80
  let c (m : Nat) : Nat := (bins m).num * 2 ^ 80 / (bins m).den
  let y (h : Nat) : Nat := if on then yh2 group nc h c else 0
  let ph (h : Nat) : Nat := if on then phaseOf h (bins (h * nc)).ang a1 else 0
  let top := match w.rdF R.HRM_CTRL 10 2 with | 0 => 40 | 1 => 50 | _ => 63
  let mags := (List.range 64).map fun h => (R.HRM_MAG (64 * s + h), BitVec.ofNat 32 (fsqrtRat b32 (y h) (2 ^ 161)))
  let phs := (List.range 32).map fun k => (R.HRM_PHASE (32 * s + k), BitVec.ofNat 32 (ph (2 * k) + 2 ^ 16 * ph (2 * k + 1)))
  let sum := ((List.range (top - 1)).map fun i => y (i + 2)).sum
  mags ++ phs ++ [(R.HRM_THD s, BitVec.ofNat 32 (fsqrtRat b32 sum (y 1)))]

/-- Bin m of the samples `x`, oldest first and 48 of them before the window, in 2^-40 (R269): resampled to 2,048 points and
transformed, with what the interpolation may add: below 2^-16 of the peak full scale of SCALE `sc`. -/
def bin269 (x : List Word) (sc : Word) (fq nc m : Nat) : Int × Int :=
  match finiteAll x, q32 sc with
  | some xs, some q =>
    let (re, im) := rmsBin (resample xs (160000000 * nc) (max 1 fq)) m
    let (dr, di) := Config.harmonicDev xs fq nc m
    let b := q.natAbs * 2 ^ 7
    ((re + bounded b dr) / 2 ^ 109, (im + bounded b di) / 2 ^ 109)
  | _, _ => Config.harmonicOpen x fq nc m

/-- Bin m of signal s of point e over the window's samples, its channel's residual removed (R269, R273). -/
def hrmBin (w : W) (e s m : Nat) : Bin :=
  let x := (w.qty.winPre ++ w.qty.winBuf.reverse).map fun r => r.getD s 0
  let c := w.sigChan e s
  let (re, im) := bin269 x (w.chOf c).scale w.qty.winF w.nc m
  binOf (w.chAuto c) w.nc w.qty.winF (w.qty.winTrk.getD (w.rdF (R.AFE_CHn_CFG c) 8 2) 0) m re im

/-- The window spans its N_c periods of f (R269): as many samples of 62.5 µs have come. -/
def winFull (w : W) : Bool := decide (160000000 * w.nc ≤ w.qty.winBuf.length * w.qty.winF)

/-- A harmonic window ends; its results wait to be written, and the next point's window starts (R269). -/
def windowEnd (w : W) : W :=
  if w.dom 2 ≠ 1 then w
  else match w.qty.winPoint with
    | none => w.winStart
    | some e =>
      if !w.winFull then w
      else
        let a1 := (w.hrmBin e 0 w.nc).ang
        let words := (List.range 6).flatMap fun s => w.hrmWords s (decide (s % 3 < w.elems e)) (w.hrmBin e s) a1
        let stat := BitVec.ofNat 32 (e + 8 * b2n (!w.qty.winLock) + 16 * b2n w.qty.winOvl)
        ({ w with qty.hrm := some ⟨stat, BitVec.ofNat 64 w.qty.winTsc,
            BitVec.ofNat 32 (fofRat b32 false w.qty.winF 10000), words⟩ }).winStart

/-- The results of a window are written (R272). -/
def hrmDone (w : W) : W :=
  match w.qty.hrm with
  | none => w
  | some r =>
    let w := { w.inc R.HRM_WIN_SEQ with qty.hrm := none }
    let w := ((w.wr R.HRM_RES_STAT r.stat).wr64 R.HRM_RES_TSC r.tsc.toNat).wr R.HRM_FUND_F r.f
    ((r.words.foldl (fun w e => w.wr e.1 e.2) w).inc R.HRM_WIN_SEQ).raise E.HRM_HRM_DONE

/-! ### Writes of the QTY and HRM pages -/

def resOk (res digits : Nat) : Bool := decide (res ≤ 9 ∧ 6 ≤ digits ∧ digits ≤ 12)

/-- The code of a write of Ee_CFG (R237, R252, R254, R276). -/
def eCheck (w : W) (e : Nat) (v : Word) : Nat :=
  let old := w.eCfg e
  let n := min 3 (fld v 1 2 + 1)
  let chan := fun j => decide (23 < fld v (3 + 5 * j) 5 ∨ 0 < w.chMode (fld v (3 + 5 * j) 5)) ||
    decide (23 < w.iChan e j ∨ w.chMode (w.iChan e j) = 0 ∨ 3 < w.chMode (w.iChan e j))
  firstCode [(bit old 0 && fld v 1 25 != fld old 1 25, eState),
    (fld v 1 2 == 3 || (List.range 3).any fun j => decide (23 < fld v (3 + 5 * j) 5), eRange),
    (bit v 0 && ((List.range n).any chan || !resOk (fld v 18 4) (fld v 22 4)), eRange)]

/-- The code of a write of Hh_CFG (R242, R243, R249, R252, R277). -/
def hCheck (w : W) (h : Nat) (v : Word) : Nat :=
  let old := w.hCfg h
  let src := fld v 5 6
  let bad := match fld v 3 2 with
    | 0 => w.isDir src || w.rdN (R.QTY_Hh_FLOWK h) == 0
    | 1 => false
    | 2 => decide (23 < src) || (w.chMode src != 1 && w.chMode src != 2) || w.rdB (R.AFE_CHn_CFG src) 7
    | _ => true
  firstCode [(bit old 0 && fld v 1 31 != fld old 1 31, eState), (decide (fld v 1 2 = 3 ∨ fld v 3 2 = 3), eRange),
    (bit v 0 && (bad || !w.rdB (R.AFE_RTP_CFG (fld v 11 3)) 0 || !resOk (fld v 15 4) (fld v 19 4)), eRange)]

/-- The code of a write of Pn_CFG (R251, R252, R254). -/
def pCheck (w : W) (n : Nat) (v : Word) : Nat :=
  let old := w.pCfg n
  firstCode [((bit old 0 && fld v 1 8 != fld old 1 8) || (bit v 0 && w.isDir n), eState),
    (decide (9 < fld v 9 4) || (bit v 0 && (!resOk (fld v 1 4) (fld v 5 4) || (n % 2 == 0 && fld v 13 16 == 0))), eRange)]

/-- The code of a PRESET_IDX write with GO (R256). -/
def presetCheck (w : W) (s : Nat) : Nat :=
  firstCode [(decide (s < 168) && w.pointEn (w.slotPoint s), eState), (decide (167 < s), eRange)]

/-- The code of a write of a QTY register. -/
def qtyCheck (w : W) (o : Nat) (v : Word) : Nat :=
  if o = 0x044 then firstCode [(decide (60 < v.toNat), eRange)]
  else if o = 0x05C then
    firstCode [(!([1, 2, 3, 4, 5, 6, 10, 12, 15, 20, 30, 60].contains (fld v 0 6)), eRange)]
  else if o = 0x064 then firstCode [(decide (v.toNat < 1 ∨ 3600 < v.toNat), eRange)]
  else if o = 0x070 ∧ bit v 31 then w.presetCheck (fld v 0 8)
  else if 0x080 ≤ o ∧ o < 0x0C0 ∧ o % 8 = 0 then w.eCheck ((o - 0x080) / 8) v
  else if 0x0C0 ≤ o ∧ o < 0x140 ∧ o % 16 = 0 then w.hCheck ((o - 0x0C0) / 16) v
  else if 0x0C0 ≤ o ∧ o < 0x140 ∧ o % 16 = 4 then firstCode [(bit (w.hCfg ((o - 0x0C0) / 16)) 0, eState)]
  else if 0x140 ≤ o ∧ o < 0x240 then w.pCheck ((o - 0x140) / 4) v
  else 0

/-- An accepted PRESET (R256, R257). -/
def presetGo (s : Nat) (w : W) : W :=
  (w.setSlot s { fine := BitVec.ofNat 64 (w.rd64 R.QTY_PRESET_VAL) }).raise E.QTY_PRESET

/-- The effect of an accepted write of a QTY register that is more than a store. -/
def qtyWrite (w : W) (o : Nat) (v : Word) : Option W :=
  if o = 0x040 then some (if bit v 0 then (w.wrB R.QTY_FREEZE 0 true).freeze 0 else w)
  else if o = 0x068 then some (if bit v 0 then (w.wrB R.QTY_STORE_STAT 0 true).storeStart 2 else w)
  else if o = 0x070 then
    let w := w.wrN R.QTY_PRESET_IDX (fld v 0 8)
    some (if bit v 31 then w.presetGo (fld v 0 8) else w)
  else if 0x080 ≤ o ∧ o < 0x0C0 ∧ o % 8 = 0 then
    let e := (o - 0x080) / 8
    let was := bit (w.eCfg e) 0
    let w := w.wr (R.QTY_Ee_CFG e) (v &&& 0x3FFFFFF#32)
    -- a point contributes to a step from its enabling, and one disabled within it not at all (R238, log 40)
    let w := if bit v 0 != was then
        { w with qty.el := (List.range 3).foldl (fun x j => x.setIfInBounds (3 * e + j) {}) w.qty.el,
                 qty.elOvl := w.qty.elOvl &&& ~~~(BitVec.ofNat 8 (2 ^ e)), qty.elInv := w.qty.elInv &&& ~~~(BitVec.ofNat 8 (2 ^ e)) }
      else w
    some (if bit v 0 && !was then { w with qty.partE := w.qty.partE ||| BitVec.ofNat 8 (2 ^ e) } else w)
  else if 0x0C0 ≤ o ∧ o < 0x140 then
    let h := (o - 0x0C0) / 16
    if o % 16 = 0 then
      let was := bit (w.hCfg h) 0
      let w := w.wr (R.QTY_Hh_CFG h) v
      some (if bit v 0 && !was then
          let w := (w.setTh h { last := w.tscTime }).wrF (R.QTY_Hh_STAT h) 16 16 0
          { w with qty.partH := w.qty.partH ||| BitVec.ofNat 8 (2 ^ h) }
        else w)
    else if o % 16 = 8 then some (w.flowIn h v)
    else if o % 16 = 12 then some (if bit v 3 then w.wrB (R.QTY_Hh_STAT h) 3 false else w)
    else none
  else if 0x240 ≤ o ∧ o < 0xCC0 ∧ o % 16 = 12 then
    some (if bit v 16 then w.rollClear ((o - 0x240) / 16) else w)
  else none

/-- The code of a write of a HRM register (R270, R279). -/
def hrmCheck (_ : W) (o : Nat) (v : Word) : Nat :=
  if o = 0x040 then firstCode [(decide (fld v 8 2 = 3 ∨ fld v 10 2 = 3), eRange)] else 0

/-- The effect of an accepted write of a HRM register that is more than a store (R265, R269). -/
def hrmWrite (w : W) (o : Nat) (v : Word) : Option W :=
  if o = 0x040 then
    let w := w.wr R.HRM_CTRL (v &&& 0xFFF#32)
    some (if w.qty.winPoint.isNone then w.winStart else w)
  else if o = 0x05C then
    some ((List.range 8).foldl (fun w e =>
      if bit v e then (w.wr (R.HRM_MAXDEM (2 * e)) 0).wr (R.HRM_MAXDEM (2 * e + 1)) 0 else w) w)
  else none

end W

end Sys2Proof.Machine
end

