-- ==== Sys2Proof/Machine/Recorder.lean ====
section
/-!
DEFINITION. The event recorder (chapter 18): snapshot lists, the write queue, captures, slots in Calm and Eddy, the
start-up scan, clearing.
-/
namespace Sys2Proof.Machine

/-- What a recorder read of one list entry gives: the word, whether its domain was off, whether it had to wake
(R774, R778). -/
structure RecRead where
  w : W
  v : Word
  off : Bool
  woke : Bool

/-- A slot's bytes hold a valid record (R785): its SEQ; torn when only MAGIC is correct. -/
def slotState (d : List Byte) : Option Nat × Bool :=
  if leNat (d.take 2) ≠ 0xEC5A then (none, false)
  else
    let trig := leNat ((d.drop 2).take 1)
    let l := leNat ((d.drop 3).take 1)
    let n := 24 + 4 * l
    if l ≤ 56 ∧ (trig ≤ 63 ∨ (252 ≤ trig ∧ trig ≤ 254)) ∧ leNat ((d.drop n).take 4) = crc32c (d.take n)
        ∧ leNat ((d.drop (n + 4)).take 4) = 0xA5C33C5A then (some (leNat ((d.drop 4).take 4)), false)
    else (none, true)

namespace W

/-- BAR4 offset of a slot of the recorder partition (R783). -/
def slotAt (w : W) (s : Nat) : Nat := w.partBase 6 + 256 * s

/-- REC.STAT.QUEUED (R790). -/
def recQueued (w : W) : Nat := w.recd.queue.length

/-! ## Triggers (R93, R777) -/

/-- The code of a trigger by the host or by a task: ERR_STATE while it is not enabled, ERR_FULL without a free place. -/
def recTrigCode (w : W) (t : Nat) : Nat :=
  firstCode [(decide (t < 64) && !bit ((w.recd.trig.getD t {}).cfg) 0, eState), (decide (64 ≤ t), eRange),
    (!(decide (w.recd.queue.length < 32) && !w.rdB R.REC_STAT 2), eFull)]

/-- A trigger by the host (origin 2) or a task (origin 1) fires, or is refused with the code; one that finds the queue
full is also counted as lost (R93). -/
def recTrig (w : W) (t origin : Nat) : W × Nat :=
  let c := w.recTrigCode t
  if c = 0 ∨ c = eFull then
    let (w, first) := w.recClaim ⟨t, origin, [], none⟩
    (w.raiseIf first E.REC_LOST, c)
  else (w, c)

/-! ## Captures (R773, R774, R778, R779) -/

/-- The snapshot list of a trigger as it is captured. -/
def recList (w : W) (t : Nat) : List Nat :=
  let c := w.recd.trig.getD t {}
  (c.list.take (fld c.cfg 8 7)).map fun x => fld x 0 19

/-- The entries of a list read in order. -/
def recReadAll (read : W → Nat → RecRead) : List Nat → W → W × List Word × Bool × Bool
  | [], w => (w, [], false, false)
  | o :: os, w =>
    let r := read w o
    let (w, vs, off, woke) := recReadAll read os r.w
    (w, r.v :: vs, off || r.off, woke || r.woke)

/-- The oldest item that is not captured yet is captured: its list is read, and its SEQ assigned unless the start-up
scan still runs (R779, R786). -/
def capture (read : W → Nat → RecRead) (w : W) : W :=
  match w.recd.queue.findIdx? fun i => i.cap.isNone with
  | none => w
  | some k =>
    let it := w.recd.queue.getD k default
    let tsc := w.tsc
    let rtc := w.rtcSec
    let inv := w.tinv
    let (w, pay, off, woke) :=
      if it.trigger < 64 then recReadAll read (w.recList it.trigger) w else (w, it.internal, false, false)
    let scanning := w.rdB R.REC_STAT 0
    let seq := if scanning then none else some (w.rd R.REC_SEQ_NEXT)
    let w := if scanning then w else w.inc R.REC_SEQ_NEXT
    let it' := { it with cap := some ⟨tsc, rtc, inv, off, woke, pay, seq⟩ }
    let w := { w with recd.queue := w.recd.queue.set k it' }
    if it.trigger < 64 then
      let t := w.recd.trig.getD it.trigger {}
      { w with recd.trig := w.recd.trig.setIfInBounds it.trigger { t with cnt := t.cnt + 1#32 } }
    else w

/-! ## Writing (R784) -/

/-- The bytes of a record for an area, without its commit word. -/
def recordBytes (it : RecItem) (c : RecCap) (seq : Word) (eddy : Bool) : List Byte :=
  let flags := b2n c.tinv + 2 * b2n c.domOff + 4 * b2n c.woke + 8 * b2n eddy + 16 * it.origin
  let head := toLe 2 0xEC5A ++ toLe 1 it.trigger ++ toLe 1 c.payload.length ++ toLe 4 seq.toNat ++ toLe 8 c.tsc.toNat
    ++ toLe 4 c.rtc.toNat ++ toLe 2 flags ++ toLe 2 0 ++ c.payload.flatMap fun x => toLe 4 x.toNat
  head ++ toLe 4 (crc32c head)

/-- The place that frees is taken by an OVERFLOW record when losses have been counted (R781). -/
def recMarker (w : W) : W :=
  if w.rdB R.REC_STAT 2 then
    let it : RecItem := ⟨254, 3, [BitVec.ofNat 32 w.recd.lostSince, w.recd.lostFirst, w.recd.lostLast], none⟩
    ({ w with recd.queue := w.recd.queue ++ [it], recd.lostSince := 0 }).wrB R.REC_STAT 2 false
  else w

/-- The record at the head of the queue is written and committed (R784); records wait during a scan and a clear. -/
def recordWrite (w : W) : W :=
  if w.rdB R.REC_STAT 0 || w.rdB R.REC_STAT 3 then w
  else
    match w.recd.queue with
    | [] => w
    | it :: rest =>
      match it.cap with
      | none => w
      | some c =>
        match c.seq with
        | none => w
        | some seq =>
          let only := decide (it.trigger < 64) && bit ((w.recd.trig.getD it.trigger {}).cfg) 1
          let calmNext := w.rdN R.REC_CALM_NEXT
          let eddy := only || decide (w.recd.calm ≤ calmNext)
          let slot := if eddy then w.recd.calm + w.rdN R.REC_EDDY_NEXT else calmNext
          let w := { w with recd.queue := rest }
          let w := if eddy = true ∧ w.recd.eddy = 0 then w
            else
              let w := (w.mramPut (w.slotAt slot) (recordBytes it c seq eddy ++ toLe 4 0xA5C33C5A)).inc R.REC_WRITTEN
              if eddy then w.wrN R.REC_EDDY_NEXT ((w.rdN R.REC_EDDY_NEXT + 1) % w.recd.eddy)
              else
                let w := w.wrN R.REC_CALM_NEXT (calmNext + 1)
                if calmNext + 1 = w.recd.calm then (w.wrB R.REC_STAT 1 true).raise E.REC_CALM_FULL else w
          w.recMarker

/-! ## The start-up scan (R783, R785, R786) -/

/-- The scan begins: the geometry is set. -/
def recScan (w : W) : W :=
  let total := w.partSize 6 / 256
  let c := w.rdN R.REC_CALM_SLOTS
  let bad := c % 16 ≠ 0 ∨ total < c + 16
  let calm := if bad then 0 else c
  let w := { w with recd.calm := calm, recd.eddy := total - calm, recd.scanOn := true }
  (w.wrB R.REC_STAT 0 true).wrB R.REC_STAT 4 (decide bad)

/-- SEQ values given, from `n` on, to the captured items that have none (R786). -/
def giveSeqs : List RecItem → Nat → List RecItem × Nat
  | [], n => ([], n)
  | it :: t, n =>
    match it.cap with
    | some c =>
      match c.seq with
      | none =>
        let (t, k) := giveSeqs t (n + 1)
        ({ it with cap := some { c with seq := some (BitVec.ofNat 32 n) } } :: t, k)
      | some _ => let (t, k) := giveSeqs t n; (it :: t, k)
    | none => let (t, k) := giveSeqs t n; (it :: t, k)

/-- The slots that hold a word which stands uncorrectable (R156, R785). DEDUCED (log 54): the scan reads the 256 bytes of every
slot. -/
def recLostSlots (w : W) : List Nat :=
  let o := w.age.ueWords.filterMap w.bar4Of
  (o.filter fun a => w.inPart 6 a).map fun a => (a - w.partBase 6) / 256

/-- The scan ends (R785): `ces` and `ues` are the BAR4 offsets at which its reads met corrected and uncorrectable words
(R140, R156). -/
def recScanDone (m : Memory) (ces ues : List Nat) (w : W) : W :=
  if !w.recd.scanOn then w
  else
    let total := w.recd.calm + w.recd.eddy
    let w := w.mramMeets ces ues
    let lost := w.recLostSlots
    let w := w.mramTouch (w.partBase 6) (256 * total)
    let slots := (List.range total).map fun s =>
      if lost.contains s then (s, none, true)
      else
        let d := w.mram m (w.slotAt s) 4
        if leNat (d.take 2) ≠ 0xEC5A then (s, none, false)
        else
          let (v, t) := slotState (w.mram m (w.slotAt s) 256)
          (s, v, t)
    let torn := (slots.filter fun e => e.2.2).length
    let valid := slots.filterMap fun e => e.2.1.map fun q => (e.1, q)
    let calmNext := ((valid.filter fun e => decide (e.1 < w.recd.calm)).map (·.1)).max?.map (· + 1) |>.getD 0
    let eddies := valid.filter fun e => decide (w.recd.calm ≤ e.1)
    let eddyNext := match newest 32 (eddies.map (·.2)) with
      | none => 0
      | some q => match eddies.find? fun e => e.2 == q with
        | some (s, _) => (s - w.recd.calm + 1) % w.recd.eddy
        | none => 0
    let next := match newest 32 (valid.map (·.2)) with | some q => q + 1 | none => 1
    let (queue, next) := giveSeqs w.recd.queue next
    let w := { w with recd.queue := queue, recd.scanOn := false }
    let w := ((w.wrN R.REC_CALM_NEXT calmNext).wrN R.REC_EDDY_NEXT eddyNext).wrN R.REC_SEQ_NEXT next
    let w := (w.wrN R.REC_TORN torn).wrB R.REC_STAT 0 false
    let w := w.wrB R.REC_STAT 1 (w.recd.calm != 0 && calmNext == w.recd.calm)
    let w := (w.raiseIf (torn != 0) E.REC_TORN).raise E.REC_READY
    w.recInternal 252 [w.rd R.SYS_RST_CAUSE, BitVec.ofNat 32 torn]

/-! ## Clearing (R787, R788) -/

/-- The first four bytes of each slot of a range zeroed. -/
def recZero (w : W) (lo n : Nat) : W :=
  (List.range n).foldl (fun w i => w.mramPut (w.slotAt (lo + i)) (toLe 4 0)) w

/-- The clears in progress complete. -/
def recCleared (w : W) : W :=
  let c := w.recd.clearing
  if c = 0 then w
  else
    let w := if c.testBit 0 then (w.recZero w.recd.calm w.recd.eddy).wr R.REC_EDDY_NEXT 0 else w
    let w := if c.testBit 1 then ((w.recZero 0 w.recd.calm).wr R.REC_CALM_NEXT 0).wrB R.REC_STAT 1 false else w
    (({ w with recd.clearing := 0 }).wrB R.REC_STAT 3 false).raise E.REC_CLEARED

/-! ## Writes of the REC page -/

/-- The staged list entries 0 to min(LEN, 56) − 1 of a TRG_CFG write. -/
def recStaged (w : W) (len : Nat) : List Nat := (List.range (min len 56)).map fun j => w.rdF (R.REC_LIST j) 0 19

/-- Pages a list entry may not address: RTC, KEY, TMP, DBG (R776). -/
def recForbidden (p : Nat) : Bool := p == 0x05 || p == 0x3D || p == 0x3E || p == 0x42

/-- The code of a write to a REC register (R776, R777, R787, R788). -/
def recCheck (w : W) (o : Nat) (v : Word) : Nat :=
  if o = 0x060 then (if bit v 31 then w.recTrigCode (fld v 0 6) else 0)
  else if o = 0x064 then
    firstCode [(bit v 1 && w.rdF R.KEY_STAT 0 3 == 2, ePerm), (fld v 0 2 != 0 && w.recd.clearing != 0, eBusy)]
  else if o = 0x06C then
    let l := w.recStaged (fld v 8 7)
    firstCode [(l.any fun x => recForbidden (x / 0x1000), ePerm), (decide (56 < fld v 8 7), eLen),
      (l.any fun x => x % 4 != 0 || (pageDomain (x / 0x1000)).isNone, eRange)]
  else 0

/-- The effect of an accepted REC write that is more than a store. -/
def recWrite (w : W) (o : Nat) (v : Word) : Option W :=
  if o = 0x060 then some (if bit v 31 then (w.recTrig (fld v 0 6) 2).1 else w)
  else if o = 0x064 then
    some (if fld v 0 2 = 0 then w else ({ w with recd.clearing := fld v 0 2 }).wrB R.REC_STAT 3 true)
  else if o = 0x068 then
    let t := w.recd.trig.getD (fld v 0 6) {}
    let w := w.wrN R.REC_TRG_SEL (fld v 0 6)
    some ((List.range 56).foldl (fun w j => w.wr (R.REC_LIST j) (t.list.getD j 0)) w)
  else if o = 0x06C then
    let k := w.rdF R.REC_TRG_SEL 0 6
    let t := w.recd.trig.getD k {}
    let l := (List.range 56).map fun j => w.rd (R.REC_LIST j)
    some { w with recd.trig := w.recd.trig.setIfInBounds k { t with cfg := v &&& 0x7F03#32, list := l } }
  else none

end W

end Sys2Proof.Machine
end

