-- ==== Sys2Proof/Machine/Can.lean ====
section
/-!
DEFINITION. The sub-station bus (chapter 12): mailboxes and filters, requests, arbitration, station frames and response
windows, reception, error states.
-/
namespace Sys2Proof.Machine

/-- The value listed for a key, and the list with one value stored unless it is the default. -/
def assocGet {α : Type} : List (Nat × α) → Nat → Option α
  | [], _ => none
  | (x, y) :: t, a => if x = a then some y else assocGet t a
def assocSet {α : Type} [DecidableEq α] : List (Nat × α) → Nat → α → α → List (Nat × α)
  | [], a, v, d => if v = d then [] else [(a, v)]
  | (x, y) :: t, a, v, d =>
    if a < x then (if v = d then (x, y) :: t else (a, v) :: (x, y) :: t)
    else if a = x then (if v = d then t else (a, v) :: t)
    else (x, y) :: assocSet t a v d

/-! ## Lengths and identifiers (R539, R542, R550) -/

/-- The data length of a DLC, and the DLC of a length (R539). -/
def canLen (dlc : Nat) (fd : Bool) : Nat :=
  if dlc ≤ 8 then dlc else if fd then [12, 16, 20, 24, 32, 48, 64].getD (dlc - 9) 64 else 8
def canDlc (len : Nat) : Nat :=
  if len ≤ 8 then len else 9 + (([12, 16, 20, 24, 32, 48, 64].findIdx? fun l => decide (len ≤ l)).getD 6)
/-- A length of the table of R539. -/
def canLenOk (len : Nat) (fd : Bool) : Bool := decide (len ≤ 8) || (fd && [12, 16, 20, 24, 32, 48, 64].contains len)

/-- The identifier bits of a base or an extended frame. -/
def canId (xtd : Bool) (id : Nat) : Nat := if xtd then id % 2 ^ 29 else id % 2 ^ 11

/-- The arbitration field as a number: the lower one wins (R542; ISO 11898-1). -/
def arbKey (f : CanFrame) : Nat :=
  if f.xtd then (f.id / 2 ^ 18) * 2 ^ 21 + 2 ^ 20 + 2 ^ 19 + f.id % 2 ^ 18 * 2 + b2n f.rtr
  else f.id * 2 ^ 21 + b2n f.rtr * 2 ^ 20

/-! ## Fields of MCTRL (R536) -/

def mbState (b : Mbx) : Nat := fld b.mc 16 4
def mbDir (b : Mbx) : Nat := fld b.mc 6 2
def mbPending (b : Mbx) : Bool := decide (1 ≤ mbState b ∧ mbState b ≤ 3)
def withState (b : Mbx) (s : Nat) : Mbx := { b with mc := setFld b.mc 16 4 s }
/-- Index of the high-priority buffer. -/
abbrev hpb : Nat := 64

namespace W

/-! ## Channels and mailboxes -/

abbrev canPage (n : Nat) : Nat := 0x1A + n
def canCh (w : W) (n : Nat) : CanCh := w.can.ch.getD n {}
def setCan (w : W) (n : Nat) (c : CanCh) : W := { w with can.ch := w.can.ch.setIfInBounds n c }
def canEn (w : W) (n : Nat) : Bool := w.rdB (R.H_CTRL (canPage n)) 0
def canMode (w : W) (n : Nat) : Nat := w.rdF (R.CAN_MODE n) 0 2
def canFd (w : W) (n : Nat) : Bool := w.rdB (R.CAN_MODE n) 2
/-- OPMODE 1 or 2: the channel sends no frames (R534). -/
def canMute (w : W) (n : Nat) : Bool := w.canMode n == 1 || w.canMode n == 2

def mbox (w : W) (n m : Nat) : Mbx := (assocGet w.can.mb (65 * n + m)).getD {}
def setMbox (w : W) (n m : Nat) (b : Mbx) : W := { w with can.mb := assocSet w.can.mb (65 * n + m) b {} }

def tec (w : W) (n : Nat) : Nat := w.rdF (R.CAN_ECNT n) 0 9
def rec' (w : W) (n : Nat) : Nat := w.rdF (R.CAN_ECNT n) 16 8
def canPassive (w : W) (n : Nat) : Bool := decide (127 < w.tec n ∨ 127 < w.rec' n)

/-- BSTAT follows the state of the channel (R568). -/
def canSync (w : W) (n : Nat) : W :=
  let c := w.canCh n
  let fs := if !c.live then 3 else if c.busoff then 2 else b2n (w.canPassive n)
  w.wrN (R.CAN_BSTAT n) (fs + 4 * b2n (decide (96 ≤ w.tec n ∨ 96 ≤ w.rec' n)) + 8 * b2n (w.rdB (R.CAN_BSTAT n) 3)
    + 16 * b2n c.recov + 32 * b2n c.act.isSome)

/-- A bit of ERR_CAUSE is set (R556, R566). -/
def canCause (w : W) (n i : Nat) : W := (w.wrB (R.CAN_ERR_CAUSE n) i true).raise (E.CAN_ERR n)

/-- A mailbox, which holds `b`, reaches a state; TX is raised with IE set for 4, 5, 6 and 7 (R546). -/
def mbEndOf (w : W) (n m : Nat) (b : Mbx) (s : Nat) : W :=
  (w.setMbox n m { withState b s with abort := false }).raiseIf (bit b.mc 10 && decide (4 ≤ s ∧ s ≤ 7)) (E.CAN_TX n)

def mbEnd (w : W) (n m s : Nat) : W := w.mbEndOf n m (w.mbox n m) s

/-- Every mailbox whose state is listed reaches a state. -/
def mbAll (w : W) (n : Nat) (from_ : List Nat) (s : Nat) : W :=
  (List.range 64).foldl (fun w m => if from_.contains (mbState (w.mbox n m)) then w.mbEnd n m s else w) w

/-! ## Station entries of a channel -/

def stn (w : W) (i : Nat) : Option Stn := w.scan.stn.find? fun s => s.idx == i
def setStn (w : W) (s : Stn) : W := { w with scan.stn := w.scan.stn.map fun x => if x.idx = s.idx then s else x }
/-- The enabled stations of a channel. -/
def stnsOf (w : W) (n : Nat) : List Stn := w.scan.stn.filter fun s => s.en && s.chan == n

/-- Every station frame of the channel is dropped. -/
def stnDrop (w : W) (n : Nat) : W :=
  { w with scan.stn := w.scan.stn.map fun (s : Stn) => if s.chan = n then { s with slot := none } else s }

/-- A committed output frame or a poll is handed to the transmit slot at TSC `at_` (R448, R452, R534); a channel that is
disabled or does not send drops it, and so does one that sends no FD frame when the frame is one (R524; DESIGN CHOICE, log 28). -/
def stnHand (w : W) (s : Stn) (poll : Bool) (at_ : Nat) : W :=
  if w.dom 6 ≠ 1 ∨ w.canEn s.chan = false ∨ w.canMute s.chan = true ∨ (w.canCh s.chan).closing = true
      ∨ (bit s.idw 30 = true ∧ w.canFd s.chan = false) then w
  else
    let w := if s.slot.isSome then w.incSat R.SCAN_STN_OVR else w
    w.setStn { s with slot := some poll, slotAt := if s.slot.isSome then s.slotAt else at_ }

/-! ## Error counters and bus-off (R556, R559) -/

/-- The frame of the present attempt goes back: it is offered again unless an abort waits for it (R542, R545); a station
frame that a newer one has replaced is dropped (R448). -/
def canReturn (w : W) (n : Nat) : W :=
  match (w.canCh n).act with
  | none => w
  | some t =>
    let w := w.setCan n { w.canCh n with act := none }
    match t.slot with
    | .mailbox m => if (w.mbox n m).abort then w.mbEnd n m 5 else w.setMbox n m (withState (w.mbox n m) 1)
    | .station i =>
      match w.stn i with
      | some s =>
        if s.slot.isSome then w.incSat R.SCAN_STN_OVR else w.setStn { s with slot := some t.frame.data.isEmpty }
      | none => w

/-- The channel enters bus-off (R559, R560). -/
def busOff (w : W) (n : Nat) : W :=
  let w := w.canReturn n
  let w := w.setCan n { w.canCh n with busoff := true, recov := !w.rdB (R.CAN_MODE n) 4 }
  ((w.mbAll n [1, 2] 3).incSat (R.CAN_BUSOFF_CNT n)).canCause n 2

/-- TEC and REC take values; entries into warning, error passive and bus-off are reported (R556, R559). -/
def canCount (w : W) (n tec rc : Nat) : W :=
  let tec := min tec 511
  let rc := min rc 255
  let warn0 := decide (96 ≤ w.tec n ∨ 96 ≤ w.rec' n)
  let pass0 := w.canPassive n
  let w := w.wrN (R.CAN_ECNT n) (tec + 2 ^ 16 * rc)
  let w := if decide (96 ≤ tec ∨ 96 ≤ rc) && !warn0 then w.canCause n 0 else w
  let w := if w.canPassive n && !pass0 then w.canCause n 1 else w
  let w := if 255 < tec ∧ (w.canCh n).busoff = false then w.busOff n else w
  w.canSync n

/-- ACK_RUN returns to 0, and ALONE with it (R561, R562). -/
def ackZero (w : W) (n : Nat) : W := ((w.wr (R.CAN_ACK_RUN n) 0).wrB (R.CAN_BSTAT n) 3 false).canSync n

/-! ## Enabling and disabling (R529, R532, R565) -/

/-- The code with which enabling a channel is refused (R529). -/
def canEnableCode (w : W) (n : Nat) : Nat :=
  let nb := w.rd (R.CAN_NBT n)
  let db := w.rd (R.CAN_DBT n)
  let brp := fld nb 0 5 + 1
  let s1 := fld nb 5 8 + 1
  let s2 := fld nb 13 7 + 1
  let dbrp := fld db 0 5 + 1
  let d1 := fld db 5 5 + 1
  let d2 := fld db 10 4 + 1
  let nq := brp * (1 + s1 + s2)
  let dq := dbrp * (1 + d1 + d2)
  if s1 < 2 ∨ s2 * brp < 4 ∨ s2 < fld nb 20 7 + 1 ∨ nq < 80 ∨ 8000 < nq ∨ d1 < 2 ∨ d2 < fld db 14 4 + 1
      ∨ (bit db 18 = true ∧ 2 < dbrp) ∨ (w.canFd n = true ∧ (dq < 10 ∨ nq < dq)) then eRange
  else 0

/-- A channel waits for bus idle to be disabled (R532). -/
def canClosing (w : W) : Bool := (List.range 16).any fun n => (w.canCh n).closing

/-- A channel is disabled at the next bus idle (R532). -/
def canDisable (w : W) (n : Nat) : W :=
  if w.dom 6 = 1 then w.setCan n { w.canCh n with closing := true } else w

/-- The channel reaches bus idle: pending frames end ABORTED, station frames are dropped (R532). -/
def canDisableDone (n : Nat) (w : W) : W :=
  if (w.canCh n).closing then
    let w := w.setCan n { w.canCh n with closing := false, live := false, act := none }
    ((w.mbAll n [1, 2, 3] 5).stnDrop n).canSync n
  else w

/-- An enabled channel has seen 11 consecutive recessive bits (R532). -/
def canIntegrated (n : Nat) (w : W) : W :=
  if w.dom 6 = 1 ∧ w.canEn n = true ∧ (w.canCh n).live = false ∧ (w.canCh n).closing = false then
    (w.setCan n { w.canCh n with live := true }).canSync n
  else w

/-- SRST of a channel: its frames are abandoned, the message RAM is kept otherwise (R61, R565). -/
def canSrst (w : W) (n : Nat) : W :=
  let w := w.setCan n { sent := (w.canCh n).sent }
  let w := (w.mbAll n [1, 2, 3] 8).stnDrop n
  let w := { w with scan.stn := w.scan.stn.map fun (s : Stn) => if s.chan = n then { s with window := false } else s }
  w.resetRegs (0x1000 * canPage n + 0x040) (0x1000 * canPage n + 0x400)

/-- PD6 is switched off: the bus engine and the message RAM are lost (R115). -/
def canLost (w : W) : W :=
  { w with can := {}, scan.stn := w.scan.stn.map fun (s : Stn) => { s with slot := none, window := false } }

/-! ## Requests and aborts (R540, R541, R545) -/

/-- The code of a transmit request, in the order of R540. -/
def canReqCode (w : W) (n m : Nat) (sys : Bool) : Nat :=
  let b := w.mbox n m
  let fd := bit b.idw 30
  let brs := bit b.idw 31
  let rtr := bit b.mc 4
  firstCode [
    (!sys && bit b.mc 8, ePerm),
    (!w.canEn n || w.canMute n || mbDir b != 1, eState),
    ((fd && !w.canFd n) || (rtr && fd) || (brs && (!fd || !w.rdB (R.CAN_MODE n) 3))
      || (bit b.mc 9 && (decide (canLen (fld b.mc 0 4) fd < 2) || rtr)), eRange),
    (mbPending b, eBusy)]

/-- An accepted request for a mailbox that holds `b` (R540). -/
def canAccept (w : W) (n m : Nat) (b : Mbx) : W :=
  w.setMbox n m { withState b (if (w.canCh n).busoff then 3 else 1) with reqAt := w.tsc.toNat, abort := false }

/-- One transmit request of the host: accepted, or its code recorded (R540). -/
def canRequest (w : W) (n m : Nat) : W :=
  let c := w.canReqCode n m false
  if c = 0 then w.canAccept n m (w.mbox n m) else w.err (canPage n) c

/-- One bit of TX_ABORT (R545). -/
def canAbort (w : W) (n m : Nat) : W :=
  let b := w.mbox n m
  if mbDir b ≠ 1 then w
  else if mbState b = 1 ∨ mbState b = 3 then w.mbEnd n m 5
  else if mbState b = 2 then w.setMbox n m { b with abort := true }
  else w

/-- CAN_SEND (R514, R541): answers the code, and the mailbox used. -/
def canSend (w : W) (n : Nat) (idw : Word) (data : List Byte) (claim : Bool) : W × Nat × Nat :=
  let fd := bit idw 30
  let free (m : Nat) : Bool :=
    let b := w.mbox n m
    mbDir b == 1 && bit b.mc 8 && [0, 4, 5, 6, 7, 8].contains (mbState b)
  let m := (List.range 64).find? free
  let code := firstCode [
    (!w.canEn n || w.canMute n, eState),
    ((fd && !w.canFd n) || (bit idw 31 && (!fd || !w.rdB (R.CAN_MODE n) 3)) || (claim && decide (data.length < 2)), eRange),
    (m.isNone, eFull)]
  match m with
  | some m =>
    if code = 0 then
      let b := w.mbox n m
      let mc := setFld (setBit (setFld b.mc 0 4 (canDlc data.length)) 4 false) 9 1 (b2n claim)
      (w.canAccept n m { b with idw := idw, mc := mc, data := data ++ List.replicate (64 - data.length) 0 }, 0, m)
    else (w, code, 0)
  | none => (w, code, 0)

/-! ## Arbitration (R542 to R544, R547) -/

/-- The frame of a mailbox, its claim stamped (R543). -/
def mbFrame (w : W) (n m : Nat) : CanFrame :=
  let b := w.mbox n m
  let xtd := bit b.idw 29
  let fd := bit b.idw 30
  let claim := w.rdF R.RED_CLAIM 0 16
  let rtr := bit b.mc 4
  let d := if rtr then [] else b.data.take (canLen (fld b.mc 0 4) fd)
  { id := canId xtd (fld b.idw 0 29), xtd := xtd, fd := fd, brs := bit b.idw 31, rtr := rtr,
    esi := fd && w.canPassive n, dlc := fld b.mc 0 4,
    data := if bit b.mc 9 then toBe 2 claim ++ d.drop 2 else d }

/-- The frame of a station's transmit slot: a poll, or its data of the owner's committed IMG_OUT with the claim in bytes
0 and 1 (R452, R547). -/
def stnFrame (w : W) (m : Memory) (s : Stn) (poll : Bool) : CanFrame :=
  let xtd := bit s.idw 29
  let fd := bit s.idw 30
  let f : CanFrame :=
    { id := canId xtd (fld s.idw 0 29), xtd := xtd, fd := fd, brs := bit s.idw 31, esi := fd && w.canPassive s.chan }
  if poll then f
  else
    let base := w.rdN (R.TASK_OUT_BASE s.task) + w.rdN (R.TASK_OUT_SIZE s.task) + 4 * s.outOff
    { f with dlc := canDlc s.outLen, data := toBe 2 (w.rdF R.RED_CLAIM 0 16) ++ w.bytes m (base + 2) (s.outLen - 2) }

/-- A request accepted at TSC `t` is old enough for an arbitration start now (R542). -/
def canRipe (w : W) (t : Nat) : Bool := decide (t + 100 ≤ w.tsc.toNat)

/-- The frames that the channel may offer: arbitration field, place in the order of R542, source, frame. A claim-stamped one needs
a claim (R544); a poll is none (R547). No FD frame goes out with FD_EN at 0 (R524). -/
def canOffers (w : W) (m : Memory) (n : Nat) : List (Nat × Nat × CanSlot × CanFrame) :=
  let mbs := (List.range 64).filterMap fun i =>
    let b := w.mbox n i
    if mbDir b = 1 ∧ mbState b = 1 ∧ w.canRipe b.reqAt = true ∧ (bit b.mc 9 = false ∨ w.hasClaim = true) then
      let f := w.mbFrame n i
      if f.fd && !w.canFd n then none else some (arbKey f, i, .mailbox i, f)
    else none
  let sts := (w.stnsOf n).filterMap fun s =>
    match s.slot with
    | some poll =>
      if w.canRipe s.slotAt ∧ (poll = true ∨ w.hasClaim = true) then
        let f := w.stnFrame m s poll
        if f.fd && !w.canFd n then none else some (arbKey f, 64 + s.idx, .station s.idx, f)
      else none
    | none => none
  mbs ++ sts

/-- The offer that wins: the lowest arbitration field, then the lowest place (R542). -/
def canBest : List (Nat × Nat × CanSlot × CanFrame) → Option (Nat × Nat × CanSlot × CanFrame)
  | [] => none
  | x :: t =>
    match canBest t with
    | none => some x
    | some y => if y.1 < x.1 ∨ (y.1 = x.1 ∧ y.2.1 < x.2.1) then some y else some x

/-- An arbitration start (R542). `ues` are mailboxes whose content holds an uncorrectable word: their frames end ABORTED
(R564); a station frame opens its response window with its start of frame (R449); `dly` is the delay in TSC counts to the
falling edge as CANn_RX shows it (R552). -/
def canArbitrate (n dly : Nat) (ues : List Nat) (m : Memory) (w : W) : W :=
  let c := w.canCh n
  if w.dom 6 ≠ 1 ∨ c.live = false ∨ c.busoff = true ∨ c.closing = true ∨ w.canMute n = true ∨ c.act.isSome = true then w
  else
    let w := ues.foldl (fun w i => if i < 64 ∧ mbState (w.mbox n i) = 1 then w.mbEnd n i 5 else w) w
    match canBest (w.canOffers m n) with
    | none => w
    | some (_, _, slot, f) =>
      let w := match slot with
        | .mailbox i => w.setMbox n i { withState (w.mbox n i) 2 with
            data := if bit (w.mbox n i).mc 9 then f.data.take 2 ++ (w.mbox n i).data.drop 2 else (w.mbox n i).data }
        | .station i => match w.stn i with | some s => w.setStn { s with slot := none, window := true } | none => w
      (w.setCan n { w.canCh n with act := some ⟨slot, w.tsc + BitVec.ofNat 64 dly, f⟩ }).canSync n

/-- A claim-stamped frame has waited CLAIM_WAIT ms without a claim (R544); a station output frame is dropped, a poll, which is not
claim-stamped, stays (R547). -/
def claimWait (n : Nat) (slot : CanSlot) (w : W) : W :=
  if w.hasClaim then w
  else match slot with
    | .mailbox i =>
      let b := w.mbox n i
      if i < 64 ∧ mbDir b = 1 ∧ mbState b = 1 ∧ bit b.mc 9 = true then (w.incSat (R.CAN_NOCLAIM_CNT n)).mbEnd n i 7 else w
    | .station i =>
      match w.stn i with
      | some s => if s.slot = some false then (w.setStn { s with slot := none }).incSat R.CANC_STN_NOCLAIM else w
      | none => w

/-! ## Reception (R550 to R554) -/

/-- The response window of a station opens (R449). -/
def stnOpen (w : W) (i : Nat) : W := match w.stn i with | some s => w.setStn { s with window := true } | none => w

/-- The stations whose logic takes the frame (R550). -/
def stnMatch (w : W) (n : Nat) (f : CanFrame) : List Stn :=
  (w.stnsOf n).filter fun s =>
    bit s.idw 29 == f.xtd &&
      (let b := canId f.xtd (fld s.idw 0 29)
       f.id == b || f.id == canId f.xtd (b + 1))

/-- The frame is the response that an open window of the station waits for (R449). -/
def stnAnswers (s : Stn) (f : CanFrame) : Bool :=
  f.id != canId f.xtd (fld s.idw 0 29) && s.window && !f.rtr && f.data.length == s.inLen

/-- A frame on an identifier of these stations: ID_BASE opens the window of each on a device without a claim (R549); a response is
taken by each station whose window waits for it, and discarded when there is none (R449). -/
def stnReceive (w : W) (ss : List Stn) (f : CanFrame) : W :=
  let asked := ss.filter fun s => f.id == canId f.xtd (fld s.idw 0 29)
  let w := if w.hasClaim then w else asked.foldl (fun w s => w.stnOpen s.idx) w
  if asked.length = ss.length then w
  else if !ss.any (stnAnswers · f) then w.incSat R.SCAN_STN_REJ
  else (ss.filter (stnAnswers · f)).foldl (fun w s =>
    w.setStn { s with window := false, got := true, ever := true, data := f.data, rx := (s.rx + 1) % 256 }) w

/-- A frame is lost to a buffer: RX_LOST and its cause (R551, R553). -/
def rxLost (w : W) (n : Nat) : W := (w.incSat (R.CAN_RX_LOST n)).canCause n 6

/-- The frame of a record moves into a buffer, which holds `b`: STATE FULL and the event of R553. -/
def rxPut (w : W) (n m : Nat) (b : Mbx) (r : CanRec) : W :=
  let mc := (setFld (setFld b.mc 0 6 0) 20 7 0) ||| r.bits
  let w := w.setMbox n m (withState { b with mc := mc, idw := r.idw, tsc := r.tsc, data := r.data } 9)
  if m = hpb then w.raise (E.CAN_HP n) else w.raiseIf (bit b.mc 10) (E.CAN_RX n)

/-- A frame accepted for a buffer is stored, kept in the shadow buffer, or discarded (R553). -/
def rxStore (w : W) (n m : Nat) (r : CanRec) : W :=
  let b := w.mbox n m
  let ovw := { b with mc := setBit b.mc 14 true }
  if bit b.mc 12 then
    let w := if b.shadow.isSome then w.rxLost n else w
    let b := if b.shadow.isSome then ovw else b
    let w := (w.setMbox n m { b with shadow := some r, mc := setBit b.mc 13 true }).inc (R.CAN_RX_CNT n)
    w.raiseIf (m == hpb) (E.CAN_HP n)
  else if mbState b = 9 then
    if m ≠ hpb ∧ bit b.mc 11 = true then (w.setMbox n m ovw).rxLost n
    else ((w.rxLost n).rxPut n m ovw r).inc (R.CAN_RX_CNT n)
  else (w.rxPut n m b r).inc (R.CAN_RX_CNT n)

/-- A buffer is released (R554). -/
def rxRelease (w : W) (n m : Nat) : W :=
  let b := w.mbox n m
  let e := withState { b with mc := setBit (setBit b.mc 12 false) 14 false } 0
  match b.shadow with
  | none => w.setMbox n m e
  | some r => w.rxPut n m { e with shadow := none, mc := setBit e.mc 13 false } r

/-- The first enabled filter that matches (R550, R551). -/
def canFilter (w : W) (n : Nat) (f : CanFrame) : Option Nat :=
  (List.range 128).find? fun k =>
    let fid := w.rd (R.CAN_FILT n (4 * k))
    w.rdF (R.CAN_FILT n (4 * k + 2)) 0 2 != 0 && bit fid 29 == f.xtd &&
      canId f.xtd ((f.id ^^^ fld fid 0 29) &&& w.rdF (R.CAN_FILT n (4 * k + 1)) 0 29) == 0

/-- A valid frame goes to the station logic or the filters (R550, R551). -/
def canDeliver (w : W) (n : Nat) (f : CanFrame) (sof : DWord) : W :=
  match w.stnMatch n f with
  | s :: ss => w.stnReceive (s :: ss) f
  | [] =>
    match w.canFilter n f with
    | none => w.incSat (R.CAN_RX_NOMATCH n)
    | some k =>
      let ctl := w.rd (R.CAN_FILT n (4 * k + 2))
      let mb := if fld ctl 0 2 = 2 then hpb else fld ctl 8 6
      if fld ctl 0 2 = 3 then w
      else if mb ≠ hpb ∧ mbDir (w.mbox n mb) ≠ 2 then w.rxLost n
      else
        let idw := f.id + 2 ^ 29 * b2n f.xtd + 2 ^ 30 * b2n f.fd + 2 ^ 31 * b2n f.brs
        let bits := f.dlc % 16 + 16 * b2n f.rtr + 32 * b2n f.esi + 2 ^ 20 * k
        let len := if f.rtr then 0 else canLen (f.dlc % 16) f.fd
        let d := f.data.take len
        w.rxStore n mb ⟨BitVec.ofNat 32 idw, BitVec.ofNat 32 bits, sof, d ++ List.replicate (64 - d.length) 0⟩

/-- A frame of another node is received without error at start-of-frame stamp `sof` (R550); a frame of this channel in
arbitration has lost (R542). An FD frame with FD_EN at 0 is a protocol exception (R524). -/
def canReceived (n : Nat) (f : CanFrame) (sof : DWord) (w : W) : W :=
  let c := w.canCh n
  if w.dom 6 ≠ 1 ∨ c.live = false ∨ c.busoff = true ∨ w.canMode n = 3 then w
  else
    let w := (w.canReturn n).canSync n
    if f.fd && !w.canFd n then w.canCause n 5
    else
      let r := w.rec' n
      let (w, hi) := if 127 < r ∧ w.canMode n = 0 then w.fresh 32 else (w, 0)
      let w := if w.canMode n ≠ 0 ∨ r = 0 then w
        else w.canCount n (w.tec n) (if 127 < r then 119 + hi % 9 else r - 1)
      (w.ackZero n).canDeliver n f sof

/-- The measured transmitter delay of an FD frame (R531). -/
def canTdc (w : W) (n : Nat) (fd : Bool) (tdcv : Nat) : W :=
  if fd && w.rdB (R.CAN_DBT n) 18 then
    let v := min 127 tdcv
    let w := w.wrN (R.CAN_TDC_STAT n) v
    if 127 < v + w.rdF (R.CAN_DBT n) 19 7 then w.canCause n 7 else w
  else w

/-- The frame in transmission completes its end of frame without error (R546). -/
def canTransmitted (n tdcv : Nat) (w : W) : W :=
  let c := w.canCh n
  match c.act with
  | none => w
  | some t =>
    if w.dom 6 ≠ 1 then w
    else
      let w := w.setCan n { c with act := none, sent := some t.frame }
      let w := (w.canCount n (w.tec n - 1) (w.rec' n)).ackZero n
      let w := w.canTdc n t.frame.fd tdcv
      let w := match t.slot with
        | .mailbox m => (w.inc (R.CAN_TX_DONE_CNT n)).mbEndOf n m { w.mbox n m with tsc := t.sof } 4
        | .station _ => w.inc R.CANC_STN_FRAMES
      if w.canMode n = 3 then w.canDeliver n t.frame t.sof else w

/-- An error ends a frame on the bus (R556, R561; the counters' rules of ISO 11898-1). `tdcv` is the delay measured in an
FD frame that this channel transmitted that far. -/
def canError (n : Nat) (e : CanErr) (tdcv : Option Nat) (w : W) : W :=
  let c := w.canCh n
  if w.dom 6 ≠ 1 ∨ c.live = false ∨ c.busoff = true then w
  else
    let w := match tdcv, c.act with | some v, some t => w.canTdc n t.frame.fd v | _, _ => w
    let w := w.wrN (R.CAN_LEC n) (e.lec.val + 8 * b2n e.dataPhase)
    let ack := e.transmitter && e.lec == 3
    let w := if ack then w.wrN (R.CAN_ACK_RUN n) (satInc 8 (w.rdF (R.CAN_ACK_RUN n) 0 8)) else w
    let exempt := (ack && w.canPassive n && e.quiet) || e.stuffArb
    let w := w.canReturn n
    let w := if w.canMute n then w
      else if e.transmitter then w.canCount n (w.tec n + (if exempt then 0 else 8) + 8 * e.more) (w.rec' n)
      else w.canCount n (w.tec n) (w.rec' n + 1 + 8 * b2n e.first + 8 * e.more)
    w.canSync n

/-- ACK_RUN has reached 16 (R562, R563). -/
def canAlone (n : Nat) (w : W) : W :=
  if w.rdF (R.CAN_ACK_RUN n) 0 8 < 16 ∨ w.rdB (R.CAN_BSTAT n) 3 = true then w
  else
    let w := (w.wrB (R.CAN_BSTAT n) 3 true).canCause n 4
    if w.rdB (R.CAN_MODE n) 5 then
      let w := (w.setCan n { w.canCh n with act := none }).mbAll n [1, 2] 6
      (w.stnDrop n).ackZero n
    else w

/-- The response window of station i closes unanswered (R449). -/
def stnTimeout (i : Nat) (w : W) : W :=
  match w.stn i with
  | some s => if s.window then w.setStn { s with window := false, miss := true } else w
  | none => w

/-- Recovery from bus-off ends (R560). -/
def canRecovered (n : Nat) (w : W) : W :=
  let c := w.canCh n
  if c.busoff && c.recov then
    let w := (w.setCan n { c with busoff := false, recov := false }).wr (R.CAN_ECNT n) 0
    ((w.mbAll n [3] 1).canCause n 3).canSync n
  else w

/-! ## Registers of the bus pages (R535, R538, R568) -/

/-- The mailbox that MB_SEL shows. -/
def mbSel (w : W) (n : Nat) : Nat := w.rdF (R.CAN_MB_SEL n) 0 7

/-- Word i of the view (R535). -/
def viewWord (w : W) (n i : Nat) : Word :=
  let b := w.mbox n (w.mbSel n)
  if i = 0 then b.idw
  else if i = 1 then b.mc
  else if i = 2 then BitVec.ofNat 32 b.tsc.toNat
  else if i = 3 then BitVec.ofNat 32 (b.tsc.toNat / 2 ^ 32)
  else BitVec.ofNat 32 (leNat ((b.data.drop (4 * (i - 4))).take 4))

/-- The code of a write of word i of the view (R536, R538). -/
def viewCode (w : W) (n i : Nat) (v : Word) : Nat :=
  let m := w.mbSel n
  let b := w.mbox n m
  firstCode [
    (i == 1 && m != hpb && fld v 6 2 == 3, eRange),
    (m != hpb && mbDir b == 1 && mbPending b, eBusy),
    (i == 1 && m != hpb && mbDir b == 2 && bit b.mc 12, eBusy)]

/-- A write of word i of the view (R535, R538). -/
def viewWrite (w : W) (n i : Nat) (v : Word) : W :=
  let m := w.mbSel n
  let b := w.mbox n m
  if i = 0 then w.setMbox n m { b with idw := v }
  else if i = 1 then
    let mask : Word := if m = hpb then 0x1F#32 else 0xFDF#32
    let b' := { b with mc := (b.mc &&& ~~~mask) ||| (v &&& mask) }
    w.setMbox n m (if m ≠ hpb ∧ mbDir b' ≠ mbDir b then
      { withState b' 0 with shadow := none, mc := (withState b' 0).mc &&& ~~~0x6000#32 } else b')
  else if 4 ≤ i then
    w.setMbox n m { b with data := b.data.take (4 * (i - 4)) ++ toLe 4 v.toNat ++ b.data.drop (4 * (i - 4) + 4) }
  else w

/-- Bits of a 32-bit half of the mailboxes for which `p` holds. -/
def mbBits (w : W) (n half : Nat) (p : Mbx → Bool) : Word :=
  BitVec.ofNat 32 (((List.range 32).map fun i => b2n (p (w.mbox n (32 * half + i))) * 2 ^ i).foldl (· + ·) 0)

/-- For every bit set of a half, an operation on its mailbox. -/
def mbEach (w : W) (half : Nat) (v : Word) (f : W → Nat → W) : W :=
  (List.range 32).foldl (fun w i => if bit v i then f w (32 * half + i) else w) w

/-- The code of a write to a CAN register (R530, R560, R568). -/
def canCheck (w : W) (n o : Nat) (v : Word) : Nat :=
  if o = 0x040 ∨ o = 0x044 ∨ o = 0x048 then (if w.canEn n then eState else 0)
  else if o = 0x060 then (if bit v 0 && !(w.canCh n).busoff then eState else 0)
  else if o = 0x09C then (if 64 < fld v 0 7 then eRange else 0)
  else if 0x400 ≤ o ∧ o < 0x450 then w.viewCode n ((o - 0x400) / 4) v
  else 0

/-- The effect of an accepted write to a CAN register that is more than a store. -/
def canWrite (w : W) (n o : Nat) (v : Word) : Option W :=
  if o = 0x060 then
    some (if bit v 0 then (w.setCan n { w.canCh n with recov := true }).canSync n else w)
  else if o = 0x068 ∨ o = 0x06C then some (w.mbEach ((o - 0x068) / 4) v fun w m => w.canRequest n m)
  else if o = 0x070 ∨ o = 0x074 then some (w.mbEach ((o - 0x070) / 4) v fun w m => w.canAbort n m)
  else if o = 0x088 ∨ o = 0x08C then
    some (w.mbEach ((o - 0x088) / 4) v fun w m =>
      let b := w.mbox n m
      if mbDir b = 2 then w.setMbox n m { b with mc := setBit b.mc 12 true } else w)
  else if o = 0x090 ∨ o = 0x094 then
    some (w.mbEach ((o - 0x090) / 4) v fun w m => if mbDir (w.mbox n m) = 2 then w.rxRelease n m else w)
  else if o = 0x098 then
    let w := if bit v 0 then w.setMbox n hpb { w.mbox n hpb with mc := setBit (w.mbox n hpb).mc 12 true } else w
    some (if bit v 1 then w.rxRelease n hpb else w)
  else if 0x400 ≤ o ∧ o < 0x450 then some (w.viewWrite n ((o - 0x400) / 4) v)
  else if 0x800 ≤ o then
    let mask : Word := [0x3FFFFFFF#32, 0x1FFFFFFF#32, 0x3F03#32, 0#32].getD (o % 16 / 4) 0
    some (w.wr (0x1000 * canPage n + o) (v &&& mask))
  else none

/-- CAN_RECV (R555): the frame of a FULL mailbox, which is then released; no frame of an empty one. -/
def canRecv (w : W) (n m : Nat) : W × Option (Word × Nat × DWord × List Byte) :=
  let b := w.mbox n m
  if mbState b = 9 then (w.rxRelease n m, some (b.idw, canLen (fld b.mc 0 4) (bit b.idw 30), b.tsc, b.data)) else (w, none)

end W

end Sys2Proof.Machine
end

