-- ==== Sys2Proof/Machine/Safety.lean ====
section
/-!
DEFINITION. The safety sequencer (chapter 14): its table, the evaluation of a period by each of its two channels,
outputs and their test pulses, sequencer faults, requests.
-/
namespace Sys2Proof.Machine

/-! ## The table (R646, R647, R649) -/

/-- The little-endian number of n bytes at an offset of a table. -/
def tb (t : List Byte) (o n : Nat) : Nat := leNat ((t.drop o).take n)

/-- TYPE, FILT, TPA, TPB, DISC of input i (R646). -/
def tInType (t : List Byte) (i : Nat) : Nat := tb t (64 + 8 * i) 1
def tInFilt (t : List Byte) (i : Nat) : Nat := tb t (65 + 8 * i) 1
def tInTpa (t : List Byte) (i : Nat) : Nat := tb t (66 + 8 * i) 1
def tInTpb (t : List Byte) (i : Nat) : Nat := tb t (67 + 8 * i) 1
def tInDisc (t : List Byte) (i : Nat) : Nat := tb t (68 + 8 * i) 2
/-- FUNC, OFLAGS, EDM_WIN of output n (R646). -/
def tOutFunc (t : List Byte) (n : Nat) : Nat := if t = [] then 0xFF else tb t (192 + 8 * n) 1
def tOutFlags (t : List Byte) (n : Nat) : Nat := tb t (193 + 8 * n) 1
def tOutWin (t : List Byte) (n : Nat) : Nat := tb t (194 + 8 * n) 2
/-- Fields of function f (R646). -/
def tFnMask (t : List Byte) (f : Nat) : Nat := tb t (256 + 16 * f) 2
def tFnReq (t : List Byte) (f : Nat) : Nat := tb t (258 + 16 * f) 1
def tFnFlags (t : List Byte) (f : Nat) : Nat := tb t (259 + 16 * f) 1
def tFnReset (t : List Byte) (f : Nat) : Nat := tb t (260 + 16 * f) 1
def tFnStop (t : List Byte) (f : Nat) : Nat := tb t (262 + 16 * f) 2
def tFnExt (t : List Byte) (f : Nat) : Nat := tb t (264 + 16 * f) 4
def tFnPst (t : List Byte) (f : Nat) : Nat := tb t (268 + 16 * f) 4

def tFnEn (t : List Byte) (f : Nat) : Bool := (tFnFlags t f).testBit 0
def tFnMembers (t : List Byte) (f : Nat) : List Nat := those 16 fun i => (tFnMask t f).testBit i
def tFnOuts (t : List Byte) (f : Nat) : List Nat := those 8 fun n => tOutFunc t n == f

/-- RT_FUNCf in µs (R642). -/
def tFnRt (t : List Byte) (f : Nat) : Nat :=
  ((tFnMembers t f).map fun i => 250 * tInFilt t i).max?.getD 0 + 550 + 1000 * tFnStop t f

/-- MARGINf in µs (R643). -/
def tFnMargin (t : List Byte) (f : Nat) : Int := (tFnPst t f : Int) - tFnRt t f - tFnExt t f

/-- The offsets of the fields of a table, each with whether it breaches R646 or R647, in rising order. -/
def tBreaches (t : List Byte) : List (Nat × Bool) :=
  let zero (o n : Nat) : Nat × Bool := (o, tb t o n != 0)
  let within (x lo hi : Nat) : Bool := decide (lo ≤ x ∧ x ≤ hi)
  let key := tb t 5 1
  [(5, !within key 68 71), zero 6 2, (20, decide (1 < tb t 20 4)), zero 24 40] ++
  (List.range 16).flatMap (fun i =>
    let o := 64 + 8 * i
    let used := tInType t i != 0
    [(o, decide (3 < tInType t i)), (o + 1, !within (tInFilt t i) 2 80),
     (o + 2, decide (2 < tInTpa t i) || (!used && tInTpa t i != 0)),
     (o + 3, (tInTpb t i != 0 && tInTpb t i != 3 && tInTpb t i != 4) || (!used && tInTpb t i != 0)),
     (o + 4, !within (tInDisc t i) 10 5000), zero (o + 6) 2]) ++
  (List.range 8).flatMap (fun n =>
    let o := 192 + 8 * n
    let f := tOutFunc t n
    [(o, f != 0xFF && !(decide (f < 16) && tFnEn t f)), (o + 1, decide (3 < tOutFlags t n)),
     (o + 2, !within (tOutWin t n) 20 1000), zero (o + 4) 4]) ++
  (List.range 16).flatMap (fun f =>
    let o := 256 + 16 * f
    if tFnEn t f then
      let man := (tFnFlags t f).testBit 1
      let r := tFnReset t f
      [(o, tFnMask t f == 0 || (tFnMembers t f).any (fun i => tInType t i == 0 || tInType t i == 3)
        || (tFnOuts t f).isEmpty),
       (o + 2, decide (7 < tFnReq t f)), (o + 3, decide (3 < tFnFlags t f)),
       (o + 4, if man then !(decide (r < 16) && tInType t r == 3) else r != 0xFF), zero (o + 5) 1,
       (o + 6, decide (30000 < tFnStop t f)), (o + 12, !within (tFnPst t f) 1000 60000000)]
    else [])

/-- Reason and byte offset for a slot's 580 bytes (R649); (0, 0xFFFF) when valid. `hasKey` says that KEYSLOT holds a key
able to verify, `sigOk` that the signature verifies. -/
def tReason (t : List Byte) (hasKey sigOk : Bool) : Nat × Nat :=
  let range := (tBreaches t).find? (·.2)
  let margin := (List.range 16).find? fun f => tFnEn t f && decide (tFnMargin t f < 0)
  if tb t 0 4 ≠ 0x5AFE then (0x3D02, 0)
  else if tb t 4 1 ≠ 1 then (eLen, 4)
  else if tb t 8 4 ≠ 516 then (eLen, 8)
  else match range with
    | some (o, _) => (eRange, o)
    | none =>
      if tb t 512 4 ≠ crc32c (t.take 512) then (eCrc, 512)
      else if !hasKey then (eSignature, 5)
      else if !sigOk then (eSignature, 516)
      else match margin with
        | some f => (0x3D01, 256 + 16 * f + 12)
        | none => (0, 0xFFFF)

/-! ## States (R659, R660) -/
abbrev siUNUSED : Nat := 0
abbrev siCLEAR : Nat := 1
abbrev siDISC : Nat := 2
abbrev siBLOCKED : Nat := 3
abbrev siDEMAND : Nat := 4
abbrev siFAULT : Nat := 5
abbrev sfDISABLED : Nat := 0
abbrev sfSAFE : Nat := 1
abbrev sfREADY : Nat := 2
abbrev sfENABLED : Nat := 3
abbrev sfSTOPPING : Nat := 4
abbrev sfFAULT : Nat := 5

/-- Events of one evaluation, as local bits of the SAF page (R657). -/
abbrev SafEvs := List (Nat × Nat)

/-- The pin is at its demand level (R623): low, but high for channel B of an ANTIVAL input. -/
def safDemand (type : Nat) (pinB level : Bool) : Bool := level == (type == 2 && pinB)

/-- One input of one channel at a latch (R627 to R630), from the demands of its two channels: the input, its events, and whether a
reset pulse occurs. For a RESET input the states follow the press, the level opposite to the demand: 1 released, 4 pressed
(R630, R659; DEDUCED, log 35). -/
def safInput (t : List Byte) (i : Nat) (a b testFault : Bool) (s : SafIn) : SafIn × SafEvs × Bool :=
  let type := tInType t i
  if type = 0 then (s, [], false)
  else
    let one := a != b
    let both := if type = 3 then !a && !b else a && b
    let dc := if one then s.dcount + 1 else 0
    let disc := one && decide (4 * tInDisc t i ≤ dc)
    let s := { s with da := a, db := b, dcount := dc }
    let (s, ev) :=
      if s.st = siFAULT then
        ({ s with cycled := s.cycled || both, discf := s.discf || disc }, if disc && !s.discf then [E.SAF_DISCREPANCY] else [])
      else if disc then ({ s with st := siFAULT, cycled := false, discf := true }, [E.SAF_DISCREPANCY])
      else if testFault then ({ s with st := siFAULT, cycled := false }, [])
      else
        let next :=
          if s.st = siCLEAR then (if both then siDEMAND else if one then siDISC else siCLEAR)
          else if s.st = siDISC then
            (if both then siDEMAND else if one then siDISC else if s.seen then siCLEAR else siBLOCKED)
          else if s.st = siBLOCKED then (if both then siDEMAND else if one then siDISC else siBLOCKED)
          else (if both then siDEMAND else if one then siDISC else siCLEAR)
        let seen := (if s.st = siCLEAR then false else s.seen) || both
        ({ s with st := next, seen := seen }, [])
    if type = 3 then
      if both then ({ s with press := s.press + 1 }, ev, false)
      else
        let pulse := decide (400 ≤ s.press ∧ s.press ≤ 12000)
        ({ s with press := 0 }, if pulse then ev ++ [E.SAF_RESET_PULSE] else ev, pulse)
    else (s, ev, false)

/-- What a channel knows beside its own state when it evaluates. -/
structure SafEnv where
  tbl : List Byte
  req : BitVec 16
  seqFault : Bool
  /-- The lines of output n that are on: neither line is on. -/
  off : BitVec 8

/-- Why a function must be in FAULT (R632, R660), 0 when nothing. -/
def safCause (t : List Byte) (c : SafChan) (f : Nat) : Nat :=
  let bad := (tFnMembers t f).filter fun i => (c.ins.getD i {}).st == siFAULT
  if bad.any fun i => (c.ins.getD i {}).discf then 1
  else if bad ≠ [] then 2
  else if (tFnOuts t f).any fun n => c.outFlt.getLsbD n then 3
  else if (tFnOuts t f).any fun n => c.edmFlt.getLsbD n then 4
  else 0

/-- Every member input is CLEAR. -/
def safClear (t : List Byte) (c : SafChan) (f : Nat) : Bool :=
  (tFnMembers t f).all fun i => (c.ins.getD i {}).st == siCLEAR

/-- Every assigned output's contactor feedback reads released (R632). -/
def safEdmOk (t : List Byte) (edm : BitVec 8) (f : Nat) : Bool := (tFnOuts t f).all fun n => edm.getLsbD n

/-- An input has a test fault on either channel. -/
def SafChan.tf (c : SafChan) (i : Nat) : Bool := c.tfA.getLsbD i || c.tfB.getLsbD i

/-- A reset pulse of the inputs `pulses` acts on the faults of function f (R631): a pulse of its RESET_IN; of any RESET
input where the function, with restart AUTO, has none (log 30). -/
def pulseActs (t : List Byte) (pulses : List Nat) (f : Nat) : Bool :=
  tFnEn t f && (pulses.contains (tFnReset t f) || (tFnReset t f == 0xFF && !pulses.isEmpty))

/-- One function of one channel at a latch (R632), after the reset pulses of inputs `pulses`. -/
def safFunc (e : SafEnv) (pulses : List Nat) (f : Nat) (c : SafChan) : SafFn × SafEvs :=
  let t := e.tbl
  let s := c.fns.getD f {}
  let on := s.st == sfENABLED || s.st == sfSTOPPING
  if !tFnEn t f then (s, [])
  else if e.seqFault then
    if s.st = sfFAULT ∧ s.fault = 5 then (s, [])
    else ({ s with st := sfFAULT, fault := 5, lastOff := if on then 4 else s.lastOff },
          (if on then [E.SAF_FUNC_OFF] else []) ++ [E.SAF_FUNC_FAULT])
  else
    let cause := safCause t c f
    let clear := safClear t c f
    let need := (tFnReq t f).testBit 2
    let held := !need || s.req
    let ok := cause == 0 && clear && held && safEdmOk t c.edm f && (tFnOuts t f).all fun n => !c.sm.getLsbD n
    if s.st = sfFAULT then
      if pulseActs t pulses f = true ∧ cause = 0 then ({ s with st := sfSAFE, fault := 0 }, []) else (s, [])
    else if cause ≠ 0 then
      ({ s with st := sfFAULT, fault := cause, lastOff := if on then 3 else s.lastOff },
       (if on then [E.SAF_FUNC_OFF] else []) ++ [E.SAF_FUNC_FAULT])
    else if s.st = sfSAFE then
      if !ok then (s, [])
      else if (tFnFlags t f).testBit 1 then ({ s with st := sfREADY }, [])
      else ({ s with st := sfENABLED }, [E.SAF_FUNC_ON])
    else if s.st = sfREADY then
      if !ok then ({ s with st := sfSAFE }, [])
      else if pulses.contains (tFnReset t f) then ({ s with st := sfENABLED }, [E.SAF_FUNC_ON])
      else (s, [])
    else if s.st = sfENABLED then
      if clear && held then (s, [])
      else
        let why := if clear then 2 else 1
        if tFnStop t f = 0 then ({ s with st := sfSAFE, lastOff := why }, [E.SAF_FUNC_OFF])
        else ({ s with st := sfSTOPPING, lastOff := why, stop := 0 }, [])
    else if s.st = sfSTOPPING then
      if 4 * tFnStop t f ≤ s.stop + 1 then ({ s with st := sfSAFE }, [E.SAF_FUNC_OFF])
      else ({ s with stop := s.stop + 1 }, [])
    else (s, [])

/-- A reset pulse clears the faults that the members of the functions on which it acts carry, each when its own
clearing condition holds (R628, R631, R635, R637). -/
def safClearFaults (e : SafEnv) (pulses : List Nat) (c : SafChan) : SafChan :=
  let fs := those 16 (pulseActs e.tbl pulses)
  let ins := fs.flatMap (tFnMembers e.tbl)
  let outs := fs.flatMap (tFnOuts e.tbl)
  let c := ins.foldl (fun (c : SafChan) i =>
    let s := c.ins.getD i {}
    if s.st = siFAULT ∧ s.da = false ∧ s.db = false ∧ s.cycled = true ∧ c.tf i = false then
      { c with ins := c.ins.setIfInBounds i { s with st := siCLEAR, discf := false, seen := false } }
    else c) c
  outs.foldl (fun (c : SafChan) n =>
    let m : BitVec 8 := BitVec.ofNat 8 (2 ^ n)
    let c := if e.off.getLsbD n && !c.sm.getLsbD n then { c with outFlt := c.outFlt &&& ~~~m } else c
    if e.off.getLsbD n && c.edm.getLsbD n then { c with edmFlt := c.edmFlt &&& ~~~m } else c) c

/-- One channel's evaluation at a latch, in the order of R645 after its sequencer checks. -/
def safEval (e : SafEnv) (c : SafChan) : SafChan × SafEvs :=
  let step (x : SafChan × SafEvs × List Nat) (i : Nat) : SafChan × SafEvs × List Nat :=
    let (c, evs, pulses) := x
    let type := tInType e.tbl i
    let (s, ev, p) := safInput e.tbl i (safDemand type false (c.filtA.getLsbD i)) (safDemand type true (c.filtB.getLsbD i))
      (c.tf i) (c.ins.getD i {})
    ({ c with ins := c.ins.setIfInBounds i s }, evs ++ ev, if p then pulses ++ [i] else pulses)
  let (c, evs, pulses) := (List.range 16).foldl step (c, [], [])
  let (c, evs) := (List.range 16).foldl (fun (x : SafChan × SafEvs) f =>
    let s := x.1.fns.getD f {}
    if s.req = e.req.getLsbD f then x
    else ({ x.1 with fns := x.1.fns.setIfInBounds f { s with req := e.req.getLsbD f } }, x.2 ++ [E.SAF_REQ_CHANGE])) (c, evs)
  let c := safClearFaults e pulses c
  let (c, evs) := (List.range 16).foldl (fun (x : SafChan × SafEvs) f =>
    let (s, ev) := safFunc e pulses f x.1
    ({ x.1 with fns := x.1.fns.setIfInBounds f s }, x.2 ++ ev)) (c, evs)
  let want := (List.range 8).foldl (fun b n =>
    let f := tOutFunc e.tbl n
    let st := (c.fns.getD f {}).st
    if f < 16 ∧ e.seqFault = false ∧ (st = sfENABLED ∨ st = sfSTOPPING) then b + 2 ^ n else b) 0
  ({ c with want := BitVec.ofNat 8 want }, evs)

/-- A number whose bit n is `p n`, n below `k`. -/
def bitsOf (k : Nat) (p : Nat → Bool) : Nat := (List.range k).foldl (fun b n => if p n then b + 2 ^ n else b) 0

namespace W

/-- SOnH and SOnL that are on, the line that a test pulse opens apart (R618, R638). -/
def soH (w : W) : BitVec 8 :=
  match w.saf.test with
  | some (n, false) => w.saf.a.lines &&& ~~~(BitVec.ofNat 8 (2 ^ n))
  | _ => w.saf.a.lines
def soL (w : W) : BitVec 8 :=
  match w.saf.test with
  | some (n, true) => w.saf.b.lines &&& ~~~(BitVec.ofNat 8 (2 ^ n))
  | _ => w.saf.b.lines

/-- The registers of the SAF page show channel A's evaluation (R658 to R660). -/
def safSync (w : W) : W :=
  let t := w.saf.tbl
  let c := w.saf.a
  let fn (f : Nat) := c.fns.getD f {}
  let inp (i : Nat) := c.ins.getD i {}
  let w := (List.range 16).foldl (fun w i =>
    let s := inp i
    let st := if tInType t i = 0 then 0 else s.st
    w.wrN (R.SAF_IN_STATi i) (st + 8 * b2n s.da + 16 * b2n s.db + 32 * b2n (c.tfA.getLsbD i)
      + 64 * b2n (c.tfB.getLsbD i) + 128 * b2n s.discf + 256 * b2n s.cycled + 65536 * min s.dcount 65535)) w
  let w := (List.range 16).foldl (fun w f =>
    let s := fn f
    let en := tFnEn t f
    w.wrN (R.SAF_FUNC_STATf f) (s.st + 8 * b2n s.req + 16 * b2n (en && safClear t c f)
      + 32 * b2n (en && safEdmOk t c.edm f) + 256 * s.lastOff + 4096 * s.fault)) w
  let w := w.wrN R.SAF_FUNC_EN (bitsOf 16 fun f => (fn f).st == sfENABLED || (fn f).st == sfSTOPPING)
  let w := w.wrN R.SAF_FUNC_FLT (bitsOf 16 fun f => (fn f).st == sfFAULT)
  let w := w.wrN R.SAF_REQ (bitsOf 16 fun f => (fn f).req)
  let w := w.wrN R.SAF_IN_DEMAND (bitsOf 16 fun i => tInType t i != 0 && (inp i).st != siCLEAR)
  let w := w.wrN R.SAF_OUT_STAT (w.soH.toNat + 2 ^ 8 * w.soL.toNat + 2 ^ 16 * c.sm.toNat + 2 ^ 24 * c.edm.toNat)
  let w := w.wrN R.SAF_OUT_FLT (c.outFlt.toNat + 2 ^ 8 * c.edmFlt.toNat)
  w.wrB R.SAF_STAT 4 w.saf.test.isSome

/-- The events of an evaluation raised in order. -/
def raiseAll (w : W) (es : SafEvs) : W := es.foldl raise w

/-- A channel in a sequencer fault: every line off, every enabled function in FAULT (R640). -/
def safStop (t : List Byte) (c : SafChan) : SafChan :=
  { c with lines := 0, due := 0, want := 0,
           fns := c.fns.mapFinIdx fun f s _ =>
             if tFnEn t f then
               { s with st := sfFAULT, fault := 5,
                        lastOff := if s.st = sfENABLED ∨ s.st = sfSTOPPING then 4 else s.lastOff }
             else s }

/-- A sequencer fault (R640): outputs off at once, functions in FAULT, SEQFAULT, and through it FAULT_N low and the health of the
unit; the test pulse in progress is abandoned (R639). One that comes while PD3 is not on stands when it starts. -/
def seqFault (w : W) : W :=
  if w.rdB R.SAF_STAT 3 then w
  else if w.dom 3 ≠ 1 then ({ w with saf.fault := true }).health
  else
    let t := w.saf.tbl
    let old := w.saf.a.fns
    let evs := (List.range 16).flatMap fun f =>
      let s := old.getD f {}
      if !tFnEn t f then []
      else (if s.st = sfENABLED ∨ s.st = sfSTOPPING then [E.SAF_FUNC_OFF] else []) ++
        (if s.st = sfFAULT then [] else [E.SAF_FUNC_FAULT])
    let w := w.wrB R.SAF_STAT 3 true
    let w := if w.saf.test.isSome then w.incSat R.SAF_TEST_ABORT else w
    let w := { w with saf.a := safStop t w.saf.a, saf.b := safStop t w.saf.b, saf.test := none, saf.fault := true }
    ((w.safSync.raise E.SAF_SEQ_FAULT).raiseAll evs).health

/-- One channel after a boundary (R619, R639): its offs at once, its ons delayed while a test pulse runs. -/
def safLines (c : SafChan) (testing : Bool) : SafChan :=
  { c with due := c.want, lines := if testing then c.lines &&& c.want else c.want }

/-- The output levels of the previous evaluation are applied (R619); a switch-off of the pulsed output abandons its
test (R639). -/
def safApply (w : W) : W :=
  let w := match w.saf.test with
    | some (n, low) =>
      if w.saf.a.want.getLsbD n && w.saf.b.want.getLsbD n then w
      else
        ({ w with saf.test := none, saf.retest := w.saf.retest.setIfInBounds n (some low) }).incSat R.SAF_TEST_ABORT
    | none => w
  let t := w.saf.test.isSome
  { w with saf.a := safLines w.saf.a t, saf.b := safLines w.saf.b t }

/-- The demand states that a channel latches for the inputs in use, pin A or B (R619, R623). -/
def safLatch (t : List Byte) (c : SafChan) (pinB : Bool) : BitVec 16 :=
  BitVec.ofNat 16 (bitsOf 16 fun i =>
    tInType t i != 0 && safDemand (tInType t i) pinB ((if pinB then c.filtB else c.filtA).getLsbD i))

/-- The comparison of R621 at a latch, the first check of its evaluation (R645): the latched input states, and the input states,
function states and lines as the channels stand. Answers whether an item differs for the second time in a row. -/
def safCompare (w : W) : W × Bool :=
  let t := w.saf.tbl
  let (a, b) := (w.saf.a, w.saf.b)
  let dA := safLatch t a false ^^^ safLatch t b false
  let dB := safLatch t a true ^^^ safLatch t b true
  let dIn := BitVec.ofNat 16 (bitsOf 16 fun i => (a.ins.getD i {}).st != (b.ins.getD i {}).st)
  let dFn := BitVec.ofNat 16 (bitsOf 16 fun f => (a.fns.getD f {}).st != (b.fns.getD f {}).st)
  let dLine := a.lines ^^^ b.lines
  ({ w with saf.dA := dA, saf.dB := dB, saf.dIn := dIn, saf.dFn := dFn, saf.dLine := dLine },
   decide (dA &&& w.saf.dA ≠ 0 ∨ dB &&& w.saf.dB ≠ 0 ∨ dIn &&& w.saf.dIn ≠ 0 ∨ dFn &&& w.saf.dFn ≠ 0 ∨ dLine &&& w.saf.dLine ≠ 0))

/-- Complete demands (R655), followed on channel A from the latch at which an input switches a function off to the one at which every
member is CLEAR again, the end of that demand (DEDUCED, log 35). -/
def safDemands (old : Vector SafFn 16) (w : W) : W :=
  (List.range 16).foldl (fun w f =>
    let t := w.saf.tbl
    let was := (old.getD f {}).st
    let s := w.saf.a.fns.getD f {}
    let begun := was == sfENABLED && s.st != sfENABLED && s.lastOff == 1
    let cur := if begun then some (0, 0) else if s.st = sfENABLED then none else w.saf.cd.getD f none
    match cur with
    | none => { w with saf.cd := w.saf.cd.setIfInBounds f none }
    | some (m, k) =>
      let m := m ||| BitVec.ofNat 16 (bitsOf 16 fun i => (tFnMask t f).testBit i && (w.saf.a.ins.getD i {}).st == siDEMAND)
      let outs := tFnOuts t f
      let off := outs.all fun n => !w.soH.getLsbD n && !w.soL.getLsbD n
      let late := off && outs.any fun n => !w.saf.a.edm.getLsbD n && decide (4 * tOutWin t n < k)
      let done := off && m.toNat == tFnMask t f && safEdmOk t w.saf.a.edm f && !late
      if done then { w.wr (R.SAF_LAST_DEMANDf f) w.rtcSec with saf.cd := w.saf.cd.setIfInBounds f none }
      else if late || safClear t w.saf.a f then { w with saf.cd := w.saf.cd.setIfInBounds f none }
      else { w with saf.cd := w.saf.cd.setIfInBounds f (some (m, if off then k + 1 else 0)) }) w

/-- A period boundary (R619): apply, latch, evaluate on both channels, the sequencer checks first (R645). `smA`, `edmA` and `smB`,
`edmB` are the levels of SMn and EDMn as each channel latches them (R618); `dev` says that the channels' periods deviate beyond
R19. -/
def safPeriod (smA edmA smB edmB : BitVec 8) (dev : Bool) (w : W) : W :=
  if w.dom 3 ≠ 1 then w
  else
    let w := w.safApply.inc R.SAF_PERIOD_CNT
    let w := { w with saf.a.sm := smA, saf.a.edm := edmA, saf.b.sm := smB, saf.b.edm := edmB }
    let (w, twice) := w.safCompare
    let w := if twice || dev then w.seqFault else w
    let off := BitVec.ofNat 8 (bitsOf 8 fun n => !w.soH.getLsbD n && !w.soL.getLsbD n)
    let env : SafEnv := ⟨w.saf.tbl, w.saf.req, w.rdB R.SAF_STAT 3, off⟩
    let old := w.saf.a.fns
    let (a, evs) := safEval env w.saf.a
    let (b, _) := safEval env w.saf.b
    (({ w with saf.a := a, saf.b := b }).safDemands old).safSync.raiseAll evs

/-! ## Inputs, test pulses, outputs between the boundaries -/

/-- A channel's state changed by `f`, for both channels of the sequencer; for channel B, or A. -/
def safBoth (w : W) (f : SafChan → SafChan) : W := { w with saf.a := f w.saf.a, saf.b := f w.saf.b }
def safOne (w : W) (chanB : Bool) (f : SafChan → SafChan) : W :=
  if chanB then { w with saf.b := f w.saf.b } else { w with saf.a := f w.saf.a }

/-- The filtered state of a pin changes on one channel of the sequencer (R622); inside a test window no run completes
away from the demand level (R626). -/
def safFiltered (chanB : Bool) (i : Nat) (pinB level : Bool) (w : W) : W :=
  let t := w.saf.tbl
  let src := if pinB then tInTpb t i else tInTpa t i
  let window := src != 0 && w.saf.tpWin.getLsbD (src - 1)
  let type := tInType t i
  if w.dom 3 ≠ 1 ∨ type = 0 ∨ (window = true ∧ safDemand type pinB level = false) then w
  else
    let set (b : BitVec 16) : BitVec 16 :=
      if level then b ||| BitVec.ofNat 16 (2 ^ i) else b &&& ~~~(BitVec.ofNat 16 (2 ^ i))
    let f (c : SafChan) : SafChan := if pinB then { c with filtB := set c.filtB } else { c with filtA := set c.filtA }
    w.safOne chanB f

/-- The disagreement count of an input has reached DISC (R627): it latches DISCREPANCY and is in FAULT, on each channel where it
has. -/
def safDiscrepancy (i : Nat) (w : W) : W :=
  let t := w.saf.tbl
  let hit (c : SafChan) : Bool :=
    let s := c.ins.getD i {}
    s.da != s.db && !(s.st == siFAULT && s.discf) && tInType t i != 0 && decide (4 * tInDisc t i ≤ s.dcount)
  let f (c : SafChan) : SafChan :=
    if hit c then
      let s := c.ins.getD i {}
      { c with ins := c.ins.setIfInBounds i { s with st := siFAULT, discf := true, cycled := s.st == siFAULT && s.cycled } }
    else c
  let h := hit w.saf.a
  if w.dom 3 ≠ 1 then w else ((w.safBoth f).safSync).raiseIf h E.SAF_DISCREPANCY

/-- Source k goes off for its off-pulse (R624), and the test windows of its channels open (R626). -/
def tpStart (k : Nat) (w : W) : W :=
  if w.dom 3 ≠ 1 then w
  else { w with saf.tpOff := w.saf.tpOff ||| BitVec.ofNat 4 (2 ^ k), saf.tpWin := w.saf.tpWin ||| BitVec.ofNat 4 (2 ^ k) }

/-- Source k is high again and its windows have closed (R624, R626). -/
def tpEnd (k : Nat) (w : W) : W :=
  { w with saf.tpOff := w.saf.tpOff &&& ~~~(BitVec.ofNat 4 (2 ^ k)),
           saf.tpWin := w.saf.tpWin &&& ~~~(BitVec.ofNat 4 (2 ^ k)) }

/-- 150 µs after the falling edge of source k every supplied pin must read low (R625): the raw levels as channel A of the sequencer
samples pins A and B, and as channel B does (R618). -/
def tpCheck (k : Nat) (aA aB bA bB : BitVec 16) (w : W) : W :=
  if w.dom 3 ≠ 1 ∨ w.saf.tpOff.getLsbD k = false then w
  else
    let t := w.saf.tbl
    let onA := BitVec.ofNat 16 (bitsOf 16 fun i => tInType t i != 0 && tInTpa t i == k + 1)
    let onB := BitVec.ofNat 16 (bitsOf 16 fun i => tInType t i != 0 && tInTpb t i == k + 1)
    let f (rawA rawB : BitVec 16) (c : SafChan) : SafChan :=
      { c with tfA := (c.tfA &&& ~~~onA) ||| (onA &&& rawA), tfB := (c.tfB &&& ~~~onB) ||| (onB &&& rawB) }
    let (a, b) := (f aA aB w.saf.a, f bA bB w.saf.b)
    let old := (w.saf.a, w.saf.b)
    let fresh := decide ((a.tfA ||| b.tfA) &&& ~~~(old.1.tfA ||| old.2.tfA) ≠ 0#16 ∨ (a.tfB ||| b.tfB) &&& ~~~(old.1.tfB ||| old.2.tfB) ≠ 0#16)
    (({ w with saf.a := a, saf.b := b }).safSync).raiseIf fresh E.SAF_TEST_FAULT

/-- The test slot of output n begins (R638, R639). -/
def outTestStart (n : Nat) (w : W) : W :=
  let p := w.rdN R.SAF_PERIOD_CNT
  let t := w.saf.tbl
  if w.dom 3 = 1 ∧ p % 4000 = 500 * n ∧ tOutFunc t n < 16 ∧ (tOutFlags t n).testBit 0 = true
      ∧ w.saf.a.lines.getLsbD n = true ∧ w.saf.b.lines.getLsbD n = true ∧ w.saf.test = none then
    let low := (w.saf.retest.getD n none).getD ((p / 4000) % 2 == 1)
    ({ w with saf.test := some (n, low), saf.retest := w.saf.retest.setIfInBounds n none }).safSync
  else w

/-- An output fault on one channel (R618, R635, R638); the event comes with the first of the two. -/
def setOutFault (n : Nat) (chanB : Bool) (w : W) : W :=
  let m : BitVec 8 := BitVec.ofNat 8 (2 ^ n)
  let first := !w.saf.a.outFlt.getLsbD n && !w.saf.b.outFlt.getLsbD n
  ((w.safOne chanB fun c => { c with outFlt := c.outFlt ||| m }).safSync).raiseIf first E.SAF_OUT_FAULT

/-- The test pulse ends (R638): after SMn went low, or at 400 µs with an output fault on each channel that has seen no low level;
the switch-ons that fell due during it follow (R639). -/
def outTestEnd (lowA lowB : Bool) (w : W) : W :=
  match w.saf.test with
  | none => w
  | some (n, _) =>
    let w := ({ w with saf.test := none }).inc R.SAF_TEST_CNT
    let w := (w.safBoth fun c => { c with lines := c.lines ||| c.due }).safSync
    let w := if lowA then w else w.setOutFault n false
    if lowB then w else w.setOutFault n true

/-- On one channel the monitor of an assigned output has mismatched for more than 1 ms outside test pulses (R635). -/
def outMonitorFault (n : Nat) (chanB : Bool) (w : W) : W :=
  if w.dom 3 = 1 ∧ tOutFunc w.saf.tbl n < 16 ∧ (w.saf.test.map (·.1)) ≠ some n then w.setOutFault n chanB else w

/-- On one channel contactor feedback has differed from its expected level beyond EDM_WIN (R637); the event comes with the first of
the two. -/
def edmFault (n : Nat) (chanB : Bool) (w : W) : W :=
  let t := w.saf.tbl
  let m : BitVec 8 := BitVec.ofNat 8 (2 ^ n)
  let first := !w.saf.a.edmFlt.getLsbD n && !w.saf.b.edmFlt.getLsbD n
  if w.dom 3 = 1 ∧ tOutFunc t n < 16 ∧ (tOutFlags t n).testBit 1 = true then
    ((w.safOne chanB fun c => { c with edmFlt := c.edmFlt ||| m }).safSync).raiseIf first E.SAF_EDM_FAULT
  else w

/-- STOP_DELAY of a STOPPING function has elapsed (R632). -/
def stopExpiry (f : Nat) (w : W) : W :=
  if w.dom 3 = 1 ∧ (w.saf.a.fns.getD f {}).st = sfSTOPPING then
    let outs := BitVec.ofNat 8 (bitsOf 8 fun n => tOutFunc w.saf.tbl n == f)
    let g (c : SafChan) : SafChan :=
      if (c.fns.getD f {}).st = sfSTOPPING then
        { c with fns := c.fns.setIfInBounds f { c.fns.getD f {} with st := sfSAFE }, want := c.want &&& ~~~outs }
      else c
    ((w.safBoth g).safSync).raise E.SAF_FUNC_OFF
  else w

/-! ## Requests (R516, R634) -/

/-- Task `t` requests function f or drops the request: answers false where the table does not name the task. -/
def safRequest (w : W) (t f : Nat) (on : Bool) : W × Bool :=
  let tb := w.saf.tbl
  if f < 16 ∧ tFnEn tb f = true ∧ (tFnReq tb f).testBit 2 = true ∧ tFnReq tb f % 4 = t then
    let m : BitVec 16 := BitVec.ofNat 16 (2 ^ f)
    ({ w with saf.req := if on then w.saf.req ||| m else w.saf.req &&& ~~~m }, true)
  else (w, false)

/-- The requests of a task that leaves RUN are dropped (R634). -/
def safDropTask (w : W) (t : Nat) : W :=
  let m := BitVec.ofNat 16 (bitsOf 16 fun f => tFnReq w.saf.tbl f % 4 == t)
  { w with saf.req := w.saf.req &&& ~~~m }

/-! ## Putting a table in force (R648 to R650) -/

/-- The table `t` (580 bytes of its slot) in force, with the pins at levels `siA`, `siB` as PD3 starts. -/
def safInForce (w : W) (t : List Byte) (slotB : Bool) (siA siB : BitVec 16) : W :=
  let t := t.take 516
  let ch : SafChan :=
    { filtA := siA, filtB := siB,
      ins := (Vector.range 16).map fun i => if tInType t i = 0 then {} else { st := siCLEAR },
      fns := (Vector.range 16).map fun f =>
        if !tFnEn t f then {}
        else if w.saf.fault then { st := sfFAULT, lastOff := 5, fault := 5 } else { st := sfSAFE, lastOff := 5 } }
  let w := { w with saf := { tbl := t, a := ch, b := ch, fault := w.saf.fault } }
  let w := (w.wrN R.SAF_CFG_ID (tb t 16 4)).wrN R.SAF_CFG_SEQ (tb t 12 4)
  let w := w.wrN R.SAF_STAT (1 + 2 * b2n slotB + 4 * (tb t 20 4 % 2) + 8 * b2n w.saf.fault)
  let w := (List.range 16).foldl (fun w f =>
    if tFnEn t f then (w.wrN (R.SAF_RT_FUNCf f) (tFnRt t f)).wrN (R.SAF_MARGINf f) (uns 32 (tFnMargin t f)) else w) w
  w.safSync.raise E.SAF_CFG_LOADED

/-- The two slots judged (R649) and the newer valid one put in force (R650); answers false with none. -/
def safLoad (w : W) (ta tb' : List Byte) (keyA sigA keyB sigB : Bool) (siA siB : BitVec 16) : W × Bool :=
  let ra := tReason ta keyA sigA
  let rb := tReason tb' keyB sigB
  let okA := ra.1 == 0
  let okB := rb.1 == 0
  let tie := okA && okB && tb ta 12 4 == tb tb' 12 4
  let rb' := if tie then (0x3D03, 12) else rb
  let useB := okB && !tie && (!okA || newer 32 (tb tb' 12 4) (tb ta 12 4))
  let w := { w.resetRegs 0x3C040 0x3D000 with saf := { fault := w.saf.fault } }
  let w := w.wrB R.SAF_STAT 3 w.saf.fault
  let w := (w.wrN R.SAF_CFG_ERR_A (ra.1 + 65536 * ra.2)).wrN R.SAF_CFG_ERR_B (rb'.1 + 65536 * rb'.2)
  if useB then (w.safInForce tb' true siA siB, true)
  else if okA then (w.safInForce ta false siA siB, true)
  else (w, false)

end W

end Sys2Proof.Machine
end

