-- ==== Sys2Proof/Machine/Image.lean ====
section
/-!
DEFINITION. The words of Breeze code and their load-time decoding (R483, R484), and the program image: its checks and
the entries that the device takes from it (R517 to R522).
-/
namespace Sys2Proof.Machine

/-! ## Formats (R483) -/

/-- The words of the four formats. -/
def encA (op d a b x : Nat) : Word :=
  BitVec.ofNat 32 (op * 2 ^ 24 + d % 64 * 2 ^ 18 + a % 64 * 2 ^ 12 + b % 64 * 64 + x % 64)
def encI (op d a imm : Nat) : Word := BitVec.ofNat 32 (op * 2 ^ 24 + d % 64 * 2 ^ 18 + a % 64 * 2 ^ 12 + imm % 4096)
def encJ (op cond off : Nat) : Word := BitVec.ofNat 32 (op * 2 ^ 24 + cond % 16 * 2 ^ 20 + off % 2 ^ 20)

/-! ## Load-time decoding (R484, R491, R501, R511) -/

/-- The services: number, and how many registers from W[a] on they read or write at most (R511). -/
def services : List (Nat × Nat) :=
  [(0x001, 1), (0x002, 2), (0x003, 2), (0x010, 2), (0x011, 5), (0x012, 3), (0x013, 3), (0x020, 5), (0x021, 4),
   (0x022, 3), (0x030, 5), (0x031, 4), (0x040, 4), (0x041, 0), (0x042, 2), (0x050, 1), (0x060, 2), (0x061, 1),
   (0x070, 6), (0x071, 3), (0x072, 1)]

/-- Which operand fields an opcode has: d, a, b, x, imm12, condition, off20; none where it is reserved (R491). -/
def operands (op : Nat) : Option (List Nat) :=
  if op = 0x00 ∨ op = 0x01 ∨ op = 0x02 then some []
  else if op = 0x03 then some [0]
  else if op = 0x04 then some [1]
  else if op = 0x05 then some [0, 1, 2, 3]
  else if op = 0x06 then some [0, 3]
  else if (0x08 ≤ op ∧ op ≤ 0x0E) ∨ (0x10 ≤ op ∧ op ≤ 0x17) then some [0, 1, 2]
  else if op = 0x0F ∨ op = 0x1B then some [1, 2]
  else if op = 0x18 ∨ op = 0x19 then some [0, 1]
  else if op = 0x1A then some [0, 1, 2, 3]
  else if op = 0x20 then some [0, 4]
  else if op = 0x23 then some [1, 4]
  else if 0x21 ≤ op ∧ op ≤ 0x2D then some [0, 1, 4]
  else if (0x30 ≤ op ∧ op ≤ 0x33) ∨ op = 0x36 ∨ op = 0x37 then some [0, 1, 2]
  else if op = 0x34 ∨ op = 0x3E then some [0, 1, 2, 3]
  else if op = 0x35 ∨ op = 0x38 ∨ op = 0x39 ∨ (0x3B ≤ op ∧ op ≤ 0x3D) then some [0, 1]
  else if op = 0x3A then some [1, 2]
  else if 0x40 ≤ op ∧ op ≤ 0x6C then some [0, 1, 4]
  else if 0x70 ≤ op ∧ op ≤ 0x87 ∧ op % 8 ≠ 3 ∧ op % 8 ≠ 5 then some [0, 1, 4]
  else if op = 0x88 then some [5, 6]
  else if op = 0x89 then some [6]
  else if 0xA0 ≤ op ∧ op ≤ 0xB3 then some [0, 1, 2, 3]
  else none

/-- The bits of the operand fields. -/
def operandBits (fs : List Nat) : Nat :=
  fs.foldl (fun m f => m ||| [0xFC0000, 0x3F000, 0xFC0, 0x3F, 0xFFF, 0xF00000, 0xFFFFF].getD f 0) 0

/-- The byte offset that a branch or call at `pos` goes to. -/
def branchTarget (pos : Nat) (v : Word) : Int := (pos : Int) + 4 + 4 * sgn 20 (fld v 0 20)

/-- The code word at byte offset `pos` of an entry of `len` code bytes passes every check of R484. -/
def codeWordOk (len pos : Nat) (v : Word) : Bool :=
  let op := fld v 24 8
  let imm := fld v 0 12
  match operands op with
  | none => false
  | some fs =>
    (v.toNat % 2 ^ 24) &&& (operandBits fs ^^^ 0xFFFFFF) == 0
      && (if op = 0x05 ∨ op = 0x06 then decide (fld v 0 6 < 15)
        else if op = 0x88 ∨ op = 0x89 then
          decide (fld v 20 4 ≠ 15 ∧ 0 ≤ branchTarget pos v ∧ branchTarget pos v < len)
        else if 0x27 ≤ op ∧ op ≤ 0x29 then decide (imm < 64)
        else if 0x2A ≤ op ∧ op ≤ 0x2C then decide (imm % 64 + imm / 64 + 1 ≤ 64)
        else if op = 0x2D then
          match services.find? fun s => s.1 == imm with
          | some s => decide (fld v 12 6 + s.2 ≤ 64)
          | none => false
        else true)

/-! ## The image (R517 to R519) -/

/-- The task entries of an image, as byte offsets of their 64 bytes. -/
def imgEntries (d : List Byte) : List Nat := (List.range (tb d 6 1)).map fun e => 64 + 64 * e

/-- A section of an entry: its offset and length. -/
def imgSections (d : List Byte) (e : Nat) : List (Nat × Nat) :=
  [(tb d (e + 4) 4, tb d (e + 8) 4), (tb d (e + 24) 4, tb d (e + 28) 4), (tb d (e + 32) 4, tb d (e + 36) 4),
   (tb d (e + 40) 4, tb d (e + 44) 4)]

/-- The code words of an entry. -/
def imgCode (d : List Byte) (e : Nat) : List Word :=
  (List.range (tb d (e + 8) 4 / 4)).map fun k => BitVec.ofNat 32 (tb d (tb d (e + 4) 4 + 4 * k) 4)

/-- Breaches of R518 in an entry, and a code word that fails R484. -/
def imgEntryBad (d : List Byte) (e : Nat) : Bool :=
  let len := tb d (e + 8) 4
  let entry := tb d (e + 12) 4
  decide (3 < tb d e 1) || tb d (e + 1) 3 != 0 || tb d (e + 48) 16 != 0
    || (imgSections d e).any (fun s => s.1 % 64 != 0)
    || len == 0 || len % 4 != 0 || entry % 4 != 0 || decide (len ≤ entry) || tb d (e + 16) 4 == 0
    || (imgCode d e).zipIdx.any fun c => !codeWordOk len (4 * c.2) c.1

/-- Do two entries name one task? -/
def imgTwice (d : List Byte) : Bool :=
  let ts := (imgEntries d).map fun e => tb d e 1
  (List.range 4).any fun t => decide (1 < (ts.filter (· == t)).length)

/-- Is the image SIGNED? -/
def imgSigned (d : List Byte) : Bool := (tb d 7 1).testBit 0

/-- The code with which an image in a bank of `size` bytes is refused, in the order of R519. DEDUCED (log 58): a LEN too short for the
header, the entries and the CRC is a length that breaks R518. -/
def imgRefusal (size : Nat) (d : List Byte) (sigOk : Bool) : Nat :=
  let len := tb d 8 4
  let n := tb d 6 1
  firstCode [
    (decide (size < len + 64 * b2n (imgSigned d) ∨ 4 < n)
      || (imgEntries d).any (fun e => (imgSections d e).any fun s => decide (len - 4 < s.1 + s.2)), eLen),
    (tb d 0 4 != 0xB2E5 || tb d 4 1 != 1 || tb d 5 1 != 1 || n == 0 || decide (1 < tb d 7 1) || tb d 17 47 != 0 || decide (len < 64 + 64 * n + 4)
      || (imgEntries d).any (imgEntryBad d) || imgTwice d, eRange),
    (crc32c (d.take (len - 4)) != tb d (len - 4) 4, eCrc),
    (imgSigned d && !sigOk, eSignature)]

/-- The entry that the device takes from an image. -/
def imgEnt (d : List Byte) (e : Nat) : ImgEnt :=
  let sec (i : Nat) : List Byte :=
    let s := (imgSections d e).getD i (0, 0)
    (d.drop s.1).take s.2
  { task := tb d e 1, code := imgCode d e, entry := tb d (e + 12) 4, retSig := tb d (e + 16) 4,
    locSig := tb d (e + 20) 4, reti := sec 1, loci := sec 2, wmap := sec 3, signed := imgSigned d }

namespace W

/-- The image of program bank A or B: its refusal code, and its entries where there is none. -/
def imgRead (w : W) (m : Memory) (bank : Nat) : Nat × List ImgEnt :=
  let base := w.partBase (1 + bank)
  let size := w.partSize (1 + bank)
  let len := w.mramN m (base + 8) 4
  if size < len then (eLen, [])
  else
    let d := w.mram m base (min size (len + 64))
    let sigOk := (w.keyView m).verifySig (tb d 16 1) (d.take len) ((d.drop len).take 64)
    let c := imgRefusal size d sigOk
    (c, if c = 0 then (imgEntries d).map (imgEnt d) else [])

/-- Reading the image of a bank meets the words of it that stand uncorrectable (R156). -/
def imgTouch (w : W) (m : Memory) (bank : Nat) : W :=
  let base := w.partBase (1 + bank)
  let size := w.partSize (1 + bank)
  let len := w.mramN m (base + 8) 4
  w.mramTouch base (if size < len then 64 else min size (len + 64))

/-- Bytes of code in an image. -/
def imgCodeLen (es : List ImgEnt) : Nat := (es.map fun e => 4 * e.code.length).foldl (· + ·) 0

/-- The code of an image does not fit into a half of the execution area (R467, step 4; R475). -/
def imgTooLong (w : W) (es : List ImgEnt) : Bool := decide (w.rdN R.SCAN_CODE_SIZE / 2 < imgCodeLen es)

/-- The code of an image loaded into a half of the execution area, whose layout the manual does not give. -/
def imgPlace (w : W) (half : Nat) : W :=
  w.undef (w.rdN R.SCAN_CODE_BASE + half * (w.rdN R.SCAN_CODE_SIZE / 2)) (w.rdN R.SCAN_CODE_SIZE / 2)

/-- A program image loaded at a start of PD4: the bank in force, else the other one with BANK_FALLBACK (R470). -/
def imgLoad (m : Memory) (w : W) : W :=
  let b := w.scan.bootBank
  let a := w.imgRead m b
  let good (r : Nat × List ImgEnt) : Bool := r.1 == 0 && !w.imgTooLong r.2
  let w := (w.wrN R.SCAN_BOOT_BANK b).imgTouch m b
  if good a then ({ w with scan.img := a.2, scan.half := 0 }).imgPlace 0
  else
    let o := w.imgRead m (1 - b)
    let w := w.imgTouch m (1 - b)
    if good o then
      ((({ w with scan.img := o.2, scan.half := 0 }).imgPlace 0).wrB R.SCAN_OLC_STAT 3 true).wrN R.SCAN_BOOT_BANK (1 - b)
    else { w with scan.img := [] }

end W

end Sys2Proof.Machine
end

