-- ==== Sys2Proof/Machine/Scan.lean ====
section
/-!
DEFINITION. Cyclic execution (chapter 10): task areas, station entries, forces, starts, the phases of a cycle, Triad
votes, GPIO pins, stops, and the on-line change.
-/
namespace Sys2Proof.Machine

/-- The two-out-of-three vote of R696 over 32-bit words of equal length: own words and the copies received, with the
number of words held by no two. -/
def voteWords : (own : List Word) → (c1 c2 : Option (List Word)) → List Word × Nat
  | [], _, _ => ([], 0)
  | x :: xs, some (a :: as), some (b :: bs) =>
    let (ys, k) := voteWords xs (some as) (some bs)
    if a = b then (a :: ys, k) else (x :: ys, if x = a ∨ x = b then k else k + 1)
  | x :: xs, some (a :: as), _ => let (ys, k) := voteWords xs (some as) none; (x :: ys, if x = a then k else k + 1)
  | x :: xs, _, some (b :: bs) => let (ys, k) := voteWords xs none (some bs); (x :: ys, if x = b then k else k + 1)
  | xs, _, _ => (xs, 0)

/-- Bytes as 32-bit words (R11), and back. -/
def toWords : List Byte → List Word
  | a :: b :: c :: d :: t => BitVec.ofNat 32 (leNat [a, b, c, d]) :: toWords t
  | _ => []
def ofWords (ws : List Word) : List Byte := ws.flatMap fun x => toLe 4 x.toNat

namespace W

/-! ## Tasks and their areas (R422, R435) -/

def tk (w : W) (n : Nat) : TaskSt := w.scan.task.getD n {}
def setTk (w : W) (n : Nat) (t : TaskSt) : W := { w with scan.task := w.scan.task.setIfInBounds n t }
def modTk (w : W) (n : Nat) (f : TaskSt → TaskSt) : W := w.setTk n (f (w.tk n))

/-- STATE of a task: 0 STOPPED, 1 STARTING, 2 RUN, 3 FAULT (R476). -/
def tstate (w : W) (n : Nat) : Nat := w.rdF (R.TASK_STATE n) 0 2

/-- Base and size of the data spaces: 0 IMG_IN, 1 IMG_OUT, 2 RET, 3 LOC, 4 SYSV. -/
def spBase (w : W) (n sp : Nat) : Nat :=
  w.rdN ([R.TASK_IN_BASE n, R.TASK_OUT_BASE n, R.TASK_RET_BASE n, R.TASK_LOC_BASE n, R.TASK_SYSV_BASE n].getD sp 0)
def spSize (w : W) (n sp : Nat) : Nat :=
  if sp = 4 then 2048
  else w.rdN ([R.TASK_IN_SIZE n, R.TASK_OUT_SIZE n, R.TASK_RET_SIZE n, R.TASK_LOC_SIZE n].getD sp 0)

def retUp (w : W) (n : Nat) : Nat := (w.spSize n 2 + 63) / 64 * 64
/-- The committed copies of IMG_OUT and RET. -/
def outC (w : W) (n : Nat) : Nat := w.spBase n 1 + w.spSize n 1
def retC (w : W) (n : Nat) : Nat := w.spBase n 2 + w.retUp n

/-- Bytes copied inside the memories. -/
def copy (w : W) (m : Memory) (src dst n : Nat) : W := w.putBytes dst (w.bytes m src n)

/-- The lockstep pair of task n is active (R471). -/
def lockstep (w : W) (n : Nat) : Bool := w.rdB R.SCAN_LOCKSTEP (n / 2)
/-- Task n is the checker of an active lockstep pair. -/
def isChecker (w : W) (n : Nat) : Bool := n % 2 == 1 && w.lockstep n

/-! ## Forces (R454 to R458) -/

def frcAddr (w : W) (e : Nat) : Word := w.rd (R.FRC_FRCe_ADDR e)
def frcEn (w : W) (e : Nat) : Bool := bit (w.frcAddr e) 31
/-- The enabled entries. -/
def frcSet (w : W) : List Nat := those 64 w.frcEn

/-- A change of the set of enabled entries raises FORCE_CHANGE (R456). -/
def frcChange (w0 w : W) : W := w.raiseIf (w0.frcSet != w.frcSet) E.FRC_FORCE_CHANGE

/-- Every entry for which `p` holds is disabled. -/
def frcClear (p : Word → Bool) (w : W) : W :=
  frcChange w ((List.range 64).foldl (fun w e =>
    if p (w.frcAddr e) then w.wrF (R.FRC_FRCe_ADDR e) 30 2 0 else w) w)

/-- The enabled entries of a task and space act, the lower-numbered prevailing (R454). DESIGN CHOICE (log 58): an entry whose
word a later change of the size has put outside the image acts on nothing; R455 checks it only when EN is written. -/
def frcApply (w : W) (m : Memory) (n sp : Nat) : W :=
  (List.range 64).foldr (fun e w =>
    let a := w.frcAddr e
    let o := fld a 0 18
    if bit a 31 ∧ fld a 18 2 = n ∧ fld a 20 1 = sp ∧ o + 4 ≤ w.spSize n sp then
      let at_ := w.spBase n sp + o
      let mask := w.rd (R.FRC_FRCe_MASK e)
      let old := BitVec.ofNat 32 (w.get m at_ 4)
      w.put at_ 4 ((old &&& ~~~mask) ||| (w.rd (R.FRC_FRCe_VALUE e) &&& mask)).toNat
    else w) w

/-- FORCE_IND and SCAN.STAT.FORCED (R456). -/
def forced (w : W) : Bool := w.dom 4 == 1 && w.frcSet != []

/-- A word of IMG_OUT is marked in a write map (R518). -/
def wmapMarked (wm : List Byte) (word : Nat) : Bool := (wm.getD (word / 8) 0).toNat.testBit (word % 8)

/-- Output entries that the code of each task does not know are orphaned (R458). -/
def frcOrphans (w : W) (img : List ImgEnt) : W :=
  (List.range 64).foldl (fun w e =>
    let a := w.frcAddr e
    let wm := ((img.find? fun x => x.task == fld a 18 2).map (·.wmap)).getD []
    if bit a 31 && bit a 20 && !wmapMarked wm (fld a 0 18 / 4) && !bit a 30 then
      (w.wrB (R.FRC_FRCe_ADDR e) 30 true).raise E.FRC_FORCE_ORPHAN
    else w) w

/-! ## Station entries (R445, R446, R548) -/

/-- Entry j of the station table as it stands in system SRAM. -/
def stnEntry (w : W) (m : Memory) (j : Nat) : Option Stn :=
  let a := w.rdN R.SCAN_STN_BASE + 16 * j
  if w.rdN R.SCAN_STN_COUNT ≤ j then none
  else
    let c := w.get m (a + 4) 1
    some { idx := j, idw := BitVec.ofNat 32 (w.get m a 4), chan := c % 16, task := c / 16 % 4, en := c.testBit 6,
           hold := c.testBit 7, inLen := w.get m (a + 5) 1, outLen := w.get m (a + 6) 1, timeout := w.get m (a + 8) 2,
           inOff := w.get m (a + 10) 2, outOff := w.get m (a + 12) 2 }

/-- The station block of an entry in IMG_IN: offset and bytes (R447). -/
def stnBlock (s : Stn) : Nat × Nat := (4 * s.inOff, 4 + s.inLen)

/-- The enabled cross-links of a task: source task, source offset, destination offset, bytes (R439). -/
def xlinks (w : W) (n : Nat) : List (Nat × Nat × Nat × Nat) :=
  (List.range 8).filterMap fun i =>
    let s := w.rd (R.TASK_XLINKi_SRC n i)
    let d := w.rd (R.TASK_XLINKi_DST n i)
    if bit s 31 then some (fld s 18 2, fld s 0 18, fld d 0 18, 4 * fld d 20 12) else none

/-- An entry is refused when it is latched (R446, R548). -/
def stnBad (w : W) (n : Nat) (s : Stn) (others : List Stn) : Bool :=
  let fd := bit s.idw 30
  let blocks := others.map stnBlock ++ (w.xlinks n).map fun l => (l.2.2.1, l.2.2.2)
  decide (4 * s.inOff < 0x40 ∨ w.spSize n 0 < 4 * s.inOff + 4 + s.inLen ∨ w.spSize n 1 < 4 * s.outOff + s.outLen
      ∨ s.timeout = 0 ∨ s.outLen = 1)
    || !canLenOk s.inLen fd || !canLenOk s.outLen fd || (fd && !w.canFd s.chan) || (bit s.idw 31 && !fd)
    || blocks.any (overlaps (stnBlock s))

/-- The entries of the table whose owner is task n. -/
def stnTable (w : W) (m : Memory) (n : Nat) : List Stn :=
  ((List.range (w.rdN R.SCAN_STN_COUNT)).filterMap fun j => w.stnEntry m j).filter fun s => s.task == n

/-- Station entries in ascending table index. -/
def stnInsert (s : Stn) : List Stn → List Stn
  | [] => [s]
  | x :: t => if s.idx < x.idx then s :: x :: t else if s.idx = x.idx then s :: t else x :: stnInsert s t

/-- The scheduled entries of task n are latched at its phase 1 (R446). -/
def stnLatch (w : W) (m : Memory) (n : Nat) : W :=
  let due := w.scan.upd.filter fun e => e.2 == n
  let w := { w with scan.upd := w.scan.upd.filter fun (e : Nat × Nat) => e.2 != n }
  due.foldl (fun w e =>
    match w.stnEntry m e.1 with
    | none => w.err 0x0A eRange
    | some s =>
      let others := w.scan.stn.filter fun x => x.task == n && x.idx != e.1
      if s.task ≠ n ∨ w.stnBad n s others = true then w.err 0x0A eRange
      else
        let s := match w.stn e.1 with
          | some old => if old.task = n then { s with qual := old.qual, age := old.age, rx := old.rx, got := old.got, miss := old.miss, ever := old.ever, data := old.data, slot := old.slot, slotAt := old.slotAt, window := old.window } else s
          | none => s
        { w with scan.stn := stnInsert s w.scan.stn }) w

/-- QUAL, AGE and the block of a station at a phase 1 of its owner (R447, R450, R453). -/
def stnInput (w : W) (n : Nat) (s : Stn) : W :=
  let (q, age) :=
    if (w.canCh s.chan).live && (w.canCh s.chan).busoff then (3, s.age + 1)
    else if !s.ever then (2, 255)
    else if s.got then (0, 0)
    else if s.miss || s.qual != 0 then (1, s.age + 1)
    else (0, s.age + 1)
  let w := w.setStn { s with qual := q, age := min 255 age, got := false, miss := false }
  let d := s.data.take s.inLen
  let w := w.putBytes (w.spBase n 0 + 4 * s.inOff)
    (toLe 1 q ++ toLe 1 (min 255 age) ++ toLe 1 s.rx ++ [0] ++ d ++ List.replicate (s.inLen - d.length) 0)
  let lost := s.qual == 0 && q != 0
  let back := q == 0 && (s.qual == 1 || s.qual == 3)
  let w := if lost || back then w.wrN R.SCAN_LAST_STN (s.idx + 2 ^ 16 * q) else w
  (w.raiseIf lost E.SCAN_STN_LOST).raiseIf back E.SCAN_STN_BACK

/-- Enabled stations with QUAL GOOD (R475). -/
def stnGood (w : W) : Nat := (w.scan.stn.filter fun s => s.en && s.qual == 0).length

/-! ## GPIO pins (R440, R442 to R444) -/

def gpioCfg (w : W) (i : Nat) : Word := w.rd (R.GPIO_GPIOi_CFG i)
def gpioMode (w : W) (i : Nat) : Nat := fld (w.gpioCfg i) 0 2
def gpioOn (w : W) (i : Nat) : Bool := w.rdB (R.H_CTRL 0x41) 0 && w.gpioMode i != 0

/-- IN bit i (R444). -/
def gpioBit (w : W) (i : Nat) : Bool :=
  w.gpioOn i && match w.scan.gpioIn.getD i none with | some l => l != bit (w.gpioCfg i) 3 | none => false
def gpioIn (w : W) : Word := BitVec.ofNat 32 (bitsOf 32 w.gpioBit)

/-- The level that its source gives a pin: the owner's image, or OUT (R440, R443). -/
def gpioSrc (w : W) (i : Nat) : Option Bool :=
  if w.gpioMode i = 3 then some (w.rdB R.GPIO_OUT i)
  else if w.gpioMode i = 2 then
    let o := w.rdF (R.SCAN_GPIO_OWN (i / 8)) (4 * (i % 8)) 4
    if o.testBit 3 && w.tstate (o % 4) == 2 then (w.scan.gpio.getD (o % 4) none).map fun v => bit v i else none
  else none

/-- The level driven on pad i, none while it is high-impedance (R443). -/
def gpioPad (w : W) (i : Nat) : Option Bool :=
  if w.rdB (R.H_CTRL 0x41) 0 && w.padsOn && !w.pwr.held then
    match w.gpioSrc i with
    | some l =>
      let l := l != bit (w.gpioCfg i) 3
      if bit (w.gpioCfg i) 2 && l then none else some l
    | none => none
  else none
def gpioDriven (w : W) : Word := BitVec.ofNat 32 (bitsOf 32 fun i => (w.gpioPad i).isSome)

/-- A level of an input pin is accepted (R444). -/
def gpioAccept (i : Nat) (level : Bool) (w : W) : W :=
  if w.gpioOn i then { w with scan.gpioIn := w.scan.gpioIn.setIfInBounds i (some level) } else w

/-- A write to a GPIO register (R442, R444). -/
def gpioWrite (w : W) (o : Nat) (v : Word) : Option W :=
  if o = 0x048 then some (w.wr R.GPIO_OUT (w.rd R.GPIO_OUT ||| v))
  else if o = 0x04C then some (w.wr R.GPIO_OUT (w.rd R.GPIO_OUT &&& ~~~v))
  else if 0x080 ≤ o ∧ o < 0x100 then
    let i := (o - 0x080) / 4
    let was := w.gpioMode i
    let w := w.wr (R.GPIO_GPIOi_CFG i) (v &&& 0xFF0F#32)
    some (if was = 0 then { w with scan.gpioIn := w.scan.gpioIn.setIfInBounds i none } else w)
  else none

/-- CTRL.EN of the GPIO page becomes 1: every input is switched on anew (R444). -/
def gpioEnable (w : W) : W := { w with scan.gpioIn := Vector.replicate 32 none }

/-! ## Leaving RUN (R459, R460, R497, R500) -/

/-- The engine of task n copied into its snapshot (R500). -/
def snapshot (w : W) (n cause : Nat) : W :=
  let s : Snap := { valid := true, cause := cause, cycle := (w.tk n).cyc % 2 ^ 32, eng := w.scan.eng.getD n {} }
  { w with scan.snap := w.scan.snap.setIfInBounds n s }

/-- The key handles of task n: done jobs are freed, the others at their end (R515). -/
def keyOrphan (w : W) (n : Nat) : W :=
  let js := w.key.jobs.filter fun j => j.host || j.task != n || j.state != 3
  let w := { w with key.jobs := js.map fun (j : SecJob) => if !j.host && j.task == n then { j with orphan := true } else j }
  w.keySync

/-- Task n stops its cycles: STOPPED, or FAULT with a reason (R459, R460, R516). A task that an on-line change found running and
that has entered FAULT stays due until its next start (R469). -/
def taskHalt (w : W) (n st rsn : Nat) : W :=
  let was := w.tstate n
  let w := w.modTk n fun t => { t with phase := 0, stopReq := false, vote := Vector.replicate 2 none,
                                       switchDue := t.switchDue && (st == 3 || was == 3) }
  let w := (w.wrF (R.TASK_STATE n) 0 2 st).wrF (R.TASK_STATE n) 8 4 (if st = 3 then rsn else w.rdF (R.TASK_STATE n) 8 4)
  let w := if was = 2 then
      (({ w with scan.gpio := w.scan.gpio.setIfInBounds n none }).safDropTask n).keyOrphan n
    else w
  (w.raiseIf (st == 3) (E.TASK_TFAULT n)).health

/-- A trap (R497, R498). -/
def trap (w : W) (n code sp pc : Nat) : W :=
  let w := (w.wrN (R.TASK_TRAP n) (code + 16 * sp)).wrN (R.TASK_TRAP_PC n) pc
  (w.snapshot n 1).taskHalt n 3 4

/-! ## On-line change (R467 to R469) -/

/-- Step of an on-line change. -/
def olcStep (w : W) : Nat := w.rdF R.SCAN_OLC_STAT 0 3
/-- A change is in progress. -/
def olcBusy (w : W) : Bool := decide (1 ≤ w.olcStep ∧ w.olcStep ≤ 6)

/-- Step 6: the new image is in force and its bank recorded in the boot and configuration partition, a write of one of that
partition's sectors (R158, R467); which one is not stated, so it is free (log 44). -/
def olcFinish (w : W) : W :=
  if w.olcStep ≠ 5 ∨ (List.range 4).any (fun n => (w.tk n).switchDue) = true then w
  else match w.scan.next with
    | none => w
    | some img =>
      let b := w.rdF R.SCAN_OLC_CTRL 0 1
      let w := { w with scan.img := img, scan.next := none, scan.half := 1 - w.scan.half, scan.bootBank := b }
      let (w, k) := w.fresh 24
      let w := w.wear (w.phys (w.partBase 0 + k % max 1 (w.partSize 0)) / 4096)
      let w := ((w.wrN R.SCAN_BOOT_BANK b).wrF R.SCAN_OLC_STAT 0 3 0).wrB R.SCAN_OLC_CTRL 31 false
      (w.raise E.SCAN_OLC_DONE).frcOrphans img

/-- Task n switches to the new code at its cycle boundary (R468). -/
def olcSwitch (w : W) (n : Nat) : W :=
  match (w.scan.next.getD []).find? fun e => e.task == n with
  | none => w
  | some e =>
    let keep := ((w.tk n).ent.map (·.locSig)) == some e.locSig
    let w := if keep then w
      else
        (w.putBytes (w.spBase n 3) (e.loci ++ List.replicate (w.spSize n 3 - e.loci.length) 0)).wrB (R.TASK_STATE n) 6 true
    (w.modTk n fun t => { t with ent := some e, first := 0, switchDue := false,
                                 worldS := e.signed && w.lockstep n }).olcFinish

/-- The code of a write of OLC_CTRL with GO, in the order of R75 within each step (R467). -/
def olcCode (w : W) (m : Memory) (v : Word) : Nat :=
  let b := fld v 0 1
  let step1 := firstCode [(b == w.rdF R.SCAN_BOOT_BANK 0 1, eState), (w.olcBusy, eBusy)]
  if step1 ≠ 0 then step1
  else
    let (c, es) := w.imgRead m b
    if c ≠ 0 then c
    else
      let run := those 4 fun n => w.tstate n == 2
      let ent (n : Nat) : Option ImgEnt := es.find? fun e => e.task == n
      let step3 := firstCode [
        (run.any (fun n => (ent n).isNone), eState),
        (run.any (fun n => match ent n with
          | some e => decide (w.spSize n 2 < e.reti.length ∨ w.spSize n 3 < e.loci.length) | none => false), eLen),
        (run.any (fun n => match ent n with
          | some e => e.retSig != w.rdN (R.TASK_RET_SIG n) | none => false), eSignature)]
      if step3 ≠ 0 then step3 else if w.imgTooLong es then eLen else 0

/-- An accepted change loads its code (step 4); the tasks that run now are those that will switch, or start from the new code
after a FAULT (R467, R469). -/
def olcAccept (w : W) (m : Memory) (v : Word) : W :=
  let w := ({ w with scan.next := some (w.imgRead m (fld v 0 1)).2 } : W).imgTouch m (fld v 0 1)
  let w := (those 4 fun n => w.tstate n == 2).foldl (fun w n => w.modTk n fun t => { t with switchDue := true }) w
  (w.wrN R.SCAN_OLC_CTRL (fld v 0 1 + 2 ^ 31)).wrN R.SCAN_OLC_STAT (4 + 8 * w.rdF R.SCAN_OLC_STAT 3 1)

/-- A refused change (R467): STEP 7 unless the refusal leaves another change in progress. -/
def olcRefused (w : W) (m : Memory) (code : Nat) (v : Word) : W :=
  let b := fld v 0 1
  -- the image is read only past step 1
  let w := if b = w.rdF R.SCAN_BOOT_BANK 0 1 ∨ w.olcBusy = true then w else w.imgTouch m b
  let w := if w.olcBusy then w else w.wrF R.SCAN_OLC_STAT 0 3 7
  (w.wrF R.SCAN_OLC_STAT 16 16 code).raise E.SCAN_OLC_FAIL

/-- The load of step 4 ends: every running task switches at its next boundary, a task between its cycles at once. -/
def olcLoadDone (w : W) : W :=
  if w.olcStep ≠ 4 then w
  else
    let w := (w.imgPlace (1 - w.scan.half)).wrF R.SCAN_OLC_STAT 0 3 5
    let w := (those 4 fun n => w.tstate n == 2).foldl (fun w n => if (w.tk n).phase = 0 then w.olcSwitch n else w) w
    w.olcFinish

/-! ## Starts (R424, R459, R461 to R465, R522) -/

/-- The five areas of a task with SYSV always counted. -/
def ownAreas (w : W) (n : Nat) : List (Nat × Nat) := (w.taskAreas n).take 4 ++ [(w.spBase n 4, 2048)]

/-- An on-line change waits for task n (R467, R469). -/
def switchWaits (w : W) (n : Nat) : Bool := (w.tk n).switchDue && w.olcStep == 5

/-- The code of task n for its next start: the new image for a task that an on-line change still waits for (R469). -/
def startEnt (w : W) (n : Nat) : Option ImgEnt :=
  (if w.switchWaits n then w.scan.next.getD [] else w.scan.img).find? fun e => e.task == n

/-- A scheduled entry of task n whose TASK field now differs from the one read at the write refuses the start (R446). DESIGN CHOICE
(log 58): it stays scheduled then, since a refused start latches nothing. -/
def updMoved (w : W) (m : Memory) (n : Nat) : Bool :=
  w.scan.upd.any fun u => u.2 == n && (match w.stnEntry m u.1 with | some s => s.task != n | none => true)

/-- The code with which a start is refused, in the order of R461. -/
def startCode (w : W) (m : Memory) (n : Nat) : Nat :=
  let own := w.ownAreas n
  let others := ((List.range 4).filter (· != n)).flatMap w.taskAreas ++ w.fixedAreas ++ [w.cwArea]
  let size (sp : Nat) : Nat := w.spSize n sp
  let per := w.rdN (R.TASK_PERIOD n)
  let ent := w.startEnt n
  let stns := w.stnTable m n
  let links := w.xlinks n
  firstCode [
    (w.tstate n != 0 || w.isChecker n || ent.isNone, eState),
    ((List.range 4).any (fun sp => decide (262144 < size sp)) || own.any (fun a => a.2 != 0 && !inSystem a.1 a.2)
      || decide (1048504 < ((List.range 4).map fun t => w.spSize t 2).foldl (· + ·) 0)
      || (match ent with | some e => decide (size 2 < e.reti.length ∨ size 3 < e.loci.length) | none => false), eLen),
    (decide (per < 500 ∨ 60000000 < per ∨ per % 100 ≠ 0)
      || (w.rdB (R.TASK_CFG n) 2 && decide (per ≤ w.rdN (R.TASK_PHASE n)))
      || decide (size 0 < 64 ∨ size 1 < 64 ∨ size 3 < 64)
      || own.any (fun a => a.1 % 64 != 0) || own.any (fun a => others.any (overlaps a))
      || own.zipIdx.any (fun a => (own.drop (a.2 + 1)).any (overlaps a.1))
      || stns.any (fun s => w.stnBad n s (stns.filter fun x => x.idx != s.idx)) || w.updMoved m n
      || links.any (fun l => decide (l.2.2.1 < 0x40 ∨ l.2.2.2 = 0 ∨ size 0 < l.2.2.1 + l.2.2.2
           ∨ w.spSize l.1 1 < l.2.1 + l.2.2.2))
      || (those 4 fun t => t != n && w.tstate t != 0).any (fun t =>
           (w.xlinks t).any fun l => l.1 == n && decide (size 1 < l.2.1 + l.2.2.2)), eRange),
    (w.olcBusy && !w.switchWaits n, eBusy)]

/-- The first grid instant of a task that enters RUN now (R424); with SYNC the time of day is that of the last XT32 edge,
`edge` TSC counts ago at sub-second `sub`. At midnight it begins again. -/
def firstInstant (w : W) (n edge sub : Nat) (sync : Bool) : Nat :=
  let c0 := w.tsc.toNat + 10000
  if sync then
    -- in 1/128 TSC counts: a day; the time of day at count 0, counted back from that at c0; the phase and the period
    let day : Int := 128 * 86400 * 100000000
    let t0 : Int := 128 * 100000000 * ((w.rd64 R.RTC_EPOCH_S % 86400 : Nat) : Int) + (sub * 390625 : Nat)
      - 128 * ((w.tsc.toNat : Int) - edge)
    let t0 := if day ≤ t0 + 128 * c0 then t0 - day else t0
    let ph : Int := ((128 * 100 * w.rdN (R.TASK_PHASE n) : Nat) : Int)
    let p : Int := ((128 * 100 * w.rdN (R.TASK_PERIOD n) : Nat) : Int)
    let target := ((t0 + 128 * ((c0 : Int) - 1) - ph) / p + 1) * p + ph
    let target := if day ≤ target then day + ph else target
    (-((t0 - target) / 128)).toNat
  else (c0 + 9999) / 10000 * 10000

/-- A start that its checks accept (R462 to R464). -/
def taskStart (w : W) (m : Memory) (n : Nat) (warm : Bool) (edge sub : Nat) : W :=
  match w.startEnt n with
  | none => w
  | some e =>
    let stns := w.stnTable m n
    let rest := w.scan.stn.filter fun s => s.task != n && !(stns.any fun x => x.idx == s.idx)
    let w := { w with scan.stn := stns.foldl (fun l s => stnInsert s l) rest,
                      scan.upd := w.scan.upd.filter fun (u : Nat × Nat) => u.2 != n }
    let sig := w.rdN (R.TASK_RET_SIG n)
    let cold := !(warm && sig != 0 && sig == e.retSig)
    let zero (k : Nat) : List Byte := List.replicate k 0
    let w := w.putBytes (w.spBase n 0) (zero (w.spSize n 0))
    let w := w.putBytes (w.spBase n 1) (zero (2 * w.spSize n 1))
    let w := w.putBytes (w.spBase n 3) (e.loci ++ zero (w.spSize n 3 - e.loci.length))
    let w := if cold then
        let w := w.frcClear fun a => fld a 18 2 == n
        let ret := e.reti ++ zero (w.retUp n - e.reti.length)
        ((w.putBytes (w.spBase n 2) ret).putBytes (w.retC n) ret).wrN (R.TASK_RET_SIG n) e.retSig
      else w.copy m (w.retC n) (w.spBase n 2) (w.retUp n)
    let want := w.rdB (R.TASK_CFG n) 2
    let ok := w.rdB R.RTC_STAT 1 && !w.tinv
    let last := if cold then (if warm then 3 else 2) else 1
    let rsn := if warm && cold then (if sig = 0 then 2 else 1) else 0
    let w := w.wrN (R.TASK_STATE n) (2 + 4 * last + 16 * rsn + 128 * b2n (want && !ok))
    let w := (w.wr64 (R.TASK_CYCLES n) 0).wrN (R.TASK_OVR_CNT n) 0
    let w := ((w.wr (R.TASK_SKIP_CNT n) 0).wr (R.TASK_LAST_EXEC n) 0).wr (R.TASK_MAX_EXEC n) 0
    let w := (w.wr (R.TASK_MIN_IDLE n) 0xFFFFFFFF#32).wr (R.TASK_TRAP n) 0
    let t : TaskSt := { ent := some e, grid := w.firstInstant n edge sub (want && ok), first := if cold then 1 else 2,
                        worldS := e.signed && w.lockstep n }
    let s : Snap := { w.scan.snap.getD n {} with valid := false }
    let w := { w.setTk n t with scan.snap := w.scan.snap.setIfInBounds n s }
    (w.raise (E.TASK_TSTART n)).olcFinish

/-- The code of a write of TASKn.CMD (R459, R460, R476). -/
def taskCmdCode (w : W) (m : Memory) (n : Nat) (v : Word) : Nat :=
  let c := fld v 0 3
  if c = 1 ∨ c = 2 then w.startCode m n
  else if c = 3 then (if w.tstate n = 2 then 0 else eState)
  else if c = 4 then (if w.tstate n = 3 then 0 else eState)
  else eRange

/-- An accepted write of TASKn.CMD. -/
def taskCmd (w : W) (m : Memory) (n : Nat) (v : Word) (edge sub : Nat) : W :=
  let c := fld v 0 3
  if c = 1 ∨ c = 2 then w.taskStart m n (c == 1) edge sub
  else if c = 3 then
    (if (w.tk n).phase = 0 then (w.taskHalt n 0 0).olcFinish else w.modTk n fun t => { t with stopReq := true })
  else w.taskHalt n 0 0

/-- The start of a task with CFG.AUTO at host release (R459); a refusal is recorded in its page. -/
def taskAuto (m : Memory) (edge sub : Nat) (w : W) : W :=
  (List.range 4).foldl (fun w n =>
    let a := w.rdF (R.TASK_CFG n) 0 2
    if w.dom 4 = 1 ∧ (a = 1 ∨ a = 2) ∧ w.tstate n = 0 then
      let c := w.startCode m n
      if c = 0 then w.taskStart m n (a == 1) edge sub else w.err (0x0B + n) c
    else w) w

/-! ## Phase 1 (R426, R427, R436 to R439, R684, R696) -/

/-- The newest complete Crosswind copy of task n is applied (R684), also by a unit that has taken over since (R686): its lines are those
that R684 lets apply (`copyReceive`), and a whole copy makes the task current unless a later one was missed. -/
def cwApply (w : W) (n : Nat) : W :=
  match w.tw.cw.getD n none with
  | none => w
  | some c =>
    let w := { w with tw.cw := w.tw.cw.setIfInBounds n none }
    let w := w.putBytes (w.outC n) (c.out.take (w.spSize n 1))
    let w := if c.whole && !w.tw.cwGap.getLsbD n then w.setCur n true else w
    c.lines.foldl (fun w l =>
      let d := l.2.take (w.retUp n - l.1)
      (w.putBytes (w.spBase n 2 + l.1) d).putBytes (w.retC n + l.1) d) w

/-- SYSV (R437, R438). DESIGN CHOICE (log 58): where PD2 is unavailable QSEQ reads zero as the values do. -/
def sysv (w : W) (n : Nat) : W :=
  let t := w.tk n
  let b := w.spBase n 4
  let up := w.dom 2 == 1
  let pstamp := if t.cyc = 0 then t.grid else t.cstamp
  let seq := w.rdN R.QTY_FRZ_SEQ
  let keep := up && seq % 2 == 1
  let word (c : Bool) (v : Nat) : List Byte := toLe 4 (if c then v else 0)
  let head := toLe 8 t.grid ++ toLe 8 pstamp ++ toLe 8 t.cyc ++ toLe 4 (w.rdN (R.TASK_PERIOD n)) ++ toLe 1 t.first
    ++ toLe 1 (b2n t.ovr) ++ [0, 0] ++ toLe 4 w.rtcValid.toNat ++ toLe 2 (w.rdF R.RED_CLAIM 0 16) ++ [0, 0]
    ++ toLe 4 t.skipped
  let w := (w.putBytes b head).putBytes (b + 0x30) (List.replicate 16 0)
  let w := w.putBytes (b + 0x40) (((List.range 16).flatMap fun i => word up (w.rdN (R.AFE_RTm_T i)))
    ++ ((List.range 16).flatMap fun i => toLe 1 (if up then w.rdN (R.AFE_RTm_STAT i) else 0))
    ++ ((List.range 4).flatMap fun i => word up (w.rdN (R.MTR_FREQ i))) ++ List.replicate 96 0)
  let w := if keep then w
    else (w.put (b + 0x2C) 4 (if up then seq else 0)).putBytes (b + 0x100)
      ((List.range 168).flatMap fun s => word up (w.rdN (R.QTY_Qs_FINE s)) ++ word up (w.rdN (R.QTY_Qs_FINE_HI s)))
  w.putBytes (b + 0x640) (List.replicate 448 0)

/-- The working registers, the flags, the stack and the program counter at the start of phase 2 (R479). -/
def logicStart (w : W) (n : Nat) : W :=
  let g : Eng := { pc := ((w.tk n).ent.map (·.entry)).getD 0 }
  { w.modTk n fun t => { t with phase := 2, vote := Vector.replicate 2 none } with
    scan.eng := w.scan.eng.setIfInBounds n g }

/-- A vote over words of system SRAM with the copies received (R696). -/
def vote (w : W) (m : Memory) (a len : Nat) (c1 c2 : Option (List Byte)) : W :=
  let (ws, dis) := voteWords (toWords (w.bytes m a len)) (c1.map toWords) (c2.map toWords)
  let w := w.wrN R.RED_VOTE_DIS (satAdd 32 (w.rdN R.RED_VOTE_DIS) dis)
  let w := if c1.isNone || c2.isNone then w.wrB R.RED_TRIAD_STAT 2 true else w
  w.putBytes a (ofWords ws)

/-- The vote of phase 1, over the user area of IMG_IN. -/
def voteIn (w : W) (m : Memory) (n : Nat) (c1 c2 : Option (List Byte)) : W :=
  w.vote m (w.spBase n 0 + 0x40) (w.spSize n 0 - 0x40) c1 c2
/-- The vote of phase 3, over IMG_OUT. -/
def voteOut (w : W) (m : Memory) (n : Nat) (c1 c2 : Option (List Byte)) : W :=
  w.vote m (w.spBase n 1) (w.spSize n 1) c1 c2

/-- Phase 1 at the grid instant (R426, R427). -/
def inputLatch (w : W) (m : Memory) (n : Nat) : W :=
  let w := { w with tsc := if w.tsc.toNat < (w.tk n).grid then BitVec.ofNat 64 (w.tk n).grid else w.tsc }
  let w := (w.cwApply n).sysv n
  let w := w.modTk n fun t => { t with cstamp := t.grid, first := 0, dirty := [] }
  let ib := w.spBase n 0
  let w := w.putBytes ib (toLe 32 (w.evt.seLatch.getD n 0).toNat)
  let w := { w with evt.seLatch := w.evt.seLatch.setIfInBounds n 0 }
  let w := w.putBytes (ib + 0x20) (toLe 4 w.gpioIn.toNat ++ List.replicate 28 0)
  let w := w.stnLatch m n
  let w := (w.scan.stn.filter fun s => s.en && s.task == n).foldl (fun w s => w.stnInput n s) w
  let w := (w.xlinks n).foldl (fun w l => w.copy m (w.outC l.1 + l.2.1) (ib + l.2.2.1) l.2.2.2) w
  w.frcApply m n 0

/-- A grid instant of task n: phase 1, in Triad mode with the copies of its neighbours that have arrived (R696). -/
def cycleLatch (n : Nat) (c1 c2 : Option (List Byte)) (m : Memory) (w : W) : W :=
  if w.dom 4 ≠ 1 ∨ w.tstate n ≠ 2 ∨ (w.tk n).phase ≠ 0 then w
  else
    let w := w.inputLatch m n
    if !w.triad then w.logicStart n
    else if c1.isSome && c2.isSome then (w.voteIn m n c1 c2).logicStart n
    else w.modTk n fun t => { t with phase := 1, vote := #v[c1, c2] }

/-! ## Phases 3 and 4 (R426, R430 to R433, R440, R441, R448, R682, R683, R696) -/

/-- A duration of TSC counts in whole µs (R476); what a fraction makes of it is not stated. -/
def toUs (tag counts : Nat) : Nat :=
  (rounded tag counts 100).toNat

/-- Phase 4 of task n sends a copy: the active unit of a pair with COPY enabled (R682). -/
def copies (w : W) (n : Nat) : Bool :=
  w.paired && w.hasClaim && w.rdB R.RED_COPY_CFG n && !w.tw.nocopy.getLsbD n && w.redMode == 1

/-- Phase 4: the copy message of the active unit, `d4` long, and whether it passes the next grid instant (R432, R682,
R683, R685). `current` is what the standby reports of the task. -/
def copyPhase (w : W) (m : Memory) (n end3 d4 next : Nat) (current : Bool) : W :=
  if !w.copies n then w
  else
    let bitn : BitVec 4 := BitVec.ofNat 4 (2 ^ n)
    let ask := w.tw.resync.getLsbD n
    let cur := current && !ask
    let w := { w with tw.rep := if cur then w.tw.rep ||| bitn else w.tw.rep &&& ~~~bitn, tw.resync := w.tw.resync &&& ~~~bitn }
    let late := decide (next < end3 + d4)
    let c : CwCopy :=
      { cycle := (w.tk n).cyc, cstamp := (w.tk n).cstamp, whole := !cur, crc := 0, out := w.bytes m (w.outC n) (w.spSize n 1),
        lines := if cur then (w.tk n).dirty.map fun l => (64 * l, w.bytes m (w.retC n + 64 * l) 64)
          else [(0, w.bytes m (w.retC n) (w.spSize n 2))] }
    let c := { c with crc := crc32c (cwBody n c) }
    let w := w.wrN R.RED_COPY_LAST (toUs 685 (if late then next - end3 else d4))
    let w := if late then
        (({ w with tw.rep := w.tw.rep &&& ~~~bitn }).incSat R.RED_COPY_LATE_CNT).raise E.RED_COPY_LATE
      else { w with tw.cwSent := some (n, c) }
    w.staleSync

/-- Phase 3 from the commit on, phase 4, and the end of the cycle (R426, R430 to R433). `d3` and `d4` are the durations of
the two phases in TSC counts. DESIGN CHOICE (log 58): where one phase 4 ends both a STOP (R459) and the last overrun of R433,
the task is STOPPED. -/
def cycleEnd (w : W) (m : Memory) (n d3 d4 : Nat) (current : Bool) : W :=
  let p := 100 * w.rdN (R.TASK_PERIOD n)
  let t := w.tk n
  let end3 := w.tsc.toNat + d3
  let w := w.copy m (w.spBase n 1) (w.outC n) (w.spSize n 1)
  let w := t.dirty.foldl (fun w l => w.copy m (w.spBase n 2 + 64 * l) (w.retC n + 64 * l) 64) w
  let w := (w.scan.stn.filter fun s => s.en && s.task == n).foldl (fun w s =>
    w.stnHand s (s.outLen == 0 || (s.hold && s.qual != 0)) end3) w
  let w := { w with scan.gpio := w.scan.gpio.setIfInBounds n (some (BitVec.ofNat 32 (w.get m (w.spBase n 1) 4))) }
  let overrun := decide (t.grid + p < end3)
  let k := if end3 ≤ t.grid + p ∨ p = 0 then 1 else (end3 - t.grid + p - 1) / p
  let next := t.grid + k * p
  let exec := toUs 476 (end3 - t.grid)
  let w := (w.wrN (R.TASK_LAST_EXEC n) exec).wrN (R.TASK_MAX_EXEC n) (max exec (w.rdN (R.TASK_MAX_EXEC n)))
  let w := if overrun then
      let w := (w.incSat (R.TASK_OVR_CNT n)).wrN (R.TASK_SKIP_CNT n) (satAdd 32 (w.rdN (R.TASK_SKIP_CNT n)) (k - 1))
      w.raise (E.TASK_OVERRUN n)
    else w
  let w := w.copyPhase m n end3 d4 next current
  let end4 := min next (end3 + (if w.copies n then d4 else 0))
  let idle := if overrun then 0 else toUs 477 (next - end4)
  let w := w.wrN (R.TASK_MIN_IDLE n) (min idle (w.rdN (R.TASK_MIN_IDLE n)))
  let w := w.wr64 (R.TASK_CYCLES n) (w.rd64 (R.TASK_CYCLES n) + 1)
  let run := if overrun then t.ovrRun + 1 else 0
  let w := w.modTk n fun t => { t with phase := 0, grid := next, cyc := t.cyc + 1, ovr := overrun,
                                       skipped := k - 1, ovrRun := run, vote := Vector.replicate 2 none }
  let lim := w.rdF (R.TASK_CFG n) 8 8
  if t.stopReq then (w.taskHalt n 0 0).olcFinish
  else if lim ≠ 0 ∧ lim ≤ run then w.taskHalt n 3 1
  else if w.switchWaits n then w.olcSwitch n
  else w

/-- The end of phase 2 by CEND: output forces, the Triad vote, then the rest (R426, R696). -/
def logicEnd (w : W) (m : Memory) (n d3 d4 : Nat) (current : Bool) (c1 c2 : Option (List Byte)) : W :=
  let w := w.frcApply m n 1
  if !w.triad then w.cycleEnd m n d3 d4 current
  else if c1.isSome && c2.isSome then (w.voteOut m n c1 c2).cycleEnd m n d3 d4 current
  else w.modTk n fun t => { t with phase := 3, vote := #v[c1, c2], d3 := d3, d4 := d4 }

/-- TRIAD_WAIT has passed: the vote runs over the copies received (R696). -/
def triadWait (n : Nat) (m : Memory) (w : W) : W :=
  let t := w.tk n
  let c1 := t.vote.getD 0 none
  let c2 := t.vote.getD 1 none
  if w.dom 4 ≠ 1 ∨ w.tstate n ≠ 2 then w
  else if t.phase = 1 then (w.voteIn m n c1 c2).logicStart n
  else if t.phase = 3 then (w.voteOut m n c1 c2).cycleEnd m n t.d3 t.d4 false
  else w

/-- Phase 2 has run for WDOG_MULT periods (R434). -/
def taskWatchdog (n : Nat) (w : W) : W :=
  if w.dom 4 = 1 ∧ w.tstate n = 2 ∧ (w.tk n).phase = 2 then (w.snapshot n 2).taskHalt n 3 2 else w

/-! ## Retained data and PD4 (R134, R465, R466) -/

/-- The retained data of a checkpoint image, SIG0 to SIG3 and the retained bytes, go into every task (R465). -/
def retRestore (w : W) (len : Nat) (sigs : List Nat) (d : List Byte) : W :=
  let total := ((List.range 4).map fun t => w.spSize t 2).foldl (· + ·) 0
  if len ≠ total then (List.range 4).foldl (fun w n => w.wr (R.TASK_RET_SIG n) 0) w
  else
    ((List.range 4).foldl (fun (wo : W × Nat) n =>
      let (w, o) := wo
      let size := w.spSize n 2
      let fits := size = 0 ∨ inSystem (w.spBase n 2) (2 * w.retUp n) = true
      let b := (d.drop o).take size ++ List.replicate (w.retUp n - size) 0
      let w := if size ≠ 0 ∧ fits then (w.putBytes (w.spBase n 2) b).putBytes (w.retC n) b else w
      (w.wrN (R.TASK_RET_SIG n) (if fits then sigs.getD n 0 else 0), o + size)) (w, 0)).1

/-- PD4 is switched off: tasks are STOPPED, forces cleared, images lost (R457, R459, R466). -/
def scanLost (w : W) : W :=
  let w0 := w
  let w := (List.range 4).foldl (fun w n => if w.tstate n = 2 then ((w.safDropTask n).keyOrphan n) else w) w
  let s : ScanSt := { snap := w.scan.snap, bootBank := w.scan.bootBank, gpioIn := w.scan.gpioIn }
  let w := (List.range 6).foldl (fun w i => w.resetRegs (0x1000 * (0x0A + i) + 0x040) (0x1000 * (0x0B + i))) { w with scan := s }
  (frcChange w0 w).health

/-! ## Registers of the SCAN, TASK and FRC pages -/

/-- The code of a write to a SCAN register (R445, R446, R467, R472, R475). -/
def scanCheck (w : W) (m : Memory) (o : Nat) (v : Word) : Nat :=
  let area (base size : Nat) : Bool := decide (systemEnd < base + size)
  let low (base unit : Nat) : Bool := decide (base < solverEnd ∨ base % unit ≠ 0)
  if o = 0x044 then
    (if (List.range 2).any fun k => bit v k != w.rdB R.SCAN_LOCKSTEP k && (w.tstate (2 * k) != 0 || w.tstate (2 * k + 1) != 0)
      then eState else 0)
  else if o = 0x048 then
    firstCode [(area v.toNat (16 * w.rdN R.SCAN_STN_COUNT), eLen), (low v.toNat 64, eRange)]
  else if o = 0x04C then
    (if 1536 < v.toNat ∨ area (w.rdN R.SCAN_STN_BASE) (16 * v.toNat) = true then eLen else 0)
  else if o = 0x050 then (if bit v 31 && decide (w.rdN R.SCAN_STN_COUNT ≤ fld v 0 11) then eRange else 0)
  else if o = 0x064 then (if bit v 31 then w.olcCode m v else 0)
  else if o = 0x070 then
    firstCode [(area v.toNat (w.rdN R.SCAN_CODE_SIZE), eLen), (low v.toNat 64, eRange)]
  else if o = 0x074 then
    firstCode [(area (w.rdN R.SCAN_CODE_BASE) v.toNat, eLen), (v.toNat % 128 != 0, eRange)]
  else 0

/-- The effect of an accepted write to a SCAN register that is more than a store. -/
def scanWrite (w : W) (m : Memory) (o : Nat) (v : Word) : Option W :=
  if o = 0x050 then
    if bit v 31 then
      let j := fld v 0 11
      some { w with scan.upd := (w.scan.upd.filter fun (e : Nat × Nat) => e.1 != j)
                      ++ [(j, ((w.stnEntry m j).map (·.task)).getD 0)] }
    else some w
  else if o = 0x064 then
    (if bit v 31 then some (w.olcAccept m v)
     else some (if w.olcBusy then w else w.wrN R.SCAN_OLC_CTRL (fld v 0 1)))
  else none

/-- The code of a write to a TASK register (R466, R476). -/
def taskCheck (w : W) (m : Memory) (n o : Nat) (v : Word) : Nat :=
  if o = 0x040 then w.taskCmdCode m n v
  else if (0x048 ≤ o ∧ o ≤ 0x074) ∨ (0x0A0 ≤ o ∧ o < 0x0E0) then
    firstCode [
      (w.tstate n != 0, eState),
      (o == 0x048 && (fld v 0 2 == 3 || fld v 16 4 == 0), eRange),
      (o == 0x050 && decide (w.rdN (R.TASK_PERIOD n) ≤ v.toNat), eRange),
      (decide (0x0A0 ≤ o) && (decide (fld v 0 2 ≠ 0)
        || (o % 8 == 4 && decide (fld v 0 18 < 0x40 ∨ fld v 20 12 = 0))), eRange)]
  else 0

/-- The effect of an accepted write to a TASK register that is more than a store. -/
def taskWrite (w : W) (m : Memory) (n o : Nat) (v : Word) (edge sub : Nat) : Option W :=
  if o = 0x040 then some (w.taskCmd m n v edge sub) else none

/-- The code of a write to an FRC register (R455, R477). -/
def frcCheck (w : W) (o : Nat) (v : Word) : Nat :=
  if 0x100 ≤ o ∧ o < 0x500 ∧ o % 16 = 0 then
    let n := fld v 18 2
    if fld v 0 2 ≠ 0 ∨ (bit v 31 = true ∧ w.spSize n (fld v 20 1) < fld v 0 18 + 4) then eRange else 0
  else 0

/-- The effect of an accepted write to an FRC register that is more than a store (R456, R457, R477). -/
def frcWrite (w : W) (o : Nat) (v : Word) : Option W :=
  if o = 0x044 then some (w.frcClear fun a => bit a 31 && (bit v 0 || (bit v 1 && bit a 30)))
  else if 0x100 ≤ o ∧ o < 0x500 ∧ o % 16 = 0 then
    some (frcChange w (w.wr (R.FRC_FRCe_ADDR ((o - 0x100) / 16)) (v &&& 0x801FFFFF#32)))
  else none

/-! ## Debug observation (R499, R500) -/

/-- The words of the DBG page. DESIGN CHOICE (log 27): the checker of an active pair, two clocks behind (R471), shows the
instruction of its leader. -/
def dbgWord (w : W) (o : Nat) : Word :=
  let e := w.rdF R.DBG_SEL 0 2
  let t := if w.isChecker e then e - 1 else e
  let s := w.scan.snap.getD e {}
  let x := (s.eng.w.getD (w.rdF R.DBG_SEL 2 6) 0).toNat
  if o = 0x044 then
    (if w.dom 4 = 1 ∧ w.tstate t = 2 ∧ (w.tk t).phase = 2 then BitVec.ofNat 32 (w.scan.eng.getD t {}).pc else 0xFFFFFFFF#32)
  else if o = 0x048 then
    BitVec.ofNat 32 (b2n s.valid + 2 * s.cause + 2 ^ 8 * s.eng.flags.toNat + 2 ^ 16 * s.eng.stk.length)
  else if o = 0x04C then BitVec.ofNat 32 s.eng.pc
  else if o = 0x050 then BitVec.ofNat 32 s.cycle
  else if o = 0x054 then BitVec.ofNat 32 x
  else if o = 0x058 then BitVec.ofNat 32 (x / 2 ^ 32)
  else BitVec.ofNat 32 (s.eng.stk.getD ((o - 0x060) / 4) 0)

end W

end Sys2Proof.Machine
end

