-- ==== Sys2Proof/Machine/Lin.lean ====
section
/-!
DEFINITION. The arithmetic of the solver array (R286 to R292): binary64 with one fixed reduction order, vectors and
matrices as lists, the factorisation L D Lᵀ with the pivot rules of R295 to R298, and the NaN payloads. A value is its
64-bit pattern. An overflow delivers a NaN and ends the computation that meets it, so no infinity reaches an output (R290).
-/
namespace Sys2Proof.Machine

/-- The end of an iteration by a pivot or an overflow: cause, index and stage (R292, R295). `idx` is none where the
manual gives the index no value. -/
structure SFail where
  cause : Nat
  idx : Option Nat
  /-- Stage of the horizon; for a forward pass or an update `fwd` is set (R368). -/
  stage : Option Nat := none
  fwd : Bool := false
  /-- Pivots that this iteration had replaced before it failed (R295). -/
  reg : Nat := 0
  deriving DecidableEq, Repr, Inhabited

/-- A result of the array, or the failure that ended it. -/
abbrev SRes (α : Type) := Except SFail α

/-- The NaN of a cause and an index (R289). -/
def slvNan (cause idx : Nat) : Nat := 0x7FF8000000000000 + cause % 256 + 256 * min idx 0xFFFFFF

/-! ### The operations of the array (R286, R290, R291) -/

namespace Arr

/-- What an operation with these operands delivers for the IEEE result `r`: a NaN operand's payload, the one of the smaller
INDEX and then of the smaller CAUSE (R291), which is the smaller low word (R289); for no finite result a NaN of cause 0x03
(R290). Its INDEX, the pivot being processed, is put in by the check that ends the step (`ckV`). -/
def deliver (ops : List Nat) (r : Nat) : Nat :=
  match ((ops.filter F64.isNan).map (· % 2 ^ 32)).min? with
  | some p => 0x7FF8000000000000 + p
  | none => if F64.isFin r then r else slvNan 3 0xFFFFFF

def add (a b : Nat) : Nat := deliver [a, b] (F64.add a b)
def sub (a b : Nat) : Nat := deliver [a, b] (F64.sub a b)
def mul (a b : Nat) : Nat := deliver [a, b] (F64.mul a b)
def div (a b : Nat) : Nat := deliver [a, b] (F64.div a b)
def fma (a b c : Nat) : Nat := deliver [a, b, c] (F64.fma a b c)
def min (a b : Nat) : Nat := deliver [a, b] (F64.min a b)
def max (a b : Nat) : Nat := deliver [a, b] (F64.max a b)
def neg (a : Nat) : Nat := deliver [a] (F64.neg a)
def abs (a : Nat) : Nat := deliver [a] (F64.abs a)

end Arr

namespace Lin

/-- A vector. -/
abbrev Vec := List Nat
/-- A matrix, by rows. -/
abbrev Mat := List Vec

/-- A sum in the array's reduction order (R288). -/
def sumN : (fuel : Nat) → Vec → Nat
  | 0, _ => 0
  | _ + 1, [] => 0
  | _ + 1, [x] => x
  | f + 1, xs =>
    let k := 1 + Config.reduceSplit xs.length % (xs.length - 1)
    Arr.add (sumN f (xs.take k)) (sumN f (xs.drop k))

/-- The sum of a vector. -/
def sum (xs : Vec) : Nat := sumN (xs.length + 1) xs

/-- A sum of products in the array's reduction order (R286, R288). -/
def dotN : (fuel : Nat) → List (Nat × Nat) → Nat
  | 0, _ => 0
  | _ + 1, [] => 0
  | _ + 1, [p] => Arr.mul p.1 p.2
  | f + 1, ps =>
    let k := 1 + Config.reduceSplit ps.length % (ps.length - 1)
    let l := dotN f (ps.take k)
    match ps.drop k with
    | [p] => if Config.dotFused then Arr.fma p.1 p.2 l else Arr.add l (Arr.mul p.1 p.2)
    | r => Arr.add l (dotN f r)

/-- The inner product. -/
def dot (a b : Vec) : Nat := dotN (a.length + 1) (a.zip b)

def zeros (n : Nat) : Vec := List.replicate n 0
def vec (n : Nat) (f : Nat → Nat) : Vec := (List.range n).map f
def mat (r c : Nat) (f : Nat → Nat → Nat) : Mat := vec' r fun i => vec c (f i)
where vec' (n : Nat) (f : Nat → Vec) : Mat := (List.range n).map f

/-- Element i of a vector, zero beyond its end. -/
def at1 (v : Vec) (i : Nat) : Nat := v.getD i 0
/-- Element (i, j) of a matrix. -/
def at2 (m : Mat) (i j : Nat) : Nat := (m.getD i []).getD j 0
/-- The transpose of a matrix with c columns. -/
def tr (c : Nat) (m : Mat) : Mat := (List.range c).map fun j => m.map fun r => r.getD j 0

def mulV (m : Mat) (v : Vec) : Vec := m.map fun r => dot r v
/-- The product of two matrices, the second with c columns. -/
def mulM (a b : Mat) (c : Nat) : Mat := let bt := tr c b; a.map fun r => bt.map fun q => dot r q
def addV (a b : Vec) : Vec := a.zipWith Arr.add b
def subV (a b : Vec) : Vec := a.zipWith Arr.sub b
def mulE (a b : Vec) : Vec := a.zipWith Arr.mul b
def divE (a b : Vec) : Vec := a.zipWith Arr.div b
def negV (a : Vec) : Vec := a.map Arr.neg
def scaleV (k : Nat) (a : Vec) : Vec := a.map (Arr.mul k)
def addM (a b : Mat) : Mat := a.zipWith addV b
def negM (a : Mat) : Mat := a.map negV
/-- The infinity norm; 0 for an empty vector. -/
def norm (v : Vec) : Nat := (v.map Arr.abs).foldl Arr.max 0

def finV (v : Vec) : Bool := v.all F64.isFin
def finM (m : Mat) : Bool := m.all finV

/-- A finite vector, or the overflow of the given place. -/
def ckV (f : SFail) (v : Vec) : SRes Vec := if finV v then .ok v else .error f
def ckM (f : SFail) (m : Mat) : SRes Mat := if finM m then .ok m else .error f
def ck (f : SFail) (x : Nat) : SRes Nat := if F64.isFin x then .ok x else .error f

/-- The failures of a computation with a count of pivots replaced before it. -/
def withReg (n : Nat) {α : Type} : SRes α → SRes α
  | .error f => .error { f with reg := n + f.reg }
  | .ok x => .ok x

/-- The pivot rules of a job (R295, R297). -/
structure Piv where
  reg : Bool
  tol : Nat
  preg : Nat
  deriving DecidableEq, Repr

/-- A pivot d of a column of norm c at a position (R295, R296): the pivot used, and whether it was replaced. -/
def pivot (p : Piv) (d c pos : Nat) (stage : Option Nat) : SRes (Nat × Bool) :=
  let lim := Arr.mul p.tol c
  if !F64.isFin d || !F64.isFin lim then .error { cause := 3, idx := some pos, stage := stage }
  else
    let zero := fisZero b64 d
    if !zero && !F64.lt (F64.abs d) lim then .ok (d, false)
    else if p.reg then .ok (if zero || b64.signBit > d then p.preg else F64.neg p.preg, true)
    else .error { cause := if zero then 1 else 2, idx := some pos, stage := stage }

/-- A factorisation L D Lᵀ: the strictly lower rows of L, D, and the number of replaced pivots. -/
structure Ldl where
  l : Mat
  d : Vec
  reg : Nat
  deriving DecidableEq, Repr, Inhabited

/-- The step of pivot k: the pivot, then column k of L below it. Row j > k of `s.l` holds its first k entries. An overflow
in the step carries the position of pivot k (R292). -/
def ldlStep (p : Piv) (a : Mat) (norms : Vec) (pos : Nat → Nat) (stage : Option Nat) (s : Ldl) (k : Nat) : SRes Ldl :=
  withReg s.reg do
    let lk := s.l.getD k []
    let ld := mulE lk s.d
    let (d, r) ← pivot p (Arr.sub (at2 a k k) (dot lk ld)) (at1 norms k) (pos k) stage
    let reg := if r then 1 else 0
    let l := s.l.zipIdx.map fun e =>
      if e.2 ≤ k then e.1 else e.1 ++ [Arr.div (Arr.sub (at2 a e.2 k) (dot e.1 ld)) d]
    let _ ← withReg reg (ckM { cause := 3, idx := some (pos k), stage := stage } l)
    pure ⟨l, s.d ++ [d], s.reg + reg⟩

/-- L D Lᵀ of a symmetric matrix of order n (its lower triangle is read), its pivots tested against the given column norms
in order (R296, R360, R402). -/
def ldlWith (p : Piv) (n : Nat) (a : Mat) (norms : Vec) (pos : Nat → Nat) (stage : Option Nat) : SRes Ldl :=
  (List.range n).foldlM (fun s k => ldlStep p a norms pos stage s k) ⟨List.replicate n [], [], 0⟩

/-- Column norms of a symmetric matrix given by its lower triangle (R296). -/
def symNorms (n : Nat) (a : Mat) : Vec := (mat n n fun i j => if j ≤ i then at2 a i j else at2 a j i).map norm

/-- L D Lᵀ against the column norms of the matrix itself, as it stands at the beginning. -/
def ldl (p : Piv) (n : Nat) (a : Mat) (pos : Nat → Nat) (stage : Option Nat) : SRes Ldl :=
  ldlWith p n a (symNorms n a) pos stage

/-- The solution of L D Lᵀ x = b. The step of pivot i is checked as it is done; an overflow carries its position (R292). -/
def ldlSolve (pos : Nat → Nat) (stage : Option Nat) (s : Ldl) (b : Vec) : SRes Vec := do
  let n := s.d.length
  let at_ := fun i x => ck { cause := 3, idx := some (pos i), stage := stage } x
  let y ← (List.range n).foldlM (fun (y : Vec) i => do
    let v ← at_ i (Arr.sub (at1 b i) (dot (s.l.getD i []) y))
    pure (y ++ [v])) []
  let z ← (y.zip s.d).zipIdx.mapM fun e => at_ e.2 (Arr.div e.1.1 e.1.2)
  (List.range n).reverse.foldlM (fun (x : Vec) i => do
    -- column i of L below the diagonal meets the components already found
    let col := (List.range (n - 1 - i)).map fun k => (s.l.getD (i + 1 + k) []).getD i 0
    let v ← at_ i (Arr.sub (at1 z i) (dot col x))
    pure (v :: x)) []

/-- The solution for every column of a matrix with c columns. -/
def ldlSolveM (pos : Nat → Nat) (stage : Option Nat) (s : Ldl) (b : Mat) (c : Nat) : SRes Mat := do
  let cols ← (tr c b).mapM (ldlSolve pos stage s)
  pure (tr s.d.length cols)

end Lin

end Sys2Proof.Machine
end

