-- ==== Sys2Proof/Machine/SlvTable.lean ====
section
/-!
DEFINITION. Parameter tables of the solver (R299 to R307): header, directory, storage formats, structure signature; the
checks that ANALYSE and the numeric jobs share.
-/
namespace Sys2Proof.Machine

/-- A reader of solver SRAM: the little-endian number of some bytes at an offset. -/
abbrev Rd := (off n : Nat) → Nat

/-- Solver SRAM is 40 MiB (R282). -/
abbrev slvSize : Nat := 0x2800000

/-- The next multiple of k. -/
def up (k n : Nat) : Nat := (n + k - 1) / k * k

/-- A directory entry (R300), with nnz of a CSC section. -/
structure Sec where
  id : Nat
  fmt : Nat
  sfl : Nat
  off : Nat
  rows : Nat
  cols : Nat
  nnz : Nat
  deriving DecidableEq, Repr, Inhabited

namespace Sec

def b32 (s : Sec) : Bool := s.sfl.testBit 0
def struct (s : Sec) : Bool := s.sfl.testBit 1
/-- Bytes of one value. -/
def es (s : Sec) : Nat := if s.b32 then 4 else 8

/-- Offset of the values within the table (R301). -/
def vals (s : Sec) : Nat :=
  if s.fmt = 3 then s.off + up 64 (up 64 (4 * (s.cols + 1)) + 4 * s.nnz) else s.off

/-- Number of elements. -/
def count (s : Sec) : Nat :=
  if s.fmt = 3 then s.nnz else if s.fmt = 2 then s.rows * s.cols else s.rows

/-- Offset of element e within the table (R301). -/
def elem (s : Sec) (e : Nat) : Nat :=
  if s.fmt = 2 then s.off + s.es * (up 8 s.rows * (e / s.rows) + e % s.rows) else s.vals + s.es * e

/-- The end of the section within the table. -/
def fin (s : Sec) : Nat :=
  if s.fmt = 2 then s.off + s.es * (up 8 s.rows * s.cols) else s.vals + s.es * s.count

end Sec

/-- A parameter table (R299). -/
structure Tab where
  base : Nat
  magic : Nat
  kind : Nat
  ver : Nat
  nsec : Nat
  len : Nat
  dims : List Nat
  secs : List Sec
  resv : Bool
  crcOk : Bool
  deriving DecidableEq, Repr, Inhabited

/-- Bytes of solver SRAM. -/
def rdBytes (g : Rd) (off n : Nat) : List Byte := (List.range n).map fun i => BitVec.ofNat 8 (g (off + i) 1)

/-- One directory entry. -/
def readSec (g : Rd) (base len s : Nat) : Sec :=
  let a := base + 64 + 16 * s
  let off := g (a + 4) 4
  let cols := g (a + 12) 4
  let fmt := g (a + 2) 1
  let p := off + 4 * cols
  ⟨g a 2, fmt, g (a + 3) 1, off, g (a + 8) 4, cols, if fmt = 3 ∧ p + 4 ≤ len then g (base + p) 4 else 0⟩

/-- The table at a base offset. -/
def readTab (g : Rd) (base : Nat) : Tab :=
  let nsec := g (base + 6) 2
  let len := g (base + 8) 4
  let n := min nsec 32
  { base := base, magic := g base 4, kind := g (base + 4) 1, ver := g (base + 5) 1, nsec := nsec, len := len
    dims := (List.range 8).map fun i => g (base + 16 + 4 * i) 4
    secs := (List.range n).map fun s => readSec g base len s
    resv := g (base + 12) 4 != 0 || g (base + 48) 12 != 0
    crcOk := crc32c (rdBytes g base 60 ++ rdBytes g (base + 64) (16 * n)) == g (base + 60) 4 }

/-- Stages of block b of a horizon of n stages split across four devices (R374). -/
def splitStages (n b : Nat) : Nat := n / 4 + if b < n % 4 then 1 else 0

/-- First stage of block b: the blocks are contiguous (R374). -/
def splitFirst (n b : Nat) : Nat := ((List.range b).map (splitStages n)).sum

/-- The bytes that block b needs on its partner (R375), with W of R355. -/
def splitNeed (x : SplitSetup) (b : Nat) : Nat :=
  let lx := up 8 x.nx
  let lu := up 8 x.nu
  let wd := lu * (x.nx + x.nu) + 16 * (lx + lu) + 32 * up 8 x.nc
  x.bti + x.bblk + x.bwblk + x.boblk + 8 * ((splitStages x.n b + 1) * wd + 5 * lx * x.nx)

namespace Tab

def dim (t : Tab) (i : Nat) : Nat := t.dims.getD i 0
def sec (t : Tab) (id : Nat) : Option Sec := t.secs.find? fun s => s.id == id

/-- Value e of a section as binary64; a binary32 value is converted exactly (R287). -/
def val (t : Tab) (g : Rd) (id e : Nat) : Nat :=
  match t.sec id with
  | none => 0
  | some s => if s.b32 then F64.of32 (g (t.base + s.elem e) 4) else g (t.base + s.elem e) 8

/-- colptr and rowidx of a CSC section. -/
def colptr (t : Tab) (g : Rd) (s : Sec) (j : Nat) : Nat := g (t.base + s.off + 4 * j) 4
def rowidx (t : Tab) (g : Rd) (s : Sec) (k : Nat) : Nat := g (t.base + s.off + up 64 (4 * (s.cols + 1)) + 4 * k) 4

/-- (row, column) of element e (R301). -/
def place (t : Tab) (g : Rd) (s : Sec) (e : Nat) : Nat × Nat :=
  if s.fmt = 3 then
    (t.rowidx g s e, ((List.range s.cols).filter fun j => decide (t.colptr g s (j + 1) ≤ e)).length)
  else if s.fmt = 2 then (e % s.rows, e / s.rows)
  else (e, 0)

/-- The elements of a section with their places: (e, row, column). -/
def places (t : Tab) (g : Rd) (id : Nat) : List (Nat × Nat × Nat) :=
  match t.sec id with
  | none => []
  | some s =>
    if s.fmt = 3 then
      (List.range s.cols).flatMap fun j =>
        let a := t.colptr g s j
        (List.range (min (t.colptr g s (j + 1)) s.nnz - a)).map fun i => (a + i, t.rowidx g s (a + i), j)
    else (List.range s.count).map fun e => let p := t.place g s e; (e, p.1, p.2)

/-- A section as a dense matrix of given size, zero where it has no element. -/
def mat (t : Tab) (g : Rd) (id r c : Nat) : Lin.Mat :=
  let ps := t.places g id
  match t.sec id with
  | none => Lin.mat r c fun _ _ => 0
  | some s =>
    if s.fmt = 2 then Lin.mat r c fun i j => t.val g id (i + s.rows * j)
    else
      (List.range r).map fun i =>
        let row := ps.filter fun p => p.2.1 == i
        Lin.vec c fun j => match row.find? fun p => p.2.2 == j with
          | some p => t.val g id p.1
          | none => 0

/-- A section as a vector of given length. -/
def vecOf (t : Tab) (g : Rd) (id n : Nat) : Lin.Vec := Lin.vec n fun i => t.val g id i

/-- R302: a CSC section is well formed. -/
def cscOk (t : Tab) (g : Rd) (s : Sec) : Bool :=
  t.colptr g s 0 == 0 &&
    (List.range s.cols).all fun j =>
      let a := t.colptr g s j
      let b := t.colptr g s (j + 1)
      decide (a ≤ b ∧ b ≤ s.nnz) &&
        (List.range (b - a)).all fun i =>
          decide (t.rowidx g s (a + i) < s.rows) &&
            (i == 0 || decide (t.rowidx g s (a + i - 1) < t.rowidx g s (a + i)))

/-- A directory entry that R300 to R303 do not allow. -/
def secBad (s : Sec) : Bool :=
  decide (3 < s.fmt ∨ 3 < s.sfl ∨ s.off % 64 ≠ 0) || (s.fmt == 0 && s.cols != 1) || (s.fmt == 1 && s.rows != s.cols)
    || (s.struct && s.fmt != 0 && s.fmt != 2)

/-- Two sections overlap. -/
def overlap : List Sec → Bool
  | [] => false
  | s :: r => r.any (fun q => decide (s.off < q.fin ∧ q.off < s.fin ∧ s.off < s.fin ∧ q.off < q.fin)) || overlap r

/-- The header as ANALYSE and every numeric job check it first (R299, R327): ERR_CRC before anything else is used. -/
def headCode (t : Tab) : Nat :=
  firstCode [(decide (t.nsec ≤ 32) && !t.crcOk, eCrc),
    (decide (32 < t.nsec ∨ slvSize < t.base + t.len ∨ t.len < 64 + 16 * t.nsec), eLen),
    (t.magic != 0x7AB5 || t.ver != 1 || t.nsec == 0 || t.resv, eRange)]

/-- A section that does not lie within LEN (R305). -/
def secsLong (t : Tab) : Bool :=
  t.secs.any fun s => decide (t.len < s.fin) || (s.fmt == 3 && decide (t.len < s.off + 4 * s.cols + 4))

/-- Sections that overlap, repeat an ID or have no allowed form (R300 to R303, R305). -/
def secsBad (t : Tab) : Bool :=
  overlap t.secs || t.secs.any secBad || !decide ((t.secs.map (·.id)).Nodup)

/-- The structure signature (R304). -/
def sig (t : Tab) (g : Rd) : Nat :=
  let head := rdBytes g (t.base + 4) 4 ++ rdBytes g (t.base + 16) 32
  let dir := (List.range t.nsec).flatMap fun s =>
    rdBytes g (t.base + 64 + 16 * s) 4 ++ rdBytes g (t.base + 72 + 16 * s) 8
  let pats := t.secs.flatMap fun s =>
    (if s.fmt = 3 then rdBytes g (t.base + s.off) (4 * (s.cols + 1)) ++
        rdBytes g (t.base + s.off + up 64 (4 * (s.cols + 1))) (4 * s.nnz) else []) ++
    (if s.struct then (List.range s.count).flatMap fun e => rdBytes g (t.base + s.elem e) s.es else [])
  crc32c (head ++ dir ++ pats)

/-- A section that a kind requires, by ID: allowed formats, rows, columns, STRUCT, B32 permitted (R346, R389, R411). -/
structure Need where
  id : Nat
  fmts : List Nat
  rows : Nat
  cols : Nat
  struct : Bool := false
  b32 : Bool := false
  opt : Bool := false

/-- The sections are exactly those that the kind requires, in their formats and shapes (R348, R390). -/
def shapesBad (t : Tab) (ns : List Need) : Bool :=
  t.secs.any (fun s => match ns.find? fun n => n.id == s.id with
    | none => true
    | some n => !n.fmts.contains s.fmt || s.rows != n.rows || s.cols != n.cols || s.struct != n.struct ||
        (s.b32 && !n.b32)) ||
    ns.any fun n => !n.opt && (t.sec n.id).isNone

/-- A list of 32-bit words, little-endian, padded to a multiple of 64 bytes. -/
def pad64 (bs : List Byte) : List Byte := bs ++ List.replicate (up 64 bs.length - bs.length) 0

/-- The first 64 bytes of an analysis record (R305). -/
def recHead (t : Tab) (g : Rd) (sig alen : Nat) : List Byte :=
  let b := toLe 4 0xA9E5 ++ toLe 1 t.kind ++ toLe 3 0 ++ toLe 4 sig ++ toLe 4 alen ++ rdBytes g (t.base + 4) 44
  b ++ toLe 4 (crc32c b)

/-- The common checks of a record by a numeric job (R306): ERR_CRC, then ERR_SIGNATURE for a record of another table
or kind. -/
def recCrcBad (g : Rd) (ana : Nat) : Bool :=
  g ana 4 != 0xA9E5 || crc32c (rdBytes g ana 60) != g (ana + 60) 4
def recSigBad (t : Tab) (g : Rd) (ana op : Nat) : Bool :=
  rdBytes g (ana + 16) 44 != rdBytes g (t.base + 4) 44 || g (ana + 4) 1 != op

end Tab

end Sys2Proof.Machine
end

