-- ==== Sys2Proof/Machine/Lsq.lean ====
section
/-!
DEFINITION. State estimation and bundled calibration (chapter 09): the tables of kinds 2 and 3, the symbolic analysis
with its exact minimum degree order, and the damped Gauss-Newton iteration R399 with the reduction of R413. A kind 2
problem is the case of one snapshot without shared parameters.
-/
namespace Sys2Proof.Machine.Lsq

open Lin

/-! ## The tables (R388 to R390, R410, R411) -/

structure Dims where
  kind : Nat
  n : Nat
  m : Nat
  ns : Nat
  np : Nat
  deriving DecidableEq, Repr, Inhabited

def dims (t : Tab) : Dims :=
  if t.kind = 3 then ⟨3, t.dim 0, t.dim 1, t.dim 2, t.dim 3⟩ else ⟨2, t.dim 0, t.dim 1, 1, 0⟩

def dimHigh (t : Tab) : Bool :=
  let d := dims t
  if t.kind = 3 then
    decide (1024 < d.n ∨ 4096 < d.m ∨ 256 < d.ns ∨ 512 < d.np ∨ 0 < t.dim 4 ∨ 0 < t.dim 5 ∨ 0 < t.dim 6 ∨ 0 < t.dim 7)
  else decide (8192 < d.n ∨ 16384 < d.m) || (List.range 6).any fun i => decide (0 < t.dim (i + 2))
def dimLow (t : Tab) : Bool :=
  let d := dims t
  decide (d.n = 0 ∨ d.m = 0 ∨ (t.kind = 3 ∧ (d.ns = 0 ∨ d.np = 0)))

/-- Section IDs of the two kinds: J, K, Z, WGT, MTYPE, MIDX, MCOEF, XPRI, PWGT, PPRI, PWGTP, X0, P0, ORD. -/
structure Ids where
  k : Nat
  z : Nat
  w : Nat
  mt : Nat
  mi : Nat
  mc : Nat
  xp : Nat
  pw : Nat
  pp : Nat
  ppw : Nat
  x0 : Nat
  p0 : Nat
  ord : Nat

def ids (d : Dims) : Ids :=
  if d.kind = 3 then ⟨2, 3, 4, 5, 6, 7, 8, 9, 10, 11, 12, 13, 14⟩ else ⟨0, 2, 3, 4, 5, 6, 7, 8, 0, 0, 9, 0, 10⟩

def needs (d : Dims) : List Tab.Need :=
  let i := ids d
  let f := if d.kind = 3 then [2] else [0]
  [⟨1, [3], d.m, d.n, false, true, false⟩, ⟨i.z, f, d.m, d.ns, false, false, false⟩,
   ⟨i.w, f, d.m, d.ns, false, false, false⟩, ⟨i.mt, [0], d.m, 1, true, false, false⟩,
   ⟨i.mi, [2], d.m, 2, true, false, false⟩, ⟨i.mc, [0], d.m, 1, false, false, false⟩,
   ⟨i.xp, f, d.n, d.ns, false, false, false⟩, ⟨i.pw, [0], d.n, 1, false, false, false⟩,
   ⟨i.x0, f, d.n, d.ns, false, false, false⟩, ⟨i.ord, [0], d.n, 1, true, false, true⟩] ++
  if d.kind = 3 then
    [⟨2, [3], d.m, d.np, false, true, false⟩, ⟨i.pp, [0], d.np, 1, false, false, false⟩,
     ⟨i.ppw, [0], d.np, 1, false, false, false⟩, ⟨i.p0, [0], d.np, 1, false, false, false⟩]
  else []

/-- A value that is exactly an integer below `top`. -/
def intAt (t : Tab) (g : Rd) (id e top : Nat) : Option Nat :=
  let v := t.val g id e
  match ftruncInt b64 v with
  | some x => if 0 ≤ x ∧ x < top ∧ F64.eq v (F64.ofInt x) then some x.toNat else none
  | none => none

/-- MTYPE of row i, and its indices a and b. A numeric job does not check them again (R307); what it makes of a finite
value that is none of the listed ones is not stated: a free code or index (log 50). -/
def mtype (t : Tab) (g : Rd) (d : Dims) (i : Nat) : Nat :=
  (intAt t g (ids d).mt i 3).getD (Config.oddIndex (t.val g (ids d).mt i) % 3)
def midx (t : Tab) (g : Rd) (d : Dims) (i c : Nat) : Nat :=
  let e := i + d.m * c
  (intAt t g (ids d).mi e (d.n + d.np)).getD (Config.oddIndex (t.val g (ids d).mi e) % (d.n + d.np))

/-- The values that R390 lets ANALYSE refuse: MTYPE, MIDX where it is read, ORD. -/
def valsBad (t : Tab) (g : Rd) : Bool :=
  let d := dims t
  let i := ids d
  (List.range d.m).any (fun r => match intAt t g i.mt r 3 with
    | none => true
    | some 0 => false
    | some 1 => (intAt t g i.mi r (d.n + d.np)).isNone
    | some _ => (intAt t g i.mi r (d.n + d.np)).isNone || (intAt t g i.mi (r + d.m) (d.n + d.np)).isNone) ||
  ((t.sec i.ord).isSome &&
    let os := (List.range d.n).map fun k => intAt t g i.ord k d.n
    os.any (·.isNone) || !decide (os.Nodup))

/-- A section holds binary32 values (R390). -/
def hasB32 (t : Tab) : Bool := t.secs.any (·.b32)

/-! ## Symbolic analysis (R393 to R396, R412) -/

/-- Columns of row i in the Jacobian pattern over states and parameters, ascending, without repeats (R393). -/
def rowCols (t : Tab) (g : Rd) (d : Dims) (j : List (Nat × Nat × Nat)) (k : List (Nat × Nat × Nat)) (i : Nat) : List Nat :=
  let base := ((j.filter fun p => p.2.1 == i).map (·.2.2)) ++ ((k.filter fun p => p.2.1 == i).map fun p => d.n + p.2.2)
  let extra := match mtype t g d i with
    | 0 => []
    | 1 => [midx t g d i 0]
    | _ => [midx t g d i 0, midx t g d i 1]
  (List.range (d.n + d.np)).filter fun c => base.contains c || extra.contains c

/-- The Jacobian pattern: the columns of every row. -/
def pattern (t : Tab) (g : Rd) : List (List Nat) :=
  let d := dims t
  let j := t.places g 1
  let k := if d.kind = 3 then t.places g 2 else []
  (List.range d.m).map (rowCols t g d j k)

/-- Neighbours of each state: the states that share a row with it. -/
def adjacency (n : Nat) (pat : List (List Nat)) : List (List Nat) :=
  (List.range n).map fun v =>
    let rs := pat.filter fun r => r.contains v
    (List.range n).filter fun u => u != v && rs.any fun r => r.contains u

/-- One step of exact minimum degree (R394): the remaining state of smallest degree, lowest index first, is eliminated and
its neighbours become a clique. The graph lists each remaining state with its neighbours. -/
def mdStep (gr : List (Nat × List Nat)) : Option (Nat × List (Nat × List Nat)) :=
  match gr with
  | [] => none
  | e :: es =>
    let b := es.foldl (fun (b : Nat × List Nat) x => if x.2.length < b.2.length then x else b) e
    let rest := gr.filter fun x => x.1 != b.1
    some (b.1, rest.map fun x =>
      let nb := x.2.filter (· != b.1)
      if b.2.contains x.1 then (x.1, nb ++ b.2.filter fun u => u != x.1 && !nb.contains u) else (x.1, nb))

/-- The elimination order by minimum degree. -/
def mdOrder : (fuel : Nat) → List (Nat × List Nat) → List Nat
  | 0, _ => []
  | k + 1, gr => match mdStep gr with
    | none => []
    | some (v, gr) => v :: mdOrder k gr

/-- The state at each position (R394). -/
def perm (t : Tab) (g : Rd) (pat : List (List Nat)) : List Nat :=
  let d := dims t
  if (t.sec (ids d).ord).isSome then
    let os := (List.range d.n).map fun k => (intAt t g (ids d).ord k d.n).getD 0
    (List.range d.n).map fun p => (os.findIdx? (· == p)).getD 0
  else mdOrder d.n ((adjacency d.n pat).zipIdx.map fun e => (e.2, e.1))

/-- The analysis: PERM, the columns of L (row positions, ascending), Jacobian pattern. -/
structure Ana where
  perm : List Nat
  cols : List (List Nat)
  nnzJ : Nat
  ynz : Nat
  snz : Nat
  deriving Repr, Inhabited

/-- Columns of L: for each position the later positions in its column, found by joining the children's columns (R395). -/
def lpattern (n : Nat) (low : List (List Nat)) : List (List Nat) :=
  (List.range n).foldl (fun (cols : List (List Nat)) j =>
    -- column j: its own entries, and those below j of every earlier column whose first entry is j
    let kids := cols.filter fun c => c.head? == some j
    let mem := fun q => (low.getD j []).contains q || kids.any fun c => c.contains q
    cols ++ [(List.range n).filter fun q => j < q && mem q]) []

/-- The symbolic analysis of a table (R393 to R395, R412). -/
def analysis (t : Tab) (g : Rd) : Ana :=
  let d := dims t
  let pat := pattern t g
  let adj := adjacency d.n pat
  let pm := perm t g pat
  let posOf := fun v => (pm.findIdx? (· == v)).getD 0
  let low := (List.range d.n).map fun j => (adj.getD (pm.getD j 0) []).map posOf
  let cols := lpattern d.n (low.zipIdx.map fun e => e.1.filter fun q => e.2 < q)
  -- rows of Y = L⁻¹ B: a parameter's column of B fills along the elimination forest
  let brow := (List.range d.n).map fun j =>
    (List.range d.np).filter fun k => pat.any fun r => r.contains (pm.getD j 0) && r.contains (d.n + k)
  let y := (List.range d.n).foldl (fun (y : List (List Nat)) j =>
    let from_ := fun k => (List.range j).any fun i => (cols.getD i []).contains j && (y.getD i []).contains k
    y ++ [(List.range d.np).filter fun k => (brow.getD j []).contains k || from_ k]) []
  ⟨pm, cols, (pat.map (·.length)).sum, (y.map (·.length)).sum, (y.map fun r => r.length ^ 2).sum⟩

def Ana.nnzL (a : Ana) : Nat := (a.cols.map (·.length)).sum
def Ana.fl (a : Ana) : Nat := (a.cols.map fun c => (c.length + 1) ^ 2).sum
def alen (n nnzL : Nat) : Nat := 128 + 2 * up 64 (4 * n) + up 64 (4 * (n + 1)) + up 64 (4 * nnzL)

/-- The analysis record (R396). -/
def record (t : Tab) (g : Rd) (a : Ana) : List Byte :=
  let d := dims t
  let w := fun (l : List Nat) => Tab.pad64 (l.flatMap (toLe 4))
  let ptr := (List.range (d.n + 1)).map fun j => ((a.cols.take j).map (·.length)).sum
  let body := w a.perm ++ w (a.cols.map fun c => c.headD 0xFFFFFFFF) ++ w ptr ++ w a.cols.flatten
  Tab.recHead t g (t.sig g) (alen d.n a.nnzL) ++
    toLe 4 d.n ++ toLe 4 d.m ++ toLe 4 a.nnzJ ++ toLe 4 a.nnzL ++ toLe 8 a.fl ++
    toLe 4 (if d.kind = 3 then a.ynz else 0) ++ toLe 4 (if d.kind = 3 then a.snz else 0) ++
    toLe 4 (crc32c body) ++ List.replicate 28 0 ++ body

/-- A wrong ACRC (R396). -/
def acrcBad (g : Rd) (ana : Nat) : Bool :=
  let l := min (g (ana + 12) 4) slvSize
  crc32c (rdBytes g (ana + 128) (l - 128)) != g (ana + 96) 4

/-- A record that does not fit the table's dimensions (R306): each count is held against what the dimensions allow. -/
def recUnfit (t : Tab) (g : Rd) (ana : Nat) : Bool :=
  let d := dims t
  let nnzL := g (ana + 76) 4
  decide (d.m * (d.n + d.np) < g (ana + 72) 4 ∨ d.n * (d.n - 1) / 2 < nnzL ∨ d.n ^ 3 < g (ana + 80) 8 ∨
    d.n * d.np < g (ana + 88) 4 ∨ d.n * d.np ^ 2 < g (ana + 92) 4) ||
  g (ana + 64) 4 != d.n || g (ana + 68) 4 != d.m || g (ana + 12) 4 != alen d.n nnzL || decide (2097152 < nnzL) ||
    (List.range (min d.n 8192)).any (fun k => decide (d.n ≤ g (ana + 128 + 4 * k) 4)) ||
    (let ps := ana + 128 + up 64 (4 * d.n)
     (List.range (min d.n 8192)).any fun k =>
       let p := g (ps + 4 * k) 4
       p != 0xFFFFFFFF && decide (p ≤ k ∨ d.n ≤ p)) ||
    (let ps := ana + 128 + 2 * up 64 (4 * d.n)
     (List.range (min d.n 8192)).any (fun k => decide (g (ps + 4 * (k + 1)) 4 < g (ps + 4 * k) 4)) ||
       g (ps + 4 * d.n) 4 != nnzL) ||
    (let ps := ana + 128 + 2 * up 64 (4 * d.n) + up 64 (4 * (d.n + 1))
     (List.range (min nnzL 2097152)).any fun k => decide (d.n ≤ g (ps + 4 * k) 4))

def recPerm (g : Rd) (ana n : Nat) : List Nat := (List.range n).map fun k => g (ana + 128 + 4 * k) 4
def recParent (g : Rd) (ana n : Nat) : List Nat := (List.range n).map fun k => g (ana + 128 + up 64 (4 * n) + 4 * k) 4

/-- The root of position p in the elimination forest (R395). -/
def rootOf (par : List Nat) : (fuel : Nat) → Nat → Nat
  | 0, p => p
  | k + 1, p => let q := par.getD p 0xFFFFFFFF; if q = 0xFFFFFFFF ∨ q ≤ p then p else rootOf par k q

/-! ## Sizes (R406 to R408, R415) -/

def outLen (d : Dims) : Nat :=
  if d.kind = 3 then 64 + 8 * (up 8 d.np + up 8 d.n * d.ns) else 64 + 8 * (up 8 d.n + up 8 d.m)
def workLen (d : Dims) (nnzL nnzJ ynz : Nat) : Nat :=
  if d.kind = 3 then
    8 * (nnzL + nnzJ + ynz + d.np * up 8 d.np + 4 * (up 8 d.n + up 8 d.np) + 2 * up 8 d.m)
  else 8 * (nnzL + nnzJ + 4 * up 8 d.n + 2 * up 8 d.m)
def warmLen (d : Dims) : Nat :=
  if d.kind = 3 then 64 + 8 * (up 8 d.np + up 8 d.n * d.ns) else 64 + 8 * up 8 d.n

/-! ## The problem (R385 to R387, R409) -/

structure Prob where
  d : Dims
  /-- Linear coefficients of each row over states and parameters: (column, value). -/
  rows : List (List (Nat × Nat))
  mt : List Nat
  ia : List Nat
  ib : List Nat
  mc : Vec
  /-- By snapshot: measured values, weights (zero for a row that is removed), rows present. -/
  z : Mat
  w : Mat
  pres : List (List Bool)
  xpri : Mat
  px : Mat
  ppri : Vec
  pp : Vec
  x0 : Mat
  p0 : Vec
  perm : List Nat
  par : List Nat
  deriving Repr, Inhabited

/-- A weight below zero is used as zero (R387). -/
def wpos (v : Nat) : Nat := if F64.lt v 0 then 0 else v

def build (t : Tab) (g : Rd) (ana : Nat) (gone : Nat → Nat → Bool) : Prob :=
  let d := dims t
  let i := ids d
  let ss := List.range d.ns
  let js := t.places g 1
  let kk := if d.kind = 3 then t.places g 2 else []
  { d := d
    rows := (List.range d.m).map fun r =>
      ((js.filter fun p => p.2.1 == r).map fun p => (p.2.2, t.val g 1 p.1)) ++
        (kk.filter fun p => p.2.1 == r).map fun p => (d.n + p.2.2, t.val g 2 p.1)
    mt := (List.range d.m).map (mtype t g d), ia := (List.range d.m).map fun r => midx t g d r 0
    ib := (List.range d.m).map fun r => midx t g d r 1
    mc := t.vecOf g i.mc d.m
    z := ss.map fun s => vec d.m fun r => if gone i.z (r + d.m * s) then 0 else t.val g i.z (r + d.m * s)
    w := ss.map fun s => vec d.m fun r => if gone i.z (r + d.m * s) then 0 else wpos (t.val g i.w (r + d.m * s))
    pres := ss.map fun s => (List.range d.m).map fun r => !gone i.z (r + d.m * s)
    xpri := ss.map fun s => vec d.n fun j => if gone i.xp (j + d.n * s) then 0 else t.val g i.xp (j + d.n * s)
    px := ss.map fun s => vec d.n fun j => if gone i.xp (j + d.n * s) then 0 else wpos (t.val g i.pw j)
    ppri := vec d.np fun k => if gone i.pp k then 0 else t.val g i.pp k
    pp := vec d.np fun k => if gone i.pp k then 0 else wpos (t.val g i.ppw k)
    x0 := ss.map fun s => vec d.n fun j => t.val g i.x0 (j + d.n * s)
    p0 := t.vecOf g i.p0 d.np
    perm := recPerm g ana d.n, par := recParent g ana d.n }

/-- The elements that the job reads and that must be finite (R391, R392): (section, element). Weights of removed rows and
of removed priors are not read, nor the entries of MIDX that a row's type does not use (R386). -/
def reads (t : Tab) (g : Rd) (gone : Nat → Nat → Bool) : List (Nat × Nat) :=
  let d := dims t
  let i := ids d
  let all := fun id => (t.places g id).map fun p => (id, p.1)
  all 1 ++ all i.z ++ (all i.w).filter (fun x => !gone i.z x.2) ++ all i.mc ++ all i.xp ++
    ((List.range d.n).filter fun j => (List.range d.ns).any fun s => !gone i.xp (j + d.n * s)).map (fun j => (i.pw, j)) ++
    all i.x0 ++ all i.mt ++
    (all i.mi).filter (fun x => decide (x.2 / d.m < mtype t g d (x.2 % d.m))) ++
    if d.kind = 3 then
      all 2 ++ all i.pp ++ ((List.range d.np).filter fun k => !gone i.pp k).map (fun k => (i.ppw, k)) ++ all i.p0
    else []

/-! ## Evaluation (R385, R386, R409) -/

/-- An iterate or a direction: states by snapshot, parameters. -/
structure It where
  xs : Mat
  p : Vec
  deriving DecidableEq, Repr, Inhabited

/-- An evaluation: residuals and Jacobian rows by snapshot, f. -/
structure Ev where
  r : Mat
  jac : List Mat
  f : Nat
  deriving Repr, Inhabited

/-- An overflow while evaluating h, F, g, a norm or the damping update (R404). -/
def evalFail : SFail := { cause := 3, idx := some 0xFFFFFF, fwd := true }

/-- h_i at y. -/
def hAt (q : Prob) (y : Vec) (i : Nat) : Nat :=
  let row := q.rows.getD i []
  let lin := dot (row.map (·.2)) (row.map fun e => at1 y e.1)
  let a := at1 y (q.ia.getD i 0)
  match q.mt.getD i 0 with
  | 0 => lin
  | 1 => Arr.add lin (Arr.mul (at1 q.mc i) (Arr.mul a (Arr.abs a)))
  | _ => Arr.add lin (Arr.mul (at1 q.mc i) (Arr.mul a (at1 y (q.ib.getD i 0))))

/-- The Jacobian row i at y, dense (R386). -/
def jacAt (q : Prob) (y : Vec) (i : Nat) : Vec :=
  let row := q.rows.getD i []
  let c := at1 q.mc i
  let ia := q.ia.getD i 0
  let ib := q.ib.getD i 0
  let two := F64.ofNat 2
  let extra : List (Nat × Nat) := match q.mt.getD i 0 with
    | 0 => []
    | 1 => [(ia, Arr.mul (Arr.mul two c) (Arr.abs (at1 y ia)))]
    | _ =>
      if ia = ib then [(ia, Arr.mul (Arr.mul two c) (at1 y ia))]
      else [(ia, Arr.mul c (at1 y ib)), (ib, Arr.mul c (at1 y ia))]
  vec (q.d.n + q.d.np) fun j => sum ((row ++ extra).filterMap fun e => if e.1 = j then some e.2 else none)

/-- Evaluation at an iterate. -/
def eval (q : Prob) (x : It) : SRes Ev := do
  let half := F64.ofRat 1 2
  let ys := x.xs.map fun v => v ++ x.p
  let r ← (ys.zipIdx).mapM fun e => ckV evalFail (vec q.d.m fun i =>
    if (q.pres.getD e.2 []).getD i false then Arr.sub (at1 (q.z.getD e.2 []) i) (hAt q e.1 i) else 0)
  -- a removed row is no part of F (R391)
  let jac ← ys.zipIdx.mapM fun e => ckM evalFail ((List.range q.d.m).map fun i =>
    if (q.pres.getD e.2 []).getD i false then jacAt q e.1 i else zeros (q.d.n + q.d.np))
  let meas := (r.zip q.w).map fun e => dot (mulE e.2 e.1) e.1
  let prior := ((x.xs.zip q.xpri).zip q.px).map fun e => (let dv := subV e.1.1 e.1.2; dot (mulE e.2 dv) dv)
  let dp := subV x.p q.ppri
  let f ← ck evalFail (Arr.add (Arr.mul half (Arr.add (sum meas) (sum prior))) (Arr.mul half (dot (mulE q.pp dp) dp)))
  pure ⟨r, jac, f⟩

/-- Columns of a Jacobian by state and by parameter. -/
def jx (q : Prob) (j : Mat) : Mat := j.map fun r => r.take q.d.n
def jp (q : Prob) (j : Mat) : Mat := j.map fun r => r.drop q.d.n

/-- The negative gradient g (R399). -/
def grad (q : Prob) (x : It) (e : Ev) : SRes It := do
  let wr := (e.r.zip q.w).map fun a => mulE a.2 a.1
  let gx ← (List.range q.d.ns).mapM fun s => ckV evalFail (addV (mulV (tr q.d.n (jx q (e.jac.getD s []))) (wr.getD s []))
    (mulE (q.px.getD s []) (subV (q.xpri.getD s []) (x.xs.getD s []))))
  let gp ← ckV evalFail ((List.range q.d.ns).foldl (fun a s =>
    addV a (mulV (tr q.d.np (jp q (e.jac.getD s []))) (wr.getD s []))) (mulE q.pp (subV q.ppri x.p)))
  pure ⟨gx, gp⟩

def normIt (x : It) : Nat := norm (x.xs.map norm ++ [norm x.p])

/-- Aᵀ W B for two blocks of Jacobian columns. -/
def quad (w : Vec) (a b : Mat) (ca cb : Nat) : Mat :=
  let at_ := tr ca a
  let bt := tr cb b
  at_.map fun c => let cw := mulE c w; bt.map fun k => dot cw k

/-- A diagonal added to a matrix. -/
def addDiag (a : Mat) (v : Vec) : Mat := a.zipIdx.map fun e => e.1.zipIdx.map fun x =>
  if x.2 = e.2 then Arr.add x.1 (at1 v e.2) else x.1
def diagOf (a : Mat) : Vec := a.zipIdx.map fun e => at1 e.1 e.2

/-- A matrix in elimination order (R394). -/
def permM (pm : List Nat) (a : Mat) : Mat := pm.map fun i => pm.map fun j => at2 a i j
def permV (pm : List Nat) (v : Vec) : Vec := pm.map fun i => at1 v i
def unpermV (pm : List Nat) (v : Vec) : Vec :=
  (List.range pm.length).map fun i => at1 v ((pm.findIdx? (· == i)).getD 0)

/-- A step: its direction, the damping diagonal times it, replaced pivots. -/
structure Step where
  dx : It
  ddx : It
  reg : Nat
  deriving Repr, Inhabited

/-- The blocks of the normal matrix before damping: A and B of each snapshot, J_pᵀ W J_p of each, and all of the parameter
block (R399, R413). -/
structure Blocks where
  a : List Mat
  b : List Mat
  q : List Mat
  p : Mat
  deriving Repr, Inhabited

/-- An overflow of a block carries the first pivot position of the matrix it belongs to (DEDUCED, log 50). -/
def blockFail (pos : Nat) : SFail := { cause := 3, idx := some pos }

/-- The normal matrix. -/
def blocks (q : Prob) (e : Ev) : SRes Blocks := do
  let d := q.d
  let ss := List.range d.ns
  let x := fun s => jx q (e.jac.getD s [])
  let p := fun s => jp q (e.jac.getD s [])
  let w := fun s => q.w.getD s []
  let as ← ss.mapM fun s => ckM (blockFail (s * d.n)) (addDiag (quad (w s) (x s) (x s) d.n d.n) (q.px.getD s []))
  let bs ← ss.mapM fun s => ckM (blockFail (s * d.n)) (quad (w s) (x s) (p s) d.n d.np)
  let qs ← ss.mapM fun s => ckM (blockFail (d.ns * d.n)) (quad (w s) (p s) (p s) d.np d.np)
  let pp := mat d.np d.np fun i j => if i = j then at1 q.pp i else 0
  let all ← ckM (blockFail (d.ns * d.n)) (qs.foldl addM pp)
  pure ⟨as, bs, qs, all⟩

/-- Factor and solve (R399, R400, R413). The pivots are tested against the columns of the whole damped normal matrix
(R402). -/
def solveStep (q : Prob) (pv : Piv) (e : Ev) (g : It) (lam : Nat) : SRes Step := do
  let d := q.d
  let ss := List.range d.ns
  let bl ← blocks q e
  -- the damping diagonal (R400, R413)
  let big := norm ((bl.a.map fun a => norm (diagOf a)) ++ [norm (diagOf bl.p)])
  let low := Arr.mul (F64.ofRat 1 (2 ^ 52)) big
  let dxs := bl.a.map fun a => (diagOf a).map fun v => Arr.max v low
  let dp := (diagOf bl.p).map fun v => Arr.max v low
  let damp := fun a v => if fisZero b64 lam then a else addDiag a (scaleV lam v)
  let pp := mat d.np d.np fun i j => if i = j then at1 q.pp i else 0
  let s0 ← ckM (blockFail (d.ns * d.n)) (damp pp dp)
  let whole ← ckM (blockFail (d.ns * d.n)) (damp bl.p dp)
  let fac := fun s j => s * d.n + j
  let root := fun j => d.ns * d.n + j
  let (sm, gs, fs, reg) ← ss.foldlM (fun (acc : Mat × Vec × List Ldl × Nat) s => withReg acc.2.2.2 do
    let b := q.perm.map fun i => (bl.b.getD s []).getD i []
    let a ← ckM (blockFail (s * d.n)) (permM q.perm (damp (bl.a.getD s []) (dxs.getD s [])))
    let norms := (symNorms d.n a).zipWith Arr.max (b.map norm)
    let sq := addM acc.1 (bl.q.getD s [])
    let f ← ldlWith pv d.n a norms (fac s) none
    withReg f.reg do
      let y ← ldlSolveM (fac s) none f b d.np
      let v ← ldlSolve (fac s) none f (permV q.perm (g.xs.getD s []))
      let bt := tr d.np b
      let sm ← ckM (blockFail (d.ns * d.n)) (addM sq (negM (mulM bt y d.np)))
      let gs ← ckV (blockFail (d.ns * d.n)) (subV acc.2.1 (mulV bt v))
      pure (sm, gs, acc.2.2.1 ++ [f], acc.2.2.2 + f.reg)) (s0, g.p, [], 0)
  withReg reg do
    -- column j of the normal matrix for parameter j: B of every snapshot, then the damped parameter block
    let own := symNorms d.np whole
    let norms := (List.range d.np).map fun j =>
      norm (at1 own j :: (bl.b.map fun b => norm (b.map fun r => at1 r j)))
    let fS ← ldlWith pv d.np sm norms root none
    withReg fS.reg do
      let dpv ← ldlSolve root none fS gs
      let xs ← ss.mapM fun s => do
        let gx := g.xs.getD s []
        let rhs ← ckV (blockFail (s * d.n)) (if d.np = 0 then gx else subV gx (mulV (bl.b.getD s []) dpv))
        let v ← ldlSolve (fac s) none (fs.getD s default) (permV q.perm rhs)
        pure (unpermV q.perm v)
      -- the undamped step forms no Dm dx
      let undamped := fisZero b64 lam
      let ddx ← (xs.zip dxs).mapM fun e => if undamped then pure [] else ckV evalFail (mulE e.2 e.1)
      let ddp ← if undamped then pure [] else ckV evalFail (mulE dp dpv)
      pure ⟨⟨xs, dpv⟩, ⟨ddx, ddp⟩, reg + fS.reg⟩

/-! ## The iteration (R399) -/

structure Kpar where
  maxit : Nat
  epsX : Nat
  epsG : Nat
  lm0 : Nat
  lmMax : Nat
  deriving DecidableEq, Repr, Inhabited

/-- What the loop carries. -/
structure Lp where
  x : It
  e : Ev
  lam : Nat
  nu : Nat
  it : Nat
  reg : Nat
  step : Nat
  deriving Repr, Inhabited

/-- How a solve ends. -/
structure End where
  code : Nat
  exit : Nat
  s : Lp
  gnorm : Nat
  fail : Option SFail := none
  deriving Repr, Inhabited

def addItv (x d : It) : It := ⟨x.xs.zipWith addV d.xs, addV x.p d.p⟩
def dotIt (a b : It) : Nat := Arr.add (sum (a.xs.zipWith dot b.xs)) (dot a.p b.p)

/-- One pass of the loop: the test of g, then a step; none ends it, with the code and EXIT. -/
def pass (q : Prob) (kp : Kpar) (pv : Piv) (cap : Option Nat) (s : Lp) : SRes (Lp × Option (Nat × Nat) × Nat) := do
  let one := F64.ofNat 1
  let two := F64.ofNat 2
  let g ← grad q s.x s.e
  let gn ← ck evalFail (normIt g)
  if F64.le gn (Arr.mul kp.epsG (Arr.add one s.e.f)) then pure (s, some (0, 1), gn)
  else if s.it = kp.maxit then pure (s, some (0x1601, 3), gn)
  else if cap = some s.it then pure (s, some (eTimeout, 5), gn)
  else
    let st ← solveStep q pv s.e g s.lam
    withReg st.reg do
    let x1 := addItv s.x st.dx
    let _ ← ckM evalFail (x1.p :: x1.xs)
    let e1 ← eval q x1
    let dn ← ck evalFail (normIt st.dx)
    let s := { s with it := s.it + 1, reg := s.reg + st.reg, step := dn }
    let take := fun (s : Lp) (lam nu : Nat) =>
      let s' : Lp := { s with x := x1, e := e1, lam := lam, nu := nu }
      if F64.le dn (Arr.mul kp.epsX (Arr.add one (normIt x1))) then (s', some ((0, 2) : Nat × Nat), gn) else (s', none, gn)
    if fisZero b64 s.lam then pure (take s s.lam s.nu)
    else
      let ld : It := ⟨st.ddx.xs.map (scaleV s.lam), scaleV s.lam st.ddx.p⟩
      let pred ← ck evalFail (Arr.mul (F64.ofRat 1 2) (dotIt st.dx (addItv ld g)))
      let df ← ck evalFail (Arr.sub s.e.f e1.f)
      if F64.lt 0 pred && F64.lt 0 df then
        let rho ← ck evalFail (Arr.div df pred)
        let k := Arr.sub (Arr.mul two rho) one
        let lam ← ck evalFail (Arr.mul s.lam (Arr.max (F64.ofRat 1 3) (Arr.sub one (Arr.mul (Arr.mul k k) k))))
        pure (take s lam two)
      else
        let lam ← ck evalFail (Arr.mul s.lam s.nu)
        let s := { s with lam := lam, nu := Arr.mul two s.nu }
        if F64.lt kp.lmMax lam then pure (s, some (0x1601, 4), gn) else pure (s, none, gn)

def failCode (f : SFail) : Nat := if f.cause = 3 then 0x1603 else 0x1602

def loop (q : Prob) (kp : Kpar) (pv : Piv) (cap : Option Nat) : (fuel : Nat) → Lp → End
  | 0, s => ⟨0x1601, 3, s, 0, none⟩
  | n + 1, s => match pass q kp pv cap s with
    | .error f => ⟨failCode f, 6, { s with reg := s.reg + f.reg }, 0, some f⟩
    | .ok (s', some (c, x), gn) => ⟨c, x, s', gn, none⟩
    | .ok (s', none, _) => loop q kp pv cap n s'

/-- The solve from a start point (R399). -/
def solve (q : Prob) (kp : Kpar) (pv : Piv) (cap : Option Nat) (x : It) : End :=
  let s : Lp := ⟨x, default, kp.lm0, F64.ofNat 2, 0, 0, 0⟩
  match eval q x with
  | .error f => ⟨0x1603, 6, s, 0, some f⟩
  | .ok e => loop q kp pv cap (kp.maxit + 1) { s with e := e }

end Sys2Proof.Machine.Lsq
end

