-- ==== Sys2Proof/Machine/Qp.lean ====
section
/-!
DEFINITION. The quadratic program (chapter 08): its table, its analysis record, and the interior-point iteration R357 to
R369 on the array's arithmetic. Where the manual states no order for the terms of an expression, the model takes the
order written here, and sums take the array's reduction order (log 50).
-/
namespace Sys2Proof.Machine.Qp

open Lin

/-! ## The table (R345, R346, R348) -/

structure Dims where
  nx : Nat
  nu : Nat
  nc : Nat
  n : Nat
  nd : Nat
  deriving DecidableEq, Repr, Inhabited

def dims (t : Tab) : Dims := ⟨t.dim 0, t.dim 1, t.dim 2, t.dim 3, t.dim 4⟩

/-- A dimension above its maximum, and one below its minimum (R345). -/
def dimHigh (t : Tab) : Bool :=
  let d := dims t
  decide (192 < d.nx ∨ 128 < d.nu ∨ 384 < d.nc ∨ 64 < d.n ∨ 128 < d.nd ∨ 0 < t.dim 5 ∨ 0 < t.dim 6 ∨ 0 < t.dim 7)
def dimLow (t : Tab) : Bool := let d := dims t; decide (d.nx = 0 ∨ d.nu = 0 ∨ d.n = 0)

/-- The sections of a QP table (R346). -/
def needs (d : Dims) : List Tab.Need :=
  [⟨1, [2, 3], d.nx, d.nx, false, false, false⟩, ⟨2, [2, 3], d.nx, d.nu, false, false, false⟩] ++
  (if d.nd = 0 then [] else
    [⟨3, [2, 3], d.nx, d.nd, false, false, false⟩, ⟨11, [2], d.nd, d.n, false, false, false⟩]) ++
  (if d.nc = 0 then [] else
    [⟨4, [2, 3], d.nc, d.nx, false, false, false⟩, ⟨5, [2, 3], d.nc, d.nu, false, false, false⟩,
     ⟨16, [2], d.nc, d.n, false, false, false⟩, ⟨21, [0], d.nc, 1, false, false, false⟩,
     ⟨24, [0], d.nc, 1, true, false, false⟩]) ++
  [⟨6, [2], d.nx, d.nx, false, false, false⟩, ⟨7, [2, 3], d.nx, d.nu, false, false, false⟩,
   ⟨8, [2], d.nu, d.nu, false, false, false⟩, ⟨9, [2], d.nx, d.nx, false, false, false⟩,
   ⟨10, [0], d.nx, 1, false, false, false⟩, ⟨12, [2], d.nx, d.n + 1, false, false, false⟩,
   ⟨13, [2], d.nx, d.n + 1, false, false, false⟩, ⟨14, [2], d.nu, d.n, false, false, false⟩,
   ⟨15, [2], d.nu, d.n, false, false, false⟩, ⟨17, [2], d.nx, d.n + 1, false, false, false⟩,
   ⟨18, [2], d.nu, d.n, false, false, false⟩, ⟨19, [2], d.nx, d.n, false, false, false⟩,
   ⟨20, [2], d.nu, d.n, false, false, false⟩, ⟨22, [0], d.nx, 1, true, false, false⟩,
   ⟨23, [0], d.nu, 1, true, false, false⟩]

/-- A mask value that is exactly one of the codes 0 to `top`. -/
def maskAt (t : Tab) (g : Rd) (id i top : Nat) : Option Nat :=
  let v := t.val g id i
  (List.range (top + 1)).find? fun c => F64.eq v (F64.ofNat c)

/-- The masks XBND, UBND and CROW hold listed codes only (R348). -/
def masksBad (t : Tab) (g : Rd) : Bool :=
  let d := dims t
  (List.range d.nx).any (fun i => (maskAt t g 22 i 3).isNone) || (List.range d.nu).any (fun i => (maskAt t g 23 i 3).isNone)
    || (List.range d.nc).any fun i => (maskAt t g 24 i 2).isNone

/-- Indices below n whose mask code satisfies p. -/
def withMask (t : Tab) (g : Rd) (id n top : Nat) (p : Nat → Bool) : List Nat :=
  (List.range n).filter fun i => match maskAt t g id i top with | some c => p c | none => false

/-! ## The analysis record (R352, R353) -/

/-- The QP analysis record. -/
def analyse (t : Tab) (g : Rd) : List Byte :=
  let d := dims t
  let ulo := withMask t g 23 d.nu 3 fun c => c == 1 || c == 3
  let uhi := withMask t g 23 d.nu 3 fun c => c == 2 || c == 3
  let xlo := withMask t g 22 d.nx 3 fun c => c == 1 || c == 3
  let xhi := withMask t g 22 d.nx 3 fun c => c == 2 || c == 3
  let rows := withMask t g 24 d.nc 2 fun c => c != 0
  let soft := withMask t g 24 d.nc 2 fun c => c == 2
  let idx := ulo ++ uhi ++ xlo ++ xhi ++ rows ++ soft
  let ms := idx.length
  let alen := 128 + up 64 (2 * ms)
  let cnt := [ulo.length, uhi.length, xlo.length, xhi.length, rows.length - soft.length, soft.length, ms, up 8 ms]
  let cb := cnt.flatMap (toLe 4)
  let ib := Tab.pad64 (idx.flatMap (toLe 2))
  Tab.recHead t g (t.sig g) alen ++ cb ++ toLe 4 (crc32c (cb ++ ib)) ++ List.replicate 28 0 ++ ib

/-- The counts of a record. -/
def counts (g : Rd) (ana : Nat) : List Nat := (List.range 8).map fun i => g (ana + 64 + 4 * i) 4

/-- A wrong ACRC (R353). -/
def acrcBad (g : Rd) (ana : Nat) : Bool :=
  let alen := min (g (ana + 12) 4) 65536
  crc32c (rdBytes g (ana + 64) 32 ++ rdBytes g (ana + 128) (alen - 128)) != g (ana + 96) 4

/-- A record that does not fit the table (R353). -/
def recUnfit (t : Tab) (g : Rd) (ana : Nat) : Bool :=
  let d := dims t
  let c := counts g ana
  let k := fun i => c.getD i 0
  let ms := k 6
  decide (k 0 + k 1 + k 2 + k 3 + k 4 + 2 * k 5 ≠ ms ∨ d.nu < k 0 ∨ d.nu < k 1 ∨ d.nx < k 2 ∨ d.nx < k 3 ∨
    d.nc < k 4 ∨ d.nc < k 5 ∨ k 7 ≠ up 8 ms ∨ g (ana + 12) 4 ≠ 128 + up 64 (2 * ms)) ||
  (List.range (min ms 2048)).any fun j =>
    let i := g (ana + 128 + 2 * j) 2
    decide (i ≥ if j < k 0 + k 1 then d.nu else if j < k 0 + k 1 + k 2 + k 3 then d.nx else d.nc)

/-- The inequalities of a stage in the order of R352: (group, index), groups 0 to 5. -/
def ineqs (g : Rd) (ana : Nat) : List (Nat × Nat) :=
  let c := counts g ana
  let k := fun i => c.getD i 0
  let groups := List.replicate (k 0) 0 ++ List.replicate (k 1) 1 ++ List.replicate (k 2) 2 ++ List.replicate (k 3) 3 ++
    List.replicate (k 4 + k 5) 4 ++ List.replicate (k 5) 5
  groups.zipIdx.map fun e => (e.1, g (ana + 128 + 2 * e.2) 2)

/-! ## Sizes of the areas (R354 to R356) -/

def outLen (d : Dims) : Nat := 64 + 8 * (up 8 d.nu * d.n + up 8 d.nx * (2 * d.n + 1) + up 8 d.nc * d.n)
def workLen (d : Dims) : Nat :=
  8 * ((d.n + 1) * (up 8 d.nu * (d.nx + d.nu) + 16 * (up 8 d.nx + up 8 d.nu) + 32 * up 8 d.nc) + 2 * up 8 d.nx * d.nx)
def warmLen (d : Dims) (ms : Nat) : Nat := outLen d + 8 * (2 * up 8 ms * d.n)

/-! ## The problem (R340 to R343) -/

/-- The problem as the job reads it; stage matrices are scaled (R341). -/
structure Prob where
  d : Dims
  a : Mat
  b : Mat
  e : Mat
  c : Mat
  dm : Mat
  p : Mat
  qk : List Mat
  sk : List Mat
  rk : List Mat
  x0 : Vec
  /-- E d_k of each stage, and the linear terms by stage. -/
  ed : List Vec
  ql : List Vec
  rl : List Vec
  /-- ρ by row, zero where it is below zero (R342). -/
  rho : Vec
  ineq : List (Nat × Nat)
  /-- Right-hand sides and presence of the inequalities of each stage (R349, R352). -/
  h : List Vec
  pres : List (List Bool)
  deriving Repr, Inhabited

/-- Position of a group and index among the inequalities of a stage. -/
def Prob.pos (q : Prob) (grp i : Nat) : Option Nat := q.ineq.findIdx? fun e => e == (grp, i)

/-- The entry of a stage vector for a group and index; zero where there is no such inequality. -/
def Prob.pick (q : Prob) (v : Vec) (grp i : Nat) : Nat :=
  match q.pos grp i with | some j => at1 v j | none => 0

/-- The slack of row i of stage k is a variable: the row is soft and present (R342, R349). -/
def Prob.softAt (q : Prob) (k i : Nat) : Bool :=
  match q.pos 5 i with | some j => (q.pres.getD k []).getD j false | none => false

/-- Section and element that give inequality (grp, i) of stage k its right-hand side (R346). -/
def ineqElem (d : Dims) (k grp i : Nat) : Nat × Nat :=
  match grp with
  | 0 => (14, i + d.nu * k)
  | 1 => (15, i + d.nu * k)
  | 2 => (12, i + d.nx * (k + 1))
  | 3 => (13, i + d.nx * (k + 1))
  | _ => (16, i + d.nc * k)

/-- A symmetric matrix from its lower triangle (R347). -/
def symm (n : Nat) (m : Mat) : Mat := mat n n fun i j => if j ≤ i then at2 m i j else at2 m j i

/-- The problem of a table; `gone` names the elements removed by OPTIONAL bindings (R349). -/
def build (t : Tab) (g : Rd) (ana : Nat) (gone : Nat → Nat → Bool) : Prob :=
  let d := dims t
  let iq := ineqs g ana
  let q := symm d.nx (t.mat g 6 d.nx d.nx)
  let r := symm d.nu (t.mat g 8 d.nu d.nu)
  let s := t.mat g 7 d.nx d.nu
  let sx := t.mat g 19 d.nx d.n
  let su := t.mat g 20 d.nu d.n
  let e := t.mat g 3 d.nx d.nd
  let dist := t.mat g 11 d.nd d.n
  let c := t.mat g 4 d.nc d.nx
  let x0 := t.vecOf g 10 d.nx
  let ks := List.range d.n
  let sc := fun (l r : Mat) (m : Mat) (n1 n2 k : Nat) =>
    mat n1 n2 fun i j => Arr.mul (Arr.mul (at2 l i k) (at2 m i j)) (at2 r j k)
  let rows := (iq.filter fun x => x.1 == 4).map (·.2)
  let soft := (iq.filter fun x => x.1 == 5).map (·.2)
  let pres := ks.map fun k => iq.map fun x =>
    let y := ineqElem d k x.1 x.2
    !gone y.1 y.2
  let h := ks.map fun k => iq.map fun x =>
    let y := ineqElem d k x.1 x.2
    let v := t.val g y.1 y.2
    if gone y.1 y.2 || x.1 == 5 then 0
    else if x.1 == 0 || x.1 == 2 then Arr.neg v
    else if x.1 == 4 && k == 0 then Arr.sub v (dot (c.getD x.2 []) x0)
    else v
  { d := d, a := t.mat g 1 d.nx d.nx, b := t.mat g 2 d.nx d.nu, e := e, c := c, dm := t.mat g 5 d.nc d.nu
    p := symm d.nx (t.mat g 9 d.nx d.nx)
    qk := ks.map (sc sx sx q d.nx d.nx), sk := ks.map (sc sx su s d.nx d.nu), rk := ks.map (sc su su r d.nu d.nu)
    x0 := x0
    ed := ks.map fun k => mulV e (vec d.nd fun j => at2 dist j k)
    ql := tr (d.n + 1) (t.mat g 17 d.nx (d.n + 1)), rl := tr d.n (t.mat g 18 d.nu d.n)
    rho := vec d.nc fun i =>
      if soft.contains i && rows.contains i then (let v := t.val g 21 i; if F64.lt v 0 then 0 else v) else 0
    ineq := iq, h := h, pres := pres }

/-- The elements that the job reads and that must be finite (R347, R349, R350): (section, element). Values the job has no
use for (unselected bounds, absent rows, column 0 of XMIN and XMAX, upper triangles) are not read. -/
def reads (t : Tab) (g : Rd) (ana : Nat) : List (Nat × Nat) :=
  let d := dims t
  let iq := ineqs g ana
  let has := fun grp i => iq.contains (grp, i)
  let sel := fun (id : Nat) (p : Nat → Nat → Bool) =>
    ((t.places g id).filter fun x => p x.2.1 x.2.2).map fun x => (id, x.1)
  [1, 2, 3, 7, 10, 11, 17, 18, 19, 20].flatMap (fun id => sel id fun _ _ => true) ++
  [6, 8, 9].flatMap (fun id => sel id fun i j => decide (j ≤ i)) ++
  [4, 5].flatMap (fun id => sel id fun i _ => has 4 i) ++ sel 21 (fun i _ => has 5 i) ++
  (List.range d.n).flatMap fun k => (iq.filter fun x => x.1 != 5).map fun x => ineqElem d k x.1 x.2

/-! ## Iterates and the operators F, G and H -/

/-- An iterate or a direction: u_k, x_k (index 0 is x̂, or 0 in a direction), slacks by row, π_k, λ and t by inequality. -/
structure It where
  u : Mat
  x : Mat
  s : Mat
  pi : Mat
  lam : Mat
  t : Mat
  deriving DecidableEq, Repr, Inhabited

/-- (G z)_j of stage k; x_0 is no variable. -/
def gz (q : Prob) (z : It) (k : Nat) : Vec :=
  let u := z.u.getD k []
  let x := if k = 0 then zeros q.d.nx else z.x.getD k []
  let x1 := z.x.getD (k + 1) []
  let s := z.s.getD k []
  (q.ineq.zip (q.pres.getD k [])).map fun e =>
    if !e.2 then 0
    else match e.1.1 with
      | 0 => Arr.neg (at1 u e.1.2)
      | 1 => at1 u e.1.2
      | 2 => Arr.neg (at1 x1 e.1.2)
      | 3 => at1 x1 e.1.2
      | 4 =>
        let v := Arr.add (dot (q.c.getD e.1.2 []) x) (dot (q.dm.getD e.1.2 []) u)
        if q.softAt k e.1.2 then Arr.sub v (at1 s e.1.2) else v
      | _ => Arr.neg (at1 s e.1.2)

/-- Row entries of a stage vector of inequalities, by row. -/
def rowPart (q : Prob) (v : Vec) : Vec := vec q.d.nc fun i => q.pick v 4 i

/-- (Gᵀ v) for u_k. -/
def gtU (q : Prob) (v : Vec) : Vec :=
  let r := rowPart q v
  vec q.d.nu fun j => sum [Arr.neg (q.pick v 0 j), q.pick v 1 j, dot (q.dm.map fun row => at1 row j) r]

/-- (Gᵀ v) for x_k, k ≥ 1: the bounds of stage k − 1 and the rows of stage k (none for k = N). -/
def gtX (q : Prob) (vs : Mat) (k : Nat) : Vec :=
  let b := vs.getD (k - 1) []
  let r := if k < q.d.n then rowPart q (vs.getD k []) else zeros q.d.nc
  vec q.d.nx fun j => sum [Arr.neg (q.pick b 2 j), q.pick b 3 j, dot (q.c.map fun row => at1 row j) r]

/-- (Gᵀ v) for the slacks of stage k. -/
def gtS (q : Prob) (v : Vec) (k : Nat) : Vec :=
  vec q.d.nc fun i => if q.softAt k i then Arr.neg (Arr.add (q.pick v 4 i) (q.pick v 5 i)) else 0

/-- (Fᵀ π) for u_k and for x_k, k ≥ 1. -/
def ftU (q : Prob) (pi : Mat) (k : Nat) : Vec := negV (mulV (tr q.d.nu q.b) (pi.getD k []))
def ftX (q : Prob) (pi : Mat) (k : Nat) : Vec :=
  let p := pi.getD (k - 1) []
  if k < q.d.n then subV p (mulV (tr q.d.nx q.a) (pi.getD k [])) else p

/-- (H z) for u_k and x_k; the terms of x̂ are no part of H. -/
def hU (q : Prob) (z : It) (k : Nat) : Vec :=
  let r := mulV (q.rk.getD k []) (z.u.getD k [])
  if k = 0 then r else addV r (mulV (tr q.d.nu (q.sk.getD k [])) (z.x.getD k []))
def hX (q : Prob) (z : It) (k : Nat) : Vec :=
  let x := z.x.getD k []
  if k < q.d.n then addV (mulV (q.qk.getD k []) x) (mulV (q.sk.getD k []) (z.u.getD k [])) else mulV q.p x

/-- The linear term g for u_k and x_k: x̂ enters through S_0. -/
def gU (q : Prob) (k : Nat) : Vec :=
  let r := q.rl.getD k []
  if k = 0 then addV r (mulV (tr q.d.nu (q.sk.getD 0 [])) q.x0) else r
def gX (q : Prob) (k : Nat) : Vec := q.ql.getD k []
def gS (q : Prob) (k : Nat) : Vec := vec q.d.nc fun i => if q.softAt k i then at1 q.rho i else 0

/-- f of the dynamics of stage k: E d_k, and A x̂ for k = 0. -/
def fK (q : Prob) (k : Nat) : Vec :=
  let e := q.ed.getD k []
  let e := if e = [] then zeros q.d.nx else e
  if k = 0 then addV (mulV q.a q.x0) e else e

/-- (F z) of stage k. -/
def fz (q : Prob) (z : It) (k : Nat) : Vec :=
  let y := subV (z.x.getD (k + 1) []) (mulV q.b (z.u.getD k []))
  if k = 0 then y else subV y (mulV q.a (z.x.getD k []))

/-- Stages 0 to N − 1. -/
def ks (q : Prob) : List Nat := List.range q.d.n

/-! ## Start points (R357, R372) -/

/-- Every present inequality's t raised to its floor. -/
def startT (q : Prob) (z : It) (f : Nat → Nat → Nat → Nat) : Mat :=
  (ks q).map fun k => (gz q z k).zipIdx.map fun e =>
    if (q.pres.getD k []).getD e.2 false then
      let h := at1 (q.h.getD k []) e.2
      f (Arr.sub h e.1) h (at1 (z.t.getD k []) e.2)
    else 0

/-- The cold start (R357). -/
def cold (q : Prob) : It :=
  let one := F64.ofNat 1
  let u := (ks q).map fun k => vec q.d.nu fun j =>
    let pr := fun grp => match q.pos grp j with
      | some i => if (q.pres.getD k []).getD i false then some (at1 (q.h.getD k []) i) else none
      | none => none
    let v := match pr 0 with | some h => Arr.max 0 (Arr.neg h) | none => 0
    match pr 1 with | some h => Arr.min v h | none => v
  let x := (ks q).foldl (fun (x : Mat) k =>
    x ++ [addV (addV (mulV q.a (x.getD k [])) (mulV q.b (u.getD k [])))
      (let e := q.ed.getD k []; if e = [] then zeros q.d.nx else e)]) [q.x0]
  let z : It := ⟨u, x, (ks q).map fun _ => zeros q.d.nc, (ks q).map fun _ => zeros q.d.nx, [], []⟩
  let s := (ks q).map fun k =>
    let gv := gz q z k
    vec q.d.nc fun i => if q.softAt k i then
      Arr.add (Arr.max (Arr.sub (q.pick gv 4 i) (q.pick (q.h.getD k []) 4 i)) 0) one else 0
  let z := { z with s := s }
  let t := startT q z fun gap _ _ => Arr.max gap one
  { z with t := t, lam := (q.pres.map fun p => p.map fun b => if b then one else 0) }

/-- The warm start from a record's matrices with shift s (R372). -/
def warm (q : Prob) (w : It) (s : Nat) : It :=
  let n := q.d.n
  let m := fun k => min (k + s) (n - 1)
  let z : It := ⟨(ks q).map fun k => w.u.getD (m k) [],
    q.x0 :: (List.range n).map fun k => w.x.getD (min (k + 1 + s) n) [],
    (ks q).map fun k => (w.s.getD (m k) []).zipIdx.map fun e => if q.softAt k e.2 then e.1 else 0,
    (ks q).map fun k => w.pi.getD (m k) [], (ks q).map fun k => w.lam.getD (m k) [], (ks q).map fun k => w.t.getD (m k) []⟩
  let milli := F64.ofRat 1 1000
  let t := startT q z fun gap h t =>
    Arr.max (Arr.max t gap) (Arr.mul milli (Arr.add (F64.ofNat 1) (Arr.abs h)))
  let lam := (ks q).map fun k => ((z.lam.getD k []).zip (q.pres.getD k [])).map fun e =>
    if e.2 then Arr.max e.1 milli else 0
  { z with t := t, lam := lam }

/-! ## Residuals -/

/-- Residuals of an iterate (R359): r_d for u, x and the slacks, r_p, r_i, μ, m. -/
structure Res where
  du : Mat
  dx : Mat
  ds : Mat
  p : Mat
  i : Mat
  mu : Nat
  deriving DecidableEq, Repr, Inhabited

/-- m, the number of inequalities present (R352). -/
def mCount (q : Prob) : Nat := ((q.pres.map fun p => (p.filter id).length)).sum

/-- λᵀt over m, or 0 (R359). -/
def muOf (q : Prob) (lam t : Mat) : Nat :=
  if mCount q = 0 then 0 else Arr.div (dot lam.flatten t.flatten) (F64.ofNat (mCount q))

/-- The residuals. -/
def resid (q : Prob) (z : It) : Res :=
  { du := (ks q).map fun k => addV (addV (addV (hU q z k) (gU q k)) (ftU q z.pi k)) (gtU q (z.lam.getD k []))
    dx := (ks q).map fun k => addV (addV (addV (hX q z (k + 1)) (gX q (k + 1))) (ftX q z.pi (k + 1))) (gtX q z.lam (k + 1))
    ds := (ks q).map fun k => addV (gS q k) (gtS q (z.lam.getD k []) k)
    p := (ks q).map fun k => subV (fz q z k) (fK q k)
    i := (ks q).map fun k => ((subV (addV (gz q z k) (z.t.getD k [])) (q.h.getD k [])).zip (q.pres.getD k [])).map
      fun e => if e.2 then e.1 else 0
    mu := muOf q z.lam z.t }

/-- Norm over a list of stage vectors. -/
def normM (m : Mat) : Nat := norm (m.map norm)

/-! ## The Riccati solve (R358, R360) -/

/-- What the factorisation of one stage leaves: L D Lᵀ of Rt, St, K, and P of the next stage. -/
structure Stage where
  f : Ldl
  st : Mat
  k : Mat
  p1 : Mat
  deriving Repr, Inhabited

/-- The weights λ / t of a stage over its present inequalities (R358). -/
def weights (q : Prob) (z : It) (k : Nat) : Vec :=
  ((divE (z.lam.getD k []) (z.t.getD k [])).zip (q.pres.getD k [])).map fun e => if e.2 then e.1 else 0

/-- The weight of row i after its slack is eliminated. -/
def rowW (q : Prob) (w : Vec) (k i : Nat) : Nat :=
  let r := q.pick w 4 i
  if q.softAt k i then (let n := q.pick w 5 i; Arr.div (Arr.mul r n) (Arr.add r n)) else r

/-- Xᵀ W Y over the rows of stage k, for two coefficient matrices with c1 and c2 columns. -/
def rowQuad (q : Prob) (w : Vec) (k : Nat) (a b : Mat) (c1 c2 : Nat) : Mat :=
  let ws := vec q.d.nc fun i => rowW q w k i
  mat c1 c2 fun i j => dot (mulE (a.map fun r => at1 r i) ws) (b.map fun r => at1 r j)

/-- The diagonal matrix of the bounds' weights: lower group, upper group. -/
def boundW (q : Prob) (w : Vec) (lo hi n : Nat) : Mat :=
  mat n n fun i j => if i = j then Arr.add (q.pick w lo i) (q.pick w hi i) else 0

/-- Stage blocks of H + GᵀWG (R360). -/
def qb (q : Prob) (ws : Mat) (k : Nat) : Mat :=
  let b := boundW q (ws.getD (k - 1) []) 2 3 q.d.nx
  if k < q.d.n then addM (addM (q.qk.getD k []) b) (rowQuad q (ws.getD k []) k q.c q.c q.d.nx q.d.nx) else addM q.p b
def sb (q : Prob) (ws : Mat) (k : Nat) : Mat :=
  addM (q.sk.getD k []) (rowQuad q (ws.getD k []) k q.c q.dm q.d.nx q.d.nu)
def rb (q : Prob) (ws : Mat) (k : Nat) : Mat :=
  addM (addM (q.rk.getD k []) (boundW q (ws.getD k []) 0 1 q.d.nu)) (rowQuad q (ws.getD k []) k q.dm q.dm q.d.nu q.d.nu)

/-- Pivot position j of stage k (R360). -/
def pivPos (q : Prob) (k j : Nat) : Nat := (q.d.n - 1 - k) * q.d.nu + j

/-- An overflow in the backward pass of stage k, outside the step of one pivot: it carries the first pivot position of the
stage, as R368 says for the forward pass (DEDUCED, log 50). -/
def back (q : Prob) (k : Nat) : SFail := { cause := 3, idx := some (pivPos q k 0), stage := some k }
/-- An overflow in the forward pass or an update at stage k (R368). -/
def forw (q : Prob) (k : Nat) : SFail := { cause := 3, idx := some (pivPos q k 0), stage := some k, fwd := true }
/-- An overflow in μ, a norm, a step length or a test (R368): the manual gives its index no value. -/
def whole : SFail := { cause := 3, idx := none }

/-- One stage of the factorisation: from P[k+1] to P[k] (R360). -/
def factorStage (q : Prob) (pv : Piv) (ws : Mat) (k : Nat) (p1 : Mat) : SRes (Stage × Mat) := do
  let bt := tr q.d.nu q.b
  let at_ := tr q.d.nx q.a
  let pb := mulM p1 q.b q.d.nu
  let pa := mulM p1 q.a q.d.nx
  let rt ← ckM (back q k) (addM (rb q ws k) (mulM bt pb q.d.nu))
  let st ← ckM (back q k) (addM (tr q.d.nu (sb q ws k)) (mulM bt pa q.d.nx))
  let f ← ldl pv q.d.nu rt (pivPos q k) (some k)
  withReg f.reg do
    let x ← ldlSolveM (pivPos q k) (some k) f st q.d.nx
    let kk := negM x
    let pk ← if k = 0 then pure [] else
      ckM (back q k) (addM (addM (qb q ws k) (mulM at_ pa q.d.nx)) (mulM (tr q.d.nx st) kk q.d.nx))
    pure (⟨f, st, kk, p1⟩, pk)

/-- The factorisation of all stages, stage 0 first in the answer (R360). -/
def factor (q : Prob) (pv : Piv) (ws : Mat) : SRes (List Stage) := do
  let pn ← ckM (back q (q.d.n - 1)) (qb q ws q.d.n)
  let r ← (ks q).reverse.foldlM (fun (s : List Stage × Mat) k => do
    let (st, pk) ← withReg ((s.1.map fun x => x.f.reg).sum) (factorStage q pv ws k s.2)
    pure (st :: s.1, pk)) ([], pn)
  pure r.1

/-- The direction for a right-hand side r_c (R358, R360). -/
def direction (q : Prob) (fs : List Stage) (ws : Mat) (z : It) (r : Res) (rc : Mat) : SRes It := do
  let d := q.d
  -- (λ ∘ r_i − r_c) / t
  let v := (ks q).map fun k =>
    ((divE (subV (mulE (z.lam.getD k []) (r.i.getD k [])) (rc.getD k [])) (z.t.getD k [])).zip (q.pres.getD k [])).map
      fun e => if e.2 then e.1 else 0
  let rhsS := (ks q).map fun k => subV (negV (r.ds.getD k [])) (gtS q (v.getD k []) k)
  -- what a soft row hands to x and u when its slack is eliminated
  let hand := (ks q).map fun k => vec d.nc fun i =>
    if q.softAt k i then
      let w := ws.getD k []
      let a := q.pick w 4 i
      Arr.div (Arr.mul a (at1 (rhsS.getD k []) i)) (Arr.add a (q.pick w 5 i))
    else 0
  let rbv := fun k => subV (addV (r.du.getD k []) (gtU q (v.getD k []))) (mulV (tr d.nu q.dm) (hand.getD k []))
  let qbv := fun k =>
    let y := addV (r.dx.getD (k - 1) []) (gtX q v k)
    if k < d.n then subV y (mulV (tr d.nx q.c) (hand.getD k [])) else y
  let c := fun k => negV (r.p.getD k [])
  let pn ← ckV (back q (d.n - 1)) (qbv d.n)
  let (ps, kfs) ← (ks q).reverse.foldlM (fun (s : Mat × Mat) k => do
    let f := fs.getD k default
    let p1 := s.1.getD 0 []
    let pc := addV (mulV f.p1 (c k)) p1
    let rt ← ckV (back q k) (addV (rbv k) (mulV (tr d.nu q.b) pc))
    let y ← ldlSolve (pivPos q k) (some k) f.f rt
    let kf := negV y
    let pk ← if k = 0 then pure [] else
      ckV (back q k) (addV (addV (qbv k) (mulV (tr d.nx q.a) pc)) (mulV (tr d.nx f.st) kf))
    pure (pk :: s.1, kf :: s.2)) ([pn], [])
  -- forward pass
  let (us, xs, pis) ← (ks q).foldlM (fun (s : Mat × Mat × Mat) k => do
    let f := fs.getD k default
    let x := s.2.1.getD k []
    let u ← ckV (forw q k) (addV (mulV f.k x) (kfs.getD k []))
    let x1 ← ckV (forw q k) (addV (addV (mulV q.a x) (mulV q.b u)) (c k))
    let p ← ckV (forw q k) (negV (addV (mulV f.p1 x1) (ps.getD (k + 1) [])))
    pure (s.1 ++ [u], s.2.1 ++ [x1], s.2.2 ++ [p])) ([], [zeros d.nx], [])
  let ss ← (ks q).mapM fun k => ckV (forw q k) (vec d.nc fun i =>
    if q.softAt k i then
      let w := ws.getD k []
      let a := q.pick w 4 i
      let gd := Arr.add (dot (q.c.getD i []) (if k = 0 then zeros d.nx else xs.getD k [])) (dot (q.dm.getD i []) (us.getD k []))
      Arr.div (Arr.add (at1 (rhsS.getD k []) i) (Arr.mul a gd)) (Arr.add a (q.pick w 5 i))
    else 0)
  let z0 : It := ⟨us, xs, ss, pis, [], []⟩
  let dt ← (ks q).mapM fun k => ckV (forw q k) ((subV (negV (r.i.getD k [])) (gz q z0 k)).zip (q.pres.getD k []) |>.map
    fun e => if e.2 then e.1 else 0)
  let dl ← (ks q).mapM fun k => ckV (forw q k)
    ((divE (subV (negV (rc.getD k [])) (mulE (z.lam.getD k []) (dt.getD k []))) (z.t.getD k [])).zip (q.pres.getD k []) |>.map
      fun e => if e.2 then e.1 else 0)
  pure { z0 with lam := dl, t := dt }

/-! ## The iteration (R359, R362 to R364) -/

/-- The kind parameters (R351). -/
structure Kpar where
  maxit : Nat
  shift : Nat
  epsP : Nat
  epsD : Nat
  epsG : Nat
  epsInf : Nat
  eta : Nat
  deriving DecidableEq, Repr, Inhabited

/-- The longest step that keeps t and λ non-negative, times eta, at most 1 (R359). -/
def stepLen (z d : It) (eta : Nat) : Nat :=
  let cand := fun (x dx : Mat) => (x.flatten.zip dx.flatten).filterMap fun e =>
    if F64.lt e.2 0 then some (Arr.div (Arr.neg e.1) e.2) else none
  match cand z.t d.t ++ cand z.lam d.lam with
  | [] => F64.ofNat 1
  | a :: as => Arr.min (F64.ofNat 1) (Arr.mul eta (as.foldl Arr.min a))

def addIt (z d : It) (a : Nat) : It :=
  let f := fun (x y : Mat) => x.zipWith (fun p r => addV p (scaleV a r)) y
  ⟨f z.u d.u, f z.x d.x, f z.s d.s, f z.pi d.pi, f z.lam d.lam, f z.t d.t⟩

/-- Norms of f, h and g (R362). -/
def normF (q : Prob) : Nat := normM ((ks q).map (fK q))
def normH (q : Prob) : Nat := normM q.h
def normG (q : Prob) : Nat :=
  normM ((ks q).map (gU q) ++ ((ks q).map fun k => gX q (k + 1)) ++ (ks q).map (gS q))

/-- The convergence test (R362). -/
def converged (q : Prob) (kp : Kpar) (r : Res) : SRes Bool := do
  let lim := fun e n => Arr.mul e (Arr.add (F64.ofNat 1) n)
  let a ← ck whole (normM r.p)
  let b ← ck whole (normM r.i)
  let c ← ck whole (normM (r.du ++ r.dx ++ r.ds))
  let mu ← ck whole r.mu
  let lp ← ck whole (lim kp.epsP (normF q))
  let li ← ck whole (lim kp.epsP (normH q))
  let ld ← ck whole (lim kp.epsD (normG q))
  pure (F64.le a lp && F64.le b li && F64.le c ld && F64.le mu kp.epsG)

/-- The primal infeasibility test (R363). -/
def primalTest (q : Prob) (kp : Kpar) (z : It) : SRes Bool := do
  let nu ← ck whole (Arr.max (normM z.lam) (normM z.pi))
  if !F64.lt 0 nu then pure false
  else
    let v := (ks q).map (fun k => addV (ftU q z.pi k) (gtU q (z.lam.getD k []))) ++
      (ks q).map (fun k => addV (ftX q z.pi (k + 1)) (gtX q z.lam (k + 1))) ++
      (ks q).map fun k => gtS q (z.lam.getD k []) k
    let n ← ck whole (normM v)
    let e := Arr.mul kp.epsInf nu
    let s ← ck whole (Arr.add (dot ((ks q).map (fK q)).flatten z.pi.flatten) (dot q.h.flatten z.lam.flatten))
    pure (F64.le n e && F64.lt s (Arr.neg e))

/-- The dual infeasibility test on a predictor direction (R364). -/
def dualTest (q : Prob) (kp : Kpar) (d : It) : SRes Bool := do
  let sz ← ck whole (normM (d.u ++ d.x ++ d.s))
  if !F64.lt 0 sz then pure false
  else
    let e := Arr.mul kp.epsInf sz
    let hn ← ck whole (normM ((ks q).map (hU q d) ++ (ks q).map fun k => hX q d (k + 1)))
    let fn ← ck whole (normM ((ks q).map (fz q d)))
    let gd ← ckM whole ((ks q).map (gz q d))
    let s ← ck whole (sum (((ks q).map fun k => dot (gU q k) (d.u.getD k [])) ++
      ((ks q).map fun k => dot (gX q (k + 1)) (d.x.getD (k + 1) [])) ++ (ks q).map fun k => dot (gS q k) (d.s.getD k [])))
    pure (F64.le hn e && F64.le fn e && gd.all (fun v => v.all fun x => F64.le x e) && F64.lt s (Arr.neg e))

/-- How a solve ends: the code, the iterate, its residuals, iterations, replaced pivots, the failure if any, and the
iteration of an infeasibility. -/
structure End where
  code : Nat
  z : It
  r : Res
  iter : Nat
  reg : Nat
  fail : Option SFail := none
  inf : Option Nat := none
  deriving Repr, Inhabited

/-- The code of a failure by its cause (R333). -/
def failCode (f : SFail) : Nat := if f.cause = 3 then 0x1603 else 0x1602

/-- What one iteration gives: the next iterate, the counts of replaced pivots, or an infeasibility. -/
structure IterOut where
  z : It
  reg : Nat
  dcount : Nat
  pcount : Nat

/-- One iteration of R359 from an iterate that has not converged. -/
def iterate (q : Prob) (kp : Kpar) (pv : Piv) (z : It) (r : Res) (dcount pcount : Nat) : SRes IterOut := do
  let ws := (ks q).map (weights q z)
  let _ ← (ks q).reverse.mapM fun k => ckV (back q k) (ws.getD k [])
  let fs ← factor q pv ws
  let reg := (fs.map fun s => s.f.reg).sum
  withReg reg do
  let lt := (ks q).map fun k => mulE (z.lam.getD k []) (z.t.getD k [])
  let d ← direction q fs ws z r lt
  let dual ← dualTest q kp d
  let dcount := if dual then dcount + 1 else 0
  if dcount = 2 then pure ⟨z, reg, dcount, pcount⟩
  else
    let a ← ck whole (stepLen z d (F64.ofNat 1))
    let za := addIt z d a
    let muAff ← ck whole (muOf q za.lam za.t)
    let ratio := Arr.div muAff r.mu
    let sigma ← if mCount q = 0 then pure 0 else ck whole (Arr.mul (Arr.mul ratio ratio) ratio)
    let sm := Arr.mul sigma r.mu
    let rc := (ks q).map fun k =>
      ((subV (addV (lt.getD k []) (mulE (d.lam.getD k []) (d.t.getD k []))) ((lt.getD k []).map fun _ => sm)).zip
        (q.pres.getD k [])).map fun e => if e.2 then e.1 else 0
    let _ ← (ks q).mapM fun k => ckV (forw q k) (rc.getD k [])
    let d ← direction q fs ws z r rc
    let a ← ck whole (stepLen z d kp.eta)
    let z' := addIt z d a
    let _ ← (ks q).mapM fun k => ckV (forw q k)
      (z'.u.getD k [] ++ z'.x.getD (k + 1) [] ++ z'.s.getD k [] ++ z'.pi.getD k [] ++ z'.lam.getD k [] ++ z'.t.getD k [])
    let prim ← primalTest q kp z'
    pure ⟨z', reg, dcount, if prim then pcount + 1 else 0⟩

/-- The loop of R359; `cap` ends it at an iteration boundary (R331). -/
def loop (q : Prob) (kp : Kpar) (pv : Piv) (cap : Option Nat) : (fuel : Nat) → It → (it reg dc pc : Nat) → End
  | 0, z, it, reg, _, _ => ⟨0x1601, z, resid q z, it, reg, none, none⟩
  | n + 1, z, it, reg, dc, pc =>
    let r := resid q z
    match converged q kp r with
    | .error f => ⟨failCode f, z, r, it, reg + f.reg, some f, none⟩
    | .ok true => ⟨0, z, r, it, reg, none, none⟩
    | .ok false =>
      if it = kp.maxit then ⟨0x1601, z, r, it, reg, none, none⟩
      else if cap = some it then ⟨eTimeout, z, r, it, reg, none, none⟩
      else match iterate q kp pv z r dc pc with
        | .error f => ⟨failCode f, z, r, it, reg + f.reg, some f, none⟩
        | .ok o =>
          let reg := reg + o.reg
          if o.dcount = 2 then ⟨0x1606, z, r, it, reg, none, some (it + 1)⟩
          else if o.pcount = 2 then ⟨0x1605, o.z, resid q o.z, it + 1, reg, none, some (it + 1)⟩
          else loop q kp pv cap n o.z (it + 1) reg o.dcount o.pcount

/-- The pivots that the factorisation of the stages replaces at an iterate, before a coupling system is factored (R360, R377). -/
def blockReg (q : Prob) (pv : Piv) (z : It) : SRes Nat := do
  let ws := (ks q).map (weights q z)
  let _ ← (ks q).reverse.mapM fun k => ckV (back q k) (ws.getD k [])
  let fs ← factor q pv ws
  pure (fs.map fun s => s.f.reg).sum

/-- The solve from a start point. -/
def solve (q : Prob) (kp : Kpar) (pv : Piv) (cap : Option Nat) (z : It) : End := loop q kp pv cap (kp.maxit + 1) z 0 0 0 0

/-- J at an iterate, the terms in x̂ included (R340, R354). -/
def objective (q : Prob) (z : It) : Nat :=
  let half := F64.ofRat 1 2
  let n := q.d.n
  let quad := fun (m : Mat) (x : Vec) => Arr.mul half (dot x (mulV m x))
  let stage := fun k =>
    let x := z.x.getD k []
    let u := z.u.getD k []
    sum [quad (q.qk.getD k []) x, dot x (mulV (q.sk.getD k []) u), quad (q.rk.getD k []) u, dot (q.ql.getD k []) x,
      dot (q.rl.getD k []) u, dot q.rho (z.s.getD k [])]
  let xn := z.x.getD n []
  Arr.add (sum ((ks q).map stage)) (Arr.add (quad q.p xn) (dot (q.ql.getD n []) xn))

end Sys2Proof.Machine.Qp
end

