-- ==== Sys2Proof/Machine/Solver.lean ====
section
/-!
DEFINITION. Job handling of the solver (chapter 07): submission, armed events, the steps of a job from its descriptor
snapshot to its completion and chain, the split horizon (R373 to R380), and the writes of the SLV, QP and LSQ pages.
-/
namespace Sys2Proof.Machine

/-- A binding (R309). -/
structure Bind where
  dsec : Nat
  kind : Nat
  typ : Nat
  opt : Bool
  didx : Nat
  src : Nat
  gain : Nat
  off : Nat
  deriving Repr, Inhabited

/-- A descriptor as a job reads it (R317). -/
structure Desc where
  bytes : List Byte

namespace Desc

def n (d : Desc) (o k : Nat) : Nat := leNat ((d.bytes.drop o).take k)
def op (d : Desc) : Nat := d.n 2 1
def flag (d : Desc) (i : Nat) : Bool := (d.n 3 1).testBit i
def tail (d : Desc) : Bool := d.flag 1
def cond (d : Desc) : Nat := d.n 4 1 % 4
def next (d : Desc) : Nat := d.n 5 1
def nbind (d : Desc) : Nat := d.n 6 2
def table (d : Desc) : Nat := d.n 8 4
def ana (d : Desc) : Nat := d.n 12 4
def anaLen (d : Desc) : Nat := d.n 16 4
def bind (d : Desc) : Nat := d.n 20 4
def out (d : Desc) : Nat := d.n 24 4
def outLen (d : Desc) : Nat := d.n 28 4
def work (d : Desc) : Nat := d.n 32 4
def workLen (d : Desc) : Nat := d.n 36 4
def warm (d : Desc) : Nat := d.n 40 4
def warmLen (d : Desc) : Nat := d.n 44 4
def piv (d : Desc) : Lin.Piv := ⟨d.flag 0, d.n 48 8, d.n 56 8⟩
def qpKpar (d : Desc) : Qp.Kpar := ⟨d.n 64 4, d.n 68 4, d.n 72 8, d.n 80 8, d.n 88 8, d.n 96 8, d.n 104 8⟩
def lsqKpar (d : Desc) : Lsq.Kpar := ⟨d.n 64 4, d.n 72 8, d.n 80 8, d.n 88 8, d.n 96 8⟩

/-- The output, work and (with TAILWIND) warm areas. -/
def own (d : Desc) : List (Nat × Nat) :=
  [(d.out, d.outLen), (d.work, d.workLen)] ++ if d.tail then [(d.warm, d.warmLen)] else []

end Desc

/-- A power of two as binary64. -/
def pow2F (e : Int) : Nat := fround b64 false 1 e false

/-- A binary64 value within bounds. -/
def within (x lo hi : Nat) : Bool := F64.le lo x && F64.le x hi

/-- Areas that overlap one another. -/
def areasOverlap : List (Nat × Nat) → Bool
  | [] => false
  | (a, n) :: r => r.any (fun (b, k) => decide (0 < n ∧ 0 < k ∧ a < b + k ∧ b < a + n)) || areasOverlap r

/-- A KPAR field outside a range that does not depend on the table (R351, R398). -/
def kparBad (d : Desc) : Bool :=
  let eps := fun o => !within (d.n o 8) (pow2F (-46)) (pow2F (-7))
  if d.op = 1 then
    decide (d.n 64 4 < 1 ∨ 200 < d.n 64 4) || eps 72 || eps 80 || eps 88 || eps 96 ||
      !within (d.n 104 8) (F64.ofRat 1 2) (F64.ofRat 9999 10000) || d.n 112 16 != 0
  else
    let lm0 := d.n 88 8
    decide (d.n 64 4 < 1 ∨ 100 < d.n 64 4) || d.n 68 4 != 0 || eps 72 || eps 80 ||
      !(fisZero b64 lm0 || within lm0 (pow2F (-40)) (pow2F 20)) ||
      (!fisZero b64 lm0 && !within (d.n 96 8) lm0 (pow2F 40)) || d.n 104 24 != 0

/-- Step 2 of a job: the checks that need only the descriptor (R297, R317, R327). ANALYSE uses the table and the record
only; the warm area counts as one of a job's areas with TAILWIND set, while its base must be aligned in any case. -/
def descCode (d : Desc) : Nat :=
  let numeric := d.op != 8
  let areas := [(d.table, 64), (d.ana, d.anaLen)] ++ if numeric then (d.bind, 32 * d.nbind) :: d.own else []
  let p := d.piv
  firstCode [(areas.any fun a => decide (slvSize < a.1 + a.2), eLen),
    (d.n 0 2 != 0xD5E1 || !([1, 2, 3, 8].contains d.op) || decide (15 < d.n 3 1) || (d.flag 2 && d.op != 1) ||
      (d.flag 3 && d.op != 2 && d.op != 3) || decide (63 < d.next) || areas.any (fun a => decide (a.1 % 64 ≠ 0)) ||
      (numeric && (decide (d.warm % 64 ≠ 0) || areasOverlap d.own || !within p.tol 0 (pow2F (-10)) ||
        (p.reg && !within p.preg (pow2F (-1000)) (F64.ofNat 1)) || kparBad d)), eRange)]

/-- The sections that a table's kind requires; none for a reserved kind. -/
def kindNeeds (t : Tab) : Option (List Tab.Need) :=
  if t.kind = 1 then some (Qp.needs (Qp.dims t))
  else if t.kind = 2 ∨ t.kind = 3 then some (Lsq.needs (Lsq.dims t)) else none

def kindShapesBad (t : Tab) : Bool := match kindNeeds t with | none => true | some ns => t.shapesBad ns
def kindDimHigh (t : Tab) : Bool := if t.kind = 1 then Qp.dimHigh t else Lsq.dimHigh t
def kindDimLow (t : Tab) : Bool := if t.kind = 1 then Qp.dimLow t else Lsq.dimLow t

/-- A wrong ACRC, by the kind that the record itself states (R306). -/
def acrcBad (g : Rd) (ana : Nat) : Bool :=
  let k := g (ana + 4) 1
  if k = 1 then Qp.acrcBad g ana else if k = 2 ∨ k = 3 then Lsq.acrcBad g ana else false

/-- A record of another table, of another kind than the job's, or one whose content, which its own kind lays out, does not fit the
table (R306). That the table is of the job's kind is checked after it (R327). -/
def recUnfit (t : Tab) (g : Rd) (ana op : Nat) : Bool :=
  t.recSigBad g ana op || (if g (ana + 4) 1 = 1 then Qp.recUnfit t g ana else Lsq.recUnfit t g ana)

/-- Step 3 of a numeric job: header, directory and record (R306). -/
def numericCode (d : Desc) (t : Tab) (g : Rd) : Nat :=
  let h := t.headCode
  if h ≠ 0 then h
  else
    firstCode [(t.secsLong, eLen), (t.secsBad || kindShapesBad t, eRange), (Tab.recCrcBad g d.ana || acrcBad g d.ana, eCrc),
      (recUnfit t g d.ana d.op, eSignature)]

/-- The table-dependent checks of a numeric job (R327, R351, R390, R397). -/
def tableCode (d : Desc) (t : Tab) (g : Rd) : Nat :=
  let short :=
    if t.kind = 1 then
      let q := Qp.dims t
      let ms := g (d.ana + 88) 4
      decide (d.outLen < Qp.outLen q ∨ d.workLen < Qp.workLen q ∨ (d.tail ∧ d.warmLen < Qp.warmLen q ms) ∨
        d.anaLen < g (d.ana + 12) 4)
    else
      let q := Lsq.dims t
      decide (d.outLen < Lsq.outLen q ∨
        d.workLen < Lsq.workLen q (g (d.ana + 76) 4) (g (d.ana + 72) 4) (g (d.ana + 88) 4) ∨
        (d.tail ∧ d.warmLen < Lsq.warmLen q) ∨ d.anaLen < Lsq.alen q.n 0)
  firstCode [(short || kindDimHigh t, eLen),
    (t.kind != d.op || d.own.any (fun a => areasOverlap [(d.table, t.len), a]) ||
      (t.kind == 1 && decide ((Qp.dims t).n ≤ (Desc.qpKpar d).shift)) ||
      (t.kind != 1 && !d.flag 3 && Lsq.hasB32 t), eRange)]

/-- Step 3 of an ANALYSE job (R305, R348, R390). -/
def analyseCode (t : Tab) (g : Rd) : Nat :=
  let h := t.headCode
  if h ≠ 0 then h
  else
    let dir := firstCode [(t.secsLong || ([1, 2, 3].contains t.kind && kindDimHigh t), eLen),
      (t.secsBad || kindShapesBad t || kindDimLow t, eRange)]
    if dir ≠ 0 then dir
    else firstCode [(t.secs.any (fun s => s.fmt == 3 && !t.cscOk g s) ||
      (if t.kind = 1 then Qp.masksBad t g else Lsq.valsBad t g), eRange)]

/-- Entry i of a binding table (R309). -/
def readBind (g : Rd) (base i : Nat) : Bind :=
  let a := base + 32 * i
  ⟨g a 2, g (a + 2) 1 % 16, g (a + 2) 1 / 16, (g (a + 3) 1).testBit 0, g (a + 4) 4, g (a + 8) 4, g (a + 16) 8, g (a + 24) 8⟩

/-- Width in bytes of a source type (R310). -/
def typeWidth (t : Nat) : Nat := if t = 6 ∨ t = 7 then 2 else if t = 3 ∨ t = 4 ∨ t = 5 then 8 else 4

/-- A source that R310 to R313 do not permit. -/
def srcBad (b : Bind) : Bool :=
  let w := typeWidth b.typ
  match b.kind with
  | 1 => decide (167 < b.src)
  | 2 => decide (5 < b.typ ∨ b.src % w ≠ 0 ∨ 0x80000 < b.src + w)
  | 3 => decide (7 < b.typ ∨ b.src % w ≠ 0 ∨ b.src < solverEnd ∨ systemEnd < b.src + w)
  | 4 => decide (7 < b.typ ∨ b.src % w ≠ 0 ∨ solverEnd < b.src + w)
  | 5 => false
  | 6 => false
  | _ => true

/-- The sections that accept OPTIONAL bindings (R349, R391, R411). -/
def optSecs (t : Tab) : List Nat :=
  if t.kind = 1 then [12, 13, 14, 15, 16]
  else
    let i := Lsq.ids (Lsq.dims t)
    [i.z, i.xp] ++ if t.kind = 3 then [i.pp] else []

/-- Step 4: the checks of every binding (R313). -/
def bindCode (d : Desc) (t : Tab) (bs : List Bind) : Nat :=
  firstCode [(decide (16384 < d.nbind), eLen),
    (bs.any fun b => srcBad b || (match t.sec b.dsec with
      | none => true
      | some s => s.struct || decide (s.count ≤ b.didx)) || (b.opt && !(optSecs t).contains b.dsec), eRange)]

/-- A raw source value of a type as binary64 (R311). -/
def convSrc (typ v : Nat) : Nat :=
  match typ with
  | 0 => F64.ofInt (sgn 32 v)
  | 1 => F64.ofNat v
  | 2 => F64.of32 v
  | 3 => F64.ofInt (sgn 64 v)
  | 4 => F64.ofNat v
  | 5 => v
  | 6 => F64.ofInt (sgn 16 v)
  | _ => F64.ofNat v

/-- An element that an OPTIONAL binding has removed: it still holds that binding's NaN (R349, R391). -/
def goneOf (ns : List NanElem) (sec e : Nat) : Bool := ns.any fun x => x.opt && x.live && x.sec == sec && x.e == e

/-- INDEX of the non-finite inputs: the lowest number of a binding that is not OPTIONAL and delivered NaN, whether or not
its element is read or written again; 0xFF_FFFF when only unbound values that the job reads are non-finite (R293, R316). -/
def badInput (g : Rd) (t : Tab) (ns : List NanElem) (reads : List (Nat × Nat)) : Option Nat :=
  let bound := (ns.filter (!·.opt)).map (·.bind)
  let held := fun (x : Nat × Nat) => ns.any fun y => y.live && y.sec == x.1 && y.e == x.2
  let loose := reads.any fun x => !F64.isFin (t.val g x.1 x.2) && !held x
  (bound ++ if loose then [0xFFFFFF] else []).min?

namespace W

/-- The reader of solver SRAM for the array and the assembler: an uncorrectable word reads as the quiet NaN of cause 0x04
and index 0xFF_FFFF (R283). -/
def slvRd (w : W) (m : Memory) (ues : List Nat) : Rd := fun o n =>
  if ues.all fun u => decide (o + n ≤ u / 8 * 8 ∨ u / 8 * 8 + 8 ≤ o) then w.get m o n
  else
    let b := w.bytes m o n
    let nan := toLe 8 (slvNan 4 0xFFFFFF)
    leNat ((List.range n).map fun i =>
      if ues.any fun u => u / 8 == (o + i) / 8 then nan.getD ((o + i) % 8) 0 else b.getD i 0)

/-! ### Queue and submission (R320 to R325) -/

def slvInFlight (w : W) : Nat := w.slv.queue.length + b2n w.slv.exec.isSome

/-- A descriptor is queued or executing. -/
def slvBusy (w : W) (d : Nat) : Bool :=
  w.slv.queue.any (fun j => j.desc == d) || (match w.slv.exec with | some j => j.desc == d | none => false)

/-- Address of a descriptor. -/
def descAddr (w : W) (d : Nat) : Nat := w.rdN R.SLV_DESC_BASE + 256 * d

/-- QSTAT shows the queue; GUST while the job in the executing place waits for PD5 to come on (R323, R338). -/
def slvSync (w : W) : W :=
  let (e, gust, d) := match w.slv.exec with
    | some j => (1, b2n (w.slv.run.isNone && (w.dom 5 != 1 || !w.pwr.slvArray)), j.desc)
    | none => (0, 0, 0)
  w.upd R.SLV_QSTAT (BitVec.ofNat 32 (w.slv.queue.length + 16 * e + 32 * gust + 256 * d))

/-- The head of the queue takes the executing place when it is free, and the solver is demanded (R111, R323, R379). -/
def slvKick (w : W) : W :=
  let w := match w.slv.exec, w.slv.queue with
    | none, j :: js => if w.serving then w else { w with slv.exec := some j, slv.queue := js }
    | _, _ => w
  w.slvSync

/-- A job is accepted: STATE reads 1 (R321). The command's end lets the head take the executing place. -/
def slvAccept (d origin tag : Nat) (w : W) : W :=
  let w := if w.domUp 5 then w.put (w.descAddr d + 132) 1 1 else w
  { w with slv.queue := w.slv.queue ++ [({ desc := d, origin := origin, tag := tag } : SlvJob)], pwr.holdoff := true }

/-- The codes of steps 2 to 4 of R321 for a list of descriptors. -/
def submitCode (w : W) (ds : List Nat) : Nat :=
  firstCode [(ds.any (fun d => decide (63 < d)), eRange), (decide (9 < w.slvInFlight + ds.length), eFull),
    (ds.any w.slvBusy || !decide ds.Nodup, eBusy)]

/-- The accepted jobs that have not started get STATE 1 once PD5, which was off when they were accepted, is ready (R321, R323). -/
def slvQueued (w : W) : W :=
  let wait := (if w.slv.run.isNone then w.slv.exec.toList else []) ++ w.slv.queue
  wait.foldl (fun w j => w.put (w.descAddr j.desc + 132) 1 1) w

/-- The entries of a doorbell: descriptor and tag (R320). -/
def ringEntries (w : W) (m : Memory) (k : Nat) : List (Nat × Nat) :=
  (List.range k).map fun i =>
    let a := w.rdN R.SLV_RING_BASE + 16 * ((w.rdF R.SLV_RING_PI 0 4 + i) % 16)
    (w.get m a 1, w.get m (a + 2) 2)

/-- The code of a host doorbell (R321). -/
def slvDbCode (w : W) (m : Memory) (k : Nat) : Nat :=
  if 9 < k then eLen else w.submitCode ((w.ringEntries m k).map (·.1))

/-- An accepted doorbell (R321). -/
def slvDoorbell (m : Memory) (k : Nat) (w : W) : W :=
  let es := w.ringEntries m k
  let w := w.wrF R.SLV_RING_PI 0 4 (w.rdF R.SLV_RING_PI 0 4 + k)
  es.foldl (fun w e => w.slvAccept e.1 0 e.2) w

/-- An occurrence of event n meets the arm slots (R324, R325); one in Deep Lull is missed (R111). -/
def armHit (w : W) (h : Nat × Bool) : W :=
  let n := h.1
  (List.range 8).foldl (fun w a =>
    if !(w.rdB (R.SLV_ARM a) 31 && w.rdF (R.SLV_ARM a) 8 8 == n) then w
    else
      let d := w.rdF (R.SLV_ARM a) 0 6
      if h.2 = true ∨ w.slvBusy d ∨ 9 ≤ w.slvInFlight then (w.incSat (R.SLV_ARM_MISSED a)).raise E.SLV_ARM_MISSED
      else (w.inc (R.SLV_ARM_COUNT a)).slvAccept d 2 a) w

/-- The occurrences that a command has left for the arm comparators; those they raise in turn are followed to depth
`k`. -/
def armSettle (w : W) : (k : Nat) → W
  | 0 => { w with evt.armHits := [] }
  | k + 1 =>
    match w.evt.armHits with
    | [] => w
    | hs => armSettle (hs.foldl armHit { w with evt.armHits := [] }) k

/-! ### Status block and ends of jobs (R319, R328 to R332) -/

/-- DONE_MAP bit of a descriptor. -/
def doneBit (w : W) (d : Nat) : W := w.wrB (if d < 32 then R.SLV_DONE_MAP else R.SLV_DONE_MAP_HI) (d % 32) true

/-- IDLE when no job is in flight (R337). -/
def slvIdle (w : W) : W := w.raiseIf (w.slvInFlight == 0) E.SLV_IDLE

/-- A job is abandoned: CODE ERR_STATE, STATE 3, its DONE_MAP bit; no event of the job (R332, R335). -/
def slvAbandon (d flags : Nat) (w : W) : W :=
  let a := w.descAddr d
  let w := if w.domUp 5 then (w.put (a + 128) 4 (eState + flags)).put (a + 132) 1 3 else w
  (w.doneBit d).err 0x15 eState

/-- The job in execution is abandoned: its flags so far stand (R334), and EXIT shows none after an OP 2 or 3 job (R421). -/
def slvDrop (w : W) (j : SlvJob) (r : SlvRun) : W :=
  let op := Desc.op ⟨r.desc⟩
  let w := w.slvAbandon j.desc (2 ^ 16 * r.flags)
  if w.domUp 5 ∧ (op = 2 ∨ op = 3) then w.wrN R.LSQ_LAST_STAT op else w

/-- Early warning (R126, R323, R379): the job in execution is abandoned; one that has not started stays. -/
def slvEw (w : W) : W :=
  let w := w.serveStop
  match w.slv.exec, w.slv.run with
  | some j, some r =>
    let w := w.slvDrop j r
    ({ w with slv.exec := none, slv.run := none }).splitFree.slvKick.slvIdle
  | _, _ => w

/-- SRST of the SLV page: every job is abandoned (R61, R332). -/
def slvReset (w : W) : W :=
  let jobs := w.slv.exec.toList ++ w.slv.queue
  let w := match w.slv.exec, w.slv.run with
    | some j, some r => w.slvDrop j r
    | some j, none => w.slvAbandon j.desc 0
    | none, _ => w
  let w := w.slv.queue.foldl (fun w j => w.slvAbandon j.desc 0) w
  let w := ({ w with slv := {} }).splitFree.slvSync
  if jobs = [] then w else w.slvIdle

/-- PD5 switches off: every job in flight is lost without a status or an event (R285). -/
def slvLost (w : W) : W := ({ w with slv := {} }).splitFree

/-! ### The steps of a job (R326) -/

/-- One source read by the assembler: none where its domain is off or the word is uncorrectable (R283, R310, R315). -/
def bindSource (read : W → Nat → RecRead) (m : Memory) (ues : List Nat) (b : Bind) (w : W) : W × Option Nat :=
  let n := typeWidth b.typ
  match b.kind with
  | 1 => (w, if w.dom 2 = 1 then some (F64.ofNat (w.rd64 (R.QTY_Qs_FINE b.src))) else none)
  | 2 =>
    let r := read w b.src
    if r.off then (r.w, none)
    else if n = 8 then
      let s := read r.w (b.src + 4)
      (s.w, some (convSrc b.typ (r.v.toNat + 2 ^ 32 * s.v.toNat)))
    else (r.w, some (convSrc b.typ r.v.toNat))
  | 3 => (w, if w.dom 4 = 1 then some (convSrc b.typ (w.get m b.src n)) else none)
  | 4 => (w, if ues.any (fun u => u / 8 == b.src / 8) then none else some (convSrc b.typ (w.get m b.src n)))
  | 5 => (w, some (F64.ofNat w.tsc.toNat))
  | _ => (w, some (F64.ofNat w.rtcSec.toNat))

/-- One binding: its value written into the table (R311, R314, R315); the bindings so far that delivered NaN. -/
def bindOne (read : W → Nat → RecRead) (m : Memory) (t : Tab) (ues : List Nat) (acc : W × List NanElem) (e : Bind × Nat) :
    W × List NanElem :=
  let b := e.1
  let (w, x) := bindSource read m ues b acc.1
  let v := match x with
    | some x => if F64.isFin x then F64.fma b.gain x b.off else b64.qnan
    | none => b64.qnan
  let ok := F64.isFin v
  let bits := if ok then v else slvNan 4 e.2
  let old := acc.2.map fun y => if y.sec == b.dsec && y.e == b.didx then { y with live := false } else y
  let w := match t.sec b.dsec with
    | none => w
    | some s => if s.b32 then w.put (t.base + s.elem b.didx) 4 (F64.to32 bits) else w.put (t.base + s.elem b.didx) 8 bits
  (w, if ok then old else old ++ [{ sec := b.dsec, e := b.didx, bind := e.2, opt := b.opt }])

/-- Step 6: the gather (R31, R314, R339). -/
def gather (read : W → Nat → RecRead) (m : Memory) (t : Tab) (ues : List Nat) (j : SlvJob) (bs : List Bind) (time : Nat)
    (w : W) : W × List NanElem :=
  let (w, ns) := bs.zipIdx.foldl (bindOne read m t ues) (w, [])
  let cnt := ns.length
  let w := ((w.wrN R.ASM_LAST j.desc).wrN R.ASM_NBIND bs.length).wrN R.ASM_NAN_CNT cnt
  let w := w.wrN R.ASM_FIRST_NAN ((ns.map (·.bind)).min?.getD 0xFFFFFFFF)
  let w := (w.wrN R.ASM_GATHER_T time).wrN R.ASM_GATHER_MAX (max (w.rdN R.ASM_GATHER_MAX) time)
  (w.raiseIf (decide (0 < cnt)) E.ASM_BIND_NAN, ns)

/-- The job ends here with a code; its status follows at completion. -/
def slvEnd (w : W) (r : SlvRun) (code : Nat) : W := { w with slv.run := some { r with code := code } }

/-- Port p carries split-horizon traffic: it is trained and reports no wiring error (R40). -/
def splitUp (w : W) (p : Nat) : Bool := w.trained p && !w.rdB (R.LNK_Pp_STAT p) 1

/-- Check 3 of R373. -/
def splitLinks (w : W) : Bool := (List.range 3).all w.splitUp

/-- The first failing check of a split job (R373); `partners` are the three replies: 0 ACCEPT, or a REASON. Only the device at quad
position 0 leads (R374); DESIGN CHOICE (log 52): at another position ports 0 to 2 do not lead to positions 1 to 3, so check 3
fails. -/
def splitReason (w : W) (n : Nat) (partners : List Nat) : Nat :=
  let free := (List.range 3).all fun p =>
    decide ((w.tw.msgs.getD p []).length + w.tw.splitRes.getD p 0 + 2 ≤ 8)
  firstCode [(decide (n < 8), 1), (!w.hasClaim || w.triad || partners.contains 2, 2), (!w.splitLinks || w.qid != 0, 3), (!free, 4),
    (partners.contains 5, 5), (partners.contains 6, 6), (partners.contains 7, 7)]

/-- The setup message of block b (R374 to R376): a column counts with the padding of its section. -/
def splitSetup (d : Desc) (t : Tab) (q : Qp.Dims) (ms sig : Nat) (warm : Bool) (b : Nat) : SplitSetup :=
  let nb := splitStages q.n b
  let lx := up 8 q.nx
  let lu := up 8 q.nu
  let lc := up 8 q.nc
  let ti := (t.secs.filter fun s => decide (s.id ≤ 10 ∨ 21 ≤ s.id)).map fun s => s.fin - s.off
  { sig := sig, nx := q.nx, nu := q.nu, nc := q.nc, nd := q.nd, n := q.n, bti := ti.sum
    kpar := (d.bytes.drop 64).take 64, first := splitFirst q.n b, count := nb
    bblk := 8 * nb * (up 8 q.nd + 4 * lu + lc + 4 * lx) + if b = 3 then 8 * lx else 0
    bwblk := if warm then 8 * nb * (lu + 2 * lx + lc + 2 * up 8 ms) else 0
    boblk := 8 * nb * (lu + 2 * lx + lc) }

/-- Column k of a section of `rows` rows, with its padding. -/
def secCol (t : Tab) (g : Rd) (id rows k : Nat) : List Byte :=
  match t.sec id with | some s => rdBytes g (t.base + s.elem (rows * k)) (8 * up 8 rows) | none => []

/-- Column k of the matrices of a warm record that belong to stage k (R356). -/
def warmCol (d : Desc) (g : Rd) (q : Qp.Dims) (ms k : Nat) : List Byte :=
  let lx := up 8 q.nx
  let lu := up 8 q.nu
  let lc := up 8 q.nc
  let lm := up 8 ms
  let x := d.warm + 64 + 8 * lu * q.n
  let pi := x + 8 * lx * (q.n + 1)
  let s := pi + 8 * lx * q.n
  let lam := s + 8 * lc * q.n
  rdBytes g (d.warm + 64 + 8 * lu * k) (8 * lu) ++ rdBytes g (x + 8 * lx * (k + 1)) (8 * lx) ++ rdBytes g (pi + 8 * lx * k) (8 * lx) ++
    rdBytes g (s + 8 * lc * k) (8 * lc) ++ rdBytes g (lam + 8 * lm * k) (8 * lm) ++
    rdBytes g (lam + 8 * lm * q.n + 8 * lm * k) (8 * lm)

/-- The load of block b (R375, R376): B_ti, B_blk and, on a warm start, B_wblk. DESIGN CHOICE (log 52): in the order in which R375
names their parts. -/
def splitLoad (d : Desc) (t : Tab) (g : Rd) (q : Qp.Dims) (ms : Nat) (warm : Bool) (b : Nat) : List Byte :=
  let ks := (List.range (splitStages q.n b)).map (splitFirst q.n b + ·)
  let cols := fun (id rows o : Nat) => ks.flatMap fun k => secCol t g id rows (k + o)
  ((t.secs.filter fun s => decide (s.id ≤ 10 ∨ 21 ≤ s.id)).flatMap fun s => rdBytes g (t.base + s.off) (s.fin - s.off)) ++
    cols 11 q.nd 0 ++ cols 14 q.nu 0 ++ cols 15 q.nu 0 ++ cols 16 q.nc 0 ++ cols 18 q.nu 0 ++ cols 19 q.nx 0 ++ cols 20 q.nu 0 ++
    cols 17 q.nx 0 ++ cols 12 q.nx 1 ++ cols 13 q.nx 1 ++ (if b = 3 then secCol t g 17 q.nx q.n else []) ++
    if warm then ks.flatMap (warmCol d g q ms) else []

/-- The state that a warm record of kind 2 or 3 holds: the parameters and the columns of X (R408, R415). -/
def lsqWarm (g : Rd) (d : Desc) (dm : Lsq.Dims) : Lsq.It :=
  let lp := up 8 dm.np
  if dm.kind = 3 then
    ⟨(List.range dm.ns).map fun s => (List.range dm.n).map fun j => g (d.warm + 64 + 8 * (lp + up 8 dm.n * s + j)) 8,
      (List.range dm.np).map fun k => g (d.warm + 64 + 8 * k) 8⟩
  else ⟨[(List.range dm.n).map fun j => g (d.warm + 64 + 8 * j) 8], []⟩

/-- Its values. -/
def lsqWarmState (g : Rd) (d : Desc) (t : Tab) : List Nat :=
  let x := lsqWarm g d (Lsq.dims t)
  x.p ++ x.xs.flatten

/-- Steps 7 and 8 begin: the Tailwind decision (R308, R370, R371) and the split decision (R373). -/
def slvDecide (m : Memory) (d : Desc) (t : Tab) (partners : List Nat) (r : SlvRun) (w : W) : W :=
  let g := w.slvRd m r.ues
  let lsq := d.op != 1
  let valid := g d.warm 4 == (if lsq then 0x7A1E else 0x7A1D) && g (d.warm + 8) 1 == 1 &&
    some (g (d.warm + 4) 4) == r.sig &&
    (if lsq then g (d.warm + 9) 1 == t.kind else g (d.warm + 10) 2 == (Qp.dims t).n)
  let (w, r) :=
    if !d.tail then (w, r)
    else
      let w := w.put (d.warm + 8) 1 0
      if valid then
        -- a stored state that is not finite is a non-finite input of a job that reads it (R392)
        let r := { r with warm := true, flags := r.flags ||| 2 }
        (w, if lsq && !(lsqWarmState g d t).all F64.isFin then { r with code := 0x1604, inp := 0xFFFFFF } else r)
      else (w.raise (if lsq then E.LSQ_WARM_REJECT else E.QP_WARM_REJECT), { r with flags := r.flags ||| 4 })
  let (w, r) :=
    if !d.flag 2 then (w, r)
    else
      let why := w.splitReason (Qp.dims t).n partners
      if why = 0 then
        ({ (w.wrF R.QP_SPLIT_STAT 0 4 0) with tw.splitRes := (List.range 3).foldl (fun v p => v.setIfInBounds p 2) w.tw.splitRes },
          { r with split := true, flags := r.flags ||| 8,
                   setups := [1, 2, 3].map (splitSetup d t (Qp.dims t) (g (d.ana + 88) 4) (r.sig.getD 0) r.warm)
                   loads := [1, 2, 3].map (splitLoad d t g (Qp.dims t) (g (d.ana + 88) 4) r.warm) })
      else (w.splitFallback why, { r with flags := r.flags ||| 16 })
  { w with slv.run := some r }

/-- Step 5: a changed solver clock comes into force (R151). -/
def slvClock (w : W) (r : SlvRun) : W × SlvRun :=
  let f := 25 * (48 - 2 * w.rdF R.AGE_SLV_CLK 0 3)
  (w.wrN R.SLV_CLK f, if w.rdN R.SLV_CLK = f then r else { r with flags := r.flags ||| 512 })

/-- An ANALYSE of kind 2 or 3 that step 3 refuses writes its ANA_ registers too (R420); ALEN, NNZ_L and FL, to which it never came,
are free (log 52). -/
def anaOpen (w : W) (t : Tab) (r : SlvRun) : W × SlvRun :=
  let (w, a) := w.fresh 32
  let (w, b) := w.fresh 32
  let (w, c) := w.fresh 64
  (w, { r with ana := some (a, b, c, (Lsq.dims t).n) })

/-- Steps 3 to 8 of an ANALYSE job (R305, R348, R353, R397). -/
def slvAnalyse (m : Memory) (d : Desc) (t : Tab) (r : SlvRun) (w : W) : W :=
  let g := w.slvRd m r.ues
  let c := analyseCode t g
  let r := if c = 0 then { r with sig := some (t.sig g) } else r
  if c ≠ 0 then (if t.kind = 2 ∨ t.kind = 3 then w.anaOpen t r else (w, r)) |> fun x => x.1.slvEnd x.2 c
  else if t.kind = 1 then
    let rec_ := Qp.analyse t g
    if d.anaLen < rec_.length then w.slvEnd r eLen
    else
      let (w, r) := w.slvClock r
      { w with slv.run := some { r with record := rec_ } }
  else
    let q := Lsq.dims t
    if d.anaLen < Lsq.alen q.n 0 then w.anaOpen t r |> fun x => x.1.slvEnd x.2 eLen
    else
      let (w, r) := w.slvClock r
      let a := Lsq.analysis t g
      let need := Lsq.alen q.n a.nnzL
      let r := { r with ana := some (need, a.nnzL, a.fl, q.n) }
      if 2097152 < a.nnzL ∨ d.anaLen < need then w.slvEnd { r with anaLow := true } eLen
      else { w with slv.run := some { r with record := Lsq.record t g a } }

/-- Steps 5 to 7 of a numeric job whose checks have passed (R326). -/
def slvGather (read : W → Nat → RecRead) (m : Memory) (j : SlvJob) (partners : List Nat) (time : Nat) (d : Desc) (t : Tab)
    (bs : List Bind) (r : SlvRun) (w : W) : W :=
  let (w, r) := w.slvClock r
  let (w, ns) := w.gather read m t r.ues j bs time
  let r := { r with nans := ns, nanBind := ns.length
                    bind := if bs = [] then none else some (w.tsc.toNat, w.tsc.toNat + time)
                    flags := r.flags ||| (if ns = [] then 0 else 32) }
  let g := w.slvRd m r.ues
  let reads := if t.kind = 1 then Qp.reads t g d.ana else Lsq.reads t g (goneOf ns)
  match badInput g t ns reads with
  | some i =>
    -- an ending other than a refusal leaves the warm record invalid (R370)
    let w := if d.tail then w.put (d.warm + 8) 1 0 else w
    { w with slv.run := some { r with code := 0x1604, inp := i } }
  | none => w.slvDecide m d t partners r

/-- Steps 2 to 7 of a job whose snapshot is taken (R326). -/
def slvSteps (read : W → Nat → RecRead) (m : Memory) (j : SlvJob) (partners : List Nat) (time : Nat) (r : SlvRun)
    (w : W) : W :=
  let d : Desc := ⟨r.desc⟩
  let g := w.slvRd m r.ues
  let c2 := descCode d
  if c2 ≠ 0 then w.slvEnd r c2
  else
    let t := readTab g d.table
    if d.op = 8 then w.slvAnalyse m d t r
    else
      let c3 := numericCode d t g
      if c3 ≠ 0 then w.slvEnd r c3
      else
        -- the record has passed its checks: its SIG is the job's (R306)
        let r := { r with sig := some (g (d.ana + 8) 4) }
        let bs := (List.range (min d.nbind 16384)).map (readBind g d.bind)
        let c3 := tableCode d t g
        let c4 := if c3 ≠ 0 then c3 else bindCode d t bs
        if c4 ≠ 0 then w.slvEnd r c4 else w.slvGather read m j partners time d t bs r

/-- The job in the executing place starts (R318, R326): `waited` for a self-test (R163), `partners` the replies of
positions 1 to 3 (R373), `time` the gather's duration in 10 ns. `ces` words that the job reads are corrected, the words at
the offsets `ues` are uncorrectable (R283). -/
def jobStart (read : W → Nat → RecRead) (m : Memory) (partners : List Nat) (waited : Bool) (ces : Nat) (ues : List Nat)
    (time : Nat) (w : W) : W :=
  match w.slv.exec, w.slv.run with
  | some j, none =>
    if w.dom 5 ≠ 1 ∨ w.pwr.slvArray = false ∨ w.ew ∨ w.serving then w
    else
      let a := w.descAddr j.desc
      let seq := w.rdN R.SLV_JOB_SEQ
      let desc := (List.range 128).map fun i => BitVec.ofNat 8 (w.slvRd m ues (a + i) 1)
      let r : SlvRun := { desc := desc, seq := seq, tsc0 := w.tsc.toNat, ues := ues,
                          flags := (if waited then 1024 else 0) + (if ues = [] then 0 else 64) }
      let w := w.inc R.SLV_JOB_SEQ
      let w := ((((w.put (a + 132) 1 2).put (a + 133) 1 j.origin).put (a + 134) 2 j.tag).put (a + 140) 4 seq).put
        (a + 144) 8 r.tsc0
      let w := w.wrN R.SLV_ECC_UE (satAdd 32 (w.rdN R.SLV_ECC_UE) ues.length)
      let w := if ces = 0 then w else (w.sramCorrected ces).wrN R.SLV_ECC_CE (satAdd 32 (w.rdN R.SLV_ECC_CE) ces)
      (w.slvSteps read m j partners time r).slvSync
  | _, _ => w

/-! ### Outputs (R354, R365 to R368, R406, R415) -/

/-- Vectors stored as columns with a leading dimension. -/
def putCols (w : W) (a ld : Nat) (cols : List (List Nat)) : W :=
  cols.zipIdx.foldl (fun w c => w.putBytes (a + 8 * ld * c.2) (c.1.flatMap (toLe 8))) w

/-- Which components of a QP output are NaN: the pattern, and for each kind of matrix the columns (R365 to R368). -/
structure QpNan where
  bits : Nat
  head : Bool
  u : Nat → Bool
  x : Nat → Bool

/-- The NaN components that the end of a solve leaves; `free` stands for an index the manual gives no value. -/
def qpNan (q : Qp.Prob) (e : Qp.End) (free : Nat) : Option QpNan :=
  match e.fail, e.inf with
  | some f, _ =>
    let bits := slvNan f.cause (f.idx.getD free)
    match f.stage with
    | none => some ⟨bits, true, fun _ => true, fun _ => true⟩
    | some k =>
      if f.fwd then some ⟨bits, false, fun c => decide (k ≤ c ∧ c < q.d.n), fun c => decide (k + 1 ≤ c)⟩
      else some ⟨bits, true, fun c => decide (c ≤ k), fun c => decide (1 ≤ c ∧ c ≤ k + 1)⟩
  | none, some i => some ⟨slvNan (if e.code = 0x1605 then 5 else 6) i, true, fun _ => true, fun _ => true⟩
  | none, none => none

/-- λ of the constraint rows of a stage by row (R354). -/
def yCol (q : Qp.Prob) (v : Lin.Vec) : List Nat := Qp.rowPart q v

/-- The output area of a QP job (R354), and its LAST_ registers (R384). -/
def qpOut (d : Desc) (q : Qp.Prob) (e : Qp.End) (nan : Option QpNan) (obj : Nat) (r : SlvRun) (w : W) : W :=
  let dm := q.d
  let nanAt := fun (p : QpNan → Bool) (x : Nat) => match nan with | some n => if p n then n.bits else x | none => x
  let col := fun (p : QpNan → Bool) (v : List Nat) => v.map (nanAt p)
  let head := fun x => nanAt (·.head) x
  let obj := head obj
  let rp := head (F64.max (Qp.normM e.r.p) (Qp.normM e.r.i))
  let rd := head (Qp.normM (e.r.du ++ e.r.dx ++ e.r.ds))
  let mu := head e.r.mu
  let a := d.out
  let shift := if r.warm then (Desc.qpKpar d).shift else 0xFFFFFFFF
  let w := w.putBytes a (toLe 8 obj ++ toLe 8 rp ++ toLe 8 rd ++ toLe 8 mu ++ toLe 4 e.iter ++ toLe 4 (Qp.mCount q) ++
    toLe 4 (r.sig.getD 0) ++ toLe 4 shift ++ toLe 8 r.tsc0 ++ toLe 8 0)
  let lu := up 8 dm.nu
  let lx := up 8 dm.nx
  let lc := up 8 dm.nc
  let w := w.putCols (a + 64) lu (e.z.u.zipIdx.map fun c => col (fun n => n.u c.2) c.1)
  let w := w.putCols (a + 64 + 8 * lu * dm.n) lx (e.z.x.zipIdx.map fun c => col (fun n => n.x c.2) c.1)
  let pb := a + 64 + 8 * (lu * dm.n + lx * (dm.n + 1))
  let w := w.putCols pb lx (e.z.pi.zipIdx.map fun c => col (fun n => n.u c.2) c.1)
  let w := w.putCols (pb + 8 * lx * dm.n) lc (e.z.lam.zipIdx.map fun c => col (fun n => n.u c.2) (yCol q c.1))
  let w := ((w.wrN R.QP_LAST_M (Qp.mCount q)).wr64 R.QP_LAST_OBJ obj).wrN R.QP_LAST_RP (F64.to32 rp)
  let w := (w.wrN R.QP_LAST_RD (F64.to32 rd)).wrN R.QP_LAST_MU (F64.to32 mu)
  w.wrN R.QP_LAST_WARM (b2n r.warm + 2 * b2n (r.flags.testBit 2) + 256 * (shift % 256))

/-- The warm record of a QP job (R356, R370). -/
def qpWarmPut (d : Desc) (q : Qp.Prob) (z : Qp.It) (r : SlvRun) (w : W) : W :=
  let dm := q.d
  let a := d.warm
  let lu := up 8 dm.nu
  let lx := up 8 dm.nx
  let lc := up 8 dm.nc
  let lm := up 8 q.ineq.length
  let w := w.putBytes a (toLe 4 0x7A1D ++ toLe 4 (r.sig.getD 0) ++ toLe 1 1 ++ toLe 1 0 ++ toLe 2 dm.n ++ toLe 4 r.seq ++
    toLe 8 w.tsc.toNat ++ List.replicate 40 0)
  let w := (w.putCols (a + 64) lu z.u).putCols (a + 64 + 8 * lu * dm.n) lx z.x
  let b := a + 64 + 8 * (lu * dm.n + lx * (dm.n + 1))
  let w := (w.putCols b lx z.pi).putCols (b + 8 * lx * dm.n) lc z.s
  let b := b + 8 * (lx + lc) * dm.n
  (w.putCols b lm z.lam).putCols (b + 8 * lm * dm.n) lm z.t

/-- The iterate of a QP warm record (R356). -/
def qpWarmGet (g : Rd) (d : Desc) (q : Qp.Prob) : Qp.It :=
  let dm := q.d
  let a := d.warm
  let lu := up 8 dm.nu
  let lx := up 8 dm.nx
  let lc := up 8 dm.nc
  let lm := up 8 q.ineq.length
  let cols := fun b ld n c => (List.range c).map fun k => (List.range n).map fun i => g (b + 8 * (ld * k + i)) 8
  let b := a + 64 + 8 * (lu * dm.n + lx * (dm.n + 1))
  let b2 := b + 8 * (lx + lc) * dm.n
  ⟨cols (a + 64) lu dm.nu dm.n, cols (a + 64 + 8 * lu * dm.n) lx dm.nx (dm.n + 1), cols (b + 8 * lx * dm.n) lc dm.nc dm.n,
    cols b lx dm.nx dm.n, cols b2 lm q.ineq.length dm.n, cols (b2 + 8 * lm * dm.n) lm q.ineq.length dm.n⟩

/-- What the completion of a job reports: CODE, ITER, REG_COUNT, FIRST_FAIL. -/
structure JobRes where
  code : Nat
  iter : Nat := 0
  reg : Nat := 0
  fail : Nat := 0

/-- A failure of a split job's coupling system (R377): cause, iteration, pivot. It makes every stage's components NaN, as a
failure at the last stage does; X column 0 stays the initial state. -/
def coupFail (q : Qp.Prob) (c j : Nat) : SFail :=
  { cause := c, idx := some (q.d.n * q.d.nu + j), stage := some (q.d.n - 1) }

/-- The QP solve and its outputs (steps 8 and 9); `cap` ends it at an iteration boundary, `coupling` is a failure of a
split job's coupling system and `creg` the pivots replaced in it (R377). DEDUCED (log 50): an overflow that only OBJ meets
is a failure of the job (R290, R295); OBJ alone is NaN, under an index that the manual does not give. DESIGN CHOICE (log 52): the
manual gives neither the reduced blocks nor the elimination from which the coupling system is formed, so whether and where it
fails in an iteration that the loop reaches is the command's operand. -/
def qpRun (m : Memory) (d : Desc) (t : Tab) (r : SlvRun) (cap : Option Nat) (coupling : Option (Nat × Nat × Nat))
    (creg : Nat) (w : W) : W × JobRes :=
  let g := w.slvRd m r.ues
  let q := Qp.build t g d.ana (goneOf r.nans)
  let kp := Desc.qpKpar d
  if r.code = 0x1604 then
    let z := Qp.cold q
    let e : Qp.End := ⟨0x1604, z, Qp.resid q z, 0, 0, none, none⟩
    (w.qpOut d q e (some ⟨slvNan 4 r.inp, true, fun _ => true, fun _ => true⟩) 0 r, ⟨0x1604, 0, 0, 4 + 256 * r.inp⟩)
  else
    let z0 := if r.warm then Qp.warm q (qpWarmGet g d q) kp.shift else Qp.cold q
    let coup := if r.split then coupling else none
    let e := Qp.solve q kp d.piv ((coup.map (·.2.1)).or cap) z0
    let e := match coup with
      | some (c, it, j) =>
        -- the loop stands before the steps of that iteration: the blocks are factored first
        if e.code = eTimeout ∧ e.iter = it then
          match Qp.blockReg q d.piv e.z with
          | .error f => { e with code := Qp.failCode f, reg := e.reg + f.reg, fail := some f }
          | .ok n =>
            let f := coupFail q c j
            { e with code := Qp.failCode f, reg := e.reg + n, fail := some f }
        else e
      | none => e
    let e := if r.split && d.piv.reg then { e with reg := e.reg + creg } else e
    let free := Config.openIndex r.desc (e.z.u.flatten ++ e.z.x.flatten) % 2 ^ 24
    let nan := qpNan q e free
    let obj := Qp.objective q e.z
    -- OBJ overflows although nothing else has failed
    let lone := !F64.isFin obj && nan.isNone
    let code := if lone then 0x1603 else e.code
    let w := w.qpOut d q e nan (if F64.isFin obj then obj else slvNan 3 free) r
    let keep := code = 0 ∨ code = 0x1601 ∨ code = eTimeout
    let w := if d.tail ∧ keep then w.qpWarmPut d q e.z r else w
    (w, ⟨code, e.iter, e.reg, match nan with
      | some n => n.bits % 2 ^ 32
      | none => if lone then slvNan 3 free % 2 ^ 32 else 0⟩)

/-- The output area of a least-squares or calibration job (R406, R415), and its LAST_ registers (R420). -/
def lsqOut (m : Memory) (d : Desc) (t : Tab) (q : Lsq.Prob) (e : Lsq.End) (nan : Option (Nat × (Nat → Bool)))
    (r : SlvRun) (w : W) : W :=
  let dm := q.d
  let g := w.slvRd m r.ues
  let s := e.s
  let allNan := fun x => match nan with | some n => n.1 | none => x
  let cost := allNan s.e.f
  let gn := allNan e.gnorm
  let st := allNan s.step
  let lm := allNan s.lam
  let used := ((q.pres.map fun p => (p.filter id).length)).sum
  let a := d.out
  let w := w.putBytes a (toLe 8 cost ++ toLe 8 gn ++ toLe 8 st ++ toLe 8 lm ++ toLe 4 s.it ++ toLe 4 used ++ toLe 4 (r.sig.getD 0) ++
    toLe 4 e.exit ++ toLe 8 r.tsc0 ++ toLe 8 0)
  let xv := fun (j x : Nat) => match nan with | some n => if n.2 j then n.1 else x | none => x
  let w :=
    if dm.kind = 3 then
      let w := w.putBytes (a + 64) ((s.x.p.map (xv dm.n)).flatMap (toLe 8))
      w.putCols (a + 64 + 8 * up 8 dm.np) (up 8 dm.n) (s.x.xs.map fun v => v.map (xv dm.n))
    else
      let w := w.putBytes (a + 64) (((s.x.xs.getD 0 []).zipIdx.map fun x => xv x.2 x.1).flatMap (toLe 8))
      -- a removed row's element holds the NaN that removed it
      let whole := match nan with | some n => n.2 dm.n | none => false
      let res := (s.e.r.getD 0 (Lin.zeros dm.m)).zipIdx.map fun x =>
        if !(q.pres.getD 0 []).getD x.2 false then t.val g (Lsq.ids dm).z x.2
        else if whole then (match nan with | some n => n.1 | none => 0) else x.1
      w.putBytes (a + 64 + 8 * up 8 dm.n) (res.flatMap (toLe 8))
  let dropR := ((q.pres.map fun p => (p.filter (!·)).length)).sum
  let ids := Lsq.ids dm
  let dropP := (r.nans.filter fun x => x.opt && x.live && (x.sec == ids.xp || (dm.kind == 3 && x.sec == ids.pp))).length
  let w := ((w.wrN R.LSQ_LAST_STAT (d.op + 256 * e.exit)).wrN R.LSQ_LAST_DROP (min dropR 65535 + 2 ^ 16 * min dropP 65535)).wr64
    R.LSQ_LAST_COST cost
  let w := ((w.wrN R.LSQ_LAST_GNORM (F64.to32 gn)).wrN R.LSQ_LAST_STEP (F64.to32 st)).wrN R.LSQ_LAST_LM (F64.to32 lm)
  let w := w.wrN R.LSQ_LAST_WARM (b2n r.warm + 2 * b2n (r.flags.testBit 2))
  let w := w.raiseIf (e.exit == 4) E.LSQ_DAMP_LIMIT
  w.raiseIf (decide (0 < dropR + dropP)) E.LSQ_MEAS_DROP

/-- The states that a failure leaves NaN (R403, R404, R414); the answer for `n` stands for every component. -/
def lsqNan (q : Lsq.Prob) (f : SFail) : Nat → Bool :=
  if q.d.kind = 3 ∨ f.fwd then fun _ => true
  else fun j =>
    decide (j < q.d.n) &&
      let pos := (q.perm.findIdx? (· == j)).getD 0
      decide (f.idx.getD 0 ≤ Lsq.rootOf q.par q.d.n pos)

/-- The least-squares or calibration solve and its outputs. -/
def lsqRun (m : Memory) (d : Desc) (t : Tab) (r : SlvRun) (cap : Option Nat) (w : W) : W × JobRes :=
  let g := w.slvRd m r.ues
  let q := Lsq.build t g d.ana (goneOf r.nans)
  let dm := q.d
  let kp := Desc.lsqKpar d
  let cold : Lsq.It := ⟨q.x0, q.p0⟩
  if r.code = 0x1604 then
    let e : Lsq.End := ⟨0x1604, 6, ⟨cold, default, kp.lm0, 0, 0, 0, 0⟩, 0, none⟩
    (w.lsqOut m d t q e (some (slvNan 4 r.inp, fun _ => true)) r, ⟨0x1604, 0, 0, 4 + 256 * r.inp⟩)
  else
    let lp := up 8 dm.np
    let start : Lsq.It := if r.warm then lsqWarm g d dm else cold
    let e := Lsq.solve q kp d.piv cap start
    let nan := e.fail.map fun f => (slvNan f.cause (f.idx.getD 0xFFFFFF), lsqNan q f)
    let w := w.lsqOut m d t q e nan r
    let keep := e.code = 0 ∨ e.code = 0x1601 ∨ e.code = eTimeout
    let w :=
      if d.tail ∧ keep then
        let w := w.putBytes d.warm (toLe 4 0x7A1E ++ toLe 4 (r.sig.getD 0) ++ toLe 1 1 ++ toLe 1 dm.kind ++ toLe 2 0 ++
          toLe 4 r.seq ++ toLe 8 w.tsc.toNat ++ List.replicate 40 0)
        if dm.kind = 3 then
          (w.putBytes (d.warm + 64) (e.s.x.p.flatMap (toLe 8))).putCols (d.warm + 64 + 8 * lp) (up 8 dm.n) e.s.x.xs
        else w.putBytes (d.warm + 64) ((e.s.x.xs.getD 0 []).flatMap (toLe 8))
      else w
    (w, ⟨e.code, e.s.it, e.s.reg, match nan with | some n => n.1 % 2 ^ 32 | none => 0⟩)

/-- The ANA_ registers at the end of an ANALYSE of kind 2 or 3; ANA_NEED where it ends under R397 (R420). -/
def anaPut (r : SlvRun) (w : W) : W :=
  match r.ana with
  | none => w
  | some (need, nnzL, fl, n) =>
    let w := (((w.wrN R.LSQ_ANA_NEED need).wrN R.LSQ_ANA_NNZ_L nnzL).wr64 R.LSQ_ANA_FL fl).wrN R.LSQ_ANA_N (n % 2 ^ 14)
    w.raiseIf r.anaLow E.LSQ_ANA_NEED

/-- The LAST_ registers of an OP 2 or 3 job that a check refused (R420): EXIT 0, nothing removed, the flags of R421's table; COST,
GNORM, STEP and LM, to which it never came, are free (log 52). -/
def lsqRefused (op : Nat) (r : SlvRun) (w : W) : W :=
  let (w, a) := w.fresh 64
  let (w, b) := w.fresh 32
  let (w, c) := w.fresh 32
  let (w, e) := w.fresh 32
  let w := (((w.wrN R.LSQ_LAST_STAT op).wrN R.LSQ_LAST_DROP 0).wr64 R.LSQ_LAST_COST a).wrN R.LSQ_LAST_GNORM b
  ((w.wrN R.LSQ_LAST_STEP c).wrN R.LSQ_LAST_LM e).wrN R.LSQ_LAST_WARM (b2n (r.flags.testBit 1) + 2 * b2n (r.flags.testBit 2))

/-- The solve of the running job and its outputs (steps 8 and 9), or the refusal that step 2, 3 or 4 found. -/
def slvSolve (m : Memory) (r : SlvRun) (cap : Option Nat) (coupling : Option (Nat × Nat × Nat)) (creg : Nat) (w : W) :
    W × JobRes :=
  let d : Desc := ⟨r.desc⟩
  let t := readTab (w.slvRd m r.ues) d.table
  if r.code ≠ 0 ∧ r.code ≠ 0x1604 then
    (if d.op = 2 ∨ d.op = 3 then w.lsqRefused d.op r else w.anaPut r, ⟨r.code, 0, 0, 0⟩)
  else if d.op = 8 then ((w.putBytes d.ana r.record).anaPut r, ⟨0, 0, 0, 0⟩)
  else
    let (w, res) := if d.op = 1 then w.qpRun m d t r cap coupling creg else w.lsqRun m d t r cap
    (w.undef d.work d.workLen, res)

/-- The chain of R329 and R330: flags of the predecessor, and the job that follows. -/
def chainNext (w : W) (j : SlvJob) (d : Desc) (code : Nat) : Nat × Option SlvJob :=
  let due := match d.cond with
    | 0 => false
    | 1 => code == 0
    | 2 => code == 0 || code == 0x1601
    | _ => true
  if !due ∨ 63 < d.next then (0, none)
  else if w.slv.queue.any fun q => q.desc == d.next then (128, none)
  else if 8 ≤ j.chain then (256, none)
  else (0, some ⟨d.next, 3, j.desc, j.chain + 1⟩)

/-- The running job completes (R328 to R330, R335); `cap` is the iteration at which JOB_TMO ends it (R331). -/
def jobComplete (m : Memory) (cap : Option Nat) (coupling : Option (Nat × Nat × Nat)) (creg : Nat) (w : W) : W :=
  match w.slv.exec, w.slv.run with
  | some j, some r =>
    let d : Desc := ⟨r.desc⟩
    let (w, res) := w.slvSolve m r cap coupling creg
    let flags := r.flags ||| (if res.reg = 0 then 0 else 1)
    let status := res.code + 2 ^ 16 * flags
    let a := w.descAddr j.desc
    let tEnd := w.tsc.toNat
    -- a field whose value the job never came to is free (log 52)
    let (w, sig) := match r.sig with | some x => (w, x) | none => w.fresh 32
    let (w, b0) := match r.bind with | some b => (w, b.1) | none => w.fresh 64
    let (w, b1) := match r.bind with | some b => (w, b.2) | none => w.fresh 64
    let w := w.putBytes (a + 136) (toLe 4 sig)
    let w := w.putBytes (a + 152) (toLe 8 tEnd ++ toLe 8 b0 ++ toLe 8 b1 ++ toLe 4 res.iter ++ toLe 4 res.reg ++
      toLe 4 res.fail ++ toLe 4 r.nanBind)
    let w := (w.put (a + 128) 4 status).put (a + 132) 1 3
    let w := ((w.wrN R.SLV_LAST_DESC j.desc).wrN R.SLV_LAST_STATUS status).wrN R.SLV_LAST_ITER res.iter
    let dt : Int := tEnd - r.tsc0
    let us : Int := rounded 338 dt 100
    let w := (w.wrN R.SLV_LAST_FAIL res.fail).wrN R.SLV_LAST_TIME (clampI 0 0xFFFFFFFF us).toNat
    let w := if r.split ∧ r.flags.testBit 4 = false then w.inc R.QP_SPLIT_CNT else w
    let bad := res.code ≠ 0 ∧ res.code ≠ 0x1601
    let w := w.doneBit j.desc
    let w := if bad then w.err 0x15 res.code else w
    let w := { w with slv.exec := none, slv.run := none, pwr.holdoff := true }.splitFree
    -- a job that follows keeps the executing place: the arm slots find one place less (R88, R330)
    let w : W := { w with slv.exec := (w.chainNext j d res.code).2.map fun x => { x with desc := 64 } }
    let w := ((w.raise E.SLV_JOB_DONE).raiseIf bad E.SLV_JOB_ERR).armSettle 8
    -- step 5: the jobs that step 4 has submitted through an arm slot are queued
    let (cf, next) := w.chainNext j d res.code
    let status := status ||| (2 ^ 16 * cf)
    let w := (w.wrN R.SLV_LAST_STATUS status).put (a + 128) 4 status
    { w with slv.exec := next }.slvKick.slvIdle
  | _, _ => w

/-- JOB_TMO ms have passed since TSC_START; the job ends at the iteration boundary given (R331). -/
def jobTimeout (m : Memory) (iter : Nat) (w : W) : W :=
  if w.rdF R.SLV_JOB_TMO 0 16 = 0 then w else w.jobComplete m (some iter) none 0

/-! ### Split jobs (R373 to R380) -/

/-- The port that leads to quad position 0 (R38). -/
def leadPort (w : W) : Option Nat := if 1 ≤ w.qid ∧ w.qid ≤ 3 then some (3 - w.qid) else none

/-- Split-horizon traffic of the lead reaches this device (R40). -/
def leadUp (w : W) : Bool := match w.leadPort with | some p => w.splitUp p | none => false

/-- A setup message reaches a partner (R376), which replies ACCEPT or the REASON of R373 and with ACCEPT starts to serve. -/
def splitServe (x : SplitSetup) (w : W) : W :=
  let why := firstCode [(!w.hasClaim, 2), (!w.rdB R.QP_SPLIT_CFG 0, 5), (decide (0 < w.slvInFlight), 6),
    (decide (w.rdN R.QP_SPLIT_LEN < splitNeed x w.qid), 7)]
  if !w.leadUp ∨ w.ew ∨ w.serving then w
  else
    let w : W := { w with slv.reply := some why }
    if why ≠ 0 then w
    else ((({ w with slv.served := some x }).wrB R.QP_SPLIT_STAT 4 true).demand 5).raise E.QP_SERVE_START

/-- A split message arrives: at a partner, load data at an offset of its range (R376); at the lead, one more of the
expected messages. -/
def splitMessage (off : Nat) (data : List Byte) (w : W) : W :=
  if w.serving then
    if off + data.length ≤ w.rdN R.QP_SPLIT_LEN ∧ w.domUp 5 ∧ w.leadUp then
      w.putBytes (w.rdN R.QP_SPLIT_BASE + off) data
    else w
  else match w.slv.run with
    | some r => if r.split then { w with slv.run := some { r with msgs := r.msgs + 1 } } else w
    | none => w

/-- A partner returns its block, B_oblk and, with a warm share loaded, the new one, and clears SERVING (R376, R380). What it has
computed follows from messages whose contents the manual does not give, so the bytes returned are free (log 52). -/
def splitEnd (w : W) : W :=
  if w.serving then
    let n := match w.slv.served with | some x => x.boblk + x.bwblk | none => 0
    let w : W := { w with slv.returned := some (n, w.freeCtr), freeCtr := w.freeCtr + 1 }
    (w.inc R.QP_SERVE_CNT).serveStop.slvKick
  else w

/-! ### Writes of the SLV and QP pages (R321, R324, R338, R384) -/

/-- The code of a write of an SLV register. -/
def slvCheck (w : W) (m : Memory) (o : Nat) (v : Word) : Nat :=
  if o = 0x040 ∨ o = 0x04C then
    let rb := if o = 0x040 then v.toNat else w.rdN R.SLV_RING_BASE
    let db := if o = 0x04C then v.toNat else w.rdN R.SLV_DESC_BASE
    firstCode [(decide (slvSize < (if o = 0x040 then rb + 256 else db + 16384)), eLen),
      (decide (if o = 0x040 then rb % 256 ≠ 0 else db % 16384 ≠ 0) ||
        (o == 0x04C && areasOverlap [(rb, 256), (db, 16384)]), eRange)]
  else if o = 0x044 then w.slvDbCode m (fld v 0 4)
  else if 0x080 ≤ o ∧ o < 0x0A0 then
    let a := (o - 0x080) / 4
    firstCode [(bit v 31 && (List.range 8).any (fun b => b != a && w.rdB (R.SLV_ARM b) 31 && w.rdF (R.SLV_ARM b) 0 6 == fld v 0 6),
      eState)]
  else 0

/-- The effect of an accepted write of an SLV register that is more than a store. -/
def slvWrite (w : W) (m : Memory) (o : Nat) (v : Word) : Option W :=
  if o = 0x044 then some (w.slvDoorbell m (fld v 0 4))
  else if 0x080 ≤ o ∧ o < 0x0A0 then
    let a := (o - 0x080) / 4
    let w := w.wr (R.SLV_ARM a) (v &&& 0x8000FF3F#32)
    some (if bit v 31 then w.wr (R.SLV_ARM_MISSED a) 0 else w)
  else none

/-- The code of a write of a QP register. -/
def qpCheck (w : W) (o : Nat) (v : Word) : Nat :=
  let fits := fun b n => decide (b + n ≤ slvSize)
  if o = 0x044 then firstCode [(!fits v.toNat (w.rdN R.QP_SPLIT_LEN), eLen), (decide (v.toNat % 64 ≠ 0), eRange)]
  else if o = 0x048 then firstCode [(!fits (w.rdN R.QP_SPLIT_BASE) v.toNat, eLen)]
  else 0

end W

end Sys2Proof.Machine
end

