-- ==== Sys2Proof/Machine/RegRead.lean ====
section
/-!
DEFINITION. What a read of a register gives: the common header (R54 to R58, R63), the registers whose value the device
computes when it is read, the pairs of R52, and the read that an engine makes (R21, R22, R45).
-/
namespace Sys2Proof.Machine

/-- Is the offset the lower word of a register pair (R52)? -/
def isPair (off : Nat) : Bool :=
  let p := off / 0x1000
  let o := off % 0x1000
  if p = 0x05 then o == 0x068 || o == 0x070 || o == 0x0D0 || o == 0x0F0
  else if 0x0B ≤ p ∧ p ≤ 0x0E then o == 0x07C
  else if p = 0x12 then decide (0x040 ≤ o ∧ o < 0x840) && (o % 32 == 8 || o % 32 == 16)
  else if p = 0x13 then
    o == 0x050 || o == 0x074 || (decide (0x240 ≤ o ∧ o < 0xCC0) && o % 16 == 0)
      || (decide (0xCC0 ≤ o ∧ o < 0xD80) && decide ((o - 0xCC0) % 24 < 16) && o % 8 == 0)
      || (decide (0xD80 ≤ o) && decide ((o - 0xD80) % 80 < 72) && o % 8 == 0)
  else if p = 0x14 then o == 0x048
  else if p = 0x17 then o == 0x060
  else if p = 0x18 then o == 0x048 || o == 0x068
  else if p = 0x42 then o == 0x054
  else false

/-- Registers at 0x040 and above that lie in PD1 though their block does not: the arm slots (R325), HIF.CFG (R823). -/
def inPd1 (off : Nat) : Bool := decide (0x15080 ≤ off ∧ off < 0x150E0) || off == R.HIF_CFG

/-- The first page of a page's block and its instance (R48, R55). -/
def pageType (p : Nat) : Nat × Nat :=
  if 0x0B ≤ p ∧ p ≤ 0x0E then (0x0B, p - 0x0B) else if 0x1A ≤ p ∧ p ≤ 0x29 then (0x1A, p - 0x1A)
  else if 0x2B ≤ p ∧ p ≤ 0x3A then (0x2B, p - 0x2B) else (p, 0)

namespace W

/-- SRST of a page is in progress (R60). -/
def inSrst (w : W) (p : Nat) : Bool := w.rdB (R.H_CTRL p) 1

/-- A page's domain is on or in retention, or its register lies in PD1. -/
def pageUp (w : W) (p : Nat) : Bool := match pageDomain p with | some d => w.domUp d | none => false

/-! ### Registers that are computed when read -/

/-- The registers of the SYS to HIF and NVM pages. DESIGN CHOICE (log 43): PGOOD of a buck that has faulted reads 0. -/
def sysWord (w : W) (off : Nat) : Word :=
  if off = R.PWR_DOM_STAT then w.rd off ||| 5#32
  else if off = R.PWR_REG_STAT then
    let run := w.rdF R.SYS_BOOT_STAT 0 4 ≥ 2 && w.pstate != 2 && !w.pwr.held
    let f := w.rdF off 4 4
    let good (i : Nat) (on : Bool) : Nat := b2n (on && !f.testBit i) * 2 ^ i
    BitVec.ofNat 32 (16 * f + good 0 run + good 1 run + good 2 (run && w.dom 9 != 0) + good 3 run)
  else if off = R.AGE_REG_HEALTH then
    BitVec.ofNat 32 (((List.range 4).map fun i => min 255 (w.episodeCount i) * 2 ^ (8 * i)).foldl (· + ·) 0)
  else if off = R.EVT_VEC_ASSERT then BitVec.ofNat 32 (bitsOf 32 w.vecAsserted)
  else if off = R.EVT_PIN_ASSERT then BitVec.ofNat 32 (bitsOf 4 w.irqLow)
  else if off = R.HIF_LINK_STAT then setBit (setBit (w.rd off) 11 w.qspiSel) 12 w.hif.qpi
  else if off = R.HIF_MSIX_PBA 0 then BitVec.ofNat 32 (bitsOf 32 fun v => w.vecAsserted v && w.msixBlocked v)
  else if off = R.NVM_WCNT_DATA then BitVec.ofNat 32 (w.wcntOf (w.rdF R.NVM_WCNT_IDX 0 12))
  else w.rd off

def rtcWord (w : W) (o : Nat) : Word :=
  if o = 0x040 then
    let b := w.rtc.buf
    let pend := b.min.isSome || b.hour.isSome || b.day.isSome || b.month.isSome || b.year.isSome
    setBit (setBit (w.rd R.RTC_STAT) 2 w.rtc.shadow.isSome) 3 pend
  else if isTimeReg o then BitVec.ofNat 32 (timeField (w.rdN R.RTC_SUBSEC) (w.rd64 R.RTC_EPOCH_S) o)
  else w.rd (0x5000 + o)

def recWord (w : W) (o : Nat) : Word :=
  let t := w.recd.trig.getD (w.rdF R.REC_TRG_SEL 0 6) {}
  if o = 0x040 then setFld (w.rd R.REC_STAT) 8 6 w.recd.queue.length
  else if o = 0x06C then t.cfg
  else if o = 0x070 then t.cnt
  else w.rd (0x7000 + o)

def scanWord (w : W) (o : Nat) : Word :=
  if o = 0x040 then
    let active := fun k => w.lockstep (2 * k)
    BitVec.ofNat 32 (b2n w.forced + 2 * b2n w.olcBusy + 4 * b2n (active 0) + 8 * b2n (active 1))
  else if o = 0x054 then BitVec.ofNat 32 w.stnGood
  else w.rd (0xA000 + o)

/-- A word of a CAN page. RX_ACTIVE is free while the channel takes part in traffic and sends nothing itself (R568; log 28). -/
def canWord (w : W) (n o : Nat) : Word :=
  let half := o / 4 % 2
  if o = 0x078 ∨ o = 0x07C then w.mbBits n (if o = 0x078 then 0 else 1) fun b => decide (1 ≤ mbState b ∧ mbState b ≤ 3)
  else if o = 0x080 ∨ o = 0x084 then w.mbBits n half fun b => mbState b == 9
  else if 0x400 ≤ o ∧ o < 0x450 then w.viewWord n ((o - 0x400) / 4)
  else if o = 0x04C then
    setBit (w.rd (R.CAN_BSTAT n)) 6 ((w.canCh n).live && (w.canCh n).act.isNone && Config.rxActive w.freeCtr n)
  else w.rd (0x1000 * canPage n + o)

def motWord (w : W) (o : Nat) : Word :=
  let bits (f : Nat → Bool) : Word := BitVec.ofNat 32 (bitsOf 16 f)
  if o = 0x040 then bits fun n => w.rdB (R.H_CTRL (axPage n)) 0
  else if o = 0x044 then bits fun n => w.rd (R.AX_VEL n) != 0#32
  else if o = 0x048 then bits fun n => w.axState n == axFAULT
  else if o = 0x04C then bits fun n => w.axState n == axHELD
  else w.rd (0x2A000 + o)

/-- The value of the register at a BAR0 offset at page offset 0x040 or above, its domain taken as up. -/
def blockWord (w : W) (off : Nat) : Word :=
  let p := off / 0x1000
  let o := off % 0x1000
  if p = 0x05 then w.rtcWord o
  else if p = 0x07 then w.recWord o
  else if p = 0x0A then w.scanWord o
  else if off = R.FRC_STAT then
    BitVec.ofNat 32 ((those 64 w.frcEn).length + 256 * b2n ((List.range 64).any fun e => bit (w.frcAddr e) 30))
  else if off = R.CANC_CHAN_EN then BitVec.ofNat 32 (bitsOf 16 w.canEn)
  else if off = R.CANC_CLAIM_TX then BitVec.ofNat 32 (w.rdF R.RED_CLAIM 0 16)
  else if 0x1A ≤ p ∧ p ≤ 0x29 then w.canWord (p - 0x1A) o
  else if p = 0x2A then w.motWord o
  else if 0x2B ≤ p ∧ p ≤ 0x3A ∧ o = 0x040 then w.axAstat (p - 0x2B)
  else if off = R.KEY_SLOT_ATTR then ((w.slotKey (w.rdF R.KEY_SLOT_SEL 0 7)).map (·.attr)).getD 0
  else if off = R.TMP_LOG_LO then (w.tmp.log.getD (w.rdF R.TMP_LOG_SEL 0 4) (0, 0)).1
  else if off = R.TMP_LOG_HI then (w.tmp.log.getD (w.rdF R.TMP_LOG_SEL 0 4) (0, 0)).2
  else if off = R.GPIO_IN then w.gpioIn
  else if off = R.GPIO_DRIVEN then w.gpioDriven
  else if p = 0x42 ∧ 0x044 ≤ o ∧ (regDef off).isSome then w.dbgWord o
  else if p ≤ 0x04 ∨ p = 0x08 then w.sysWord off
  else w.rd off

/-! ### The common header (R54) -/

/-- CFG_CRC over the RWL registers of a page as they stand (R63). -/
def cfgCrc (w : W) (p : Nat) : Nat :=
  let offs := ((List.range 1008).map fun i => 0x1000 * p + 0x040 + 4 * i).filter fun off =>
    match regDef off with | some d => d.acc == .rwl | none => false
  crc32c (offs.flatMap fun off => toLe 4 (w.blockWord off).toNat)

/-- STAT (R54, R56 to R58). -/
def statWord (w : W) (p : Nat) : Word :=
  let up := w.pageUp p
  BitVec.ofNat 32 (b2n (up && !w.inSrst p) + 2 * b2n (Config.pageBusy w.freeCtr p)
    + 4 * b2n (w.rdF (R.H_ERR p) 16 16 != 0) + 8 * b2n (!up))

/-- A word of the header. -/
def headerWord (w : W) (p o : Nat) : Word :=
  let up := w.pageUp p
  if o = 0x000 then BitVec.ofNat 32 (2 ^ 16 * (pageType p).1 + 2 ^ 8 * (pageType p).2 + 1)
  else if o = 0x004 then BitVec.ofNat 32 (Config.pageCap p)
  else if o = 0x00C then w.statWord p
  else if o = 0x010 then (if up then w.rd (R.H_EVT_RAW p) else 0)
  else if o = 0x01C then 0
  else if o = 0x024 then (if w.rdF (R.H_LOCK p) 8 9 = 0 then 0 else w.rd (R.H_LOCK p))
  else if o = 0x02C then (if up then BitVec.ofNat 32 (w.cfgCrc p) else 0)
  else w.rd (0x1000 * p + o)

/-- The word at a BAR0 offset of an implemented page whose domain is up. -/
def regWord (w : W) (off : Nat) : Word :=
  if off % 0x1000 < 0x040 then w.headerWord (off / 0x1000) (off % 0x1000) else w.blockWord off

/-! ### Reads (R21, R22, R46, R52, R60) -/

/-- The error with which an access to page offset 0x040 or above is not carried out: its domain is off (R22). -/
def offCode (w : W) (off : Nat) : Nat := if w.pageUp (off / 0x1000) || inPd1 off then 0 else eDomainOff

/-- A read of a register that shows a free value: each read shows a value of its own (log 4). -/
def freeRead (w : W) (off : Nat) : W :=
  if off % 0x1000 = 0x00C ∨ (0x1A ≤ off / 0x1000 ∧ off / 0x1000 ≤ 0x29 ∧ off % 0x1000 = 0x04C) then
    { w with freeCtr := w.freeCtr + 1 }
  else w

/-- The access wakes the page's domain from retention (R21). -/
def accessWake (w : W) (off : Nat) : W :=
  match pageDomain (off / 0x1000) with
  | some d => if inPd1 off then w else w.retWake d
  | none => w

/-- The word that a master reads of a reachable register, through the latch of R52. -/
def pairRead (w : W) (ma : Master) (off : Nat) (word : W → Nat → Word) : W × Word :=
  match w.evt.pairRd.find? fun (e : Master × Nat × Word) => e.1 == ma && e.2.1 == off with
  | some e => ({ w with evt.pairRd := w.evt.pairRd.filter fun (x : Master × Nat × Word) => !(x.1 == ma && x.2.1 == off) }, e.2.2)
  | none =>
    if isPair off then
      let others := w.evt.pairRd.filter fun (x : Master × Nat × Word) => !(x.1 == ma && x.2.1 == off + 4)
      ({ w with evt.pairRd := (ma, off + 4, word w (off + 4)) :: others }, word w off)
    else (w, word w off)

/-- The read of a register that an engine makes (R22, R45): a reserved page reads zero, an off domain zero with
ERR_DOMAIN_OFF in the page's ERR, a block in SRST zero with ERR_BUSY. -/
def engRead (ma : Master) (w : W) (off : Nat) : RecRead :=
  let p := off / 0x1000
  if (pageDomain p).isNone then ⟨w, 0, false, false⟩
  else if off % 0x1000 < 0x040 then ⟨w, w.headerWord p (off % 0x1000), false, false⟩
  else if w.offCode off ≠ 0 then ⟨w.err p eDomainOff, 0, true, false⟩
  else if w.inSrst p then ⟨w.err p eBusy, 0, false, false⟩
  else
    let woke := !inPd1 off && pageDomain p == some 5 && w.dom 5 == 2
    let w := (w.accessWake off).freeRead off
    let r := w.pairRead ma off blockWord
    ⟨r.1, r.2, false, woke⟩

end W

end Sys2Proof.Machine
end

