-- ==== Sys2Proof/Machine/Power.lean ====
section
/-!
DEFINITION. The power manager (chapter 03): users of the domains, switching off and what is lost with it, checkpoints of
the retained data, early warning, faults, the entries of Lull, Deep Lull and Off, the resets; and `settle`, the
evaluation that follows every command.
-/
namespace Sys2Proof.Machine.W

/-! ## Users of the domains (R23) -/

/-- CTRL.EN of some page of the domain is 1. -/
def anyEn (w : W) (d : Nat) : Bool := (domainPages d).any fun p => w.rdB (R.H_CTRL p) 0

/-- A task is STARTING, RUN or FAULT. -/
def anyTask (w : W) : Bool := (List.range 4).any fun n => w.tstate n != 0

/-- A link port is enabled. -/
def portOn (w : W) : Bool := (List.range 4).any fun p => w.rdB (R.LNK_Pp_CTRL p) 0

/-- The domain has a user (R23); `link` counts the host link as a user of PD9 (R852). DESIGN CHOICE (log 43): the 100 ms after a
wake, which the PD9 row of R23 names, count as a user of PD9 in the request checks of R107 and R110 too; the idle hold-off
of the PD5 row does not. -/
def hasUser (w : W) (link : Bool) (d : Nat) : Bool :=
  if d = 4 then w.anyTask || w.anyEn 4
  else if d = 5 then decide (0 < w.slvInFlight)
  else if d = 6 ∨ d = 7 then w.anyEn d
  else if d = 8 then (w.key.jobs.any fun j => j.state != 3) || (w.key.slots.any fun e => decide (e.1 < 64)) || w.anyEn 8
  else if d = 9 then (link && w.linkUp) || w.portOn || w.anyEn 9 || w.pwr.wakeHold
  else false

/-- Some domain of PD4 to PD9 has a user. -/
def anyUser (w : W) (link : Bool) : Bool := [4, 5, 6, 7, 8, 9].any fun d => w.hasUser link d

/-- Host release has been reached. -/
def released (w : W) : Bool := w.rdB R.SYS_BOOT_STAT 4

/-! ## Checkpoints of the retained data (R130 to R135) -/

/-- Areas of 1 MiB in the retained-data ring, and the BAR4 offset of one. -/
def ckptAreas (w : W) : Nat := min 4 (w.partSize 3 / 0x100000)
def ckptBase (w : W) (area : Nat) : Nat := w.partBase 3 + 0x100000 * area

/-- The bytes of a checkpoint (R130, R131). -/
def ckptImage (w : W) (m : Memory) : List Byte :=
  let data := (List.range 4).flatMap fun n => w.bytes m (w.retC n) (w.spSize n 2)
  let body := toLe 4 0xC7B1 ++ toLe 4 (w.rdN R.PWR_CKPT_SEQ + 1) ++ toLe 8 w.tscTime ++ toLe 4 w.rtcSec.toNat
    ++ toLe 4 data.length ++ (List.range 4).flatMap (fun n => toLe 4 (w.rdN (R.TASK_RET_SIG n))) ++ toLe 24 0 ++ data
  body ++ toLe 4 (crc32c body) ++ toLe 4 0x3C5AA5C3

/-- The instant of the next periodic start, counted from the reference (R133). -/
def ckptDue (w : W) (ref : Nat) : Option Nat :=
  let p := w.rdN R.PWR_CKPT_PERIOD
  if p = 0 then none else some (ref + p * 100000000)

/-- A checkpoint does not complete (R135); a held switch-off of PD4 is retried (R105). -/
def ckptFail (w : W) : W :=
  let w := ((w.wrB R.PWR_CKPT_STAT 2 false).wrB R.PWR_CKPT_STAT 3 false).wrB R.PWR_CKPT_STAT 4 false
  let w := { w with pwr.ckptImg := none, pwr.ckptClass0 := false, pwr.ckptRetry := w.pwr.pd4OffWait }
  w.raise E.PWR_CKPT_FAIL

/-- A checkpoint starts; PD4 is on and none is in progress. -/
def ckptStart (m : Memory) (w : W) : W :=
  let img := w.ckptImage m
  let w := { w with pwr.ckptRef := some w.tscTime, pwr.ckptNext := w.ckptDue w.tscTime, pwr.ckptRetry := false }
  if w.ckptAreas = 0 ∨ 0x100000 < img.length then w.ckptFail
  else { w.wrB R.PWR_CKPT_STAT 2 true with pwr.ckptImg := some (w.pwr.ckptArea % w.ckptAreas, img) }

/-- A NOW write or an entry requests a checkpoint (R133): one that comes while a checkpoint runs starts a further one.
`now` marks a NOW write, whose bit reads 1 until its own checkpoint ends. DESIGN CHOICE (log 43): PD4 in transition counts as
off, here, at a periodic start and at early warning. -/
def ckptRequest (now : Bool) (m : Memory) (w : W) : W :=
  if w.dom 4 ≠ 1 then w.wrB R.PWR_CKPT_STAT 4 false
  else if w.pwr.ckptImg.isSome then { w with pwr.ckptFurther := true, pwr.ckptNow := w.pwr.ckptNow || now }
  else w.ckptStart m

/-- The instant of a periodic start (R133): skipped while a checkpoint runs or PD4 is off. -/
def ckptPeriodic (m : Memory) (w : W) : W :=
  match w.pwr.ckptNext with
  | none => w
  | some t =>
    if w.tscTime < t then w
    else if w.dom 4 ≠ 1 ∨ w.pwr.ckptImg.isSome then { w with pwr.ckptNext := w.ckptDue t }
    else w.ckptStart m

/-- The retry, 1 s after the failure, of a checkpoint that PD4's switch-off waits for, while CKPT_PERIOD is 0 (R105); with a
period the periodic start retries. -/
def ckptRetry (m : Memory) (w : W) : W :=
  if w.pwr.ckptRetry && w.rdN R.PWR_CKPT_PERIOD == 0 && w.pwr.pd4OffWait && w.dom 4 == 1 && w.pwr.ckptImg.isNone then w.ckptStart m else w

/-- A write of CKPT_PERIOD (R133). -/
def ckptPeriodWrite (w : W) (v : Word) : W :=
  let old := w.rdN R.PWR_CKPT_PERIOD
  let w := w.wr R.PWR_CKPT_PERIOD v
  if !w.released then w
  else
    let t := w.tscTime
    let w := if old = 0 then { w with pwr.ckptRef := some t } else w
    { w with pwr.ckptNext := match w.pwr.ckptRef with
      | some r => (w.ckptDue r).map fun x => max x t
      | none => none }

/-! ## Switching domains off (R103, R105, R115) -/

/-- The registers of a domain's pages at 0x040 and above return to their reset values; those held in PD1 stay. -/
def resetDomain (w : W) (d : Nat) : W :=
  { w with regs := w.regs.filter fun e =>
      !(pageDomain (e.1 / 0x1000) == some d && decide (0x040 ≤ e.1 % 0x1000) && !inPd1 e.1) }

/-- PE_WAKE_N aside, the host link goes down with its domain (R852). -/
def linkLost (w : W) : W :=
  if w.qspiSel || !w.linkUp then w else linkSync w { w with hif.l2 := true } false

/-- What is lost with domain d, 2 to 9. -/
def lose9 (w : W) : W :=
  let w := w.linkLost
  let w := (List.range 4).foldl (fun w p => w.linkDown p) w
  { w with tw.msgs := Vector.replicate 4 [],
           hif := { w.hif with dma := Vector.replicate 4 none, qsBuf := [], bme := false, funcMask := false, pmeEn := false } }

def domLoss (d : Nat) (w : W) : W :=
  if d = 2 then
    let w := match w.qty.store with
      -- the write fails for a reason other than reset (R274)
      | some j => ((w.tear (w.storeBase j.sector) 1476).wrB R.QTY_STORE_STAT 2 false).raise E.QTY_STORE_FAIL
      | none => w
    { w with mtr := {}, qty := {} }
  else if d = 3 then { w with saf := { fault := w.saf.fault } }
  else if d = 4 then
    let w := if w.pwr.ckptImg.isSome then
        match w.pwr.ckptImg with
        | some (a, img) => (w.tear (w.ckptBase a) (img.length - 4) (img.take 64)).ckptFail
        | none => w
      else w
    let w := { w.scanLost.lose solverEnd systemEnd with
      tw.sysUe := [], tw.cw := Vector.replicate 4 none, pwr.pd4OffWait := false, pwr.ckptRetry := false, pwr.ckptFurther := false, pwr.ckptNow := false }
    (List.range 4).foldl (fun w n => w.setCur n false) w
  else if d = 5 then
    { w.serveStop.slvLost.lose 0 solverEnd with pwr.slvArray := false, pwr.pd5Kept := false, pwr.holdoff := false }
  else if d = 6 then w.canLost
  else if d = 7 then { w with ax := Vector.replicate 16 {}, mot := {} }
  else if d = 8 then
    let w := match w.key.bank with
      | some b => w.tear (w.bankBase b.bank) 1188
      | none => w
    w.sceStop
  else if d = 9 then w.lose9
  else w

/-- A domain of PD2 to PD9 switches off: its registers and memories are lost. -/
def pdOff (d : Nat) (w : W) : W :=
  if w.dom d = 0 then w else ((((w.domLoss d).resetDomain d).setDom d 0).heldDrop d).health

/-- The checkpoint in progress ends (R133 to R135): its commit word is written, or it does not complete. -/
def ckptDone (ok : Bool) (m : Memory) (w : W) : W :=
  match w.pwr.ckptImg with
  | none => w
  | some (a, img) =>
    let now := w.pwr.ckptNow
    let w : W := if ok = false then ((w.tear (w.ckptBase a) (img.length - 4) (img.take 64)).ckptFail).wrB R.PWR_CKPT_STAT 4 now
      else
        let w := w.mramPut (w.ckptBase a) img
        let w := ((w.wrF R.PWR_CKPT_STAT 0 2 a).wrB R.PWR_CKPT_STAT 2 false).wrB R.PWR_CKPT_STAT 3 true
        let w := w.wrN R.PWR_CKPT_SEQ (leNat ((img.drop 4).take 4))
        ({ w with pwr.ckptArea := (a + 1) % w.ckptAreas, pwr.ckptImg := none, pwr.ckptClass0 := false,
                  pwr.ckptRetry := false }.wrB R.PWR_CKPT_STAT 4 now).raise E.PWR_CKPT_DONE
    if w.pwr.ckptFurther then
      let w : W := { w with pwr.ckptFurther := false, pwr.ckptNow := false }
      if w.dom 4 = 1 then w.ckptStart m else w.wrB R.PWR_CKPT_STAT 4 false
    else
      let w := w.wrB R.PWR_CKPT_STAT 4 false
      if ok && w.pwr.pd4OffWait && !w.hasUser true 4 then w.pdOff 4 else w

/-! ## The evaluation after every command -/

/-- The power manager starts what has a user and switches off what has none (R23, R104 to R106), PD6 not before its disabled
channels have reached bus idle (R532). -/
def powerEval (m : Memory) (w : W) : W :=
  if w.pwr.held || w.pwr.xtmFail || w.pstate == 2 || !(w.released || w.rdB R.SYS_BOOT_STAT 9) then w
  else
    let pending := w.rdF R.PWR_STATE_REQ 0 2 != 0
    let w := if (pending && w.anyUser false) || (w.pwr.lullEntry && w.anyUser true) then w.abortEntry else w
    let w := [4, 6, 7, 8, 9].foldl (fun w d =>
      if w.hasUser true d then
        let w := if d = 4 then { w with pwr.pd4OffWait := false, pwr.ckptRetry := false } else w
        if w.dom d = 0 then w.demand d else w
      else if w.dom d = 1 ∧ w.released = true ∧ (d = 6 → w.canClosing = false) then
        if d = 4 then (if w.pwr.pd4OffWait then w else ({ w with pwr.pd4OffWait := true }).ckptRequest false m)
        else w.pdOff d
      else w) w
    if w.slv.exec.isSome then w.demand 5 else w

/-- Writes to system SRAM end the uncorrectable words that they cover (R674). -/
def sramSettle (w : W) : W :=
  if w.tw.sysUe = [] then w
  else w.wq.foldl (fun w x => match x with
    | .bytes a d => w.sramWritten a d.length
    | .clear lo hi => w.sramWritten lo (hi - lo)
    | .free a n _ => w.sramWritten a n) w

/-- A task in RUN with an uncorrectable word, found by the command, in one of its areas enters FAULT (R459): whoever read the
word, its own engine, another master or a scrub pass. -/
def taskUe (w0 w : W) : W :=
  if w.tw.sysUe = w0.tw.sysUe then w
  else (List.range 4).foldl (fun w n =>
    if w.tstate n == 2 && w.tw.sysUe.any (fun k => !w0.tw.sysUe.contains k && (w.ownAreas n).any (overlaps (8 * k, 8)))
    then w.taskHalt n 3 5 else w) w

/-- Armed descriptors are submitted, the solver's queue moves, and the power manager evaluates; events that these raise
may arm descriptors in turn. -/
def settleRound (m : Memory) : (k : Nat) → W → W
  | 0, w => { w with evt.armHits := [] }
  | k + 1, w =>
    let w := ((w.armSettle 4).slvKick).powerEval m
    if w.evt.armHits = [] then w else settleRound m k w

/-- Nothing that the evaluation watches has changed: registers, power, events, solver, keys, host interface, and the
memory while an uncorrectable word stands. -/
def quiet (w0 w : W) : Bool :=
  decide (w.regs = w0.regs ∧ w.pwr = w0.pwr ∧ w.evt = w0.evt ∧ w.slv = w0.slv ∧ w.key = w0.key ∧ w.hif = w0.hif) &&
    (decide (w.tw.sysUe = []) || decide (w.wq = w0.wq))

/-- The evaluation at the end of a command that turned `w0` into `w`. -/
def settle (m : Memory) (w0 w : W) : W :=
  let w := taskUe w0 w
  if quiet w0 w then w
  else
    let w := settleRound m 3 w.sramSettle
    let w := if w.pwr.held then w else w.plannerDeferred
    w.upd R.PWR_STATE (setBit (w.rd R.PWR_STATE) 3 ((List.range 10).any fun d => w.dom d == 3))

/-! ## Lull, Deep Lull, Off (R104 to R110, R852) -/

/-- The conditions of an automatic Lull entry (R104). -/
def lullOk (w : W) : Bool :=
  w.released && !w.pwr.held && !w.pwr.xtmFail && w.pstate == 0 && w.rdB R.PWR_AUTO 0 && !w.anyUser true && !w.canClosing &&
    (w.dom 5 == 0 || w.dom 5 == 2) && w.rdF R.PWR_STATE_REQ 0 2 == 0 && !([6, 7, 8, 9].any fun d => w.dom d == 3)

/-- The automatic Lull entry starts; its last step stops PLL_SYS (R102, R109). -/
def lullEntry (last : Bool) (w : W) : W :=
  if !w.lullOk then w
  else if !last then { w with pwr.lullEntry := true }
  else if w.pwr.lullEntry && w.dom 4 == 0 then (({ w with pwr.lullEntry := false }).stopPllSys).sleep 1
  else w

/-- The code of a write to a PWR register (R107, R110, R138, R852). -/
def pwrCheck (w : W) (o : Nat) (v : Word) : Nat :=
  if o = 0x044 then
    let req := fld v 0 2
    if req = 0 then 0
    else if req = 1 then eRange
    else firstCode [(!w.rdB R.SAF_STAT 2, ePerm), (w.anyUser false, eState),
      (w.rdF R.PWR_STATE_REQ 0 2 != 0 || w.pwr.lullEntry, eBusy)]
  else if o = 0x050 then (if v.toNat < 100 ∨ 1000000 < v.toNat then eRange else 0)
  else if o = 0x054 then (if 3600 < v.toNat then eRange else 0)
  else 0

/-- The effect of an accepted write to a PWR register that is more than a store. -/
def pwrWrite (w : W) (m : Memory) (o : Nat) (v : Word) : Option W :=
  if o = 0x044 then
    let req := fld v 0 2
    if req = 0 then some w
    else
      let w := (w.wrF R.PWR_STATE_REQ 0 2 req).storeStart 3
      some (if req = 3 then w.ckptRequest false m else w)
  else if o = 0x054 then some (w.ckptPeriodWrite v)
  else if o = 0x058 then
    some (if bit v 4 then (w.wrB R.PWR_CKPT_STAT 4 true).ckptRequest true m else w)
  else none

/-- The steps that an entry waits for are done: no user, PD4 off, the billing store written (R105, R110, R267). -/
def entryReady (w : W) (req : Nat) : Bool :=
  w.rdF R.PWR_STATE_REQ 0 2 == req && !w.pwr.held && !w.pwr.xtmFail && !w.anyUser false && w.dom 4 == 0 && !w.canClosing &&
    w.pwr.ckptImg.isNone && w.qty.store.isNone && w.qty.storeNext.isNone

/-- A step of the Deep Lull entry switches a domain off, unless the entry has been aborted (R109). -/
def deepOff (w : W) (d : Nat) : W := if w.rdF R.PWR_STATE_REQ 0 2 = 2 then w.pdOff d else w

/-- The last step of the Deep Lull entry (R103, R107, R109). A wake that the switching off itself brings aborts it: the device
stays in Run, and PD2 and PD3 start again where they had gone off. -/
def deepEntry (w : W) : W :=
  if !w.entryReady 2 then w
  else
    let w := [9, 8, 7, 6, 5, 3, 2].foldl deepOff w
    if w.rdF R.PWR_STATE_REQ 0 2 = 2 then ((w.wr R.PWR_STATE_REQ 0).stopPllSys).sleep 2
    else [2, 3].foldl (fun w d => if w.dom d = 0 ∧ w.buckFaulted d = false then w.setDom d 3 else w) w

/-- The 100 ms after a wake end (R106). -/
def wakeHoldEnd (w : W) : W := { w with pwr.wakeHold := false }

/-- PD5's hold-off runs out (R112): it enters retention. -/
def holdoffEnd (w : W) : W :=
  if w.dom 5 = 1 ∧ w.pwr.holdoff = true ∧ w.slvInFlight = 0 ∧ w.serving = false then
    { w.setDom 5 2 with pwr.holdoff := false, pwr.slvArray := false }
  else w

/-! ## Early warning (R125 to R128) -/

/-- VIN falls through 2.95 V. DESIGN CHOICE (log 43): a Gust of PD5 already in progress is cancelled with the stop of the
solver array: PD5 is off again, or stays awake where its memories were kept (R126). -/
def ewOn (m : Memory) (w : W) : W :=
  if w.ew || w.pwr.held then w
  else
    let w := ((w.wrB R.PWR_STATE 2 true).incSat R.PWR_EW_COUNT).raise E.PWR_EARLY_WARN
    let w : W := if w.dom 4 ≠ 1 then w
      else
        let w := if w.pwr.ckptImg.isSome then w else w.ckptStart m
        { w with pwr.ckptClass0 := w.pwr.ckptImg.isSome }
    let w : W := { w.slvEw with pwr.slvArray := false }
    let w := if w.dom 5 = 3 then (w.setDom 5 (b2n w.pwr.pd5Kept)).heldDrop 5 else w
    ((List.range 4).foldl (fun w p => w.linkDown p) w).storeStart 1 |>.health

/-- VIN has stayed at or above 3.00 V for 1 ms. -/
def ewOff (w : W) : W := if w.ew && !w.pwr.held then ((w.wrB R.PWR_STATE 2 false).raise E.PWR_EW_CLEAR).health else w

/-! ## Faults (R99, R101) -/

/-- The watchdog of the HKE reaches 50 ms without service (R136, R674). -/
def wdtWarning (w : W) : W := { w.raise E.SYS_WDT_WARN with tw.wdtWarn := true }.health

/-- VIN is measured (R138, R241); `served` says that the HKE has served its watchdog since. -/
def vinMonUpdate (mv : Nat) (served : Bool) (w : W) : W :=
  let w := w.vinMon mv
  if served then { w with tw.wdtWarn := false }.health else w

/-- The bucks run: after phase 2 of start-up, outside Deep Lull; VSDS only with PD9. -/
def buckRuns (w : W) (b : Nat) : Bool :=
  !w.pwr.held && decide (2 ≤ w.rdF R.SYS_BOOT_STAT 0 4) && w.pstate != 2 && (b != 2 || w.dom 9 != 0)

/-- Buck b faults: its domains switch off until the next reset. -/
def regFault (b : Nat) (w : W) : W :=
  if !w.buckRuns b || w.rdB R.PWR_REG_STAT (4 + b) then w
  else
    let w := (w.wrB R.PWR_REG_STAT (4 + b) true).raise E.PWR_REG_FAULT
    ([9, 8, 7, 6, 5, 4, 3, 2].foldl (fun w d => if w.buckFaulted d then w.pdOff d else w) w).health

/-- XTM has failed (R101): every PLL stops, PD2 and PD4 to PD9 switch off, the safety channels go to their safe state. -/
def xtmFails (w : W) : W :=
  if w.pwr.held || w.pwr.xtmFail || decide (w.rdF R.SYS_BOOT_STAT 0 4 < 3) then w
  else
    let w := { w.stopPllSys with pwr.xtmFail := true, pwr.lullEntry := false }
    let w := [9, 8, 7, 6, 5, 4, 2].foldl (fun w d => w.pdOff d) w
    ((w.raise E.PWR_XTM_FAIL).seqFault).health

/-! ## Resets and the supply of PD1 to PD9 (R114 to R117, R766 to R768) -/

/-- A record whose write the reset may have cut off: written in part without its commit word, or not begun (R782). -/
def recTear (w : W) : W :=
  if w.rdB R.REC_STAT 0 || w.rdB R.REC_STAT 3 || w.pwr.held then w
  else match w.recd.queue with
    | { cap := some { seq := some q, .. }, .. } :: _ =>
      let (w, x) := w.fresh 1
      if x = 0 then w
      else match w.recd.queue with
        | it :: _ =>
          let c := it.cap.getD default
          let eddy := (decide (it.trigger < 64) && bit ((w.recd.trig.getD it.trigger {}).cfg) 1)
            || decide (w.recd.calm ≤ w.rdN R.REC_CALM_NEXT)
          if eddy = true ∧ w.recd.eddy = 0 then w
          else
            let slot := if eddy then w.recd.calm + w.rdN R.REC_EDDY_NEXT else w.rdN R.REC_CALM_NEXT
            let b := recordBytes it c q eddy
            w.tear (w.slotAt slot) b.length (b.take 28)
        | [] => w
    | _ => w

/-- What a reset cuts off in MRAM: a checkpoint, a billing-store write, a bank write, a record (R115). -/
def cutOff (w : W) : W :=
  let w := match w.pwr.ckptImg with
    | some (a, img) => w.tear (w.ckptBase a) (img.length - 4) (img.take 64)
    | none => w
  let w := match w.qty.store with
    | some j => w.tear (w.storeBase j.sector) 1476
    | none => w
  let w := match w.key.bank with
    | some b => w.tear (w.bankBase b.bank) 1188
    | none => w
  w.recTear

/-- A reset of PD1 to PD9 by a cause; the partition directory is put in force (R174). -/
def resetBy (cause : Nat) (w : W) : W := ((w.cutOff).resetAll cause).partReload

/-- External, watchdog and software resets: no effect while the domains are held in reset already. -/
def resetLive (cause : Nat) (w : W) : W := if w.pwr.held then w else w.resetBy cause

/-- VIN below V_BOR: PD1 to PD9 are held in reset (R116). -/
def brownOut (w : W) : W :=
  if w.pwr.held then w else { w.resetBy 1 with pwr.held := true, pwr.below1V := false }

/-- VIN below 1.0 V: PD1 loses its registers, and the next rise is a power-on reset (R116). -/
def vinBelow1 (w : W) : W :=
  if w.pwr.held then { w.resetBy 0 with pwr.held := true, pwr.below1V := true } else w

/-- VIN rises through V_POR after a brown-out without having been below 1.0 V (R116). -/
def brownOutEnd (w : W) : W :=
  if w.pwr.held && !w.pwr.below1V && !w.inOff then { w with pwr.held := false } else w

/-- VIN rises through V_POR at its first application, or after having been below 1.0 V; in Off it is a wake (R116,
R768). -/
def powerOn (w : W) : W :=
  if w.inOff then { w.offWake 4 with pwr.below1V := false }
  else if w.pwr.held && w.pwr.below1V then { w.resetBy 0 with pwr.below1V := false }
  else w

/-- The last step of the Off entry (R110, R157, R766): PWR_ON is driven low, and PD1 to PD9 are in reset until a wake. -/
def offEntry (w : W) : W :=
  if w.entryReady 3 && w.recd.queue.isEmpty then
    let w := (w.wcntFlush.wrB R.BKP_STAT 1 true).wr R.BKP_WAKE_CAUSE 0
    { w.resetBy 0 with pwr.held := true }
  else w

/-- WAKE_N low (R108, R767). -/
def wakeN (w : W) : W := if w.inOff then w.offWake 1 else if w.pwr.held || w.pwr.xtmFail then w else w.wake

/-- The brown-out latch sets (R747). -/
def backupLost (w : W) : W :=
  let src := w.rdB R.BKP_STAT 0
  let w := (w.resetRegs 0x5000 0x7000).resetRegs 0x3E000 0x3F000
  let w := (List.range 32).foldl (fun w i => let (w, x) := w.fresh 32; w.wrN (R.BKP_GPR i) x) w
  let w := (List.range 512).foldl (fun w i => let (w, x) := w.fresh 32; w.wrN (R.BKP_USER i) x) w
  let w := (List.range 16).foldl (fun w i =>
    let (w, a) := w.fresh 32
    let (w, b) := w.fresh 32
    { w with tmp.log := w.tmp.log.setIfInBounds i (BitVec.ofNat 32 a, BitVec.ofNat 32 b) }) w
  let w := { w with tmp := { log := w.tmp.log }, rtc := { vselLow := true } }
  (w.wrB R.BKP_STAT 0 src).loseEpoch

/-- The selected supply of PD0 first rises (R745): the latch stands, PWR_ON is released, the RTC starts. -/
def backupUp (w : W) : W :=
  if w.pwr.held || w.rtc.vselLow then { w.backupLost with rtc := { vselLow := false } }.xt32Restart else w

end Sys2Proof.Machine.W
end

