-- ==== Sys2Proof/Machine/Write.lean ====
section
/-!
DEFINITION. Writes of registers (R13, R22, R50 to R76, R849): the checks and effects that each block has for its page,
the common header (R54 to R70), block soft reset (R60 to R62), and the write of one word by the host or by the HKE
(R73, R854).
-/
namespace Sys2Proof.Machine

/-- The lower words of the register pairs that are written (R52): RTC.SET_S and QTY.PRESET_VAL. -/
def isPairW (off : Nat) : Bool := off == R.RTC_SET_S || off == R.QTY_PRESET_VAL

/-- Pages whose CTRL.SRST is refused (R62): SYS, PWR, RTC, BKP, NVM, SAF, KEY, TMP, RED. -/
def noSrst (p : Nat) : Bool := [0x00, 0x01, 0x05, 0x06, 0x08, 0x3C, 0x3D, 0x3E, 0x3F].contains p

/-- The bits of EVT_EN and EVT_PEND that belong to local events of the page. -/
def evtBits (p : Nat) : Word :=
  (List.range 32).foldl (fun b i => if (globalEvent p i).isSome then b ||| BitVec.ofNat 32 (2 ^ i) else b) 0

namespace W

/-! ## The blocks' own checks and effects -/

/-- The code with which a block refuses a write of `v` to one of its registers. -/
def blockCheck (w : W) (m : Memory) (off : Nat) (v : Word) (x : Ext) : Nat :=
  let p := off / 0x1000
  let o := off % 0x1000
  if off = R.SYS_RST_CTRL then (if v = 0xC3A5#32 then 0 else eRange)
  else if p = 0x01 then w.pwrCheck o v
  else if p = 0x02 then w.ageCheck o v
  else if p = 0x04 then w.hifCheck o v
  else if p = 0x05 then w.rtcCheck o v
  else if p = 0x06 then w.bkpCheck o v
  else if p = 0x07 then w.recCheck o v
  else if p = 0x0A then w.scanCheck m o v
  else if 0x0B ≤ p ∧ p ≤ 0x0E then w.taskCheck m (p - 0x0B) o v
  else if p = 0x0F then w.frcCheck o v
  else if p = 0x10 then w.mtrCheck o v
  else if p = 0x11 then w.afeCheck o v
  else if p = 0x12 then w.plsCheck o v
  else if p = 0x13 then w.qtyCheck o v
  else if p = 0x14 then w.hrmCheck o v
  else if p = 0x15 then w.slvCheck m o v
  else if p = 0x17 then w.qpCheck o v
  else if 0x1A ≤ p ∧ p ≤ 0x29 then w.canCheck (p - 0x1A) o v
  else if 0x2B ≤ p ∧ p ≤ 0x3A then
    if o = 0x0C0 then
      (if bit v 0 && w.axState (p - 0x2B) == axFAULT && w.axCause (p - 0x2B) x.isa x.isb x.diag then eState else 0)
    else w.axWriteCode (p - 0x2B) o v
  else if p = 0x3B then w.drvWriteCode o v
  else if p = 0x3D then w.keyCheck o v
  else if p = 0x3E then w.tmpCheck o v
  else if p = 0x3F then w.redCheck o v
  else if p = 0x40 then w.lnkCheck m o v
  else 0

/-- A write to EVTLAT: `v` are the bits that it clears; the message of every vector that is still asserted is sent again
(R83). -/
def evtlatClear (w : W) (k : Nat) (v : Word) : W :=
  let w := w.wr (R.EVT_EVTLAT k) (w.rd (R.EVT_EVTLAT k) &&& ~~~v)
  (List.range 32).foldl (fun w i => if w.vecAsserted i then w.msixSend i else w) w

/-- A write to a mask or select register of the EVT page (R87). -/
def evtMask (w : W) (off : Nat) (v : Word) : W := msixEdges w (w.wr off v)

/-- A write to a writable register whose effect is a store (R13, R15). -/
def storeWord (w : W) (off : Nat) (v : Word) : W :=
  match regDef off with
  | none => w
  | some d =>
    let k := BitVec.ofNat 32 d.wmask
    match d.acc with
    | .rw | .rwl => w.wr off ((v &&& k) ||| (w.rd off &&& ~~~k))
    | .w1c => w.wr off (w.rd off &&& ~~~(v &&& k))
    | .ro | .wo => w

/-- The effect of an accepted write. -/
def blockWrite (w : W) (m : Memory) (off : Nat) (v : Word) (x : Ext) : W :=
  let p := off / 0x1000
  let o := off % 0x1000
  let own : Option W :=
    if off = R.SYS_RST_CTRL then some (w.resetLive 4)
    else if p = 0x01 then w.pwrWrite m o v
    else if p = 0x02 then w.ageWrite o v x.canary x.steps
    else if p = 0x03 then
      (if 0x700 ≤ o ∧ o < 0x720 then some (w.evtlatClear ((o - 0x700) / 4) v)
       else match regDef off with | some d => some (w.evtMask off (v &&& BitVec.ofNat 32 d.wmask)) | none => none)
    else if p = 0x04 then w.hifWrite m o v
    else if p = 0x05 then w.rtcWrite o v
    else if p = 0x06 then w.bkpWrite o v
    else if p = 0x07 then w.recWrite o v
    else if p = 0x08 then w.nvmWrite o v
    else if p = 0x0A then w.scanWrite m o v
    else if 0x0B ≤ p ∧ p ≤ 0x0E then w.taskWrite m (p - 0x0B) o v x.edge x.sub
    else if p = 0x0F then w.frcWrite o v
    else if p = 0x10 then w.mtrWrite o v
    else if p = 0x11 then w.afeWrite o v
    else if p = 0x13 then w.qtyWrite o v
    else if p = 0x14 then w.hrmWrite o v
    else if p = 0x15 then w.slvWrite m o v
    else if 0x1A ≤ p ∧ p ≤ 0x29 then w.canWrite (p - 0x1A) o v
    else if 0x2B ≤ p ∧ p ≤ 0x3A then
      if o = 0x0C0 then
        some (if bit v 0 && w.axState (p - 0x2B) == axFAULT then w.axClear (p - 0x2B) else w)
      else w.axWrite (p - 0x2B) o v
    else if p = 0x3D then w.keyWrite m o v
    else if p = 0x3E then w.tmpWrite o v
    else if p = 0x3F then w.redWrite o v
    else if p = 0x40 then w.lnkWrite m o v
    else if p = 0x41 then w.gpioWrite o v
    else none
  own.getD (w.storeWord off v)

/-- What a refusal by the block itself does besides the record in ERR (R93, R200, R467). -/
def blockRefused (w : W) (m : Memory) (off code : Nat) (v : Word) : W :=
  if off / 0x1000 = 0x11 then w.afeRefused (off % 0x1000)
  else if off = R.REC_TRIG ∧ code = eFull then (w.recTrig (fld v 0 6) 2).1
  else if off = R.SCAN_OLC_CTRL then w.olcRefused m code v
  else w

/-! ## Block soft reset (R60, R61, R565, R610) -/

/-- The registers of a page at 0x040 and above at their reset values. -/
def resetPage (w : W) (p : Nat) : W := w.resetRegs (0x1000 * p + 0x040) (0x1000 * (p + 1))

/-- The block's registers at 0x040 and above and its internal state return to their reset values; what is in flight is
abandoned. What is not the block's own (the link's state, the recorded bank, the event latches of the engines, the
partition directory and the log in MRAM) stays; the DONE_MAP bits of the jobs that the reset abandons are set (R332). -/
def blockReset (w : W) (p : Nat) : W :=
  if p = 0x02 then
    { w.resetPage p with age := { log := w.age.log, dir := w.age.dir, part := w.age.part, partBad := w.age.partBad,
                                  wcnt := w.age.wcnt, ueWords := w.age.ueWords } }
  else if p = 0x04 then
    let st := w.rd R.HIF_LINK_STAT
    let w0 := w
    let w := ((w.dmaAbandon).resetPage p).wr R.HIF_LINK_STAT st
    msixReleased w0 { w with hif := { w.hif with qsBuf := [], qsErr := false, peWakeLow := false } }
  else if p = 0x07 then { w.resetPage p with recd := {} }
  else if p = 0x0A then
    let b := w.rd R.SCAN_BOOT_BANK
    let w := (w.resetPage p).wr R.SCAN_BOOT_BANK b
    { w with scan := { w.scan with stn := [], upd := [], next := none,
                                   task := w.scan.task.map fun t => { t with switchDue := false } } }
  else if 0x0B ≤ p ∧ p ≤ 0x0E then
    let n := p - 0x0B
    (((w.taskHalt n 0 0).resetPage p).setTk n {}).olcFinish.health
  else if p = 0x0F then (w.frcClear fun a => bit a 31).resetPage p
  else if p = 0x10 then
    { (w.resetPage p) with mtr := { w.mtr with lastLock := Vector.replicate 4 0, trk := Vector.replicate 4 {}, slices := [], capt := [], captSeq := 0 } }
  else if p = 0x11 then
    { (w.resetPage p) with mtr := { w.mtr with ch := Vector.replicate 24 {}, x := Vector.replicate 24 0, clip := 0,
                                               zero := Vector.replicate 3 0, rtdPos := 0, rtValid := Vector.replicate 16 0 } }
  else if p = 0x12 then
    { (w.resetPage p) with mtr := { w.mtr with counted := 0, edgeAt := Vector.replicate 64 0, levelAt := Vector.replicate 64 none } }
  else if p = 0x13 then
    { (w.resetPage p) with qty := { winPoint := w.qty.winPoint, winTsc := w.qty.winTsc, winF := w.qty.winF, winLock := w.qty.winLock, winTrk := w.qty.winTrk, winPre := w.qty.winPre,
                                    winOvl := w.qty.winOvl, winBuf := w.qty.winBuf, hrm := w.qty.hrm, intvStart := w.tscTime,
                                    th := Vector.replicate 8 { last := w.tscTime } } }
  else if p = 0x14 then
    { (w.resetPage p) with qty := { w.qty with winPoint := none, winTsc := 0, winF := 0, winLock := false, winOvl := false,
                                               winTrk := [], winPre := [], winBuf := [], hrm := none } }
  else if p = 0x15 then
    let w := (w.wr R.SLV_DONE_MAP 0).wr R.SLV_DONE_MAP_HI 0
    let w := w.slvReset
    ((w.resetPage p).wr R.SLV_DONE_MAP (w.rd R.SLV_DONE_MAP)).wr R.SLV_DONE_MAP_HI (w.rd R.SLV_DONE_MAP_HI)
  else if p = 0x17 then (w.serveStop.splitAbort 9).resetPage p
  else if 0x1A ≤ p ∧ p ≤ 0x29 then w.canSrst (p - 0x1A)
  else if p = 0x2A then { (((List.range 16).foldl (fun w n => w.axSrst n) w).drvSrst).resetPage p with mot := {} }
  else if 0x2B ≤ p ∧ p ≤ 0x3A then w.axSrst (p - 0x2B)
  else if p = 0x3B then w.drvSrst
  else if p = 0x40 then
    let w := (List.range 4).foldl (fun w i => w.linkDown i) w
    (({ w with tw := { w.tw with msgs := Vector.replicate 4 [], msgOut := none } }).resetPage p).timeSync
  else if p = 0x41 then (w.resetPage p).gpioEnable
  else if p = 0x42 then { w.resetPage p with scan := { w.scan with snap := Vector.replicate 4 {} } }
  else w.resetPage p

/-- CTRL.SRST written 1 (R58, R60): ERR is cleared, words that a pair access holds for the page and operations held for it are
dropped, and SRST reads 1 until SOFT_RESET_DONE; for the MOT page so on each AX page and on DRV (R610). With the block's domain
off there is nothing to reset but what the HIF and SLV pages keep in PD1: HIF.CFG, the arm slots and the jobs that wait for PD5
(R61, R325, R332). -/
def srst (w : W) (p : Nat) : W :=
  let w := if w.pageUp p || p == 0x04 || p == 0x15 then w.blockReset p else w
  let pages := if p = 0x2A then (List.range 18).map (0x2A + ·) else [p]
  let stays (off : Nat) : Bool := !pages.contains (off / 0x1000)
  let w := { w with evt.pairRd := w.evt.pairRd.filter fun (e : Master × Nat × Word) => stays e.2.1,
                    evt.pairWr := w.evt.pairWr.filter fun (e : Master × Nat × Word) => stays e.2.1,
                    pwr.heldOps := w.pwr.heldOps.filter fun (e : HeldOp) => stays e.off }
  pages.foldl (fun w p => (w.wr (R.H_ERR p) 0).wrB (R.H_CTRL p) 1 true) w

/-! ## The common header (R54 to R70) -/

/-- The code with which setting CTRL.EN is refused (R529, R611). -/
def enableCode (w : W) (p : Nat) : Nat :=
  if 0x1A ≤ p ∧ p ≤ 0x29 then w.canEnableCode (p - 0x1A)
  else if 0x2B ≤ p ∧ p ≤ 0x3A then w.axEnableCode (p - 0x2B)
  else 0

/-- What a change of CTRL.EN does to the block (R444, R532, R607); a PD5 page starts PD5 from off (R56, DEDUCED, log 31). -/
def enableHook (w : W) (p : Nat) (en : Bool) : W :=
  if 0x1A ≤ p ∧ p ≤ 0x29 then (if en then w else w.canDisable (p - 0x1A))
  else if 0x2B ≤ p ∧ p ≤ 0x3A then (if en then w.axEnable (p - 0x2B) else w.axDisable (p - 0x2B))
  else if p = 0x41 ∧ en = true then w.gpioEnable
  else if pageDomain p = some 5 ∧ en = true ∧ w.dom 5 = 0 then w.demand 5
  else w

/-- A write of CTRL (R56, R60, R62). -/
def ctrlWrite (w : W) (p : Nat) (v : Word) : W :=
  let was := w.rdB (R.H_CTRL p) 0
  let en := bit v 0
  let code := firstCode [(bit v 1 && noSrst p, ePerm), (en && !was && w.enableCode p != 0, w.enableCode p)]
  if code ≠ 0 then w.err p code
  else
    let w := w.wrB (R.H_CTRL p) 0 en
    let w := if en = was then w else w.enableHook p en
    if bit v 1 then w.srst p else w

/-- A write of EVT_EN (R65): enabling an event whose line is high is an occurrence. DESIGN CHOICE (log 46): a bit that belongs
to no local event of the page is held at zero, as a reserved bit is (R15). -/
def evtEnWrite (w : W) (p : Nat) (v : Word) : W :=
  let old := w.rd (R.H_EVT_EN p)
  let v := v &&& evtBits p
  let w := w.wr (R.H_EVT_EN p) v
  (List.range 32).foldl (fun w i =>
    w.raiseIf (bit v i && !bit old i && w.pageUp p && w.rdB (R.H_EVT_RAW p) i) (p, i)) w

/-- A write of EVT_SET (R67). -/
def evtSetWrite (w : W) (p : Nat) (v : Word) : W :=
  if p = 0x3C ∨ p = 0x3E then w.err p ePerm
  else (List.range 32).foldl (fun w i => w.raiseIf (bit v i) (p, i)) w

/-- The page is unlocked (R69). -/
def unlocked (w : W) (p : Nat) : Bool := w.rdB (R.H_LOCK p) 0 && w.rdF (R.H_LOCK p) 8 9 != 0

/-- A budget that has reached 0 locks the page (R69). -/
def relock (w : W) (p : Nat) : W :=
  if w.rdB (R.H_LOCK p) 0 && w.rdF (R.H_LOCK p) 8 9 == 0 then w.wr (R.H_LOCK p) 0 else w

/-- An access at an offset other than LOCK spends one of the budget (R69). -/
def spend (w : W) (p o : Nat) : W :=
  if o = 0x024 ∨ w.unlocked p = false then w else w.wrF (R.H_LOCK p) 8 9 (w.rdF (R.H_LOCK p) 8 9 - 1)

/-- The page has, or has not, seen the first key and nothing since (R68). -/
def arm (w : W) (p : Nat) (b : Bool) : W :=
  let k : BitVec 128 := BitVec.ofNat 128 (2 ^ p)
  { w with evt.lockArmed := if b then w.evt.lockArmed ||| k else w.evt.lockArmed &&& ~~~k }

/-- A host write of LOCK (R68 to R70). -/
def lockWrite (w : W) (p : Nat) (v : Word) : W :=
  let armed := w.evt.lockArmed.getLsbD p
  if v = 0x5A17#32 then (w.wr (R.H_LOCK p) 0).arm p true
  else if v = 0xA5E8#32 then (if armed then w.wrN (R.H_LOCK p) (1 + 2 ^ 8 * 256) else w).arm p false
  else (w.wr (R.H_LOCK p) 0).arm p false

/-- A write at an offset of the header. LOCK takes host writes only (R73). -/
def headerWrite (host : Bool) (w : W) (p o : Nat) (v : Word) : W :=
  if o = 0x008 then w.ctrlWrite p v
  else if o = 0x014 then w.evtEnWrite p v
  else if o = 0x018 then w.wr (R.H_EVT_PEND p) (w.rd (R.H_EVT_PEND p) &&& ~~~v)
  else if o = 0x01C then w.evtSetWrite p v
  else if o = 0x024 then (if host then w.lockWrite p v else w)
  else w

/-! ## One word (R13, R22, R52, R72, R75) -/

/-- The code with which the page refuses an access to offset 0x040 or above before the block judges it: its domain is off
(R22), the register is locked for the host (R72), the DBG registers in DEPLOYED (R499), SRST is in progress (R60). -/
def pageCode (w : W) (host : Bool) (off : Nat) (write : Bool) : Nat :=
  let p := off / 0x1000
  let rwl := match regDef off with | some d => d.acc == .rwl | none => false
  firstCode [(w.offCode off != 0, eDomainOff), (host && write && rwl && !w.unlocked p, eLocked),
    (p == 0x42 && w.key.lc == 2 && (regDef off).isSome, ePerm), (w.inSrst p, eBusy)]

/-- The lower word that a master's pair write holds; without one the register's own (R52). -/
def pairHeld (w : W) (ma : Master) (off : Nat) : Word :=
  match w.evt.pairWr.find? fun (e : Master × Nat × Word) => e.1 == ma && e.2.1 == off with
  | some e => e.2.2
  | none => w.rd off

/-- The held lower words without the master's for one pair. -/
def pairDrop (w : W) (ma : Master) (off : Nat) : W :=
  { w with evt.pairWr := w.evt.pairWr.filter fun (e : Master × Nat × Word) => !(e.1 == ma && e.2.1 == off) }

/-- The upper word of a pair arrives and both words take effect (R52, R256, R757). -/
def pairWrite (w : W) (ma : Master) (lo : Nat) (v : Word) : W × Nat :=
  let t := (w.pairHeld ma lo).toNat + 2 ^ 32 * v.toNat
  let r : W × Nat := if lo = R.RTC_SET_S then w.rtcSetS t else (w, 0)
  if r.2 ≠ 0 then r else ((r.1.wr64 lo t).pairDrop ma lo, 0)

/-- One accepted host write to an RWL register (R54, R73). -/
def countSeq (w : W) (host : Bool) (off : Nat) : W :=
  match regDef off with
  | some d => if host && d.acc == .rwl then w.inc (R.H_SEQ (off / 0x1000)) else w
  | none => w

/-- The code of a write while SRST is in progress (R60): the block's own checks come before ERR_BUSY (R75). -/
def srstCode (w : W) (m : Memory) (off : Nat) (v : Word) (x : Ext) : Nat :=
  match regDef off with
  | none => eBusy
  | some d =>
    let c := if d.acc == .ro || isPairW off || (decide (4 ≤ off) && isPairW (off - 4)) then 0 else w.blockCheck m off v x
    if c = 0 then eBusy else c

/-- A doorbell: a register whose write submits operations to a ring or an engine (R113). -/
def isDoorbell (off : Nat) : Bool :=
  let o := off % 0x1000
  let p := off / 0x1000
  off == R.SLV_RING_DB || off == R.KEY_RING_DB || (p == 0x04 && [0x108, 0x128, 0x148, 0x168].contains o)
    || (p == 0x40 && [0x054, 0x094, 0x0D4, 0x114].contains o) || (decide (0x1A ≤ p ∧ p ≤ 0x29) && (o == 0x068 || o == 0x06C))
    || (decide (0x2B ≤ p ∧ p ≤ 0x3A) && o == 0x090) || (decide (0x0B ≤ p ∧ p ≤ 0x0E) && o == 0x040)

/-- The operations that a doorbell's word submits. -/
def dbCount (off : Nat) (v : Word) : Nat :=
  if off = R.KEY_RING_DB then fld v 0 5
  else if off / 0x1000 = 0x04 then fld v 0 9
  else if off = R.SLV_RING_DB ∨ off / 0x1000 = 0x40 then fld v 0 4
  else 1

/-- The bound of a doorbell's ring and the places taken while its domain starts (R88); none for a mailbox or a task. -/
def ringRoom (w : W) (off : Nat) : Option (Nat × Nat) :=
  let p := off / 0x1000
  if off = R.KEY_RING_DB then some (16, w.key.jobs.length)
  else if p = 0x04 then some (256, 0)
  else if off = R.SLV_RING_DB then some (9, w.slvInFlight)
  else if p = 0x40 then some (8, w.tw.splitRes.getD ((off % 0x1000 - 0x40) / 64) 0)
  else if 0x2B ≤ p ∧ p ≤ 0x3A then some (4, 0)
  else none

/-- The held operations of the ring of a doorbell: each counts from its acceptance (R88, R113). -/
def heldIn (w : W) (off : Nat) : Nat :=
  ((w.pwr.heldOps.filter fun e => e.off == off).map fun e => dbCount e.off e.v).sum

/-- The code with which an operation for a starting domain is not accepted: SRST in progress (R60), the ring's bound (R88). -/
def heldCode (w : W) (off : Nat) (v : Word) : Nat :=
  firstCode [(match w.ringRoom off with | some (n, k) => decide (n < k + w.heldIn off + dbCount off v) | none => false, eFull),
    (w.inSrst (off / 0x1000), eBusy)]

/-- An operation submitted to a page whose domain is in a Gust is accepted within its ring's bound and held until the domain is
ready (R88, R113). DEDUCED (log 49): while the domain starts, only doorbells are held; any other access meets a domain that
is off (R22, R57). -/
def holdOp (w : W) (op : HeldOp) : W :=
  let c := w.heldCode op.off op.v
  if c ≠ 0 then w.err (op.off / 0x1000) c else { w with pwr.heldOps := w.pwr.heldOps ++ [op] }

/-- What the reads of memory that an accepted access starts meet (R140): the ring entries and data of a doorbell in SRAM, the
image of an on-line change past its step 1 in MRAM. Answers also the memory as those reads see it. -/
def accessMeets (w : W) (m : Memory) (off : Nat) (v : Word) (x : Ext) : W × Memory :=
  if off = R.SCAN_OLC_CTRL then
    let b := fld v 0 1
    if bit v 31 && b != w.rdF R.SCAN_BOOT_BANK 0 1 && !w.olcBusy then
      let own := fun (o : Nat) => w.inPart (1 + b) o
      (w.mramMeets (x.start.mramCe.filter own) (x.start.mramUe.filter own), m)
    else (w, m)
  else if off = R.SLV_RING_DB ∨ off = R.KEY_RING_DB ∨ (off / 0x1000 = 0x40 ∧ isDoorbell off = true) then
    w.sramMeets x.ramCe x.ramUe m
  else (w, m)

/-- A write of one word by the host, or by the HKE, which needs no unlock and leaves SEQ (R73, R854). A reserved page and
a reserved or read-only register ignore it (R13, R15, R46). -/
def wordWrite (host : Bool) (ma : Master) (x : Ext) (m : Memory) (off : Nat) (v : Word) (w : W) : W :=
  let p := off / 0x1000
  let o := off % 0x1000
  if (pageDomain p).isNone then w
  else if o < 0x040 then headerWrite host w p o v
  else
    let c := w.pageCode host off true
    if c = eDomainOff ∧ w.gusting p = true ∧ isDoorbell off = true then w.holdOp ⟨host, ma, off, v, []⟩
    else if c ≠ 0 then w.err p (if c = eBusy then w.srstCode m off v x else c)
    else
      let w := w.accessWake off
      match regDef off with
      | none => w
      | some d =>
        if d.acc == .ro then w
        else if isPairW off then
          ({ w.pairDrop ma off with evt.pairWr := (ma, off, v) :: (w.pairDrop ma off).evt.pairWr }).countSeq host off
        else if 4 ≤ off ∧ isPairW (off - 4) = true then
          let r := w.pairWrite ma (off - 4) v
          if r.2 ≠ 0 then w.err p r.2 else r.1.countSeq host off
        else
          let (w, m) := w.accessMeets m off v x
          let c := w.blockCheck m off v x
          if c ≠ 0 then (w.err p c).blockRefused m off c v
          else (w.countSeq host off).blockWrite m off v x

/-- The operations held for a domain start, in the order of their submission (R113). -/
def heldStart (x : Ext) (m : Memory) (d : Nat) (w : W) : W :=
  let mine (e : HeldOp) : Bool := pageDomain (e.off / 0x1000) == some d
  let ops := w.pwr.heldOps.filter mine
  ops.foldl (fun w e => match e.args with
      | [] => wordWrite e.host e.ma x m e.off e.v w
      | args =>
        let n := e.off / 0x1000 - 0x2B
        (w.axSubmit n (args.getD 0 0) (args.getD 1 0) (args.getD 2 0) (args.getD 3 0)).1)
    { w with pwr.heldOps := w.pwr.heldOps.filter fun e => !mine e }

/-- A write by the HKE. -/
def hkeWrite (x : Ext) (m : Memory) (off : Nat) (v : Word) (w : W) : W := wordWrite false .hke x m off v w

end W

end Sys2Proof.Machine
end

