-- ==== Sys2Proof/Machine/Boot.lean ====
section
/-!
DEFINITION. Start-up (R118 to R124), the boot and configuration image (R853, R854), boot from the host (R820, R821), the
restore of retained data (R134, R465) and the completion of a Gust (R111, R466, R650, R730).
-/
namespace Sys2Proof.Machine

/-! ## The boot and configuration image (R853) -/

/-- A valid image: its records, (TARGET, VALUE), and the subsystem IDs. -/
structure BootImg where
  recs : List (Nat × Word)
  ssvid : Nat
  ssid : Nat

/-- A TARGET is permitted (R853). -/
def targetOk (t : Nat) : Bool :=
  let o := t % 2 ^ 28
  o % 4 == 0 && ((t / 2 ^ 28 == 0 && decide (o < 0x80000) && (pageDomain (o / 0x1000)).isSome)
    || (t / 2 ^ 28 == 2 && decide (o < systemEnd)))

/-- The records of an image of NREC records. -/
def bootRecords (d : List Byte) : List (Nat × Word) :=
  (List.range (tb d 12 4)).map fun k => (tb d (64 + 8 * k) 4, BitVec.ofNat 32 (tb d (68 + 8 * k) 4))

/-- The image breaks R853 in some way other than its length limits and its CRC. -/
def bootBad (d : List Byte) : Bool :=
  tb d 0 4 != 0xB0C7 || tb d 4 1 != 1 || tb d 5 3 != 0 || tb d 8 4 != 68 + 8 * tb d 12 4 || tb d 20 44 != 0
    || (bootRecords d).any fun e => !targetOk e.1

/-- The code of an image of `len` bytes (R820, R853). -/
def bootCode (len : Nat) (d : List Byte) : Nat :=
  firstCode [(decide (516096 < len ∨ len < 68) || tb d 8 4 != len, eLen), (bootBad d, eRange),
    (tb d (len - 4) 4 != crc32c (d.take (len - 4)), eCrc)]

/-- An image that has passed its checks. -/
def bootImg (d : List Byte) : BootImg := ⟨bootRecords d, tb d 16 2, tb d 18 2⟩

/-- The domain under which a record is applied: a register that lies in PD1 belongs to PD1 (R325, R823). -/
def targetDomain (t : Nat) : Nat :=
  let o := t % 2 ^ 28
  if t / 2 ^ 28 = 2 then (if o < solverEnd then 5 else 4)
  else if inPd1 o then 1 else (pageDomain (o / 0x1000)).getD 1

namespace W

/-- The image in PART0 of the MRAM, if it is valid. -/
def bootRead (w : W) (m : Memory) : Option BootImg :=
  let len := w.mramN m (w.partBase 0 + 8) 4
  if 516096 < len then none
  else
    let d := w.mram m (w.partBase 0) len
    if bootCode len d = 0 then some (bootImg d) else none

/-- The read of the image in PART0 meets the uncorrectable words that stand in it (R156). -/
def bootTouch (m : Memory) (w : W) : W :=
  let len := w.mramN m (w.partBase 0 + 8) 4
  w.mramTouch (w.partBase 0) (if 516096 < len then 64 else max 64 len)

/-- One record applied (R854): a register write of the HKE, or 4 bytes of solver or system SRAM; with the memory's domain off the
write is ignored and ERR_DOMAIN_OFF recorded in HIF.ERR, as for a host write (R22). Records for the FRC page are skipped
(R455). -/
def recordApply (x : Ext) (m : Memory) (w : W) (r : Nat × Word) : W :=
  let o := r.1 % 2 ^ 28
  if r.1 / 2 ^ 28 = 2 then (if w.domUp (targetDomain r.1) then w.put o 4 r.2.toNat else w.err 0x04 eDomainOff)
  else if o / 0x1000 = 0x0F then w
  else w.hkeWrite x m o r.2

/-- The kept records of a domain applied in image order. -/
def domainRecords (x : Ext) (m : Memory) (d : Nat) (w : W) : W :=
  (w.pwr.bootRecs.filter fun (r : Nat × Word) => targetDomain r.1 == d).foldl (recordApply x m) w

/-! ## Restore of retained data (R134, R465) -/

/-- The checkpoint in an area, if it is valid: sequence number, signatures, data. -/
def ckptValid (w : W) (m : Memory) (a : Nat) : Option (Nat × List Nat × List Byte) :=
  let h := w.mram m (w.ckptBase a) 64
  let len := tb h 20 4
  if tb h 0 4 ≠ 0xC7B1 ∨ 1048504 < len then none
  else
    let b := w.mram m (w.ckptBase a) (72 + len)
    if tb b (64 + len) 4 = crc32c (b.take (64 + len)) ∧ tb b (68 + len) 4 = 0x3C5AA5C3 then
      some (tb b 4 4, [tb b 24 4, tb b 28 4, tb b 32 4, tb b 36 4], (b.drop 64).take len)
    else none

/-- The reads of the areas meet the uncorrectable words that stand in them (R156). -/
def ckptTouch (m : Memory) (w : W) : W :=
  (List.range w.ckptAreas).foldl (fun w a =>
    let h := w.mram m (w.ckptBase a) 64
    let len := tb h 20 4
    w.mramTouch (w.ckptBase a) (if tb h 0 4 ≠ 0xC7B1 ∨ 1048504 < len then 64 else 72 + len)) w

/-- The newest valid area is restored into system SRAM; answers false with none. DESIGN CHOICE (log 43): with none, CKPT_SEQ is
0 and the next checkpoint goes to area 0. -/
def ckptRestore (m : Memory) (w : W) : W × Bool :=
  let cs := (List.range w.ckptAreas).filterMap fun a => (w.ckptValid m a).map fun c => (a, c)
  match newest 32 (cs.map fun e => e.2.1) with
  | none => ({ w.wr R.PWR_CKPT_SEQ 0 with pwr.ckptArea := 0 }, false)
  | some q =>
    match cs.find? fun e => e.2.1 == q with
    | none => (w, false)
    | some (a, _, sigs, d) =>
      let w := (w.wrN R.PWR_CKPT_SEQ q).wrF R.PWR_CKPT_STAT 0 2 a
      ({ w.retRestore d.length sigs d with pwr.ckptArea := (a + 1) % w.ckptAreas }, true)

/-! ## Starts of the blocks of a domain -/

/-- The safety configuration slots are judged and the newer valid one put in force (R648 to R650); with none SAFCFG_ERR
is set. -/
def safStart (m : Memory) (siA siB : BitVec 16) (w : W) : W :=
  let w := (w.mramTouch (w.partBase 5) 580).mramTouch (w.partBase 5 + 0x8000) 580
  let v := w.keyView m
  let slot (o : Nat) : List Byte := w.mram m (w.partBase 5 + o) 580
  let a := slot 0
  let b := slot 0x8000
  let has (t : List Byte) : Bool := (v.verifyKey (tb t 5 1)).isSome
  let sig (t : List Byte) : Bool := v.verifySig (tb t 5 1) (t.take 516) ((t.drop 516).take 64)
  let r := w.safLoad a b (has a) (sig a) (has b) (sig b) siA siB
  if r.2 then r.1 else r.1.wrB R.SYS_BOOT_STAT 6 true

/-- PD9 is on: LINK_STAT.UP follows the link (R799, R822). -/
def hostStart (w : W) : W :=
  let up := !w.qspiSel && w.linkUp
  let was := w.rdB R.HIF_LINK_STAT 4
  (w.wrB R.HIF_LINK_STAT 4 up).raiseIf (up && !was) E.HIF_HOST_LINK

/-- PD4 is on: the program image is loaded, then the retained data restored (R466, R470). -/
def scanStart (m : Memory) (w : W) : W × Bool :=
  ((w.imgLoad m).ckptTouch m).ckptRestore m

/-- What the blocks of a domain do when it has started, its records applied already. -/
def domainStart (m : Memory) (rngOk : Bool) (siA siB : BitVec 16) (d : Nat) (w : W) : W :=
  if d = 2 then w.qtyStart m
  else if d = 3 then w.safStart m siA siB
  else if d = 4 then (w.scanStart m).1
  else if d = 5 then ({ w with pwr.slvArray := true, pwr.pd5Kept := false, pwr.holdoff := true }).slvQueued
  else if d = 8 then w.sceStart m rngOk
  else if d = 9 then w.hostStart
  else w

/-- A demanded domain is ready (R111): from off it has its records applied first (R854); the operations held for it start
(R113). -/
def gustComplete (d : Nat) (rngOk : Bool) (siA siB : BitVec 16) (x : Ext) (m : Memory) (w : W) : W :=
  if w.pwr.held ∨ w.dom d ≠ 3 then w
  else
    let kept := d == 5 && w.pwr.pd5Kept
    let w := w.setDom d 1
    let w := if kept then w else w.domainRecords x m d
    let w := w.mramMeets x.start.mramCe x.start.mramUe
    (w.domainStart m rngOk siA siB d).heldStart x m d

/-! ## The phases (R119) -/

/-- BOOT_STAT.PHASE. -/
def setPhase (w : W) (n : Nat) : W := w.wrF R.SYS_BOOT_STAT 0 4 n

/-- A domain goes on during start-up, unless its buck has faulted. -/
def bootOn (w : W) (d : Nat) : W := if w.buckFaulted d then w else w.setDom d 1

/-- A phase of start-up after the third: XTM failing in it stops start-up there (R101, R121), and a reset by a record of the
image ends this start-up (R117, R854). -/
def phase (i : StartInfo) (n : Nat) (f : W → W) (w : W) : W :=
  if w.pwr.xtmFail || w.rdF R.SYS_BOOT_STAT 0 4 + 1 != n then w
  else
    let w := w.setPhase n
    if i.xtmFailPhase = n then w.xtmFails else f w

/-- A domain that a phase needs goes on; where it was off still, its records are applied first (R854). -/
def bootStart (x : Ext) (m : Memory) (d : Nat) (w : W) : W :=
  if w.dom d = 1 then w
  else
    let w := w.bootOn d
    if w.dom d = 1 then w.domainRecords x m d else w

/-- PD1 starts (R769, R770): pending RTC and BKP events are delivered, the backup registers' CRC is checked, BOR is raised
while the latch stands; a refused partition table sets CFG_ERR (R174). -/
def pd1Start (w : W) : W :=
  let pend := [0x05, 0x06].flatMap fun p => (those 32 fun i => w.rdB (R.H_EVT_PEND p) i).map fun i => (p, i)
  let w := pend.foldl occur w
  let w := (w.bkpCheckCrc).raiseIf (w.rdB R.BKP_FLAGS 0) E.BKP_BOR
  { w.wrB R.SYS_BOOT_STAT 5 w.age.partBad with age.partBad := false }.spareSync

/-- The image of phase 5 applied (R854), then CODE and STEP restored from the ageing log (R152). A record that writes the reset
code to RST_CTRL resets at once (R117), and nothing of this start-up follows it. -/
def phase5 (img : Option BootImg) (x : Ext) (m : Memory) (w : W) : W :=
  let w : W := match img with
    | none => { w.wrB R.SYS_BOOT_STAT 5 true with pwr.bootRecs := [], pwr.ssvid := 0, pwr.ssid := 0 }
    | some i =>
      { w with pwr.bootRecs := i.recs.filter fun (r : Nat × Word) => decide (2 ≤ targetDomain r.1), pwr.ssvid := i.ssvid, pwr.ssid := i.ssid }
  let first := match img with | none => [] | some i => i.recs.filter fun (r : Nat × Word) => decide (targetDomain r.1 < 2)
  let w := first.foldl (fun w r => if w.rdF R.SYS_BOOT_STAT 0 4 = 5 then w.recordApply x m r else w) w
  if w.rdF R.SYS_BOOT_STAT 0 4 ≠ 5 then w else
  let w := [2, 3, 4, 5, 6, 7, 8, 9].foldl (fun (w : W) (d : Nat) =>
    let mine := w.pwr.bootRecs.any fun (r : Nat × Word) => targetDomain r.1 == d
    let w := if d ≤ 3 ∨ (mine = true ∧ w.ew = false) then w.bootOn d else w
    let w := w.domainRecords x m d
    if d = 2 ∧ w.dom 2 = 1 then w.qtyStart m
    else if d = 5 ∧ w.dom 5 = 1 then w.domainStart m true 0 0 5
    else w) w
  (w.wrF R.PWR_VCORE_SET 0 5 w.age.log.code).wrF R.AGE_SLV_CLK 0 3 w.age.log.step

/-- Phase 6: the security engine (R730). -/
def phase6 (x : Ext) (m : Memory) (w : W) : W :=
  let w := w.bootStart x m 8
  if w.dom 8 = 1 then w.sceStart m x.start.rngOk else w

/-- Phase 7: the safety configuration and the self-test (R640, R650). DESIGN CHOICE (log 43): with PD3 off after a buck fault
the phase fails. -/
def phase7 (x : Ext) (m : Memory) (w : W) : W :=
  if w.dom 3 ≠ 1 then w.wrB R.SYS_BOOT_STAT 6 true
  else
    let w := w.safStart m x.start.siA x.start.siB
    if x.start.sfsOk then w else (w.wrB R.SYS_BOOT_STAT 6 true).seqFault

/-- Phase 8: the retained data (R134). DESIGN CHOICE (log 43): with PD4 off after a buck fault the tasks start cold. -/
def phase8 (x : Ext) (m : Memory) (w : W) : W :=
  let w := w.bootStart x m 4
  let r : W × Bool := if w.dom 4 = 1 then w.scanStart m else (w, false)
  r.1.wrB R.SYS_BOOT_STAT 7 (!r.2)

/-- Phase 9: host release. -/
def phase9 (x : Ext) (m : Memory) (w : W) : W :=
  let w := w.bootStart x m 9
  let w := if w.dom 9 = 1 then w.hostStart else w
  let w := ((w.wrB R.SYS_BOOT_STAT 4 true).wrB R.SYS_BOOT_STAT 8 w.zeroised).wrN R.SYS_BOOT_TIME x.start.us
  let w : W := { w with pwr.ckptRef := some w.tscTime, pwr.ckptNext := w.ckptDue w.tscTime }
  ((w.raise E.SYS_BOOT_DONE).taskAuto m x.edge x.sub).health

/-- Phases 6 to 9. -/
def phases6to9 (x : Ext) (m : Memory) (w : W) : W :=
  let i := x.start
  (((w.phase i 6 (phase6 x m)).phase i 7 (phase7 x m)).phase i 8 (phase8 x m)).phase i 9 (phase9 x m)

/-- Phase 5 with the image in MRAM, or, when BOOT_SRC selects the host, the start of PD4 and PD9 and the wait (R120). -/
def phase5Mram (x : Ext) (m : Memory) (w : W) : W :=
  if w.rdB R.SYS_STRAP 3 then
    ((w.wrB R.SYS_BOOT_STAT 9 true).bootOn 4).bootOn 9
  else ((w.bootTouch m).phase5 (w.bootRead m) x m).phases6to9 x m

/-- Start-up after a reset of PD1 to PD9 (R119). XTM failing stops it in the phase in progress (R101), and it waits in
phase 5 for a host image when BOOT_SRC selects the host (R120). -/
def startup (x : Ext) (m : Memory) (w : W) : W :=
  if w.pwr.held || w.rdF R.SYS_BOOT_STAT 0 4 != 0 then w
  else
    let i := x.start
    let w := (((w.setPhase 1).wrN R.SYS_STRAP (i.straps % 16)).pd1Start).triadSync
    let w := (w.setPhase 2).mramMeets i.mramCe i.mramUe
    let w := [1, 0, 3].foldl (fun w b => if i.buckFail.testBit b then w.regFault b else w) w
    let w := w.setPhase 3
    if i.xtmFailPhase = 3 then w.xtmFails
    else (({ w with pwr.xtmElapsed := 0 }.startPllSys).phase i 4 id).phase i 5 (phase5Mram x m)

/-! ## Boot from the host (R820, R821) -/

/-- GO written while the device waits for an image (R820, R821); `v` is the word written to BOOT_CTRL. -/
def bootCtrl (x : Ext) (m : Memory) (v : Word) (w : W) : W :=
  let len := w.rdN R.HIF_BOOT_LEN
  let d := w.bytes m solverEnd (min len 516096)
  let code := bootCode len d
  let w := w.wrF R.HIF_BOOT_CTRL 16 16 code
  if code ≠ 0 then w.err 0x04 code
  else
    let w := if bit v 1 then w.mramPut (w.partBase 0) (d.take (w.partSize 0 - 8192)) else w
    ((w.wrB R.SYS_BOOT_STAT 9 false).phase5 (some (bootImg d)) x m).phases6to9 x m

end W

end Sys2Proof.Machine
end

