-- ==== Sys2Proof/Machine/Access.lean ====
section
/-!
DEFINITION. The accesses of the host (R13, R22, R44 to R53, R68 to R72, R803 to R805): to registers through BAR0, to
solver and system SRAM through BAR2, to MRAM through BAR4. What a read returns is kept in `hif.rdata`.
-/
namespace Sys2Proof.Machine

/-- The naturally aligned units of R51 that cover `len` bytes from `off` up, as offset and length. -/
def units : (fuel : Nat) → (off len : Nat) → List (Nat × Nat)
  | 0, _, _ => []
  | k + 1, off, len =>
    if len = 0 then []
    else
      let n := if off % 8 = 0 ∧ 8 ≤ len then 8 else if off % 4 = 0 ∧ 4 ≤ len then 4
        else if off % 2 = 0 ∧ 2 ≤ len then 2 else 1
      (off, n) :: units k (off + n) (len - n)

/-- A mask or select register of the EVT page (R80, R87). -/
def isEvtMask (off : Nat) : Bool := off == R.EVT_PIN_CFG || decide (R.EVT_VEC_MASK 0 ≤ off ∧ off < R.EVT_EVTLAT 0 ∧ off % 4 = 0)

namespace W

/-- The interface that the host uses: the one that HIF_SEL selects (R792). -/
def port (w : W) : Port := if w.qspiSel then .qspi else .pcie

/-- The host reaches the device: PD9 is on, and over PCI Express the host link is up (R23, R793, R799). -/
def hostOk (w : W) : Bool := !w.pwr.held && w.dom 9 == 1 && (w.qspiSel || w.linkUp)

/-- What the host's last read returned. -/
def answer (w : W) (d : List Byte) : W := { w with hif.rdata := d }

/-! ## BAR0 -/

/-- A host write of one 32-bit word (R49, R68 to R73, R820). -/
def hostWord (x : Ext) (m : Memory) (off : Nat) (v : Word) (w : W) : W :=
  let pg := off / 0x1000
  if w.hostOk = false ∨ (pageDomain pg).isNone = true then w
  else
    let w := w.relock pg
    let w := if off % 0x1000 = 0x024 then w else w.arm pg false
    let go := off == R.HIF_BOOT_CTRL && bit v 0 && w.rdB R.SYS_BOOT_STAT 9 && w.pageCode true off true == 0
    let w := w.wordWrite true (.host w.port) x m off v
    let w := w.spend pg (off % 0x1000)
    if go then w.bootCtrl x m v else w

/-- A host write of a fixed word to a register. -/
def put32 (w : W) (m : Memory) (off v : Nat) (x : Ext := {}) : W := w.hostWord x m off (BitVec.ofNat 32 v)

/-- A host access to BAR0 of an illegal width or alignment (R50): ERR_RANGE, unless a check that comes before it applies
(R75). One longer than 8 bytes is R805's, recorded in HIF.ERR only. DESIGN CHOICE (log 46): such a long request is no
access to a page, so it neither spends a page's unlock budget nor comes between the two unlock keys (R68, R69). -/
def hostBad (w : W) (off len : Nat) (write : Bool) : W :=
  let pg := off / 0x1000
  if 8 < len then w.err 0x04 eRange
  else if (pageDomain pg).isNone then w
  else
    let w := w.relock pg
    let w := if write then w.arm pg false else w
    let c := if off % 0x1000 < 0x040 then 0 else w.pageCode true (off / 4 * 4) write
    (w.err pg (if c = 0 ∨ c = eBusy then eRange else c)).spend pg (off % 0x1000 / 4 * 4)

/-- A host write to BAR0 of `len` bytes (R49, R50, R805). -/
def hostWrite (x : Ext) (m : Memory) (off len : Nat) (v : BitVec 64) (w : W) : W :=
  if w.hostOk = false ∨ len = 0 then w
  else if len = 4 ∧ off % 4 = 0 then w.hostWord x m off (BitVec.ofNat 32 v.toNat)
  else if len = 8 ∧ off % 8 = 0 then
    (w.hostWord x m off (BitVec.ofNat 32 v.toNat)).hostWord x m (off + 4) (BitVec.ofNat 32 (v.toNat / 2 ^ 32))
  else w.hostBad off len true

/-- The word at a BAR0 offset as a host read sees it: the RTC time registers through the shadow (R756), a write-only
register as zero (R13). -/
def hostView (w : W) (off : Nat) : Word :=
  match w.rtc.shadow with
  | some s =>
    if off / 0x1000 = 0x05 ∧ isTimeReg (off % 0x1000) = true then BitVec.ofNat 32 (timeField s.sub s.epoch (off % 0x1000))
    else w.blockWord off
  | none => w.blockWord off

/-- What the code of the memory behind a register finds at a read (R564, R752): backup SRAM returns the byte as stored;
message RAM returns zero. -/
def regEcc (w : W) (off : Nat) (e : Ecc) (v : Word) : W × Word :=
  let pg := off / 0x1000
  let o := off % 0x1000
  match e with
  | .ok => (w, v)
  | .ce => (if 0x1A ≤ pg ∧ pg ≤ 0x29 ∧ 0x400 ≤ o then w.sramCorrected 1 else w, v)
  | .ue a =>
    if a / 4 ≠ off / 4 then (w, v)
    else if pg = 0x06 ∧ ((R.BKP_GPR 0 ≤ off ∧ off ≤ R.BKP_GPR 31) ∨ (R.BKP_USER 0 ≤ off ∧ off ≤ R.BKP_USER 511)) then
      let w := w.err 0x06 0x0701
      (if off ≤ R.BKP_GPR 31 then w.wrB R.BKP_FLAGS 1 true else w, v)
    else if 0x1A ≤ pg ∧ pg ≤ 0x29 ∧ 0x400 ≤ o then ((w.err pg 0x1B01).canCause (pg - 0x1A) 8, 0)
    else (w, v)

/-- A host read of one 32-bit word. -/
def hostReadWord (e : Ecc) (off : Nat) (w : W) : W × Word :=
  let pg := off / 0x1000
  let o := off % 0x1000
  if (pageDomain pg).isNone then (w, 0)
  else
    let w := w.relock pg
    let r : W × Word :=
      if o < 0x040 then
        (w.freeRead off, w.headerWord pg o)
      else
        let c := w.pageCode true off false
        if c ≠ 0 then (w.err pg c, 0)
        else
          let w := (w.accessWake off).freeRead off
          match regDef off with
          | none => (w, 0)
          | some _ =>
            let w := if pg = 0x05 ∧ isTimeReg o = true then w.freezeShadow else w
            let r := w.pairRead (.host w.port) off hostView
            let w : W := if off = R.RTC_YEAR then { r.1 with rtc.shadow := none } else r.1
            w.regEcc off e r.2
    (r.1.spend pg o, r.2)

/-- A host read of BAR0 of `len` bytes (R49, R50, R805). Three bytes are aligned where they start a register (log 46). -/
def hostRead (e : Ecc) (off len : Nat) (w : W) : W :=
  if w.hostOk = false ∨ len = 0 then w
  else if len = 8 ∧ off % 8 = 0 then
    let a := w.hostReadWord e off
    let b := a.1.hostReadWord (match e with | .ue x => .ue x | _ => .ok) (off + 4)
    b.1.answer (toLe 4 a.2.toNat ++ toLe 4 b.2.toNat)
  else if len = 4 ∧ off % 4 = 0 ∨ len = 3 ∧ off % 4 = 0 ∨ len = 2 ∧ off % 2 = 0 ∨ len = 1 then
    let r := w.hostReadWord (match e with | .ue x => .ue (x / 4 * 4) | y => y) (off / 4 * 4)
    r.1.answer (((toLe 4 r.2.toNat).drop (off % 4)).take len)
  else (w.hostBad off len false).answer (List.replicate len 0)

/-- The host writes both words of a register pair, the lower first (R52). -/
def putPair (w : W) (m : Memory) (off v : Nat) (x : Ext := {}) : W :=
  (w.put32 m off v x).put32 m (off + 4) (v / 2 ^ 32) x

/-- The host stages one motion command at CMD_PI and rings the axis with a count of 1 (R572, R574). -/
def putMotion (w : W) (m : Memory) (n op : Nat) (now : Bool) (tag a0 a1 a2 : Nat) : W :=
  if w.hostOk then
    let k := 4 * w.rdF (R.AX_CMD_PI n) 0 2
    let w := w.put32 m (R.AX_CMD_STAGE n k) (op + 16 * b2n now + 2 ^ 16 * (tag % 2 ^ 16))
    let w := w.put32 m (R.AX_CMD_STAGE n (k + 1)) a0
    let w := w.put32 m (R.AX_CMD_STAGE n (k + 2)) a1
    let w := w.put32 m (R.AX_CMD_STAGE n (k + 3)) a2
    w.put32 m (R.AX_CMD_DB n) 1
  else w

/-- A link port trains; when that completes a pairing, the units agree the pair key (R681, R689, R727). -/
def linkUpPair (j rpos rport inv : Nat) (third : Bool) (peer : Peer) (w : W) : W :=
  let w' := w.linkTrained j rpos rport inv third peer
  if w'.paired && !w.paired then w'.pairKey peer else w'

/-! ## BAR2 -/

/-- One unit of a host write to BAR2 (R22, R46). -/
def bar2Put (w : W) (off : Nat) (d : List Byte) : W :=
  if systemEnd ≤ off then w
  else if w.domUp (bar2Domain off) then (w.retWake (bar2Domain off)).putBytes off d
  else w.err 0x04 eDomainOff

/-- A host write to BAR2 in the units of R51. -/
def bar2Write (off : Nat) (d : List Byte) (w : W) : W :=
  if w.hostOk then
    (units d.length off d.length).foldl (fun w u => w.bar2Put u.1 ((d.drop (u.1 - off)).take u.2)) w
  else w

/-- One unit of a host read of BAR2 (R22, R46, R283). -/
def bar2Unit (e : Ecc) (off n : Nat) (m : Memory) (w : W) : W × List Byte :=
  if systemEnd ≤ off then (w, List.replicate n 0)
  else if !w.domUp (bar2Domain off) then (w.err 0x04 eDomainOff, List.replicate n 0)
  else sramRead off n (match e with | .ce => .ok | e => e) m (w.retWake (bar2Domain off))

/-! ## BAR4 -/

/-- A part of MRAM that no host write reaches (R266, R722, R784): the billing store, the key blob store, the recorder. -/
def mramGuarded (w : W) (off : Nat) : Bool :=
  (decide (w.partBase 0 + w.partSize 0 ≤ off + 8192) && w.inPart 0 off) || w.inPart 4 off || w.inPart 6 off

/-- One unit of a host write to BAR4 (R47, R158). -/
def bar4Put (w : W) (off : Nat) (d : List Byte) : W :=
  if mramSize ≤ off then w
  else if !w.rdB R.NVM_WR_EN 0 || w.mramGuarded off then w.err 0x08 ePerm
  else w.mramPut off d

/-- A host write to BAR4 in the units of R51. DESIGN CHOICE (log 46): a refusal is recorded for each unit (R47). -/
def bar4Write (off : Nat) (d : List Byte) (w : W) : W :=
  if w.hostOk then
    (units d.length off d.length).foldl (fun w u => w.bar4Put u.1 ((d.drop (u.1 - off)).take u.2)) w
  else w

/-- One unit of a host read of BAR4: a word that is found uncorrectable, or stands so, reads zero (R156). -/
def bar4Unit (e : Ecc) (off n : Nat) (m : Memory) (w : W) : W × List Byte :=
  if mramSize ≤ off then (w, List.replicate n 0)
  else
    let found := match e with | .ue a => a / 8 == off / 8 | _ => false
    if found || w.age.ueWords.contains (w.phys off / 8 * 8) then (w.mramLost off, List.replicate n 0)
    else (w, w.mram m off n)

/-! ## Reads of the memory windows -/

/-- A host read of BAR2 or BAR4 in the units of R51. -/
def memRead (bar : Bar) (off len : Nat) (e : Ecc) (m : Memory) (w : W) : W :=
  if !w.hostOk then w
  else
    let w := match e, bar with
      | .ce, .bar2 => w.bar2Corrected off
      | .ce, .bar4 => if off < mramSize then w.mramCorrected off else w
      | _, _ => w
    let r : W × List Byte := (units len off len).foldl (fun (acc : W × List Byte) u =>
      let r := match bar with
        | .bar2 => acc.1.bar2Unit e u.1 u.2 m
        | .bar4 => acc.1.bar4Unit e u.1 u.2 m
      (r.1, acc.2 ++ r.2)) (w, [])
    r.1.answer r.2

end W

end Sys2Proof.Machine
end

