-- ==== Sys2Proof/Machine/State.lean ====
section
/-!
DEFINITION. The state of the device: everything of `Dev`, its byte memories, and the queue of commands that wait, first
in first out; the stops; and the state right after reset.
-/
namespace Sys2Proof.Machine

/-- The state of the VD9600. -/
structure State extends Dev where
  /-- The byte memories in canonical form: solver and system SRAM at their BAR2 offsets, MRAM from `mramBase` (R20, R44). -/
  mem : Memory := []
  /-- The commands that wait, oldest first. -/
  pending : List Instr := []
  deriving DecidableEq, Repr

/-- Why the machine stops with a fault. No rule of the specification stops the whole device on a command, so there is
one reason only, which no meaning answers with. -/
inductive Fault where
  /-- Raised by no command: the type needs a constructor. Safe: nothing stops. -/
  | none
  deriving DecidableEq, Repr

/-- Why a command is refused without a next state. -/
inductive Refusal where
  /-- Raised by an arm of `exec` whose command has no meaning yet. Safe: the machine stops. -/
  | notModelled (mnemonic : String)
  deriving DecidableEq, Repr

/-- The outcome of a command. -/
abbrev Out := Host.Outcome State Fault Refusal

/-- The device right after a power-on reset: every register at its reset value, nothing listed in the memories, no
command waiting (R114, R116); PD0 as it powers up (R745). -/
def State.reset : State := {}

end Sys2Proof.Machine
end

