-- ==== Sys2Proof/Machine/Run.lean ====
section
/-!
DEFINITION. How a meaning, a function of the memories before the command and of a working record, becomes an outcome.
-/
namespace Sys2Proof.Machine

/-- The next state that a meaning makes: the device it answers, its memory writes applied, the queue untouched. -/
def commit (s : State) (w : W) : State :=
  { toDev := w.toDev, mem := applyWrites s.mem w.wq, pending := s.pending }

/-- The working record with which a command begins. -/
def begin_ (s : State) : W := { toDev := s.toDev }

/-- A command whose effect is `f` runs, the power manager evaluates, and the command completes. -/
def run (f : Memory → W → W) (s : State) : Out :=
  .next (commit s (W.settle s.mem (begin_ s) (f s.mem (begin_ s))))

end Sys2Proof.Machine
end

