-- ==== Sys2Proof/Machine/AccessCmd.lean ====
section
/-!
DEFINITION. The accesses of the host to registers and memories, the page header and the event matrix (chapter 02).
-/
namespace Sys2Proof.Machine

/-- REGISTER_WRITE: A write to a register that has no row of its own: checked for lock, domain, width and range, then stored or refused (R849). -/
def execRegisterWrite (off len : Nat) (v : BitVec 64) (x : Ext) (s : State) : Out :=
  run (fun m w => w.hostWrite x m off len v) s

/-- REGISTER_PAIR_READ: A read of the lower word of a register pair latches the upper word for the next read by the same master (R52). -/
def execRegisterPairRead (off : Nat) (e : Ecc) (s : State) : Out :=
  run (fun _ w => if isPair off then w.hostRead e off 4 else w) s

/-- REGISTER_PAIR_WRITE: A write to a register pair is held at the lower word and takes effect with the write of the upper word (R52). -/
def execRegisterPairWrite (off : Nat) (v : BitVec 64) (x : Ext) (s : State) : Out :=
  run (fun m w => if isPairW off then w.putPair m off v.toNat x else w) s

/-- HOST_BAR2_WRITE: A host write to solver or system SRAM, split into naturally aligned units and carried out in order (R51). -/
def execHostBar2Write (off : Nat) (d : List Byte) (s : State) : Out := run (fun _ w => w.bar2Write off d) s

/-- HOST_BAR4_WRITE: A host write to MRAM, ignored with ERR_PERM when NVM.WR_EN is 0 or the target is a protected partition (R47). -/
def execHostBar4Write (off : Nat) (d : List Byte) (s : State) : Out := run (fun _ w => w.bar4Write off d) s

/-- HOST_MEM_READ: A host read of BAR2 or BAR4 that returns memory content, zero for reserved or off areas (R51). -/
def execHostMemRead (bar : Bar) (off len : Nat) (e : Ecc) (s : State) : Out :=
  run (fun m w => w.memRead bar off len e m) s

/-- BLOCK_ENABLE: A write of 1 to CTRL.EN enables the block and makes it a user of its domain, starting the domain if needed (R56). -/
def execBlockEnable (pg : Fin 128) (x : Ext) (s : State) : Out := run (fun m w => w.put32 m (R.H_CTRL pg) 1 x) s

/-- BLOCK_DISABLE: A write of 0 to CTRL.EN disables the block and withdraws it as a user of its domain (R56). -/
def execBlockDisable (pg : Fin 128) (x : Ext) (s : State) : Out := run (fun m w => w.put32 m (R.H_CTRL pg) 0 x) s

/-- SOFT_RESET: A write of 1 to CTRL.SRST starts the block soft reset and abandons every operation in flight (R60). -/
def execSoftReset (pg : Fin 128) (en : Bool) (x : Ext) (s : State) : Out :=
  run (fun m w => w.put32 m (R.H_CTRL pg) (2 + b2n en) x) s

/-- SOFT_RESET_DONE: The block soft reset completes and SRST reads 0 again (R60). -/
def execSoftResetDone (pg : Fin 128) (s : State) : Out := run (fun _ w => w.live fun w => w.wrB (R.H_CTRL pg) 1 false) s

/-- EVT_EN_WRITE: A write to EVT_EN that enables a local event whose raw line is high causes one occurrence (R65). -/
def execEvtEnWrite (pg : Fin 128) (v : Word) (s : State) : Out := run (fun m w => w.put32 m (R.H_EVT_EN pg) v.toNat) s

/-- EVT_PEND_CLEAR: A W1C write clears local pending bits unless an occurrence arrives in the same clock (R66). -/
def execEvtPendClear (pg : Fin 128) (v arriving : Word) (s : State) : Out :=
  run (fun m w => w.put32 m (R.H_EVT_PEND pg) (v &&& ~~~arriving).toNat) s

/-- EVT_SET: A write to EVT_SET injects one occurrence of an enabled local event, refused on SAF and TMP pages (R67). -/
def execEvtSet (pg : Fin 128) (v : Word) (s : State) : Out := run (fun m w => w.put32 m (R.H_EVT_SET pg) v.toNat) s

/-- EVTLAT_CLEAR: A W1C write to EVTLAT clears bits and resends the message of every vector still asserted (R83). -/
def execEvtlatClear (k : Fin 8) (v arriving : Word) (s : State) : Out :=
  run (fun m w => w.put32 m (R.EVT_EVTLAT k) (v &&& ~~~arriving).toNat) s

/-- EVT_MASK_WRITE: A write to a mask or select register of the EVT page affects later occurrences and asserts at once for already latched events (R87). -/
def execEvtMaskWrite (off : Nat) (v : Word) (s : State) : Out :=
  run (fun m w => if isEvtMask off then w.put32 m off v.toNat else w) s

/-- LOCK_KEY_FIRST: A write of 0x0000_5A17 to LOCK locks the page and begins an unlock sequence (R70). -/
def execLockKeyFirst (pg : Fin 128) (s : State) : Out := run (fun m w => w.put32 m (R.H_LOCK pg) 0x5A17) s

/-- LOCK_KEY_SECOND: A write of 0x0000_A5E8 to LOCK after the first key unlocks the page with a budget of 256 accesses (R68). -/
def execLockKeySecond (pg : Fin 128) (s : State) : Out := run (fun m w => w.put32 m (R.H_LOCK pg) 0xA5E8) s

/-- LOCK_OTHER_WRITE: Any other write to LOCK locks the page at once (R70). -/
def execLockOtherWrite (pg : Fin 128) (v : Word) (s : State) : Out :=
  run (fun m w => if v = 0x5A17 ∨ v = 0xA5E8 then w else w.put32 m (R.H_LOCK pg) v.toNat) s

/-- UNLOCK_BUDGET_EXPIRY: The unlock budget REMAIN reaches 0 and the page locks (R69). -/
def execUnlockBudgetExpiry (pg : Fin 128) (s : State) : Out := run (fun _ w => w.relock pg) s

/-- REGISTER_READ: A host read of a BAR0 register that spends one access of the unlock budget and can record ERR_DOMAIN_OFF, ERR_BUSY during SRST, ERR_RANGE or an ECC code in the page's ERR (R69). -/
def execRegisterRead (off len : Nat) (e : Ecc) (s : State) : Out := run (fun _ w => w.hostRead e off len) s

end Sys2Proof.Machine
end

