-- ==== Sys2Proof/Machine/AgeingCmd.lean ====
section
/-!
DEFINITION. The commands of the ageing monitors and the MRAM (chapter 04).
-/
namespace Sys2Proof.Machine

/-- RO_SAMPLE: Hourly ring-oscillator pair measurement updates the degradation of each site (R142). -/
def execRoSample (site : Fin 8) (nStressed nReference : Nat) (s : State) : Out :=
  run (fun _ w => w.live (W.roSample site.val nStressed nReference)) s

/-- XTAL_MEASURE: Hourly measurement of XTM against XT32 updates AGE.XTAL (R144). -/
def execXtalMeasure (dev : Int) (s : State) : Out := run (fun _ w => w.live (W.xtalMeasure dev)) s

/-- PLANNER_RUN_SCHEDULED: At RUN_TIME each calendar day the margin planner runs its steps (R145). -/
def execPlannerRunScheduled (c : Canary) (steps : Fin 7) (bySet : Bool) (s : State) : Out :=
  run (fun _ w => w.live (W.plannerScheduled c steps.val bySet)) s

/-- PLANNER_RUN_TSC: While RTC time is invalid the planner runs every 86,400 s of TSC time (R146). -/
def execPlannerRunTsc (c : Canary) (steps : Fin 7) (s : State) : Out :=
  run (fun _ w => w.live (W.plannerTsc c steps.val)) s

/-- REMAP_COMPLETE: A sector remap commits its new table and redirects accesses to the spare (R154). -/
def execRemapComplete (ces ues : List Nat) (s : State) : Out := run (fun m w => w.live (W.remapComplete ces ues m)) s

/-- WCNT_FLUSH: Hourly the sector write counters are flushed to the ageing log (R157). -/
def execWcntFlush (s : State) : Out := run (fun _ w => w.live W.wcntFlush) s

/-- SRAM_SCRUB_PASS: The SRAM scrub interval expires and a scrub pass rewrites corrected words (R162). -/
def execSramScrubPass (ces ues : List Nat) (s : State) : Out := run (fun _ w => w.live (W.sramScrub ces ues)) s

/-- MRAM_SCRUB_PASS: The MRAM scrub interval expires and a scrub pass rewrites corrected words (R162). -/
def execMramScrubPass (ces ues : List Nat) (s : State) : Out := run (fun _ w => w.live (W.mramScrub ces ues)) s

/-- SELF_TEST: The self-test interval expires and the solver array and scan engines are self-tested when idle (R163). -/
def execSelfTest (s : State) : Out := run (fun _ w => w) s

/-- BUCK_CURRENT_LIMIT: A buck enters a current-limit episode that is counted in AGE.REG_HEALTH, and HEALTH is raised at 16 episodes in a day (R140). -/
def execBuckCurrentLimit (b : Fin 4) (s : State) : Out := run (fun _ w => w.live (W.buckEpisode b.val)) s

end Sys2Proof.Machine
end

