-- ==== Sys2Proof/Machine/Breeze.lean ====
section
/-!
DEFINITION. The instructions of Breeze code (chapter 11): registers and flags, integer and binary64 operations, loads and
stores, control flow and traps. A command names the engine and the instruction; it takes effect when that engine is in
phase 2 and the code word at its program counter is that instruction (log 70).
-/
namespace Sys2Proof.Machine

/-! ## Registers and flags (R478 to R482) -/

namespace Eng

/-- A working register; W0 reads as zero. -/
def rd (g : Eng) (i : Nat) : Nat := if i = 0 then 0 else (g.w.getD i 0).toNat

/-- A working register written; a write to W0 is discarded. -/
def wr (g : Eng) (i v : Nat) : Eng := if i = 0 then g else { g with w := g.w.setIfInBounds i (BitVec.ofNat 64 v) }

/-- Z, N, C, V and U take the five bits of `f`; Q, P and E stay (R481). -/
def zncvu (g : Eng) (f : Nat) : Eng := { g with flags := BitVec.ofNat 8 (g.flags.toNat / 32 * 32 + f % 32) }

/-- A result and its five flags. -/
def put (g : Eng) (d : Nat) (r : Nat × Nat) : Eng := (g.wr d r.1).zncvu r.2

/-- One flag. -/
def flag (g : Eng) (i : Nat) : Bool := g.flags.toNat.testBit i
def setFlag (g : Eng) (i : Nat) (b : Bool) : Eng :=
  { g with flags := if b then g.flags ||| BitVec.ofNat 8 (2 ^ i) else g.flags &&& ~~~BitVec.ofNat 8 (2 ^ i) }

/-- A condition holds (R482). -/
def cond (g : Eng) (c : Nat) : Bool :=
  let z := g.flag 0
  let nv := g.flag 1 != g.flag 3
  let u := g.flag 4
  match c with
  | 0 => true
  | 1 => z && !u
  | 2 => !z || u
  | 3 => nv && !u
  | 4 => !nv && !u
  | 5 => (z || nv) && !u
  | 6 => !z && !nv && !u
  | 7 => g.flag 2
  | 8 => !g.flag 2
  | 9 => u
  | 10 => g.flag 5
  | 11 => !g.flag 5
  | 12 => g.flag 6
  | 13 => g.flag 7
  | 14 => g.flag 3
  | _ => false

end Eng

/-! ## Integer operations (R491, R492): a result and the flags Z N C V U as bits 0 to 4 -/

/-- The signed value of a 64-bit pattern, and a pattern of an integer. -/
def s64 (x : Nat) : Int := sgn 64 x
def u64 (x : Int) : Nat := uns 64 x

/-- Z and N of a result. -/
def znOf (r : Nat) : Nat := b2n (r == 0) + 2 * b2n (decide (2 ^ 63 ≤ r))

/-- A result with Z and N, and with V as well. -/
def znRes (r : Nat) : Nat × Nat := (r % 2 ^ 64, znOf (r % 2 ^ 64))
def znvRes (r : Nat) (v : Bool) : Nat × Nat := (r % 2 ^ 64, znOf (r % 2 ^ 64) + 8 * b2n v)

def iAdd (a b : Nat) : Nat × Nat :=
  let r := (a + b) % 2 ^ 64
  (r, znOf r + 4 * b2n (decide (2 ^ 64 ≤ a + b)) + 8 * b2n (decide (s64 a + s64 b ≠ s64 r)))
def iSub (a b : Nat) : Nat × Nat :=
  let r := u64 ((a : Int) - b)
  (r, znOf r + 4 * b2n (decide (a < b)) + 8 * b2n (decide (s64 a - s64 b ≠ s64 r)))
def iMul (a b : Nat) : Nat × Nat :=
  let r := u64 (s64 a * s64 b)
  znvRes r (decide (s64 r ≠ s64 a * s64 b))
def iMulh (a b : Nat) : Nat × Nat := znRes (u64 (s64 a * s64 b / 2 ^ 64))
/-- V of MADD tells whether the product fits (R492). -/
def iMadd (a b x : Nat) : Nat × Nat :=
  znvRes (u64 (s64 a * s64 b + s64 x)) (decide (s64 (u64 (s64 a * s64 b)) ≠ s64 a * s64 b))
def iDiv (a b : Nat) : Nat × Nat :=
  if b = 0 then znvRes 0 true
  else znvRes (u64 ((s64 a).tdiv (s64 b))) (decide (s64 a = -2 ^ 63 ∧ s64 b = -1))
def iDivu (a b : Nat) : Nat × Nat := if b = 0 then znvRes 0 true else znvRes (a / b) false
def iRem (a b : Nat) : Nat × Nat :=
  if b = 0 then znvRes 0 true
  else znvRes (u64 ((s64 a).tmod (s64 b))) (decide (s64 a = -2 ^ 63 ∧ s64 b = -1))
def iShl (a b : Nat) : Nat × Nat := znRes (a * 2 ^ (b % 64))
def iShr (a b : Nat) : Nat × Nat := znRes (a / 2 ^ (b % 64))
def iSar (a b : Nat) : Nat × Nat := znRes (u64 (s64 a / 2 ^ (b % 64)))
def iMin (a b : Nat) : Nat × Nat := znRes (if s64 b < s64 a then b else a)
def iMax (a b : Nat) : Nat × Nat := znRes (if s64 a < s64 b then b else a)
def iAbs (a : Nat) : Nat × Nat := znvRes (u64 ((s64 a).natAbs : Int)) (decide (s64 a = -2 ^ 63))
def iNeg (a : Nat) : Nat × Nat := znvRes (u64 (-s64 a)) (decide (s64 a = -2 ^ 63))

/-- An imm12 sign-extended, as a pattern. -/
def sImm (i : Nat) : Nat := u64 (sgn 12 i)

/-- The fields of EXTU, EXTS and DEP (R491): lsb = imm12[5:0], width = imm12[11:6] + 1. -/
def iExtu (a imm : Nat) : Nat × Nat := znRes (a / 2 ^ (imm % 64) % 2 ^ (imm / 64 + 1))
def iExts (a imm : Nat) : Nat × Nat := znRes (u64 (sgn (imm / 64 + 1) (a / 2 ^ (imm % 64))))
def iDep (d a imm : Nat) : Nat × Nat :=
  let lsb := imm % 64
  let wid := imm / 64 + 1
  znRes (d - (d / 2 ^ lsb % 2 ^ wid) * 2 ^ lsb + (a % 2 ^ wid) * 2 ^ lsb)

/-! ## Binary64 operations (R480, R493, R857) -/

/-- A binary64 result with its flags, where operands `xs` came in. -/
def fRes (r : Nat) (xs : List Nat) : Nat × Nat :=
  (r, b2n (fisZero b64 r) + 2 * b2n (F64.lt r 0) + 8 * b2n (!F64.isFin r && !F64.isNan r)
    + 16 * b2n (F64.isNan r || xs.any F64.isNan))

/-- FMIN and FMAX: of two NaN operands one passes (R493). -/
def fMinMax (f : Nat → Nat → Nat) (a b : Nat) : Nat × Nat :=
  fRes (if F64.isNan a && F64.isNan b then (if Config.nanSecond a b then b else a) else f a b) [a, b]

/-- A binary32 pattern widened; a NaN keeps its payload (R493). -/
def widen (v : Nat) : Nat :=
  if fisNan b32 v then v / 2 ^ 31 % 2 * 2 ^ 63 + b64.infBits + v % 2 ^ 23 * 2 ^ 29 else F64.of32 v

def fCmp (a b : Nat) : Nat := b2n (F64.eq a b) + 2 * b2n (F64.lt a b) + 16 * b2n (F64.isNan a || F64.isNan b)

/-- FTOI and FTOIT saturate, and give 0 for NaN (R493). -/
def fToI (round : Nat → Option Int) (a : Nat) : Nat × Nat :=
  if F64.isNan a then (0, 1 + 8 + 16)
  else
    let x : Int := match round a with
      | some x => x
      | none => if b64.signBit ≤ a then -2 ^ 63 - 1 else 2 ^ 63
    let r := u64 (clampI (-2 ^ 63) (2 ^ 63 - 1) x)
    znvRes r (decide (x < -2 ^ 63 ∨ 2 ^ 63 - 1 < x))

/-- FCLAMP (R857): the result, Q and P. -/
def fClamp (a b x : Nat) : Nat × Bool × Bool :=
  if F64.isNan a then (a, false, false)
  else
    let lo := if F64.isNan b then b64.infBits + b64.signBit else b
    let hi := if F64.isNan x then b64.infBits else x
    (fminNum b64 (fmaxNum b64 a lo) hi, F64.lt hi a, F64.lt a lo)

namespace W

/-! ## Fetch, step and traps (R484, R491, R496, R497) -/

def eng (w : W) (n : Nat) : Eng := w.scan.eng.getD n {}
def setEng (w : W) (n : Nat) (g : Eng) : W := { w with scan.eng := w.scan.eng.setIfInBounds n g }

/-- The code word that engine n executes next, in phase 2. -/
def fetch (w : W) (n : Nat) : Option Word :=
  if w.dom 4 = 1 ∧ w.tstate n = 2 ∧ (w.tk n).phase = 2 then
    match (w.tk n).ent with
    | some e => e.code[(w.eng n).pc / 4]?
    | none => none
  else none

/-- The instruction `v` of engine n: nothing happens unless it is the one to execute. -/
def bz (w : W) (n : Nat) (v : Word) (f : W → W) : W := if w.fetch n = some v then f w else w

/-- The program counter moves to a byte offset; beyond the last word the engine traps with RUNOFF (R496). -/
def jump (w : W) (n pc : Nat) : W :=
  let w := w.setEng n { w.eng n with pc := pc }
  match (w.tk n).ent with
  | some e => if 4 * e.code.length ≤ pc then w.trap n 5 0 pc else w
  | none => w

/-- The next instruction in sequence. -/
def next (w : W) (n : Nat) : W := w.jump n ((w.eng n).pc + 4)

/-- A trap at the present instruction. -/
def trapHere (w : W) (n code sp : Nat) : W := w.trap n code sp (w.eng n).pc

/-- Task n is the leader of an active lockstep pair (R471). -/
def pairActive (w : W) (n : Nat) : Bool := w.lockstep n && n % 2 == 0

/-- A comparison mismatch of task n's pair (R473). -/
def lsFault (w : W) (n : Nat) : W := ((w.snapshot n 3).raise E.SCAN_LS_MISMATCH).taskHalt n 3 3

/-- A register write or SYS request of an active pair is compared (R471, R473); whether it differs, which only a fault of one of
the engines can bring about, is free (log 27). -/
def compared (w : W) (n : Nat) (f : W → W) : W :=
  if !w.pairActive n then f w
  else
    let c := w.freeCtr
    let w := { w with freeCtr := c + 1 }
    if Config.lsDiffers c then w.lsFault n else f w

/-- A register instruction. -/
def bzOp (w : W) (n : Nat) (v : Word) (f : Eng → Eng) : W :=
  w.bz n v fun w => w.compared n fun w => (w.setEng n (f (w.eng n))).next n

/-! ## Data spaces (R485 to R490) -/

/-- Bytes of a data space. -/
def spRead (w : W) (m : Memory) (n sp off len : Nat) : Nat := w.get m (w.spBase n sp + off) len

/-- Bytes written to a data space; a write to RET marks its lines dirty (R489). -/
def spWrite (w : W) (n sp off : Nat) (d : List Byte) : W :=
  let w := w.putBytes (w.spBase n sp + off) d
  if sp = 2 ∧ d ≠ [] then
    let ls := (List.range ((off + d.length - 1) / 64 - off / 64 + 1)).map fun i => off / 64 + i
    w.modTk n fun t => { t with dirty := ls.foldl (fun (l : List Nat) x => if l.contains x then l else l ++ [x]) t.dirty }
  else w

/-- Every word of IMG_OUT that the bytes cover is marked in the task's write map (R488). -/
def mapped (w : W) (n off len : Nat) : Bool :=
  let wm := ((w.tk n).ent.map (·.wmap)).getD []
  (List.range ((off + max len 1 - 1) / 4 - off / 4 + 1)).all fun i => wmapMarked wm (off / 4 + i)

/-- The trap of an access of `s` bytes at `ea` (R487): BOUNDS, ALIGN, 0 none. -/
def accessTrap (w : W) (n sp ea s : Nat) : Nat :=
  if w.spSize n sp < ea + s then 1 else if ea % s ≠ 0 then 2 else 0

/-- The byte address of an operand (R485), and the bit address (R486). -/
def effAddr (w : W) (n base off s : Nat) : Nat := ((w.eng n).rd base + off * s) % 2 ^ 64

/-- A mismatch of the lockstep pair of task n (R473): with no pair active there is nothing to compare. -/
def lsMismatch (w : W) (n : Nat) (ev : MemEv) : Bool := ev == .mismatch && w.pairActive n

/-- An access checked and carried out (R459, R473, R487): `t` is its trap, `a` its byte address in a space. -/
def access (w : W) (n sp a t : Nat) (ev : MemEv) (f : W → W) : W :=
  if w.lsMismatch n ev then w.lsFault n
  else if t ≠ 0 then w.trapHere n t sp
  else match ev with
    | .ue => (w.sramLost (w.spBase n sp + a)).taskHalt n 3 5
    | .ce => (f (w.sramCorrected 1)).next n
    | _ => (f w).next n

/-- Bytes of a load or store type (R491): 0 and 1 one byte, up to 6 eight, 7 binary32. -/
def typeSize (ty : Nat) : Nat := [1, 1, 2, 2, 4, 4, 8, 4].getD ty 1

/-- LD (R485, R487, R491). -/
def load (n sp ty d base off : Nat) (ev : MemEv) (m : Memory) (w : W) : W :=
  w.bz n (encI (0x40 + 8 * sp + ty) d base off) fun w =>
    let s := typeSize ty
    let ea := w.effAddr n base off s
    w.access n sp ea (w.accessTrap n sp ea s) ev fun w =>
      let v := w.spRead m n sp ea s
      let v := if ty = 1 ∨ ty = 3 ∨ ty = 5 then u64 (sgn (8 * s) v) else if ty = 7 then widen v else v
      w.setEng n ((w.eng n).wr d v)

/-- LDX (R486, R491). -/
def loadBit (n sp d base off : Nat) (ev : MemEv) (m : Memory) (w : W) : W :=
  w.bz n (encI (0x68 + sp) d base off) fun w =>
    let ba := w.effAddr n base off 1
    w.access n sp (ba / 8) (w.accessTrap n sp (ba / 8) 1) ev fun w =>
      let b := (w.spRead m n sp (ba / 8) 1).testBit (ba % 8)
      w.setEng n (((w.eng n).wr d (b2n b)).setFlag 5 b)

/-- ST (R485 to R489, R491) into space `sp`, 1 to 3. -/
def store (n sp ty d base off : Nat) (ev : MemEv) (m : Memory) (w : W) : W :=
  w.bz n (encI (0x70 + 8 * (sp - 1) + ty) d base off) fun w =>
    let s := typeSize ty
    let ba := w.effAddr n base off 1
    let ea := if ty = 1 then ba / 8 else w.effAddr n base off s
    let v := (w.eng n).rd d
    let t := w.accessTrap n sp ea s
    let t := if t = 0 ∧ sp = 1 ∧ w.mapped n ea s = false then 3 else t
    w.access n sp ea t ev fun w =>
      let old := w.spRead m n sp ea 1
      let bytes : List Byte :=
        if ty = 1 then toLe 1 (old - 2 ^ (ba % 8) * b2n (old.testBit (ba % 8)) + 2 ^ (ba % 8) * (v % 2))
        else if ty = 7 then toLe 4 (F64.to32 v)
        else toLe s v
      w.spWrite n sp ea bytes

/-! ## Control flow (R482, R491, R495, R496) -/

/-- The byte offset of a branch with off20 at the present instruction; load-time checks keep it in the code (R484). -/
def target (w : W) (n off : Nat) : Nat := (((w.eng n).pc : Int) + 4 + 4 * sgn 20 off).toNat

def branch (n c off : Nat) (w : W) : W :=
  w.bz n (encJ 0x88 c off) fun w => if (w.eng n).cond c then w.jump n (w.target n off) else w.next n

def call (n off : Nat) (w : W) : W :=
  w.bz n (encJ 0x89 0 off) fun w =>
    let g := w.eng n
    if 16 ≤ g.stk.length then w.trapHere n 4 0
    else (w.setEng n { g with stk := g.stk ++ [g.pc + 4] }).jump n (w.target n off)

def ret (n : Nat) (w : W) : W :=
  w.bz n (encA 0x02 0 0 0 0) fun w =>
    let g := w.eng n
    match g.stk.getLast? with
    | none => w.trapHere n 4 0
    | some pc => (w.setEng n { g with stk := g.stk.dropLast }).jump n pc

/-- CEND (R426, R496): phase 2 ends; `d3` and `d4` are the durations of phases 3 and 4 in TSC counts, `current` what the
standby reports, `c1` and `c2` the Triad copies that have arrived. -/
def cend (n d3 d4 : Nat) (current : Bool) (c1 c2 : Option (List Byte)) (m : Memory) (w : W) : W :=
  w.bz n (encA 0x01 0 0 0 0) fun w => w.logicEnd m n d3 d4 current c1 c2

end W

end Sys2Proof.Machine
end

