-- ==== Sys2Proof/Machine/FuncBlock.lean ====
section
/-!
DEFINITION. The function blocks of Breeze code (R501 to R507): timers, counters, edge triggers, PID and LIM, each over an
instance in LOC or RET.
-/
namespace Sys2Proof.Machine

/-! ## Timers (R503) -/

/-- The state of a timer instance. -/
structure Timer where
  start : Nat
  q : Bool
  prev : Bool
  run : Bool
  exp : Bool
  deriving DecidableEq, Repr

/-- Elapsed time in µs at cycle stamp `cs`. -/
def Timer.elapsed (t : Timer) (cs : Nat) : Nat := (cs + 2 ^ 64 - t.start) % 2 ^ 64 / 100

def tonStep (t : Timer) (inp : Bool) (pt cs : Nat) : Timer × Nat :=
  let r : Timer × Nat :=
    if !inp then ({ t with q := false, run := false }, 0)
    else
      let t := if t.run then t else { t with start := cs, run := true }
      let et := min pt (t.elapsed cs)
      ({ t with q := decide (pt ≤ et) }, et)
  ({ r.1 with prev := inp }, r.2)

def tofStep (t : Timer) (inp : Bool) (pt cs : Nat) : Timer × Nat :=
  let r : Timer × Nat :=
    if inp then ({ t with q := true, run := false, exp := false }, 0)
    else if t.q then
      let t := if t.run then t else { t with start := cs, run := true }
      let et := min pt (t.elapsed cs)
      (if pt ≤ et then { t with q := false, run := false, exp := true } else t, et)
    else (t, if t.exp then pt else 0)
  ({ r.1 with prev := inp }, r.2)

def tpStep (t : Timer) (inp : Bool) (pt cs : Nat) : Timer × Nat :=
  let t := if !t.q && inp && !t.prev then { t with start := cs, q := true, exp := false } else t
  let r : Timer × Nat :=
    if t.q then
      let et := min pt (t.elapsed cs)
      (if pt ≤ et then { t with q := false, exp := true } else t, et)
    else if inp && t.exp then (t, pt)
    else ({ t with exp := false }, 0)
  ({ r.1 with prev := inp }, r.2)

/-! ## Counters (R504): the new CV, STATE bits and flags from CV, PV, STATE and the input bits -/

def countUp (cv : Int) : Int := if cv = 2 ^ 63 - 1 then cv else cv + 1
def countDown (cv : Int) : Int := if cv = -2 ^ 63 then cv else cv - 1

def ctuStep (cv pv : Int) (st inp : Nat) : Int × Nat × List (Nat × Bool) :=
  let cv := if inp.testBit 1 then 0 else if inp.testBit 0 && !st.testBit 2 then countUp cv else cv
  let q := decide (pv ≤ cv)
  (cv, b2n q + 2 * b2n (st.testBit 1) + 4 * b2n (inp.testBit 0) + 8 * b2n (st.testBit 3), [(5, q)])

def ctdStep (cv pv : Int) (st inp : Nat) : Int × Nat × List (Nat × Bool) :=
  let cv := if inp.testBit 1 then pv else if inp.testBit 0 && !st.testBit 3 then countDown cv else cv
  let q := decide (cv ≤ 0)
  (cv, b2n q + 2 * b2n (st.testBit 1) + 4 * b2n (st.testBit 2) + 8 * b2n (inp.testBit 0), [(5, q)])

def ctudStep (cv pv : Int) (st inp : Nat) : Int × Nat × List (Nat × Bool) :=
  let up := inp.testBit 0 && !st.testBit 2
  let dn := inp.testBit 1 && !st.testBit 3
  let cv := if inp.testBit 2 then 0
    else if inp.testBit 3 then pv
    else if up && dn then cv else if up then countUp cv else if dn then countDown cv else cv
  let qu := decide (pv ≤ cv)
  let qd := decide (cv ≤ 0)
  (cv, b2n qu + 2 * b2n qd + 4 * b2n (inp.testBit 0) + 8 * b2n (inp.testBit 1), [(5, qu), (6, qd)])

/-! ## PID and LIM (R506, R507) on binary64 patterns -/

/-- Seconds of a difference of cycle stamps. -/
def stampDt (cs tlast : Nat) : Nat :=
  if tlast = 0 then 0 else F64.mul (F64.ofNat ((cs + 2 ^ 64 - tlast) % 2 ^ 64)) (F64.ofRat 1 100000000)

/-- The parameters of a PID instance: KP, TI, TD, TF, YMIN, YMAX, YMAN, MODE. -/
structure PidPar where
  kp : Nat
  ti : Nat
  td : Nat
  tf : Nat
  ymin : Nat
  ymax : Nat
  yman : Nat
  mode : Nat
  deriving DecidableEq, Repr

/-- The states of a PID instance: I, D, Y, XD. -/
structure PidSt where
  i : Nat
  d : Nat
  y : Nat
  xd : Nat
  deriving DecidableEq, Repr

/-- The code of R506: the new states, Q, P and U. -/
def pidStep (k : PidPar) (s : PidSt) (dt pv sp : Nat) : PidSt × Bool × Bool × Bool :=
  let pos (x : Nat) : Bool := F64.lt 0 x
  let neg (x : Nat) : Bool := F64.lt x 0
  if !F64.isFin pv || !F64.isFin sp || neg k.ti || neg k.td || neg k.tf || F64.lt k.ymax k.ymin then (s, false, false, true)
  else
    let rev := k.mode.testBit 2
    let e := F64.sub sp pv
    let e := if rev then F64.neg e else e
    let xd := if k.mode.testBit 1 then (if rev then pv else F64.neg pv) else e
    let pterm := F64.mul k.kp e
    let d := if fisZero b64 k.td then 0
      else if pos dt then
        F64.div (F64.add (F64.mul k.tf s.d) (F64.mul (F64.mul k.kp k.td) (F64.sub xd s.xd))) (F64.add k.tf dt)
      else s.d
    if k.mode.testBit 0 then
      let y := F64.min (F64.max k.yman k.ymin) k.ymax
      ({ i := F64.sub (F64.sub y pterm) d, d := d, y := y, xd := xd }, F64.lt k.ymax k.yman, F64.lt k.yman k.ymin, false)
    else
      let i := if pos k.ti && !k.mode.testBit 3 then
          F64.add s.i (F64.mul (F64.div (F64.mul k.kp dt) k.ti) e) else s.i
      let y := F64.add (F64.add pterm i) d
      if F64.lt k.ymax y then
        let i := if pos k.ti then F64.sub i (F64.sub y k.ymax) else i
        ({ i := i, d := d, y := k.ymax, xd := xd }, true, false, false)
      else if F64.lt y k.ymin then
        let i := if pos k.ti then F64.add i (F64.sub k.ymin y) else i
        ({ i := i, d := d, y := k.ymin, xd := xd }, false, true, false)
      else ({ i := i, d := d, y := y, xd := xd }, false, false, false)

/-- The code of R507: the new Y, Q, P and U; `first` where TLAST was 0. -/
def limStep (ymin ymax rup rdn y dt x : Nat) (first : Bool) : Nat × Bool × Bool × Bool :=
  if !F64.isFin x || F64.lt ymax ymin || F64.lt rup 0 || F64.lt rdn 0 then (y, false, false, true)
  else
    let t := F64.min (F64.max x ymin) ymax
    let up := F64.add y (F64.mul rup dt)
    let dn := F64.sub y (F64.mul rdn dt)
    let r : Nat × Bool × Bool :=
      if first then (t, F64.lt ymax x, F64.lt x ymin)
      else if F64.lt 0 rup && F64.lt up t then (up, true, F64.lt x ymin)
      else if F64.lt 0 rdn && F64.lt t dn then (dn, F64.lt ymax x, true)
      else (t, F64.lt ymax x, F64.lt x ymin)
    (F64.min (F64.max r.1 ymin) ymax, r.2.1, r.2.2, false)

namespace W

/-- A function block of engine n (R501, R502): its even opcode, the instance size, and what it does with the space and
base of its instance, its input and its parameter: the value for d and the flags Q, P, U it sets. Its opcode names LOC or
RET, so it never addresses IMG_OUT and SPACE (R497) is a code that no instruction of R491 can trap with. -/
def fb (n op : Nat) (inRet : Bool) (d a b x size : Nat) (ev : MemEv) (w : W)
    (f : W → (sp base inp par : Nat) → W × Nat × List (Nat × Bool)) : W :=
  w.bz n (encA (op + b2n inRet) d a b x) fun w =>
    let g := w.eng n
    let sp := if inRet then 2 else 3
    let base := g.rd a
    let t := if w.spSize n sp < base + size then 1 else if base % 8 ≠ 0 then 2 else 0
    w.access n sp base t ev fun w =>
      let (w, out, fl) := f w sp base (g.rd b) (g.rd x)
      w.setEng n (fl.foldl (fun (g : Eng) e => g.setFlag e.1 e.2) ((w.eng n).wr d out))

/-- CSTAMP of task n (R437, R503). -/
def stamp (w : W) (n : Nat) : Nat := (w.tk n).cstamp

/-- Bits of a byte of an instance; its other bits stay (R502). -/
def fbByte (w : W) (m : Memory) (n sp at_ k v : Nat) : W :=
  w.spWrite n sp at_ (toLe 1 (w.spRead m n sp at_ 1 / 2 ^ k * 2 ^ k + v % 2 ^ k))

/-- TON, TOF and TP (R503). -/
def fbTimer (n op : Nat) (step : Timer → Bool → Nat → Nat → Timer × Nat) (inRet : Bool) (d a b x : Nat) (ev : MemEv) (m : Memory) (w : W) :
    W :=
  fb n op inRet d a b x 16 ev w fun w sp base inp par =>
    let st := w.spRead m n sp (base + 8) 1
    let t : Timer := ⟨w.spRead m n sp base 8, st.testBit 0, st.testBit 1, st.testBit 2, st.testBit 3⟩
    let (t', et) := step t (inp != 0) par (w.stamp n)
    let w := if t'.start = t.start then w else w.spWrite n sp base (toLe 8 t'.start)
    (w.fbByte m n sp (base + 8) 4 (b2n t'.q + 2 * b2n t'.prev + 4 * b2n t'.run + 8 * b2n t'.exp), et, [(5, t'.q)])

/-- CTU, CTD and CTUD (R504): the step answers CV, the STATE bits and the flags. -/
def fbCounter (n op : Nat) (step : (cv pv : Int) → (st inp : Nat) → Int × Nat × List (Nat × Bool))
    (inRet : Bool) (d a b x : Nat) (ev : MemEv) (m : Memory) (w : W) : W :=
  fb n op inRet d a b x 16 ev w fun w sp base inp par =>
    let st := w.spRead m n sp (base + 8) 1
    let (cv, bits, fl) := step (s64 (w.spRead m n sp base 8)) (s64 par) st inp
    ((w.spWrite n sp base (toLe 8 (u64 cv))).fbByte m n sp (base + 8) 4 bits, u64 cv, fl)

/-- R_TRIG and F_TRIG (R505). -/
def fbTrig (n op : Nat) (rising inRet : Bool) (d a b x : Nat) (ev : MemEv) (m : Memory) (w : W) : W :=
  fb n op inRet d a b x 8 ev w fun w sp base inp _ =>
    let mem := (w.spRead m n sp base 1).testBit 0
    let clk := (inp != 0) == rising
    let q := clk && !mem
    (w.fbByte m n sp base 1 (b2n clk), b2n q, [(5, q)])

/-- PID (R506). -/
def fbPid (n : Nat) (inRet : Bool) (d a b x : Nat) (ev : MemEv) (m : Memory) (w : W) : W :=
  fb n 0xB0 inRet d a b x 104 ev w fun w sp base inp par =>
    let r (o : Nat) : Nat := w.spRead m n sp (base + o) 8
    let k : PidPar := ⟨r 0, r 8, r 16, r 24, r 32, r 40, r 48, w.spRead m n sp (base + 56) 4⟩
    let s : PidSt := ⟨r 64, r 72, r 80, r 88⟩
    let (s', q, p, u) := pidStep k s (stampDt (w.stamp n) (r 96)) inp par
    let w := w.spWrite n sp (base + 96) (toLe 8 (w.stamp n))
    let w := if u then w
      else w.spWrite n sp (base + 64) (toLe 8 s'.i ++ toLe 8 s'.d ++ toLe 8 s'.y ++ toLe 8 s'.xd)
    (w, s'.y, [(5, q), (6, p), (4, u)])

/-- LIM (R507). -/
def fbLim (n : Nat) (inRet : Bool) (d a b x : Nat) (ev : MemEv) (m : Memory) (w : W) : W :=
  fb n 0xB2 inRet d a b x 48 ev w fun w sp base inp _ =>
    let r (o : Nat) : Nat := w.spRead m n sp (base + o) 8
    let (y, q, p, u) := limStep (r 0) (r 8) (r 16) (r 24) (r 32) (stampDt (w.stamp n) (r 40)) inp (r 40 == 0)
    let w := w.spWrite n sp (base + 40) (toLe 8 (w.stamp n))
    let w := if u then w else w.spWrite n sp (base + 32) (toLe 8 y)
    (w, y, [(5, q), (6, p), (4, u)])

end W

end Sys2Proof.Machine
end

