-- ==== Sys2Proof/Machine/BlockCmd.lean ====
section
/-!
DEFINITION. the function blocks of Breeze code (R501): each acts when engine e is in phase 2 and the word at its program counter is this instruction; `r` selects the odd opcode, an instance in RET
-/
namespace Sys2Proof.Machine

/-- TON: Function block TON executes an on-delay timer (R503). -/
def execFbTon (e : Fin 4) (r : Bool) (d a b x : Fin 64) (ev : MemEv) (s : State) : Out :=
  run (fun m w => w.fbTimer e 0xA0 tonStep r d a b x ev m) s

/-- TOF: Function block TOF executes an off-delay timer (R503). -/
def execFbTof (e : Fin 4) (r : Bool) (d a b x : Fin 64) (ev : MemEv) (s : State) : Out :=
  run (fun m w => w.fbTimer e 0xA2 tofStep r d a b x ev m) s

/-- TP: Function block TP executes a pulse timer (R503). -/
def execFbTp (e : Fin 4) (r : Bool) (d a b x : Fin 64) (ev : MemEv) (s : State) : Out :=
  run (fun m w => w.fbTimer e 0xA4 tpStep r d a b x ev m) s

/-- CTU: Function block CTU executes an up counter (R504). -/
def execFbCtu (e : Fin 4) (r : Bool) (d a b x : Fin 64) (ev : MemEv) (s : State) : Out :=
  run (fun m w => w.fbCounter e 0xA6 ctuStep r d a b x ev m) s

/-- CTD: Function block CTD executes a down counter (R504). -/
def execFbCtd (e : Fin 4) (r : Bool) (d a b x : Fin 64) (ev : MemEv) (s : State) : Out :=
  run (fun m w => w.fbCounter e 0xA8 ctdStep r d a b x ev m) s

/-- CTUD: Function block CTUD executes an up-down counter (R504). -/
def execFbCtud (e : Fin 4) (r : Bool) (d a b x : Fin 64) (ev : MemEv) (s : State) : Out :=
  run (fun m w => w.fbCounter e 0xAA ctudStep r d a b x ev m) s

/-- R_TRIG: Function block R_TRIG detects a rising edge (R505). -/
def execFbRTrig (e : Fin 4) (r : Bool) (d a b x : Fin 64) (ev : MemEv) (s : State) : Out :=
  run (fun m w => w.fbTrig e 0xAC true r d a b x ev m) s

/-- F_TRIG: Function block F_TRIG detects a falling edge (R505). -/
def execFbFTrig (e : Fin 4) (r : Bool) (d a b x : Fin 64) (ev : MemEv) (s : State) : Out :=
  run (fun m w => w.fbTrig e 0xAE false r d a b x ev m) s

/-- PID: Function block PID computes a controller output (R506). -/
def execFbPid (e : Fin 4) (r : Bool) (d a b x : Fin 64) (ev : MemEv) (s : State) : Out := run (fun m w => w.fbPid e r d a b x ev m) s

/-- LIM: Function block LIM limits amplitude and rate (R507). -/
def execFbLim (e : Fin 4) (r : Bool) (d a b x : Fin 64) (ev : MemEv) (s : State) : Out := run (fun m w => w.fbLim e r d a b x ev m) s

end Sys2Proof.Machine
end

