-- ==== Sys2Proof/Machine/BreezeCmd.lean ====
section
/-!
DEFINITION. the instructions of Breeze code (R491): each acts when engine e is in phase 2 and the word at its program counter is this instruction
-/
namespace Sys2Proof.Machine

/-- NOP: Breeze instruction NOP does nothing (R491). -/
def execBzNop (e : Fin 4) (s : State) : Out := run (fun _ w => w.bzOp e (encA 0x00 0 0 0 0) fun g => g) s

/-- CEND: Breeze instruction CEND ends phase 2 of the cycle (R496). -/
def execBzCend (e : Fin 4) (d3 d4 : Nat) (current : Bool) (c1 c2 : Option (List Byte)) (s : State) : Out :=
  run (fun m w => w.cend e d3 d4 current c1 c2 m) s

/-- RET: Breeze instruction RET pops the return address (R495). -/
def execBzRet (e : Fin 4) (s : State) : Out := run (fun _ w => w.ret e) s

/-- MFF: Breeze instruction MFF copies the flags byte to a register (R491). -/
def execBzMff (e : Fin 4) (d : Fin 64) (s : State) : Out :=
  run (fun _ w => w.bzOp e (encA 0x03 d 0 0 0) fun g => g.wr d g.flags.toNat) s

/-- MTF: Breeze instruction MTF sets the flags byte from a register (R491). -/
def execBzMtf (e : Fin 4) (a : Fin 64) (s : State) : Out :=
  run (fun _ w => w.bzOp e (encA 0x04 0 a 0 0) fun g => { g with flags := BitVec.ofNat 8 (g.rd a) }) s

/-- SEL: Breeze instruction SEL selects one of two registers by a condition (R491). -/
def execBzSel (e : Fin 4) (d a b : Fin 64) (c : Fin 15) (s : State) : Out :=
  run (fun _ w => w.bzOp e (encA 0x05 d a b c) fun g => g.wr d (if g.cond c then g.rd a else g.rd b)) s

/-- SETC: Breeze instruction SETC writes 1 or 0 by a condition (R491). -/
def execBzSetc (e : Fin 4) (d : Fin 64) (c : Fin 15) (s : State) : Out :=
  run (fun _ w => w.bzOp e (encA 0x06 d 0 0 c) fun g => g.wr d (b2n (g.cond c))) s

/-- ADD: Breeze instruction ADD adds two registers (R491). -/
def execBzAdd (e : Fin 4) (d a b : Fin 64) (s : State) : Out :=
  run (fun _ w => w.bzOp e (encA 0x08 d a b 0) fun g => g.put d (iAdd (g.rd a) (g.rd b))) s

/-- SUB: Breeze instruction SUB subtracts two registers (R491). -/
def execBzSub (e : Fin 4) (d a b : Fin 64) (s : State) : Out :=
  run (fun _ w => w.bzOp e (encA 0x09 d a b 0) fun g => g.put d (iSub (g.rd a) (g.rd b))) s

/-- MUL: Breeze instruction MUL gives the low 64 bits of a product (R492). -/
def execBzMul (e : Fin 4) (d a b : Fin 64) (s : State) : Out :=
  run (fun _ w => w.bzOp e (encA 0x0A d a b 0) fun g => g.put d (iMul (g.rd a) (g.rd b))) s

/-- MULH: Breeze instruction MULH gives the high 64 bits of the signed product (R491). -/
def execBzMulh (e : Fin 4) (d a b : Fin 64) (s : State) : Out :=
  run (fun _ w => w.bzOp e (encA 0x0B d a b 0) fun g => g.put d (iMulh (g.rd a) (g.rd b))) s

/-- DIV: Breeze instruction DIV divides signed toward zero (R492). -/
def execBzDiv (e : Fin 4) (d a b : Fin 64) (s : State) : Out :=
  run (fun _ w => w.bzOp e (encA 0x0C d a b 0) fun g => g.put d (iDiv (g.rd a) (g.rd b))) s

/-- DIVU: Breeze instruction DIVU divides unsigned (R492). -/
def execBzDivu (e : Fin 4) (d a b : Fin 64) (s : State) : Out :=
  run (fun _ w => w.bzOp e (encA 0x0D d a b 0) fun g => g.put d (iDivu (g.rd a) (g.rd b))) s

/-- REM: Breeze instruction REM gives the signed remainder (R492). -/
def execBzRem (e : Fin 4) (d a b : Fin 64) (s : State) : Out :=
  run (fun _ w => w.bzOp e (encA 0x0E d a b 0) fun g => g.put d (iRem (g.rd a) (g.rd b))) s

/-- CMP: Breeze instruction CMP sets flags from a subtraction (R491). -/
def execBzCmp (e : Fin 4) (a b : Fin 64) (s : State) : Out :=
  run (fun _ w => w.bzOp e (encA 0x0F 0 a b 0) fun g => g.zncvu (iSub (g.rd a) (g.rd b)).2) s

/-- AND: Breeze instruction AND (R491). -/
def execBzAnd (e : Fin 4) (d a b : Fin 64) (s : State) : Out :=
  run (fun _ w => w.bzOp e (encA 0x10 d a b 0) fun g => g.put d (znRes (g.rd a &&& g.rd b))) s

/-- OR: Breeze instruction OR (R491). -/
def execBzOr (e : Fin 4) (d a b : Fin 64) (s : State) : Out :=
  run (fun _ w => w.bzOp e (encA 0x11 d a b 0) fun g => g.put d (znRes (g.rd a ||| g.rd b))) s

/-- XOR: Breeze instruction XOR (R491). -/
def execBzXor (e : Fin 4) (d a b : Fin 64) (s : State) : Out :=
  run (fun _ w => w.bzOp e (encA 0x12 d a b 0) fun g => g.put d (znRes (g.rd a ^^^ g.rd b))) s

/-- SHL: Breeze instruction SHL shifts left by a register (R491). -/
def execBzShl (e : Fin 4) (d a b : Fin 64) (s : State) : Out :=
  run (fun _ w => w.bzOp e (encA 0x13 d a b 0) fun g => g.put d (iShl (g.rd a) (g.rd b))) s

/-- SHR: Breeze instruction SHR shifts right logically by a register (R491). -/
def execBzShr (e : Fin 4) (d a b : Fin 64) (s : State) : Out :=
  run (fun _ w => w.bzOp e (encA 0x14 d a b 0) fun g => g.put d (iShr (g.rd a) (g.rd b))) s

/-- SAR: Breeze instruction SAR shifts right arithmetically by a register (R491). -/
def execBzSar (e : Fin 4) (d a b : Fin 64) (s : State) : Out :=
  run (fun _ w => w.bzOp e (encA 0x15 d a b 0) fun g => g.put d (iSar (g.rd a) (g.rd b))) s

/-- MIN: Breeze instruction MIN gives the signed minimum (R491). -/
def execBzMin (e : Fin 4) (d a b : Fin 64) (s : State) : Out :=
  run (fun _ w => w.bzOp e (encA 0x16 d a b 0) fun g => g.put d (iMin (g.rd a) (g.rd b))) s

/-- MAX: Breeze instruction MAX gives the signed maximum (R491). -/
def execBzMax (e : Fin 4) (d a b : Fin 64) (s : State) : Out :=
  run (fun _ w => w.bzOp e (encA 0x17 d a b 0) fun g => g.put d (iMax (g.rd a) (g.rd b))) s

/-- ABS: Breeze instruction ABS gives the absolute value (R492). -/
def execBzAbs (e : Fin 4) (d a : Fin 64) (s : State) : Out :=
  run (fun _ w => w.bzOp e (encA 0x18 d a 0 0) fun g => g.put d (iAbs (g.rd a))) s

/-- NEG: Breeze instruction NEG negates (R492). -/
def execBzNeg (e : Fin 4) (d a : Fin 64) (s : State) : Out :=
  run (fun _ w => w.bzOp e (encA 0x19 d a 0 0) fun g => g.put d (iNeg (g.rd a))) s

/-- MADD: Breeze instruction MADD multiplies and adds (R492). -/
def execBzMadd (e : Fin 4) (d a b x : Fin 64) (s : State) : Out :=
  run (fun _ w => w.bzOp e (encA 0x1A d a b x) fun g => g.put d (iMadd (g.rd a) (g.rd b) (g.rd x))) s

/-- TST: Breeze instruction TST sets flags from an AND (R491). -/
def execBzTst (e : Fin 4) (a b : Fin 64) (s : State) : Out :=
  run (fun _ w => w.bzOp e (encA 0x1B 0 a b 0) fun g => g.zncvu (znOf (g.rd a &&& g.rd b))) s

/-- MOVI: Breeze instruction MOVI loads a sign-extended immediate (R491). -/
def execBzMovi (e : Fin 4) (d : Fin 64) (imm : Fin 4096) (s : State) : Out :=
  run (fun _ w => w.bzOp e (encI 0x20 d 0 imm) fun g => g.wr d (sImm imm)) s

/-- INS: Breeze instruction INS shifts left by 12 and inserts an immediate (R491). -/
def execBzIns (e : Fin 4) (d a : Fin 64) (imm : Fin 4096) (s : State) : Out :=
  run (fun _ w => w.bzOp e (encI 0x21 d a imm) fun g => g.wr d (g.rd a * 2 ^ 12 % 2 ^ 64 ||| imm.val)) s

/-- ADDI: Breeze instruction ADDI adds an immediate (R491). -/
def execBzAddi (e : Fin 4) (d a : Fin 64) (imm : Fin 4096) (s : State) : Out :=
  run (fun _ w => w.bzOp e (encI 0x22 d a imm) fun g => g.put d (iAdd (g.rd a) (sImm imm))) s

/-- CMPI: Breeze instruction CMPI compares with an immediate (R491). -/
def execBzCmpi (e : Fin 4) (a : Fin 64) (imm : Fin 4096) (s : State) : Out :=
  run (fun _ w => w.bzOp e (encI 0x23 0 a imm) fun g => g.zncvu (iSub (g.rd a) (sImm imm)).2) s

/-- ANDI: Breeze instruction ANDI (R491). -/
def execBzAndi (e : Fin 4) (d a : Fin 64) (imm : Fin 4096) (s : State) : Out :=
  run (fun _ w => w.bzOp e (encI 0x24 d a imm) fun g => g.put d (znRes (g.rd a &&& imm.val))) s

/-- ORI: Breeze instruction ORI (R491). -/
def execBzOri (e : Fin 4) (d a : Fin 64) (imm : Fin 4096) (s : State) : Out :=
  run (fun _ w => w.bzOp e (encI 0x25 d a imm) fun g => g.put d (znRes (g.rd a ||| imm.val))) s

/-- XORI: Breeze instruction XORI (R491). -/
def execBzXori (e : Fin 4) (d a : Fin 64) (imm : Fin 4096) (s : State) : Out :=
  run (fun _ w => w.bzOp e (encI 0x26 d a imm) fun g => g.put d (znRes (g.rd a ^^^ imm.val))) s

/-- SHLI: Breeze instruction SHLI shifts left by an immediate (R491). -/
def execBzShli (e : Fin 4) (d a : Fin 64) (imm : Fin 4096) (s : State) : Out :=
  run (fun _ w => w.bzOp e (encI 0x27 d a imm) fun g => g.put d (iShl (g.rd a) imm)) s

/-- SHRI: Breeze instruction SHRI shifts right logically by an immediate (R491). -/
def execBzShri (e : Fin 4) (d a : Fin 64) (imm : Fin 4096) (s : State) : Out :=
  run (fun _ w => w.bzOp e (encI 0x28 d a imm) fun g => g.put d (iShr (g.rd a) imm)) s

/-- SARI: Breeze instruction SARI shifts right arithmetically by an immediate (R491). -/
def execBzSari (e : Fin 4) (d a : Fin 64) (imm : Fin 4096) (s : State) : Out :=
  run (fun _ w => w.bzOp e (encI 0x29 d a imm) fun g => g.put d (iSar (g.rd a) imm)) s

/-- EXTU: Breeze instruction EXTU extracts a zero-extended bit field (R491). -/
def execBzExtu (e : Fin 4) (d a : Fin 64) (imm : Fin 4096) (s : State) : Out :=
  run (fun _ w => w.bzOp e (encI 0x2A d a imm) fun g => g.put d (iExtu (g.rd a) imm)) s

/-- EXTS: Breeze instruction EXTS extracts a sign-extended bit field (R491). -/
def execBzExts (e : Fin 4) (d a : Fin 64) (imm : Fin 4096) (s : State) : Out :=
  run (fun _ w => w.bzOp e (encI 0x2B d a imm) fun g => g.put d (iExts (g.rd a) imm)) s

/-- DEP: Breeze instruction DEP deposits a bit field (R491). -/
def execBzDep (e : Fin 4) (d a : Fin 64) (imm : Fin 4096) (s : State) : Out :=
  run (fun _ w => w.bzOp e (encI 0x2C d a imm) fun g => g.put d (iDep (g.rd d) (g.rd a) imm)) s

/-- FADD: Breeze instruction FADD adds binary64 (R493). -/
def execBzFadd (e : Fin 4) (d a b : Fin 64) (s : State) : Out :=
  run (fun _ w => w.bzOp e (encA 0x30 d a b 0) fun g => g.put d (fRes (F64.add (g.rd a) (g.rd b)) [g.rd a, g.rd b])) s

/-- FSUB: Breeze instruction FSUB subtracts binary64 (R493). -/
def execBzFsub (e : Fin 4) (d a b : Fin 64) (s : State) : Out :=
  run (fun _ w => w.bzOp e (encA 0x31 d a b 0) fun g => g.put d (fRes (F64.sub (g.rd a) (g.rd b)) [g.rd a, g.rd b])) s

/-- FMUL: Breeze instruction FMUL multiplies binary64 (R493). -/
def execBzFmul (e : Fin 4) (d a b : Fin 64) (s : State) : Out :=
  run (fun _ w => w.bzOp e (encA 0x32 d a b 0) fun g => g.put d (fRes (F64.mul (g.rd a) (g.rd b)) [g.rd a, g.rd b])) s

/-- FDIV: Breeze instruction FDIV divides binary64 (R493). -/
def execBzFdiv (e : Fin 4) (d a b : Fin 64) (s : State) : Out :=
  run (fun _ w => w.bzOp e (encA 0x33 d a b 0) fun g => g.put d (fRes (F64.div (g.rd a) (g.rd b)) [g.rd a, g.rd b])) s

/-- FMA: Breeze instruction FMA is a fused multiply-add (R493). -/
def execBzFma (e : Fin 4) (d a b x : Fin 64) (s : State) : Out :=
  run (fun _ w => w.bzOp e (encA 0x34 d a b x) fun g => g.put d (fRes (F64.fma (g.rd a) (g.rd b) (g.rd x)) [g.rd a, g.rd b, g.rd x])) s

/-- FSQRT: Breeze instruction FSQRT takes the square root (R493). -/
def execBzFsqrt (e : Fin 4) (d a : Fin 64) (s : State) : Out :=
  run (fun _ w => w.bzOp e (encA 0x35 d a 0 0) fun g => g.put d (fRes (F64.sqrt (g.rd a)) [g.rd a])) s

/-- FMIN: Breeze instruction FMIN gives minimumNumber (R493). -/
def execBzFmin (e : Fin 4) (d a b : Fin 64) (s : State) : Out :=
  run (fun _ w => w.bzOp e (encA 0x36 d a b 0) fun g => g.put d (fMinMax (fminNum b64) (g.rd a) (g.rd b))) s

/-- FMAX: Breeze instruction FMAX gives maximumNumber (R493). -/
def execBzFmax (e : Fin 4) (d a b : Fin 64) (s : State) : Out :=
  run (fun _ w => w.bzOp e (encA 0x37 d a b 0) fun g => g.put d (fMinMax (fmaxNum b64) (g.rd a) (g.rd b))) s

/-- FABS: Breeze instruction FABS clears the sign bit (R493). -/
def execBzFabs (e : Fin 4) (d a : Fin 64) (s : State) : Out :=
  run (fun _ w => w.bzOp e (encA 0x38 d a 0 0) fun g => g.put d (fRes (F64.abs (g.rd a)) [g.rd a])) s

/-- FNEG: Breeze instruction FNEG inverts the sign bit (R493). -/
def execBzFneg (e : Fin 4) (d a : Fin 64) (s : State) : Out :=
  run (fun _ w => w.bzOp e (encA 0x39 d a 0 0) fun g => g.put d (fRes (F64.neg (g.rd a)) [g.rd a])) s

/-- FCMP: Breeze instruction FCMP compares binary64 values (R491). -/
def execBzFcmp (e : Fin 4) (a b : Fin 64) (s : State) : Out :=
  run (fun _ w => w.bzOp e (encA 0x3A 0 a b 0) fun g => g.zncvu (fCmp (g.rd a) (g.rd b))) s

/-- ITOF: Breeze instruction ITOF converts int64 to binary64 (R493). -/
def execBzItof (e : Fin 4) (d a : Fin 64) (s : State) : Out :=
  run (fun _ w => w.bzOp e (encA 0x3B d a 0 0) fun g => g.put d (fRes (F64.ofInt (s64 (g.rd a))) [])) s

/-- FTOI: Breeze instruction FTOI converts to int64 rounding to nearest (R493). -/
def execBzFtoi (e : Fin 4) (d a : Fin 64) (s : State) : Out :=
  run (fun _ w => w.bzOp e (encA 0x3C d a 0 0) fun g => g.put d (fToI (ftoInt b64) (g.rd a))) s

/-- FTOIT: Breeze instruction FTOIT converts to int64 toward zero (R493). -/
def execBzFtoit (e : Fin 4) (d a : Fin 64) (s : State) : Out :=
  run (fun _ w => w.bzOp e (encA 0x3D d a 0 0) fun g => g.put d (fToI (ftruncInt b64) (g.rd a))) s

/-- FCLAMP: Breeze instruction FCLAMP clamps a binary64 value between two bounds (R857). -/
def execBzFclamp (e : Fin 4) (d a b x : Fin 64) (s : State) : Out :=
  run (fun _ w => w.bzOp e (encA 0x3E d a b x) fun g => let r := fClamp (g.rd a) (g.rd b) (g.rd x); ((g.wr d r.1).setFlag 5 r.2.1).setFlag 6 r.2.2) s

/-- LD: Breeze instruction LD loads from a data space (R485). -/
def execBzLd (e : Fin 4) (sp : Fin 5) (ty : Fin 8) (d base : Fin 64) (off : Fin 4096) (ev : MemEv) (s : State) : Out :=
  run (fun m w => w.load e sp ty d base off ev m) s

/-- LDX: Breeze instruction LDX loads one bit from a data space (R486). -/
def execBzLdx (e : Fin 4) (sp : Fin 5) (d base : Fin 64) (off : Fin 4096) (ev : MemEv) (s : State) : Out :=
  run (fun m w => w.loadBit e sp d base off ev m) s

/-- ST: Breeze instruction ST stores to IMG_OUT, RET or LOC (R488). -/
def execBzSt (e : Fin 4) (sp : Fin 3) (ty : Fin 8) (d base : Fin 64) (off : Fin 4096) (ev : MemEv) (s : State) : Out :=
  run (fun m w => w.store e (sp.val + 1) ty d base off ev m) s

/-- B: Breeze instruction B branches when its condition holds (R491). -/
def execBzB (e : Fin 4) (c : Fin 15) (off : BitVec 20) (s : State) : Out := run (fun _ w => w.branch e c off.toNat) s

/-- CALL: Breeze instruction CALL pushes the return address and branches (R495). -/
def execBzCall (e : Fin 4) (off : BitVec 20) (s : State) : Out := run (fun _ w => w.call e off.toNat) s

end Sys2Proof.Machine
end

