-- ==== Sys2Proof/Machine/CanCmd.lean ====
section
/-!
DEFINITION. the sub-station bus (chapter 12)
-/
namespace Sys2Proof.Machine

/-- CAN_INTEGRATION_DONE: An enabled channel sees 11 recessive bits and joins bus traffic (R532). -/
def execCanIntegrationDone (n : Fin 16) (s : State) : Out := run (fun _ w => w.canIntegrated n.val) s

/-- CAN_DISABLE_DONE: A disabled channel reaches bus idle, aborts pending frames and drops station frames (R532). -/
def execCanDisableDone (n : Fin 16) (s : State) : Out := run (fun _ w => w.canDisableDone n.val) s

/-- CAN_ARBITRATION_START: At an arbitration start the channel offers its highest-priority pending frame, stamping any claim (R542). -/
def execCanArbitrationStart (n : Fin 16) (dly : Nat) (ues : List Nat) (s : State) : Out :=
  run (fun m w => w.canArbitrate n.val dly ues m) s

/-- CAN_FRAME_TRANSMITTED: A frame completes its end of frame without error and its mailbox becomes DONE (R546). -/
def execCanFrameTransmitted (n : Fin 16) (tdcv : Nat) (s : State) : Out :=
  run (fun _ w => w.canTransmitted n.val tdcv) s

/-- CAN_FRAME_ERROR: An error ends a frame on the bus, updating error counters and states (R556). -/
def execCanFrameError (n : Fin 16) (e : CanErr) (tdcv : Option Nat) (s : State) : Out :=
  run (fun _ w => w.canError n.val e tdcv) s

/-- ALONE: ACK_RUN reaches 16 and ALONE is set, with the action of ALONE_ACTION (R562). -/
def execAlone (n : Fin 16) (s : State) : Out := run (fun _ w => w.canAlone n.val) s

/-- CAN_FRAME_RECEIVED: A frame received without error goes to station logic or the filters and is stored (R550). -/
def execCanFrameReceived (n : Fin 16) (f : CanFrame) (sof : DWord) (s : State) : Out :=
  run (fun _ w => w.canReceived n.val f sof) s

/-- CLAIM_WAIT_EXPIRY: A claim-stamped frame without a claim for CLAIM_WAIT ms ends NO_CLAIM (R544). -/
def execClaimWaitExpiry (n : Fin 16) (slot : CanSlot) (s : State) : Out := run (fun _ w => w.claimWait n.val slot) s

/-- CAN_RECOVERY_DONE: After 128 runs of 11 recessive bits the channel is error active and pending frames return (R560). -/
def execCanRecoveryDone (n : Fin 16) (s : State) : Out := run (fun _ w => w.canRecovered n.val) s

end Sys2Proof.Machine
end

