-- ==== Sys2Proof/Machine/HostCmd.lean ====
section
/-!
DEFINITION. The commands of the PCI Express interface and its DMA channels (chapter 19).
-/
namespace Sys2Proof.Machine

/-- DMA_DESCRIPTOR_START: A channel starts its next descriptor, checks it and begins moving data (R810). -/
def execDmaDescriptorStart (c : Fin 4) (ces ues : List Nat) (s : State) : Out :=
  run (fun m w => w.dmaStart c.val ces ues m) s

/-- DMA_DONE: A descriptor finishes moving data and writes its status (R813). -/
def execDmaDone (c : Fin 4) (data : List Byte) (e : Ecc) (s : State) : Out :=
  run (fun m w => w.dmaDone c.val data e m) s

/-- DMA_HALT: A host-side failure ends a descriptor and halts the channel (R811). -/
def execDmaHalt (c : Fin 4) (poisoned : Bool) (data : List Byte) (s : State) : Out :=
  run (fun m w => w.dmaHalt c.val poisoned data m) s

/-- DMA_COMPLETION_TIMEOUT: A DMA read completion does not arrive within 50 ms and halts the channel with ERR_TIMEOUT (R811). -/
def execDmaCompletionTimeout (c : Fin 4) (data : List Byte) (s : State) : Out :=
  run (fun m w => w.dmaTimeout c.val data m) s

/-- PE_PERST_N_LOW: PE_PERST_N low resets the PCI Express controller and abandons DMA (R802). -/
def execPePerstNLow (s : State) : Out := run (fun _ w => w.perstLow) s

/-- PE_PERST_N_RISE: PE_PERST_N rising enables link training and wakes the device (R124). -/
def execPePerstNRise (s : State) : Out := run (fun _ w => w.perstRise) s

/-- PME_TURN_OFF: PME_Turn_Off acknowledged takes the host link down for L2 (R799). -/
def execPmeTurnOff (s : State) : Out := run (fun _ w => w.pmeTurnOff) s

/-- HOST_LINK: The PCI Express link or device power state changes (R822). -/
def execHostLink (speed width : Fin 4) (lstate : Fin 8) (d3 laneRev : Bool) (s : State) : Out :=
  run (fun _ w => w.hostLink speed.val width.val lstate.val d3 laneRev) s

/-- MSIX_UNBLOCK: The last blocking condition of an asserted vector ends and its message is sent once (R797). -/
def execMsixUnblock (v : Fin 32) (s : State) : Out := run (fun _ w => w.msixUnblock v.val) s

/-- CONFIG_SPACE_WRITE: A host PCI Express configuration write changes Bus Master Enable, the MSI-X Function Mask or PME_En, blocking or releasing DMA requests and vector messages (R812). -/
def execConfigSpaceWrite (bme funcMask pmeEn : Bool) (s : State) : Out :=
  run (fun _ w => w.configWrite bme funcMask pmeEn) s

end Sys2Proof.Machine
end

