-- ==== Sys2Proof/Machine/Jtag.lean ====
section
/-!
DEFINITION. The test access port and its boundary register (R842 to R845).
-/
namespace Sys2Proof.Machine

/-- The VIN digital pins in ball order (R825, R842, R843): whether a pin has an output and a control cell besides its
input cell. Rows F and G, H, J, K, L, Y, AB, AC, AD, AE, AG. -/
def scanPins : List Bool :=
  let two (a b : Bool) : List Bool := (List.replicate 16 [a, b]).flatten
  List.replicate 64 false ++ two true false
    ++ List.replicate 16 true ++ [false, false] ++ List.replicate 4 true ++ List.replicate 7 false ++ [true]
    ++ [false, false]
    ++ two true true ++ two true false ++ List.replicate 32 true ++ List.replicate 32 false
    ++ List.replicate 32 false
    ++ List.replicate 4 false ++ [true, true, false] ++ List.replicate 6 true
    ++ List.replicate 32 true ++ [false, true]

/-- Cells of the boundary register. -/
def scanLen : Nat := scanPins.foldl (fun n o => n + if o then 3 else 1) 0

/-- The bits of 0x1960_09B3, the least significant first (R842). -/
def idcodeBits : List Bool := (List.range 32).map fun i => Nat.testBit 0x196009B3 i

namespace W

/-- The port is powered. -/
def tapOn (w : W) : Bool := !w.pwr.below1V && !w.inOff

/-- The instruction that acts: in DEPLOYED all but IDCODE act as BYPASS (R845). -/
def tapActs (w : W) (op : JtagOp) : JtagOp := if w.key.lc = 2 ∧ op ≠ .idcode then .bypass else op

/-- An instruction is loaded and its data register, which captured `cap`, is scanned with the bits `tdi`: what leaves on
TDO, and what the register then holds. -/
def tapScan (cap tdi : List Bool) : List Bool × List Bool := ((cap ++ tdi).take tdi.length, (cap ++ tdi).drop tdi.length)

/-- One instruction of the port with a scan of its data register: `pins` are the levels that the boundary cells capture,
`tdi` the bits shifted in. An empty scan leaves the data register alone. -/
def tap (op : JtagOp) (pins tdi : List Bool) (w : W) : W :=
  if !w.tapOn then w
  else
    let op := w.tapActs op
    let w : W := { w with jtag.ir := op }
    if tdi = [] then { w with jtag.tdo := [] }
    else match op with
      | .idcode => { w with jtag.tdo := (tapScan idcodeBits tdi).1 }
      | .samplePreload | .extest =>
        let r := tapScan ((List.range scanLen).map fun i => pins.getD i false) tdi
        { w with jtag := { w.jtag with tdo := r.1, cells := r.2 } }
      | .bypass | .clamp | .highz => { w with jtag.tdo := (tapScan [false] tdi).1 }

end W

end Sys2Proof.Machine
end

