-- ==== Sys2Proof/Machine/JtagCmd.lean ====
section
/-!
DEFINITION. Boundary scan (chapter 20).
-/
namespace Sys2Proof.Machine

/-- JTAG_BYPASS: Boundary-scan instruction BYPASS (R842). -/
def execJtagBypass (tdi : List Bool) (s : State) : Out := run (fun _ w => w.tap .bypass [] tdi) s

/-- JTAG_SAMPLE_PRELOAD: Boundary-scan instruction SAMPLE/PRELOAD (R842). -/
def execJtagSamplePreload (pins tdi : List Bool) (s : State) : Out := run (fun _ w => w.tap .samplePreload pins tdi) s

/-- JTAG_EXTEST: Boundary-scan instruction EXTEST drives pins from the boundary register (R844). -/
def execJtagExtest (pins tdi : List Bool) (s : State) : Out := run (fun _ w => w.tap .extest pins tdi) s

/-- JTAG_IDCODE: Boundary-scan instruction IDCODE reads 0x1960_09B3 (R842). -/
def execJtagIdcode (tdi : List Bool) (s : State) : Out := run (fun _ w => w.tap .idcode [] tdi) s

/-- JTAG_CLAMP: Boundary-scan instruction CLAMP holds pins with BYPASS selected (R844). -/
def execJtagClamp (tdi : List Bool) (s : State) : Out := run (fun _ w => w.tap .clamp [] tdi) s

/-- JTAG_HIGHZ: Boundary-scan instruction HIGHZ sets outputs high-impedance (R842). -/
def execJtagHighz (tdi : List Bool) (s : State) : Out := run (fun _ w => w.tap .highz [] tdi) s

end Sys2Proof.Machine
end

