-- ==== Sys2Proof/Machine/KeyCmd.lean ====
section
/-!
DEFINITION. the security engine (chapter 16)
-/
namespace Sys2Proof.Machine

/-- KEY_JOB_START: The oldest accepted security job starts and runs its checks at job start (R717). -/
def execKeyJobStart (s : State) : Out := run (fun _ w => w.live W.keyJobStart) s

/-- KEY_JOB_COMPLETE: A security job writes its status and output and raises JOB_DONE (R717). -/
def execKeyJobComplete (s : State) : Out := run (fun _ w => w.live W.keyJobComplete) s

/-- GEN_SYM: Security operation GEN_SYM generates a symmetric key (R711). -/
def execSecGenSym (s : State) : Out := run (fun _ w => w.live (W.secRun 0x01 W.opGenSym)) s

/-- GEN_EC: Security operation GEN_EC generates an EC key pair (R711). -/
def execSecGenEc (s : State) : Out := run (fun _ w => w.live (W.secRun 0x02 W.opGenEc)) s

/-- IMPORT_PUB: Security operation IMPORT_PUB imports a checked public key (R711). -/
def execSecImportPub (s : State) : Out := run (fun _ w => w.live (W.secRun 0x03 W.opImportPub)) s

/-- WRAP: Security operation WRAP exports a key as a blob (R719). -/
def execSecWrap (s : State) : Out := run (fun _ w => w.live (W.secRun 0x04 W.opWrap)) s

/-- UNWRAP: Security operation UNWRAP loads a key from a blob (R720). -/
def execSecUnwrap (s : State) : Out := run (fun _ w => w.live (W.secRun 0x05 W.opUnwrap)) s

/-- PERSIST: Security operation PERSIST stores a volatile key in a persistent slot (R722). -/
def execSecPersist (s : State) : Out := run (fun m w => w.live (W.secRun 0x06 (W.opPersist m))) s

/-- ERASE: Security operation ERASE empties a key slot (R711). -/
def execSecErase (s : State) : Out := run (fun m w => w.live (W.secRun 0x07 (W.opErase m))) s

/-- DERIVE: Security operation DERIVE derives a key from an AES-256 parent (R711). -/
def execSecDerive (s : State) : Out := run (fun _ w => w.live (W.secRun 0x08 W.opDerive)) s

/-- GCM_ENC: Security operation GCM_ENC encrypts and tags (R711). -/
def execSecGcmEnc (s : State) : Out := run (fun _ w => w.live (W.secRun 0x10 (W.opGcm false))) s

/-- GCM_DEC: Security operation GCM_DEC checks and decrypts (R711). -/
def execSecGcmDec (s : State) : Out := run (fun _ w => w.live (W.secRun 0x11 (W.opGcm true))) s

/-- CMAC_GEN: Security operation CMAC_GEN computes a CMAC tag (R711). -/
def execSecCmacGen (s : State) : Out := run (fun _ w => w.live (W.secRun 0x12 W.opCmacGen)) s

/-- CMAC_VER: Security operation CMAC_VER verifies a CMAC tag (R711). -/
def execSecCmacVer (s : State) : Out := run (fun _ w => w.live (W.secRun 0x13 W.opCmacVer)) s

/-- KW_WRAP: Security operation KW_WRAP wraps an AES key with SP 800-38F (R711). -/
def execSecKwWrap (s : State) : Out := run (fun _ w => w.live (W.secRun 0x14 W.opKwWrap)) s

/-- KW_UNWRAP: Security operation KW_UNWRAP unwraps an AES key (R711). -/
def execSecKwUnwrap (s : State) : Out := run (fun _ w => w.live (W.secRun 0x15 W.opKwUnwrap)) s

/-- SHA256: Security operation SHA256 computes a digest (R711). -/
def execSecSha256 (s : State) : Out := run (fun _ w => w.live (W.secRun 0x18 W.opSha256)) s

/-- SHA384: Security operation SHA384 computes a digest (R711). -/
def execSecSha384 (s : State) : Out := run (fun _ w => w.live (W.secRun 0x19 W.opSha384)) s

/-- SIGN: Security operation SIGN signs a digest (R711). -/
def execSecSign (s : State) : Out := run (fun _ w => w.live (W.secRun 0x20 W.opSign)) s

/-- VERIFY: Security operation VERIFY verifies a signature (R711). -/
def execSecVerify (s : State) : Out := run (fun _ w => w.live (W.secRun 0x21 W.opVerify)) s

/-- ECDH: Security operation ECDH agrees a key with a peer (R711). -/
def execSecEcdh (s : State) : Out := run (fun _ w => w.live (W.secRun 0x22 W.opEcdh)) s

/-- STATEMENT: Security operation STATEMENT produces a signed key statement (R728). -/
def execSecStatement (s : State) : Out := run (fun _ w => w.live (W.secRun 0x30 W.opStatement)) s

/-- RANDOM: Security operation RANDOM outputs random bytes (R711). -/
def execSecRandom (s : State) : Out := run (fun _ w => w.live (W.secRun 0x38 W.opRandomBytes)) s

/-- PROVISION: Security operation PROVISION fuses the owner key hash and creates the KEK, AK and pairing key (R725). -/
def execSecProvision (s : State) : Out := run (fun m w => w.live (W.secRun 0x40 (W.opProvision m))) s

/-- LC_ADVANCE: Security operation LC_ADVANCE advances the life-cycle state (R702). -/
def execSecLcAdvance (s : State) : Out := run (fun _ w => w.live (W.secRun 0x41 W.opLcAdvance)) s

/-- REPROVISION: Security operation REPROVISION recreates the KEK and keys after zeroisation or KEK loss (R739). -/
def execSecReprovision (s : State) : Out := run (fun m w => w.live (W.secRun 0x42 (W.opReprovision m))) s

/-- KEY_BANK_WRITE_COMPLETE: A persistent bank write reaches its commit word and the change takes effect (R722). -/
def execKeyBankWriteComplete (ok : Bool) (s : State) : Out := run (fun _ w => w.live (W.bankComplete ok)) s

/-- RNG_RESEED: After 2^20 requests the random generator reseeds (R729). -/
def execRngReseed (ok : Bool) (s : State) : Out := run (fun _ w => w.live (W.rngReseed ok)) s

/-- TAMPER_INPUT: An enabled TMP input completes its filter run and becomes active or inactive (R731). -/
def execTamperInput (i : Fin 4) (active : Bool) (sub : Nat) (s : State) : Out :=
  run (fun _ w => w.tamperInput i.val active sub) s

/-- MESH_MISMATCH: MESH_TOL consecutive mesh mismatches make the mesh active (R732). -/
def execMeshMismatch (sub : Nat) (s : State) : Out := run (fun _ w => w.meshMismatch sub) s

/-- MESH_INACTIVE: A mismatch-free mesh bit returns the mismatch count to 0 and the mesh becomes inactive, raising TAMPER_CLEAR when every enabled input is inactive too (R732). -/
def execMeshInactive (s : State) : Out := run (fun _ w => w.meshMatch) s

end Sys2Proof.Machine
end

