-- ==== Sys2Proof/Machine/MeterCmd.lean ====
section
/-!
DEFINITION. The commands of the metering engine (chapters 05 and 06).
-/
namespace Sys2Proof.Machine

/-- METER_OUTPUT_PERIOD: Every 62.5 µs the metering engine processes one output sample of every channel, trackers, RTD, pulses and meter points (R204). -/
def execMeterOutputPeriod (vin : List (List Int)) (ext : Nat) (slice : Fin 4096) (s : State) : Out :=
  run (fun _ w => w.outputPeriod vin ext slice.val) s

/-- CORRECTION_BLOCK_END: At the end of each 3,200-sample block the current-dependent correction is recomputed and pending settings apply (R193). -/
def execCorrectionBlockEnd (ch : Fin 24) (s : State) : Out := run (fun _ w => w.onIf 2 (W.blockEnd ch.val)) s

/-- TRACKER_WINDOW_END: A frequency tracker completes its averaging window and updates FREQt and its lock (R190). -/
def execTrackerWindowEnd (t : Fin 4) (s : State) : Out :=
  run (fun _ w => w.onIf 2 (W.trackerWindow t.val)) s

/-- CAPT_BLOCK: Every 32 samples a waveform capture block is written, or lost (R206). -/
def execCaptBlock (s : State) : Out := run (fun _ w => w.onIf 2 W.captBlock) s

/-- RTD_SLOT_END: At the end of an RTD pair slot the pair's results and flags are updated (R210). -/
def execRtdSlotEnd (k : Fin 8) (vs vr vref : Int) (compliance : Bool) (s : State) : Out :=
  run (fun _ w => w.onIf 2 (W.rtdSlot k.val vs vr vref compliance)) s

/-- RTD_DONE: The 1 s RTD cycle ends with zero readings, RTD_SEQ increments and RTD_DONE is raised (R210). -/
def execRtdDone (za zb zref : Int) (s : State) : Out :=
  run (fun _ w => w.onIf 2 fun w => if w.mtr.rtdPos = 8 then (w.rtdZero za zb zref).thermAll else w) s

/-- PULSE_EDGE_ACCEPTED: A pulse input level change completes its debounce run and is accepted (R217). -/
def execPulseEdgeAccepted (n : Fin 64) (level accepted : Bool) (sample : Nat) (s : State) : Out :=
  run (fun _ w => w.pulseAccept n.val level accepted sample) s

/-- ELECTRICAL_STEP_END: Every 200 ms electrical energies are attributed to their slots and live values written (R240). -/
def execElectricalStepEnd (s : State) : Out := run (fun _ w => w.onIf 2 W.elecStep) s

/-- FREEZE_PERIODIC: Every FRZ_PERIOD seconds of TSC time a freeze copy is requested (R259). -/
def execFreezePeriodic (s : State) : Out := run (fun _ w => if w.rdN R.QTY_FRZ_PERIOD = 0 then w else w.freeze 2) s

/-- FREEZE_DONE: A freeze copy ends, FRZ_SEQ becomes even and FREEZE_DONE is raised (R259). -/
def execFreezeDone (s : State) : Out := run (fun _ w => w.freezeDone) s

/-- INTV_END: An interval ends, summaries are set, INTV_SEQ increments and a closing freeze is taken (R262). -/
def execIntvEnd (s : State) : Out := run (fun _ w => w.intvEnd false) s

/-- STORE_PERIODIC: Every STORE_PERIOD seconds a billing-store write starts (R267). -/
def execStorePeriodic (s : State) : Out := run (fun _ w => w.storeStart 0) s

/-- STORE_COMPLETE: A billing-store write commits or fails, raising STORE_DONE or STORE_FAIL (R267). -/
def execStoreComplete (ok : Bool) (s : State) : Out := run (fun _ w => w.storeDone ok) s

/-- HARMONIC_WINDOW_END: A harmonic analysis window ends and the next point's window starts (R269). -/
def execHarmonicWindowEnd (s : State) : Out := run (fun _ w => w.windowEnd) s

/-- HRM_DONE: Harmonic results of a window are written and HRM_DONE is raised (R272). -/
def execHrmDone (s : State) : Out := run (fun _ w => w.hrmDone) s

end Sys2Proof.Machine
end

