-- ==== Sys2Proof/Machine/MotionCmd.lean ====
section
/-!
DEFINITION. The commands of the axes (chapter 13).
-/
namespace Sys2Proof.Machine

/-- AXIS_UPDATE: Every 25 µs each axis activates commands, computes its profile and schedules steps and PWM (R582). -/
def execAxisUpdate (n : Fin 16) (vA vB : Int) (diag : Bool) (clocks : Fin 601) (s : State) : Out :=
  run (fun _ w => w.axUpdate n.val vA vB diag clocks.val) s

/-- DWELL_ELAPSED: A DWELL's time has elapsed and the command completes (R573). -/
def execDwellElapsed (n : Fin 16) (s : State) : Out := run (fun _ w => w.axDwellElapsed n.val) s

/-- HOLD_CURRENT_EXPIRY: HOLD_DLY ms after VEL becomes 0 the coil reference drops to IHOLD (R599). -/
def execHoldCurrentExpiry (d : Fin 8) (s : State) : Out := run (fun _ w => w.axHoldExpiry d.val) s

/-- CHOP_COMPARATOR_TRIP: In strong mode a coil reaches its reference current and enters slow decay (R597). -/
def execChopComparatorTrip (d : Fin 8) (coilB : Bool) (v : Int) (s : State) : Out := run (fun _ w => w.chopTrip d.val coilB v) s

/-- CHOP_OFF_EXPIRY: TOFF of slow decay expires and the coil is driven again (R597). -/
def execChopOffExpiry (d : Fin 8) (coilB : Bool) (s : State) : Out := run (fun _ w => w.chopOff d.val coilB) s

/-- OVERCURRENT_TRIP: The over-current comparator trips, drives the gates low and faults the axis (R600). -/
def execOvercurrentTrip (d : Fin 8) (coilB : Bool) (v : Int) (s : State) : Out := run (fun _ w => w.axOverCurrent d.val coilB v) s

/-- AXIS_DIAG_ACTIVE: An axis DIAG input becomes active, faulting or stalling the axis by DIAG_MODE (R604). -/
def execAxisDiagActive (n : Fin 16) (level : Bool) (s : State) : Out := run (fun _ w => w.axDiag n.val level) s

/-- STALL_DETECTED: A direct-drive axis sees m below its threshold for STALL.N updates during homing (R606). -/
def execStallDetected (n : Fin 16) (s : State) : Out := run (fun _ w => w.axStallDetected n.val) s

end Sys2Proof.Machine
end

