-- ==== Sys2Proof/Machine/PowerCmd.lean ====
section
/-!
DEFINITION. Supply, clocks, resets, start-up, power states and checkpoints (chapter 03).
-/
namespace Sys2Proof.Machine

/-- DOMAIN_RETENTION_EXIT: An access to a domain in retention completes after the domain's memories and registers wake (R21). -/
def execDomainRetentionExit (s : State) : Out := run (fun _ w => if w.dom 5 = 2 then w.retWake 5 else w) s

/-- POWER_ON_RESET: VIN rises through V_POR from below 1.0 V and resets PD1 to PD9 with RST_CAUSE.POR (R114). -/
def execPowerOnReset (s : State) : Out := run (fun _ w => w.powerOn) s

/-- BROWN_OUT_RESET: VIN stays below V_BOR for more than 1 µs and holds PD1 to PD9 in reset (R114). -/
def execBrownOutReset (s : State) : Out := run (fun _ w => w.brownOut) s

/-- BROWN_OUT_RELEASE: VIN rises through V_POR after a brown-out and releases the reset with BOR added to RST_CAUSE (R116). -/
def execBrownOutRelease (s : State) : Out := run (fun _ w => w.brownOutEnd) s

/-- EXTERNAL_RESET: RST_N low for at least 1 µs resets PD1 to PD9 (R114). -/
def execExternalReset (s : State) : Out := run (fun _ w => w.resetLive 2) s

/-- WATCHDOG_RESET: The HKE watchdog is not served for 100 ms and resets PD1 to PD9 (R114). -/
def execWatchdogReset (s : State) : Out := run (fun _ w => w.resetLive 3) s

/-- WDT_WARN: The HKE watchdog reaches 50 ms without service and raises WDT_WARN (R136). -/
def execWdtWarn (s : State) : Out := run (fun _ w => w.live W.wdtWarning) s

/-- SOFTWARE_RESET: A write of 0x0000_C3A5 to SYS.RST_CTRL causes a software reset (R117). -/
def execSoftwareReset (s : State) : Out := run (fun m w => w.put32 m R.SYS_RST_CTRL 0xC3A5) s

/-- STARTUP: After each reset of PD1 to PD9 the HKE runs the start-up phases 1 to 9 (R119). -/
def execStartup (x : Ext) (s : State) : Out := run (fun m w => w.startup x m) s

/-- BOOT_GO: A write of 1 to BOOT_CTRL.GO delivers a host boot image, which is checked, optionally persisted and loaded as phase 5 (R820). -/
def execBootGo (persist : Bool) (x : Ext) (s : State) : Out :=
  run (fun m w => w.put32 m R.HIF_BOOT_CTRL (1 + 2 * b2n persist) x) s

/-- REG_FAULT: A buck misses power-good or stays in current limit beyond its time limit and faults, switching off its domains (R99). -/
def execRegFault (b : Fin 4) (s : State) : Out := run (fun _ w => w.regFault b.val) s

/-- XTM_FAIL: The clock monitor finds XTM stopped or off frequency and stops the PLLs and the fast domains (R101). -/
def execXtmFail (s : State) : Out := run (fun _ w => w.xtmFails) s

/-- LULL_ENTRY: With AUTO_LULL set and no user of PD4 or PD6 to PD9, the device starts its automatic Lull entry (R104). -/
def execLullEntry (last : Bool) (s : State) : Out := run (fun _ w => w.lullEntry last) s

/-- STATE_REQ_NONE: A write of REQ 0 to PWR.STATE_REQ has no effect (R852). -/
def execStateReqNone (s : State) : Out := run (fun m w => w.put32 m R.PWR_STATE_REQ 0) s

/-- STATE_REQ_RESERVED: A write of REQ 1 to PWR.STATE_REQ is refused with ERR_RANGE (R852). -/
def execStateReqReserved (s : State) : Out := run (fun m w => w.put32 m R.PWR_STATE_REQ 1) s

/-- DEEP_LULL_REQUEST: A write of DEEP_LULL to STATE_REQ is checked and starts the Deep Lull entry (R107). -/
def execDeepLullRequest (s : State) : Out := run (fun m w => w.put32 m R.PWR_STATE_REQ 2) s

/-- OFF_REQUEST: A write of OFF to STATE_REQ is checked and starts the Off entry with checkpoint, billing write and queue drain (R110). -/
def execOffRequest (s : State) : Out := run (fun m w => w.put32 m R.PWR_STATE_REQ 3) s

/-- OFF_ENTRY_COMPLETE: Once the Off entry steps have completed the device drives PWR_ON to its off level (R110). -/
def execOffEntryComplete (s : State) : Out := run (fun _ w => w.offEntry) s

/-- DEEP_LULL_ENTRY_COMPLETE: The last step of the Deep Lull entry completes and the device is in Deep Lull (R109). -/
def execDeepLullEntryComplete (s : State) : Out := run (fun _ w => w.deepEntry) s

/-- WAKE_N_LOW: WAKE_N low for at least 1 µs wakes the device from Lull, Deep Lull or Off (R767). -/
def execWakeNLow (s : State) : Out := run (fun _ w => w.wakeN) s

/-- WAKE_HOLD_EXPIRY: 100 ms after a wake without an enabled user the device returns to Lull (R106). -/
def execWakeHoldExpiry (s : State) : Out := run (fun _ w => w.wakeHoldEnd) s

/-- GUST_COMPLETE: A demanded domain and its fast PLL become ready, and held operations start (R111). -/
def execGustComplete (d : Fin 10) (rngOk : Bool) (siA siB : BitVec 16) (x : Ext) (s : State) : Out :=
  run (fun m w => w.gustComplete d.val rngOk siA siB x m) s

/-- PD5_HOLDOFF_EXPIRY: The PD5 idle hold-off runs out and PD5 enters retention (R112). -/
def execPd5HoldoffExpiry (s : State) : Out := run (fun _ w => w.holdoffEnd) s

/-- EARLY_WARNING_ASSERT: VIN falls through 2.95 V: checkpoint and billing write start, the solver and link transmitters stop, Gusts are refused (R126). -/
def execEarlyWarningAssert (s : State) : Out := run (fun m w => w.ewOn m) s

/-- EARLY_WARNING_DEASSERT: VIN has stayed at or above 3.00 V for 1 ms and early warning deasserts (R125). -/
def execEarlyWarningDeassert (s : State) : Out := run (fun _ w => w.ewOff) s

/-- CKPT_PERIODIC: CKPT_PERIOD seconds after the latest checkpoint start a periodic checkpoint starts (R133). -/
def execCkptPeriodic (s : State) : Out := run (fun m w => w.ckptPeriodic m) s

/-- CKPT_NOW: A write of 1 to PWR.CKPT_STAT.NOW requests a checkpoint (R133). -/
def execCkptNow (s : State) : Out := run (fun m w => w.put32 m R.PWR_CKPT_STAT 0x10) s

/-- CKPT_PERIOD_WRITE: A write of CKPT_PERIOD recomputes the next periodic start at once (R133). -/
def execCkptPeriodWrite (v : Word) (s : State) : Out := run (fun m w => w.put32 m R.PWR_CKPT_PERIOD v.toNat) s

/-- CKPT_RETRY: After a failed checkpoint before PD4 switch-off, a retry starts at the retry instant (R105). -/
def execCkptRetry (s : State) : Out := run (fun m w => w.ckptRetry m) s

/-- CKPT_COMPLETE: A checkpoint writes its commit word or fails, setting LAST_OK and raising CKPT_DONE or CKPT_FAIL (R135). -/
def execCkptComplete (ok : Bool) (s : State) : Out := run (fun m w => w.ckptDone ok m) s

/-- BACKUP_BROWNOUT: The selected PD0 supply falls below V_RET beyond 1 µs or below V_LOSS and the brown-out latch sets (R747). -/
def execBackupBrownout (s : State) : Out := run (fun _ w => w.backupLost) s

/-- VIN_MON_UPDATE: Every 100 µs VIN is measured into PWR.VIN_MON, and a reading below 3.0 V sets LOW_VIN of the running interval (R138). -/
def execVinMonUpdate (mv : BitVec 16) (served : Bool) (s : State) : Out :=
  run (fun _ w => w.live (W.vinMonUpdate mv.toNat served)) s

/-- BACKUP_POWER_UP: The selected PD0 supply first rises, from VIN or a newly fitted cell: the brown-out latch powers up set, PWR_ON is released and the RTC starts (R745). -/
def execBackupPowerUp (s : State) : Out := run (fun _ w => w.backupUp) s

/-- VIN_BELOW_1V: VIN falls below 1.0 V during a brown-out, PD1 loses its registers, and the next rise through V_POR is a power-on reset (R116). -/
def execVinBelow1v (s : State) : Out := run (fun _ w => w.vinBelow1) s

end Sys2Proof.Machine
end

