-- ==== Sys2Proof/Machine/Qspi.lean ====
section
/-!
DEFINITION. The Quad-SPI target (R814 to R819): its transactions, its write buffer and its status byte.
-/
namespace Sys2Proof.Machine.W

/-- A transaction begins (R108, R819): it holds the host link up, and HQ_CS_N falling is a wake source. -/
def qsBegin (w : W) : W := ({ w with hif.qsHold := true }).wake

/-- A transaction has failed (R818, R822): the status ERR bit and the count of HOST_ERRS. -/
def qsFail (w : W) : W :=
  let w := { w with hif.qsErr := true }
  if w.domUp 9 then w.hostErr 3 else w

/-- A transaction of the selected target. -/
def qspi (f : W → W) (w : W) : W := if w.qspiSel && !w.pwr.held then f w.qsBegin else w

/-- Bytes in the write buffer. -/
def qsFill (w : W) : Nat := (w.hif.qsBuf.map fun e => e.2.length).sum

/-- The window of an address, 0, 2 or 4 (R815). -/
def qsWindowOk (addr : Nat) : Bool := decide (addr < 2 ^ 32) && [0, 2, 4].contains (addr / 2 ^ 28)

/-- A failure of a BAR0 access is recorded in its page (R50), another one in HIF.ERR. -/
def qsErrAt (w : W) (addr code : Nat) : W :=
  if addr / 2 ^ 28 = 0 then (if (pageDomain (addr / 0x1000)).isSome then w.err (addr / 0x1000) code else w) else w.err 0x04 code

/-- WRITE and QWRITE (R815, R817): the data enter the write buffer. -/
def qspiWrite (addr : Nat) (d : List Byte) : W → W := qspi fun w =>
  if qsWindowOk addr = false then (w.err 0x04 eRange).qsFail
  else if addr / 2 ^ 28 = 0 ∧ addr % 4 ≠ 0 then (w.qsErrAt addr eRange).qsFail
  else
    let kept := d.take (512 - w.qsFill)
    let whole := if addr / 2 ^ 28 = 0 then kept.take (kept.length / 4 * 4) else kept
    let w : W := if whole = [] then w else { w with hif.qsBuf := w.hif.qsBuf ++ [(addr, whole)] }
    if whole.length < kept.length then (w.qsErrAt (addr + whole.length) eRange).qsFail
    else if kept.length < d.length then (w.err 0x04 eBusy).qsFail
    else w

/-- The 32-bit words of a buffered BAR0 write, with their offsets. -/
def qsWords : (off : Nat) → List Byte → List (Nat × Word)
  | off, a :: b :: c :: e :: t => (off, BitVec.ofNat 32 (leNat [a, b, c, e])) :: qsWords (off + 4) t
  | _, _ => []

/-- The oldest buffered write drains to its target once PD9 is ready (R803, R817). -/
def qsDrain (x : Ext) (m : Memory) (w : W) : W :=
  match w.hif.qsBuf with
  | [] => w
  | (addr, d) :: t =>
    if w.hostOk = false then w
    else
      let w : W := { w with hif.qsBuf := t }
      let off := addr % 2 ^ 28
      if addr / 2 ^ 28 = 0 then (qsWords off d).foldl (fun w e => w.hostWord x m e.1 e.2) w
      else if addr / 2 ^ 28 = 2 then w.bar2Write off d
      else w.bar4Write off d

/-- A read of BAR0 in words from a multiple of 4 on (R816). -/
def qsReadWords (e : Ecc) : (n off : Nat) → W → W × List Byte
  | 0, _, w => (w, [])
  | n + 1, off, w =>
    let a := w.hostReadWord e off
    let r := qsReadWords e n (off + 4) a.1
    (r.1, toLe 4 a.2.toNat ++ r.2)

/-- READ and QREAD of `n` data bytes (R815, R816): wait bytes while PD9 is not ready or the write buffer is not empty,
else the start byte and the data. -/
def qspiRead (addr n : Nat) (e : Ecc) (m : Memory) : W → W := qspi fun w =>
  if qsWindowOk addr = false then ((w.err 0x04 eRange).qsFail).answer []
  else if w.hostOk = false ∨ w.hif.qsBuf ≠ [] then w.answer [0#8]
  else
    let off := addr % 2 ^ 28
    let w : W :=
      if addr / 2 ^ 28 = 2 then w.memRead .bar2 off n e m
      else if addr / 2 ^ 28 = 4 then w.memRead .bar4 off n e m
      else if off % 4 = 0 then
        let r := qsReadWords e ((n + 3) / 4) off w
        r.1.answer (r.2.take n)
      else w.hostRead e off n
    w.answer (0xA5#8 :: w.hif.rdata)

/-- The status byte (R818). -/
def qsStatus (w : W) : Nat :=
  b2n (!w.hif.qsBuf.isEmpty) + 2 * b2n w.hif.qsErr + 4 * b2n (w.dom 9 == 1)
    + 8 * b2n ((List.range 4).any w.irqLow) + 16 * b2n w.hif.qpi

/-- STATUS read out `n` times (R818): the report clears ERR; QS_STAT keeps the byte. -/
def qspiStatus (n : Nat) : W → W := qspi fun w =>
  let b := w.qsStatus
  let w : W := { w with hif.qsErr := false }
  (if w.domUp 9 then w.wrN R.HIF_QS_STAT b else w).answer (List.replicate n (BitVec.ofNat 8 b))

/-- QPI mode begins or ends (R814, R822). -/
def setQpi (b : Bool) (w : W) : W :=
  let was := w.hif.qpi
  ({ w with hif.qpi := b }).raiseIf (was != b) E.HIF_HOST_LINK

def enterQpi : W → W := qspi fun w => w.setQpi true
def exitQpi : W → W := qspi fun w => w.setQpi false

/-- TGT_RESET (R815). -/
def tgtReset : W → W := qspi fun w => { w.setQpi false with hif.qsErr := false, hif.qsBuf := [] }

/-- Any other opcode (R815). -/
def qspiUnknown : W → W := qspi qsFail

/-- 1 ms after the end of a transaction (R819). -/
def qsRelease (w : W) : W := { w with hif.qsHold := false }

end Sys2Proof.Machine.W
end

