-- ==== Sys2Proof/Machine/QspiCmd.lean ====
section
/-!
DEFINITION. The Quad-SPI target (chapter 19).
-/
namespace Sys2Proof.Machine

/-- QSPI_READ: Quad-SPI command READ returns data after wait bytes and a start byte (R816). -/
def execQspiRead (addr : Word) (n : Nat) (e : Ecc) (s : State) : Out := run (fun m w => w.qspiRead addr.toNat n e m) s

/-- QSPI_QREAD: Quad-SPI command QREAD reads on four lines (R816). -/
def execQspiQread (addr : Word) (n : Nat) (e : Ecc) (s : State) : Out := run (fun m w => w.qspiRead addr.toNat n e m) s

/-- QSPI_WRITE: Quad-SPI command WRITE places data into the write buffer (R817). -/
def execQspiWrite (addr : Word) (d : List Byte) (s : State) : Out := run (fun _ w => w.qspiWrite addr.toNat d) s

/-- QSPI_QWRITE: Quad-SPI command QWRITE writes on four lines (R817). -/
def execQspiQwrite (addr : Word) (d : List Byte) (s : State) : Out := run (fun _ w => w.qspiWrite addr.toNat d) s

/-- QSPI_STATUS: Quad-SPI command STATUS returns the status byte and clears ERR (R818). -/
def execQspiStatus (n : Nat) (s : State) : Out := run (fun _ w => w.qspiStatus n) s

/-- ENTER_QPI: Quad-SPI command ENTER_QPI switches to QPI mode (R814). -/
def execEnterQpi (s : State) : Out := run (fun _ w => w.enterQpi) s

/-- EXIT_QPI: Quad-SPI command EXIT_QPI returns to SPI mode (R815). -/
def execExitQpi (s : State) : Out := run (fun _ w => w.exitQpi) s

/-- TGT_RESET: Quad-SPI command TGT_RESET leaves QPI, clears status and empties the buffer (R815). -/
def execTgtReset (s : State) : Out := run (fun _ w => w.tgtReset) s

/-- QSPI_UNKNOWN_OPCODE: An unknown opcode ends the transaction and sets the status ERR bit (R815). -/
def execQspiUnknownOpcode (s : State) : Out := run (fun _ w => w.qspiUnknown) s

/-- QSPI_BUFFER_DRAIN: Buffered Quad-SPI write data drain to their targets in order (R817). -/
def execQspiBufferDrain (x : Ext) (s : State) : Out := run (fun m w => w.qsDrain x m) s

/-- QSPI_LINK_HOLD_EXPIRY: 1 ms after a Quad-SPI transaction the host link counts as down for R23 (R819). -/
def execQspiLinkHoldExpiry (s : State) : Out := run (fun _ w => w.qsRelease) s

end Sys2Proof.Machine
end

