-- ==== Sys2Proof/Machine/RecorderCmd.lean ====
section
/-!
DEFINITION. the event recorder (chapter 18)
-/
namespace Sys2Proof.Machine

/-- CAPTURE: A queued trigger's capture reads its snapshot list into a record and assigns SEQ (R778). -/
def execCapture (s : State) : Out := run (fun _ w => w.live (W.capture (W.engRead .recorder))) s

/-- RECORD_WRITE: The record at the queue head is written to its Calm or Eddy slot and committed (R784). -/
def execRecordWrite (s : State) : Out := run (fun _ w => w.live W.recordWrite) s

/-- CLEARED: A recorder area clear completes and CLEARED is raised (R787). -/
def execCleared (s : State) : Out := run (fun _ w => w.live W.recCleared) s

/-- REC_SCAN: After host release the recorder scans every slot to find its positions and torn slots (R785). -/
def execRecScan (s : State) : Out := run (fun _ w => w.live W.recScan) s

/-- REC_SCAN_DONE: The recorder scan ends, raising READY and TORN and queueing the START record (R785). -/
def execRecScanDone (ces ues : List Nat) (s : State) : Out := run (fun m w => w.live (W.recScanDone m ces ues)) s

end Sys2Proof.Machine
end

