-- ==== Sys2Proof/Machine/RegCmd.lean ====
section
/-!
DEFINITION. Writes and reads of registers that have a row of their own.
-/
namespace Sys2Proof.Machine

/-- PLANNER_RUN_NOW: A write of 1 to AGE.RUN.NOW runs the planner (R145). -/
def execPlannerRunNow (c : Canary) (steps : Fin 7) (s : State) : Out :=
  run (fun m w => w.put32 m R.AGE_RUN 1 { canary := c, steps := steps.val }) s

/-- CORR_COMMIT: A write of 1 to a bit of AFE.CORR_COMMIT submits a correction table for checks (R200). -/
def execCorrCommit (v : Word) (s : State) : Out := run (fun m w => w.put32 m R.AFE_CORR_COMMIT v.toNat) s

/-- HOST_FLOW_IN_WRITE: A host write of Hh_FLOW_IN supplies a bus flow value and clears FLOW_STALE (R244). -/
def execHostFlowInWrite (h : Fin 8) (v : Word) (s : State) : Out :=
  run (fun m w => w.put32 m (R.QTY_Hh_FLOW_IN h) v.toNat) s

/-- PRESET: A write of PRESET_IDX with GO sets a slot's fine accumulator (R256). -/
def execPreset (slot : BitVec 8) (s : State) : Out :=
  run (fun m w => w.put32 m R.QTY_PRESET_IDX (2 ^ 31 + slot.toNat)) s

/-- FREEZE_NOW: A write of 1 to QTY.FREEZE.NOW requests a freeze copy (R259). -/
def execFreezeNow (s : State) : Out := run (fun m w => w.put32 m R.QTY_FREEZE 1) s

/-- ROLL_CLEAR: A W1C write clears a slot's ROLL flag (R253). -/
def execRollClear (slot : Fin 168) (s : State) : Out := run (fun m w => w.put32 m (R.QTY_Qs_VIEW_HI slot) 0x10000) s

/-- MAXDEM_RESET: A write to HRM.MD_RESET clears MAXDEM of the selected points (R265). -/
def execMaxdemReset (v : BitVec 8) (s : State) : Out := run (fun m w => w.put32 m R.HRM_MD_RESET v.toNat) s

/-- STORE_NOW: A write of 1 to STORE_STAT.NOW starts a billing-store write (R267). -/
def execStoreNow (s : State) : Out := run (fun m w => w.put32 m R.QTY_STORE_STAT 1) s

/-- SLV_RING_DOORBELL: A write to SLV.RING_DB submits host ring entries to the solver queue after checks (R321). -/
def execSlvRingDoorbell (k : BitVec 4) (x : Ext) (s : State) : Out :=
  run (fun m w => w.put32 m R.SLV_RING_DB k.toNat x) s

/-- ARM_SLOT_ENABLE: A write of EN = 1 to an ARM register enables the slot and clears its MISSED count (R324). -/
def execArmSlotEnable (a : Fin 8) (v : Word) (s : State) : Out :=
  run (fun m w => w.put32 m (R.SLV_ARM a) (v ||| 0x80000000#32).toNat) s

/-- START_WARM: Task command START_WARM checks and starts the task keeping retained data (R463). -/
def execStartWarm (n : Fin 4) (edge sub : Nat) (s : State) : Out :=
  run (fun m w => w.put32 m (R.TASK_CMD n) 1 { edge := edge, sub := sub }) s

/-- START_COLD: Task command START_COLD checks and starts the task from initial data (R462). -/
def execStartCold (n : Fin 4) (edge sub : Nat) (s : State) : Out :=
  run (fun m w => w.put32 m (R.TASK_CMD n) 2 { edge := edge, sub := sub }) s

/-- TASK_STOP: Task command STOP stops the task after the current cycle's phase 4 (R459). -/
def execTaskStop (n : Fin 4) (s : State) : Out := run (fun m w => w.put32 m (R.TASK_CMD n) 3) s

/-- CLEAR_FAULT: Task command CLEAR_FAULT moves a faulted task to STOPPED (R459). -/
def execClearFault (n : Fin 4) (s : State) : Out := run (fun m w => w.put32 m (R.TASK_CMD n) 4) s

/-- GPIO_OUT_WRITE: A write to GPIO.OUT sets host-driven pin levels within 20 ns (R443). -/
def execGpioOutWrite (v : Word) (s : State) : Out := run (fun m w => w.put32 m R.GPIO_OUT v.toNat) s

/-- GPIO_OUT_SET: A write to GPIO.OUT_SET sets the selected OUT bits (R442). -/
def execGpioOutSet (v : Word) (s : State) : Out := run (fun m w => w.put32 m R.GPIO_OUT_SET v.toNat) s

/-- GPIO_OUT_CLR: A write to GPIO.OUT_CLR clears the selected OUT bits (R442). -/
def execGpioOutClr (v : Word) (s : State) : Out := run (fun m w => w.put32 m R.GPIO_OUT_CLR v.toNat) s

/-- STATION_UPDATE: A write of GO to SCAN.STN_UPD schedules an entry to be latched at its owner's next phase 1 (R446). -/
def execStationUpdate (i : BitVec 11) (s : State) : Out :=
  run (fun m w => w.put32 m R.SCAN_STN_UPD (2 ^ 31 + i.toNat)) s

/-- FORCE_ENTRY_WRITE: A write enabling or disabling a force entry updates FORCE_IND and raises FORCE_CHANGE (R456). -/
def execForceEntryWrite (i : Fin 64) (v : Word) (s : State) : Out :=
  run (fun m w => w.put32 m (R.FRC_FRCe_ADDR i) v.toNat) s

/-- FORCE_CLEAR_ALL: A write of FRC.CLEAR.ALL disables every force entry (R477). -/
def execForceClearAll (s : State) : Out := run (fun m w => w.put32 m R.FRC_CLEAR 1) s

/-- FORCE_CLEAR_ORPHANS: A write of FRC.CLEAR.ORPHANS disables every orphaned force entry (R477). -/
def execForceClearOrphans (s : State) : Out := run (fun m w => w.put32 m R.FRC_CLEAR 2) s

/-- ONLINE_CHANGE: A write of OLC_CTRL with GO checks and loads a new program image for on-line change (R467). -/
def execOnlineChange (bank : Fin 2) (x : Ext) (s : State) : Out :=
  run (fun m w => w.put32 m R.SCAN_OLC_CTRL (2 ^ 31 + bank.val) x) s

/-- CAN_TX_REQUEST: A bit written to TX_REQ requests transmission from a mailbox (R540). -/
def execCanTxRequest (n : Fin 16) (b : Fin 64) (s : State) : Out :=
  run (fun m w => w.put32 m (R.CAN_TX_REQ n + 4 * (b / 32)) (2 ^ (b.val % 32))) s

/-- CAN_TX_ABORT: A bit written to TX_ABORT aborts a pending mailbox frame (R545). -/
def execCanTxAbort (n : Fin 16) (b : Fin 64) (s : State) : Out :=
  run (fun m w => w.put32 m (R.CAN_TX_ABORT n + 4 * (b / 32)) (2 ^ (b.val % 32))) s

/-- CAN_MAILBOX_WRITE: A host write through the mailbox view, refused for pending or locked mailboxes (R538). -/
def execCanMailboxWrite (n : Fin 16) (k : Fin 20) (v : Word) (s : State) : Out :=
  run (fun m w => w.put32 m (R.CAN_MB_VIEW n k) v.toNat) s

/-- CAN_RECOVER: A write of RECOVER.GO starts bus-off recovery in manual mode (R560). -/
def execCanRecover (n : Fin 16) (s : State) : Out := run (fun m w => w.put32 m (R.CAN_RECOVER n) 1) s

/-- CAN_RX_LOCK: A bit written to RX_LOCK locks a receive mailbox (R554). -/
def execCanRxLock (n : Fin 16) (b : Fin 64) (s : State) : Out :=
  run (fun m w => w.put32 m (R.CAN_RX_LOCK n + 4 * (b / 32)) (2 ^ (b.val % 32))) s

/-- CAN_RX_RELEASE: A bit written to RX_REL empties a mailbox and moves any shadow frame in (R554). -/
def execCanRxRelease (n : Fin 16) (b : Fin 64) (s : State) : Out :=
  run (fun m w => w.put32 m (R.CAN_RX_REL n + 4 * (b / 32)) (2 ^ (b.val % 32))) s

/-- HP_LOCK: A write of HP_CTRL.LOCK locks the high-priority buffer (R554). -/
def execHpLock (n : Fin 16) (s : State) : Out := run (fun m w => w.put32 m (R.CAN_HP_CTRL n) 1) s

/-- HP_REL: A write of HP_CTRL.REL empties the high-priority buffer and moves any shadow frame in (R554). -/
def execHpRel (n : Fin 16) (s : State) : Out := run (fun m w => w.put32 m (R.CAN_HP_CTRL n) 2) s

/-- AX_CMD_DOORBELL: A write to AXn.CMD_DB copies staged motion commands into the axis queue after checks (R574). -/
def execAxCmdDoorbell (n : Fin 16) (k : BitVec 3) (s : State) : Out :=
  run (fun m w => w.put32 m (R.AX_CMD_DB n) k.toNat) s

/-- MOVE_ABS: Motion command MOVE_ABS moves the axis to an absolute target (R573). -/
def execAxMoveAbs (n : Fin 16) (now : Bool) (tag : BitVec 16) (a0 a1 : Word) (s : State) : Out :=
  run (fun m w => w.putMotion m n 1 now tag.toNat a0.toNat a1.toNat 0) s

/-- MOVE_REL: Motion command MOVE_REL moves the axis by a distance from TARGET (R573). -/
def execAxMoveRel (n : Fin 16) (now : Bool) (tag : BitVec 16) (a0 a1 : Word) (s : State) : Out :=
  run (fun m w => w.putMotion m n 2 now tag.toNat a0.toNat a1.toNat 0) s

/-- JOG: Motion command JOG runs the axis at a signed velocity (R573). -/
def execAxJog (n : Fin 16) (now : Bool) (tag : BitVec 16) (a0 : Word) (s : State) : Out :=
  run (fun m w => w.putMotion m n 3 now tag.toNat a0.toNat 0 0) s

/-- STOP: Motion command STOP brings the axis to rest by ramp or immediately (R573). -/
def execAxStop (n : Fin 16) (now : Bool) (tag : BitVec 16) (a0 : Word) (s : State) : Out :=
  run (fun m w => w.putMotion m n 4 now tag.toNat a0.toNat 0 0) s

/-- HOME: Motion command HOME references the axis against its end stop by stall detection (R605). -/
def execAxHome (n : Fin 16) (now : Bool) (tag : BitVec 16) (a0 a1 a2 : Word) (s : State) : Out :=
  run (fun m w => w.putMotion m n 5 now tag.toNat a0.toNat a1.toNat a2.toNat) s

/-- SET_POS: Motion command SET_POS assigns a new position at rest (R573). -/
def execAxSetPos (n : Fin 16) (now : Bool) (tag : BitVec 16) (a0 : Word) (s : State) : Out :=
  run (fun m w => w.putMotion m n 6 now tag.toNat a0.toNat 0 0) s

/-- DWELL: Motion command DWELL waits a given time (R573). -/
def execAxDwell (n : Fin 16) (now : Bool) (tag : BitVec 16) (a0 : Word) (s : State) : Out :=
  run (fun m w => w.putMotion m n 7 now tag.toNat a0.toNat 0 0) s

/-- AXIS_STOP_RAMP: A write of STOP.RAMP ends all commands with STOPPED and ramps to rest (R579). -/
def execAxisStopRamp (n : Fin 16) (s : State) : Out := run (fun m w => w.put32 m (R.AX_STOP n) 1) s

/-- AXIS_STOP_IMMEDIATE: A write of STOP.IMMEDIATE ends all commands and stops the axis at once (R579). -/
def execAxisStopImmediate (n : Fin 16) (s : State) : Out := run (fun m w => w.put32 m (R.AX_STOP n) 2) s

/-- PROFILE_PARAM_WRITE: A write to VMAX, ACC, DEC or JERK goes to a pending copy (R586). -/
def execProfileParamWrite (n : Fin 16) (k : Fin 4) (v : Word) (s : State) : Out :=
  run (fun m w => w.put32 m (R.AX_VMAX n + 4 * k) v.toNat) s

/-- PAPPLY_NOW: A write of PAPPLY.NOW brings pending profile values into force at the next update (R586). -/
def execPapplyNow (n : Fin 16) (s : State) : Out := run (fun m w => w.put32 m (R.AX_PAPPLY n) 1) s

/-- AXIS_FAULT_CLEAR: A write of FAULT_CLR.CLEAR returns a faulted axis to IDLE when no fault cause remains (R607). -/
def execAxisFaultClear (n : Fin 16) (vA vB : Int) (diag : Bool) (s : State) : Out :=
  run (fun m w => w.put32 m (R.AX_FAULT_CLR n) 1 { isa := vA, isb := vB, diag := diag }) s

/-- RELINQUISH: RED command RELINQUISH makes the unit unhealthy until RESUME (R674). -/
def execRelinquish (s : State) : Out := run (fun m w => w.put32 m R.RED_CMD 1) s

/-- RESUME: RED command RESUME ends a host relinquish (R674). -/
def execResume (s : State) : Out := run (fun m w => w.put32 m R.RED_CMD 2) s

/-- UNLATCH: RED command UNLATCH ends LATCHED and clears RECLAIMS (R678). -/
def execUnlatch (s : State) : Out := run (fun m w => w.put32 m R.RED_CMD 4) s

/-- RESYNC: RED command RESYNC requests whole-RET copies for every task (R699). -/
def execResync (s : State) : Out := run (fun m w => w.put32 m R.RED_CMD 8) s

/-- LINK_TRAINED: A link port completes training with the position and port check (R689). -/
def execLinkTrained (j rpos rport inv : Fin 4) (third : Bool) (peer : Peer) (s : State) : Out :=
  run (fun _ w => w.live (W.linkUpPair j.val rpos.val rport.val inv.val third peer)) s

/-- LINK_ERROR: A fourth failed retransmission or loss of lane lock takes the port down (R689). -/
def execLinkError (j : Fin 4) (laneLost third : Bool) (s : State) : Out :=
  run (fun _ w => w.live (W.linkError j.val laneLost third)) s

/-- LINK_MSG_DOORBELL: A write to Pp_MSG_DB submits host link messages after checks (R690). -/
def execLinkMsgDoorbell (j : Fin 4) (k : BitVec 4) (x : Ext) (s : State) : Out :=
  run (fun m w => w.put32 m (R.LNK_Pp_MSG_DB j) k.toNat x) s

/-- LINK_RX_SLOT_CLEAR: A W1C write to Pp_RX_STAT frees receive slots so waiting messages can be delivered (R691). -/
def execLinkRxSlotClear (j : Fin 4) (v : BitVec 8) (s : State) : Out :=
  run (fun m w => w.put32 m (R.LNK_Pp_RX_STAT j) v.toNat) s

/-- KEY_RING_DOORBELL: A write to KEY.RING_DB copies host security job entries into job places (R715). -/
def execKeyRingDoorbell (k : BitVec 5) (x : Ext) (s : State) : Out :=
  run (fun m w => w.put32 m R.KEY_RING_DB k.toNat x) s

/-- TAMPER_CMD: A write of 0x5A11_D0CE to TMP.CMD is a tamper event (R733). -/
def execTamperCmd (s : State) : Out := run (fun m w => w.put32 m R.TMP_CMD 0x5A11D0CE) s

/-- TAMPER_LOG_CLEAR: A write of TMP.LOG_CLR clears the tamper log, refused in DEPLOYED (R738). -/
def execTamperLogClear (s : State) : Out := run (fun m w => w.put32 m R.TMP_LOG_CLR 1) s

/-- BKP_BOR_CLEAR: A write of 1 to BKP.FLAGS.BOR clears the brown-out latch when the supply is adequate (R745). -/
def execBkpBorClear (s : State) : Out := run (fun m w => w.put32 m R.BKP_FLAGS 1) s

/-- SWO_CLEAR: A write of 1 to BKP.FLAGS.SWO clears the flag and its time fields (R748). -/
def execSwoClear (s : State) : Out := run (fun m w => w.put32 m R.BKP_FLAGS 4) s

/-- BKP_REGISTER_WRITE: A write to a CRC-covered backup byte updates BCRC within 5 µs (R752). -/
def execBkpRegisterWrite (i : Fin 32) (v : Word) (s : State) : Out := run (fun m w => w.put32 m (R.BKP_GPR i) v.toNat) s

/-- BKP_CRC_CHECK: A write of CRC_CHK.CHECK checks the backup registers' CRC (R752). -/
def execBkpCrcCheck (s : State) : Out := run (fun m w => w.put32 m R.BKP_CRC_CHK 1) s

/-- RTC_SHADOW_READ: A read of an RTC time field freezes the shadow when none is held (R756). -/
def execRtcShadowRead (k : Fin 10) (sub : BitVec 15) (s : State) : Out :=
  run (fun _ w => (w.subAt sub.toNat).hostRead .ok (R.RTC_SUBSEC + 4 * k) 4) s

/-- RTC_YEAR_READ: A read of YEAR returns the shadow value and releases the shadow (R756). -/
def execRtcYearRead (sub : BitVec 15) (s : State) : Out :=
  run (fun _ w => (w.subAt sub.toNat).hostRead .ok R.RTC_YEAR 4) s

/-- RTC_FIELD_WRITE: A write to MIN, HOUR, DAY, MONTH or YEAR goes to the set buffer (R757). -/
def execRtcFieldWrite (k : Fin 5) (v : Word) (s : State) : Out :=
  run (fun m w => w.put32 m (R.RTC_MIN + 4 * k) v.toNat) s

/-- RTC_SEC_COMMIT: A write to SEC commits the set buffer after checks (R757). -/
def execRtcSecCommit (v : Word) (s : State) : Out := run (fun m w => w.put32 m R.RTC_SEC v.toNat) s

/-- RTC_SET_S_COMMIT: A write of the SET_S pair commits a time in seconds after checks (R757). -/
def execRtcSetSCommit (v : BitVec 64) (s : State) : Out := run (fun m w => w.putPair m R.RTC_SET_S v.toNat) s

/-- OSF_CLEAR: A write of 1 to RTC.FLAGS.OSF clears it while XT32 runs (R760). -/
def execOsfClear (s : State) : Out := run (fun m w => w.put32 m R.RTC_FLAGS 1) s

/-- ALARM_ENABLE: A write of EN = 1 to ALMn_CFG checks the match fields and computes NEXT (R763). -/
def execAlarmEnable (n : Fin 2) (v : Word) (s : State) : Out :=
  run (fun m w => w.put32 m (R.RTC_ALMn_CFG n) (v ||| 1#32).toNat) s

/-- REC_TRIG_HOST: A host write of REC.TRIG with GO fires a recorder trigger (R777). -/
def execRecTrigHost (t : Fin 64) (s : State) : Out := run (fun m w => w.put32 m R.REC_TRIG (2 ^ 31 + t.val)) s

/-- REC_TRG_SEL: A write to TRG_SEL loads the staging view with the selected trigger's list (R776). -/
def execRecTrgSel (t : Fin 64) (s : State) : Out := run (fun m w => w.put32 m R.REC_TRG_SEL t.val) s

/-- REC_TRG_CFG: A write to TRG_CFG checks and commits the staged list and configuration (R776). -/
def execRecTrgCfg (v : Word) (s : State) : Out := run (fun m w => w.put32 m R.REC_TRG_CFG v.toNat) s

/-- REC_CLEAR_EDDY: A write of CLEAR.EDDY starts clearing the Eddy area (R787). -/
def execRecClearEddy (s : State) : Out := run (fun m w => w.put32 m R.REC_CLEAR 1) s

/-- REC_CLEAR_CALM: A write of CLEAR.CALM starts clearing Calm, refused in DEPLOYED (R788). -/
def execRecClearCalm (s : State) : Out := run (fun m w => w.put32 m R.REC_CLEAR 2) s

/-- DMA_DOORBELL: A write to CHc_DB submits DMA descriptors after checks (R808). -/
def execDmaDoorbell (c : Fin 4) (k : BitVec 9) (s : State) : Out :=
  run (fun m w => w.put32 m (R.HIF_CHc_DB c) k.toNat) s

/-- DMA_RESUME: Channel command RESUME continues a halted channel (R811). -/
def execDmaResume (c : Fin 4) (s : State) : Out := run (fun m w => w.put32 m (R.HIF_CHc_CMD c) 1) s

/-- DMA_ABORT: Channel command ABORT ends every waiting descriptor and clears HALT (R811). -/
def execDmaAbort (c : Fin 4) (s : State) : Out := run (fun m w => w.put32 m (R.HIF_CHc_CMD c) 2) s

end Sys2Proof.Machine
end

