-- ==== Sys2Proof/Machine/RtcCmd.lean ====
section
/-!
DEFINITION. The commands of the calendar clock and of the backup domain (chapter 17).
-/
namespace Sys2Proof.Machine

/-- SUPPLY_SWITCH_TO_VBAT: VIN falls against VBAT and PD0 switches to VBAT, recording SWO (R744). -/
def execSupplySwitchToVbat (sub : BitVec 15) (s : State) : Out := run (fun _ w => w.switchToVbat sub.toNat) s

/-- SUPPLY_SWITCH_TO_VIN: VIN rises against VBAT and PD0 switches back to VIN (R744). -/
def execSupplySwitchToVin (s : State) : Out := run (fun _ w => w.switchToVin) s

/-- VBAT_MEASURE: Every 60 s on VIN the HKE measures VBAT and checks it against its threshold (R749). -/
def execVbatMeasure (mv : BitVec 16) (s : State) : Out := run (fun _ w => w.measureVbat mv.toNat) s

/-- RTC_SECOND: SUBSEC wraps and the calendar advances one second, firing alarms due (R753). -/
def execRtcSecond (s : State) : Out := run (fun _ w => w.rtcSecond) s

/-- SHADOW_TIMEOUT: A shadow held for 66 XT32 cycles is released with SHADOW_TIMEOUT (R756). -/
def execShadowTimeout (s : State) : Out := run (fun _ w => w.shadowTimeout) s

/-- RTC_COMMIT_APPLY: An accepted commit takes effect at the next XT32 edge, clears TINV and raises TIME_SET (R759). -/
def execRtcCommitApply (s : State) : Out :=
  run (fun _ w => if w.rtc.commit.isNone then w else w.commitApply.intvEnd true) s

/-- XT32_STOP: No XT32 edge for 250 µs sets OSF and TINV (R760). -/
def execXt32Stop (s : State) : Out := run (fun _ w => w.xt32Stop) s

/-- XT32_RESTART: XT32 edges resume after a stop: XT32_RUN returns to 1, the RTC counts again, a new calibration window starts and tamper sampling returns to XT32 (R760). -/
def execXt32Restart (s : State) : Out := run (fun _ w => w.xt32Restart) s

/-- RTC_CAL_WINDOW: Every 2^23 XT32 cycles a calibration window starts and a newly written CAL value comes into force (R755). -/
def execRtcCalWindow (s : State) : Out := run (fun _ w => w.calWindow) s

end Sys2Proof.Machine
end

