-- ==== Sys2Proof/Machine/SafetyCmd.lean ====
section
/-!
DEFINITION. The commands of the safety sequencer (chapter 14).
-/
namespace Sys2Proof.Machine

/-- SAFETY_INPUT_FILTERED: A safety input pin's filtered state changes after FILT consecutive samples (R622). -/
def execSafetyInputFiltered (chanB : Bool) (i : Fin 16) (pinB level : Bool) (s : State) : Out :=
  run (fun _ w => w.safFiltered chanB i.val pinB level) s

/-- SFS_PERIOD: At each 250 µs boundary each channel latches inputs, evaluates inputs, functions and outputs and compares with the other channel (R619). -/
def execSfsPeriod (smA edmA smB edmB : BitVec 8) (dev : Bool) (s : State) : Out :=
  run (fun _ w => w.safPeriod smA edmA smB edmB dev) s

/-- DISCREPANCY: An input's disagreement count reaches DISC and the input enters FAULT (R627). -/
def execDiscrepancy (i : Fin 16) (s : State) : Out := run (fun _ w => w.safDiscrepancy i.val) s

/-- TEST_PULSE_START: A test-pulse source starts its 200 µs off-pulse in its frame slot (R624). -/
def execTestPulseStart (k : Fin 4) (s : State) : Out := run (fun _ w => w.tpStart k.val) s

/-- TEST_PULSE_CHECK: 150 µs after a source's falling edge each supplied channel must read low, or sets a test fault (R625). -/
def execTestPulseCheck (k : Fin 4) (aA aB bA bB : BitVec 16) (s : State) : Out :=
  run (fun _ w => w.tpCheck k.val aA aB bA bB) s

/-- OUTPUT_TEST_START: An energised output's test slot opens one line for a monitor test (R638). -/
def execOutputTestStart (n : Fin 8) (s : State) : Out := run (fun _ w => w.outTestStart n.val) s

/-- OUTPUT_TEST_END: An output test pulse ends after SMn goes low or at 400 µs with an output fault (R638). -/
def execOutputTestEnd (lowA lowB : Bool) (s : State) : Out := run (fun _ w => w.outTestEnd lowA lowB) s

/-- OUTPUT_MONITOR_FAULT: An output monitor mismatches for more than 1 ms and sets an output fault (R635). -/
def execOutputMonitorFault (n : Fin 8) (chanB : Bool) (s : State) : Out := run (fun _ w => w.outMonitorFault n.val chanB) s

/-- EDM_FAULT: Contactor feedback differs from its expected state beyond EDM_WIN and sets a feedback fault (R637). -/
def execEdmFault (n : Fin 8) (chanB : Bool) (s : State) : Out := run (fun _ w => w.edmFault n.val chanB) s

/-- STOP_DELAY_EXPIRY: A STOPPING function's STOP_DELAY elapses and it enters SAFE (R632). -/
def execStopDelayExpiry (f : Fin 16) (s : State) : Out := run (fun _ w => w.stopExpiry f.val) s

/-- TEST_PULSE_END: A test-pulse source ends its 200 µs off-pulse and drives TPk high again, and the 250 µs test window of its supplied channels closes (R624). -/
def execTestPulseEnd (k : Fin 4) (s : State) : Out := run (fun _ w => w.tpEnd k.val) s

end Sys2Proof.Machine
end

