-- ==== Sys2Proof/Machine/ScanCmd.lean ====
section
/-!
DEFINITION. cyclic execution (chapter 10)
-/
namespace Sys2Proof.Machine

/-- CYCLE_LATCH: At a task grid instant the input latch runs: SYSV, events, GPIO, stations, cross-links, Crosswind apply and input forces (R426). -/
def execCycleLatch (n : Fin 4) (c1 c2 : Option (List Byte)) (ces ues : List Nat) (s : State) : Out :=
  run (fun m w => let r := w.sramMeets ces ues m; r.1.cycleLatch n.val c1 c2 r.2) s

/-- TRIAD_WAIT_EXPIRY: A neighbour's copy is not received within TRIAD_WAIT and the vote runs degraded (R696). -/
def execTriadWaitExpiry (n : Fin 4) (s : State) : Out := run (fun m w => w.triadWait n.val m) s

/-- TASK_WATCHDOG: Phase 2 runs for WDOG_MULT periods and the watchdog stops the cycle, putting the task in FAULT (R434). -/
def execTaskWatchdog (n : Fin 4) (s : State) : Out := run (fun _ w => w.taskWatchdog n.val) s

/-- GPIO_INPUT_ACCEPT: A GPIO input level held for FILT + 1 samples is accepted (R444). -/
def execGpioInputAccept (i : Fin 32) (level : Bool) (s : State) : Out :=
  run (fun _ w => w.live (W.gpioAccept i.val level)) s

/-- STATION_WINDOW_TIMEOUT: A station's response window closes unanswered and counts as a miss (R449). -/
def execStationWindowTimeout (i : Fin 1536) (s : State) : Out := run (fun _ w => w.stnTimeout i.val) s

/-- OLC_LOAD_DONE: The code load of step 4 of an on-line change finishes, OLC_STAT moves to step 5, and with no running task step 6 follows at once (R467). -/
def execOlcLoadDone (s : State) : Out := run (fun _ w => w.onIf 4 W.olcLoadDone) s

end Sys2Proof.Machine
end

