-- ==== Sys2Proof/Machine/SolverCmd.lean ====
section
/-!
DEFINITION. the solver (chapters 07 to 09)
-/
namespace Sys2Proof.Machine

/-- ARM_EVENT: An occurrence of an enabled arm slot's event submits its descriptor or counts as missed (R324). -/
def execArmEvent (n : Fin 256) (s : State) : Out := run (fun _ w => w.live fun w => w.armHit (n.val, w.pstate == 2)) s

/-- JOB_START: The job at the head of the solver queue starts and runs its checks, gather, Tailwind decision and solve (R326). -/
def execJobStart (partners : List Nat) (waited : Bool) (ces : Nat) (ues : List Nat) (time : Nat) (s : State) : Out :=
  run (fun m w => w.live (W.jobStart (W.engRead .asm) m partners waited ces ues time)) s

/-- JOB_COMPLETE: A solver job writes its status, LAST_ registers and DONE_MAP, raises JOB_DONE and follows its chain (R328). -/
def execJobComplete (coupling : Option (Nat × Nat × Nat)) (creg : Nat) (s : State) : Out :=
  run (fun m w => w.live (W.jobComplete m none coupling creg)) s

/-- JOB_TIMEOUT: A job still running JOB_TMO ms after its start ends at the next iteration boundary with ERR_TIMEOUT (R331). -/
def execJobTimeout (iter : Nat) (s : State) : Out := run (fun m w => w.live (W.jobTimeout m iter)) s

/-- SPLIT_SERVE_REQUEST: A partner receives a split setup message, starts PD5 and replies ACCEPT or a reason (R376). -/
def execSplitServeRequest (x : SplitSetup) (s : State) : Out := run (fun _ w => w.live (W.splitServe x)) s

/-- SPLIT_MESSAGE: A split-horizon message between lead and partner is received and processed (R376). -/
def execSplitMessage (off : Nat) (data : List Byte) (s : State) : Out :=
  run (fun _ w => w.live (W.splitMessage off data)) s

/-- SPLIT_TIMEOUT: An expected split message does not arrive in time and the lead restarts the job whole (R378). -/
def execSplitTimeout (dropped : Bool) (s : State) : Out :=
  run (fun _ w => w.live (W.splitAbort (if dropped then 9 else 8))) s

/-- SPLIT_SERVE_END: The partner returns its block results and clears SERVING (R376). -/
def execSplitServeEnd (s : State) : Out := run (fun _ w => w.live W.splitEnd) s

end Sys2Proof.Machine
end

