-- ==== Sys2Proof/Machine/Sys.lean ====
section
/-!
DEFINITION. The SYS services of Breeze code (R508 to R516): data references and their checks, and what each service does
with its arguments.
-/
namespace Sys2Proof.Machine

/-- The place of a code in the order of R75; codes of a block's own stand before ERR_FULL. -/
def codeRank (c : Nat) : Nat :=
  (([eDomainOff, eSquall, eKekLost, eLocked, ePerm, eState, eLen, eRange, eCrc, eSignature].findIdx? (· == c)).getD
    (if c = eFull then 11 else if c = eBusy then 12 else 10))

/-- The first code of R75 among the checks that failed; 0 when none did. -/
def firstOf (codes : List Nat) : Nat :=
  (codes.filter (· != 0)).foldl (fun (b : Nat) c => if b = 0 ∨ codeRank c < codeRank b then c else b) 0

/-- A code where a check fails. -/
def failIf (c : Bool) (code : Nat) : Nat := if c then code else 0

/-- What a service answers: the status, the results, and the page in whose ERR a failure is recorded (R59). -/
structure SvcOut where
  w : W
  code : Nat := 0
  res : List Nat := []
  page : Option Nat := none

/-! ## Data references (R509, R510) -/

def refSpace (r : Nat) : Nat := r / 2 ^ 60
def refOff (r : Nat) : Nat := r % 2 ^ 18

/-- The reference names no area of its kind: SPACE, reserved bits, alignment, a write to a space that is only read. -/
def refBad (r unit : Nat) (write : Bool) : Bool :=
  decide (4 < refSpace r) || nfld r 18 42 != 0 || refOff r % unit != 0 || (write && (refSpace r == 0 || refSpace r == 4))

namespace W

/-- The checks of a reference to `len` bytes by task n. -/
def refCodes (w : W) (n r len unit : Nat) (write : Bool) : List Nat :=
  if 4 < refSpace r then [eRange]
  else [failIf (refBad r unit write) eRange, failIf (decide (w.spSize n (refSpace r) < refOff r + len)) eLen,
    failIf (write && refSpace r == 1 && decide (0 < len) && !w.mapped n (refOff r) len) ePerm]

/-- The bytes of a reference. -/
def refBytes (w : W) (m : Memory) (n r len : Nat) : List Byte := w.bytes m (w.spBase n (refSpace r) + refOff r) len

/-- Bytes written through a reference (R489, R509). -/
def refWrite (w : W) (n r : Nat) (d : List Byte) : W := w.spWrite n (refSpace r) (refOff r) d

/-! ## The call (R508) -/

/-- What the engine's read of a service's data reference meets (R459, R473): as an access of Breeze code does. -/
def sysRead (w : W) (n : Nat) (ev : MemEv) (ref : Nat) (f : W → W) : W :=
  if w.lsMismatch n ev then w.lsFault n
  else match ev with
    | .ue => (w.sramLost (w.spBase n (refSpace ref) + refOff ref)).taskHalt n 3 5
    | .ce => f (w.sramCorrected 1)
    | _ => f w

/-- SYS: service `svc` of engine n with arguments from W[a] on; results replace them, then the status enters W[d]. A request of
a lockstep pair is compared (R471). An accepted service that reads data meets `ev` at its reference, argument `ref`. -/
def sys (n svc d a : Nat) (f : W → (Nat → Nat) → SvcOut) (w : W) (ev : MemEv := .ok) (ref : Nat := 0) : W :=
  w.bz n (encI 0x2D d a svc) fun w => w.compared n fun w =>
    let x := fun i => (w.eng n).rd (a + i)
    w.sysRead n (if (f w x).code = 0 then ev else .ok) (x ref) fun w =>
    let r := f w x
    let w := if r.code = 0 then r.w else match r.page with
      | some p => r.w.err p r.code
      | none => r.w
    let g := if r.code = 0 then (r.res.zipIdx).foldl (fun (g : Eng) e => g.wr (a + e.2) e.1) (w.eng n) else w.eng n
    (w.setEng n ((g.wr d r.code).setFlag 7 (r.code != 0))).next n

/-! ## Time and registers -/

/-- TSC_NOW. -/
def svcTsc (w : W) (_ : Nat → Nat) : SvcOut := { w := w, res := [w.tsc.toNat] }

/-- RTC_READ: the seconds, and the sub-second that RTC.SUBSEC shows; XT32 has run on to `sub` by now (R753). -/
def svcRtc (sub : Nat) (w : W) (_ : Nat → Nat) : SvcOut :=
  let w := w.subAt sub
  { w := w, res := [w.rtcValid.toNat, w.rdF R.RTC_SUBSEC 0 15] }

/-- REG_READ by engine n. -/
def svcReg (n : Fin 4) (w : W) (x : Nat → Nat) : SvcOut :=
  let off := x 0
  let p := off / 0x1000
  let known := decide (off < 0x80000) && (pageDomain p).isSome
  let offs := if x 1 = 0 then [off] else [off, off + 4]
  let block := fun (o : Nat) => decide (0x040 ≤ o % 0x1000)
  let code := firstOf [
    failIf (known && offs.any fun o => block o && w.offCode o != 0) eDomainOff,
    failIf (known && (p == 0x05 || p == 0x3D || p == 0x3E || p == 0x42)) ePerm,
    failIf (!known || off % 4 != 0 || decide (1 < x 1) || (x 1 == 1 && (off + 4) / 0x1000 != p)) eRange,
    failIf (known && offs.any fun o => block o && w.inSrst p) eBusy]
  if code ≠ 0 then { w := w, code := code, page := if known then some p else none }
  else
    let lo := w.engRead (.se n) off
    if x 1 = 0 then { w := lo.w, res := [lo.v.toNat] }
    else
      let hi := lo.w.engRead (.se n) (off + 4)
      { w := hi.w, res := [lo.v.toNat + 2 ^ 32 * hi.v.toNat] }

/-! ## Solver -/

/-- SLV_SUBMIT (R322). -/
def svcSubmit (w : W) (x : Nat → Nat) : SvcOut :=
  let c := w.submitCode [x 0]
  if c ≠ 0 then { w := w, code := c, page := some 0x15 } else { w := w.slvAccept (x 0) 1 (x 1 % 2 ^ 16) }

/-- The page that records a failed SLV_STATUS, SLV_READ or SLV_WRITE; that PD5 is off only the engine learns (R22). -/
def slvMovePage (c : Nat) : Option Nat := if c = eDomainOff then none else some 0x15

/-- SLV_STATUS (R513); `e` is what the code of solver SRAM finds in the status block (R283). -/
def svcStatus (e : Ecc) (m : Memory) (w : W) (x : Nat → Nat) : SvcOut :=
  let c := firstOf [failIf (!w.domUp 5) eDomainOff, failIf (decide (63 < x 0)) eRange]
  let a := w.descAddr (x 0)
  if c ≠ 0 then { w := w, code := c, page := slvMovePage c }
  else
    let (w, b) := sramRead (a + 128) 64 e m (w.retWake 5)
    let at_ := fun (o n : Nat) => leNat ((b.drop o).take n)
    { w := w, res := [at_ 0 4, at_ 4 1, at_ 48 4, at_ 56 4, at_ 24 8] }

/-- The output area that a queued or executing job owns (R28); the descriptor as the job reads it. -/
def jobArea (w : W) (m : Memory) (j : SlvJob) (run : Option SlvRun) : Nat × Nat :=
  let d : Desc := { bytes := match run with | some r => r.desc | none => w.bytes m (w.descAddr j.desc) 128 }
  if d.op = 8 then (d.ana, d.anaLen) else (d.out, d.outLen)

/-- An output area of a queued or executing job overlaps the range (R513). -/
def outBusy (w : W) (m : Memory) (off n : Nat) : Bool :=
  (w.slv.queue.any fun j => overlaps (w.jobArea m j none) (off, n)) ||
    (match w.slv.exec with | some j => overlaps (w.jobArea m j w.slv.run) (off, n) | none => false)

/-- The code of SLV_READ (`read`) and SLV_WRITE. -/
def slvMoveCode (n : Nat) (read : Bool) (m : Memory) (w : W) (x : Nat → Nat) : Nat :=
  firstOf ([failIf (!w.domUp 5) eDomainOff,
      failIf (decide (4096 < x 1) || decide (solverEnd < x 0 + x 1)) eLen,
      failIf (decide (x 1 < 8) || x 1 % 8 != 0 || x 0 % 8 != 0 || (read && refSpace (x 2) != 2 && refSpace (x 2) != 3)) eRange,
      failIf (decide (x 1 ≤ 4096) && w.outBusy m (x 0) (x 1)) eBusy]
    ++ w.refCodes n (x 2) (x 1) 8 read)

/-- SLV_READ by task n; `e` is what the code of solver SRAM finds in the bytes read (R283). -/
def svcSlvRead (n : Nat) (e : Ecc) (m : Memory) (w : W) (x : Nat → Nat) : SvcOut :=
  let c := slvMoveCode n true m w x
  if c ≠ 0 then { w := w, code := c, page := slvMovePage c }
  else
    let (w, d) := sramRead (x 0) (x 1) e m (w.retWake 5)
    { w := w.refWrite n (x 2) d }

/-- SLV_WRITE by task n. -/
def svcSlvWrite (n : Nat) (m : Memory) (w : W) (x : Nat → Nat) : SvcOut :=
  let c := slvMoveCode n false m w x
  if c ≠ 0 then { w := w, code := c, page := slvMovePage c }
  else { w := (w.retWake 5).putBytes (x 0) (w.refBytes m n (x 2) (x 1)) }

/-! ## Sub-station bus -/

/-- The page that records a failure for a channel. -/
def chanPage (n : Nat) : Nat := if n ≤ 15 then canPage n else 0x19

/-- CAN_SEND by task n (R514, R541). While PD6 starts the frame may be submitted (R113), but no mailbox is free for it: ERR_FULL. -/
def svcCanSend (n : Nat) (m : Memory) (w : W) (x : Nat → Nat) : SvcOut :=
  let ch := x 0
  let len := x 2
  let idw := BitVec.ofNat 32 (x 1)
  let c := firstOf ([failIf (w.dom 6 != 1 && !w.gusting 0x19) eDomainOff,
      failIf (decide (ch ≤ 15) && (!w.canEn ch || w.canMute ch)) eState,
      failIf (decide (64 < len) || (decide (8 < len) && !bit idw 30)) eLen,
      failIf (decide (15 < ch) || (decide (len ≤ 64) && !canLenOk len true)) eRange]
    ++ w.refCodes n (x 3) len 4 false)
  if c ≠ 0 then { w := w, code := c, page := some (chanPage ch) }
  else
    let (w', code, mb) := w.canSend ch idw (w.refBytes m n (x 3) len) ((x 4).testBit 0)
    if code = 0 then { w := w', res := [mb] } else { w := w, code := code, page := some (chanPage ch) }

/-- CAN_RECV by task n (R555). -/
def svcCanRecv (n : Nat) (w : W) (x : Nat → Nat) : SvcOut :=
  let ch := x 0
  let c := firstOf ([failIf (w.dom 6 != 1) eDomainOff,
      failIf (decide (15 < ch) || decide (63 < x 1) || mbDir (w.mbox ch (x 1)) != 2) eRange] ++ w.refCodes n (x 2) 64 4 true)
  if c ≠ 0 then { w := w, code := c, page := some (chanPage ch) }
  else match w.canRecv ch (x 1) with
    | (w, some (idw, len, tsc, data)) => { w := w.refWrite n (x 2) data, res := [1, idw.toNat, len, tsc.toNat] }
    | (w, none) => { w := w, res := [0, 0, 0, 0] }

/-- CAN_STAT. -/
def svcCanStat (w : W) (x : Nat → Nat) : SvcOut :=
  let ch := x 0
  let c := firstOf [failIf (w.dom 6 != 1) eDomainOff, failIf (decide (15 < ch)) eRange]
  if c ≠ 0 then { w := w, code := c, page := some (chanPage ch) }
  else { w := w, res := [if (w.canCh ch).busoff then 2 else b2n (w.canPassive ch), w.tec ch, w.rec' ch] }

/-! ## Axes -/

/-- The page that records a failure for an axis. -/
def axErrPage (n : Nat) : Nat := if n ≤ 15 then axPage n else 0x2A

/-- AX_CMD (R575) by engine e. While PD7 starts, a command for an enabled axis is accepted within the bound of four and held
(R88, R113). -/
def svcAxCmd (e : Fin 4) (w : W) (x : Nat → Nat) : SvcOut :=
  let k := fun (i : Nat) => BitVec.ofNat 32 (x i)
  let off := 0x1000 * axPage (x 0) + 0x090
  let starts := w.gusting 0x2A
  let c := firstOf [failIf (w.dom 7 != 1 && !starts) eDomainOff, failIf (decide (15 < x 0)) eRange,
    failIf (starts && !w.rdB (R.H_CTRL (axPage (x 0))) 0) eState, failIf starts (w.heldCode off 0)]
  if c ≠ 0 then { w := w, code := c, page := some (axErrPage (x 0)) }
  else if starts then { w := w.holdOp ⟨false, .se e, off, 0, [k 1, k 2, k 3, k 4]⟩ }
  else
    let (w, code) := w.axSubmit (x 0) (k 1) (k 2) (k 3) (k 4)
    { w := w, code := code }

/-- AX_STAT (R615); position and velocity are signed 64-bit integers. -/
def svcAxStat (w : W) (x : Nat → Nat) : SvcOut :=
  let n := x 0
  let c := firstOf [failIf (w.dom 7 != 1) eDomainOff, failIf (decide (15 < n)) eRange]
  if c ≠ 0 then { w := w, code := c, page := some (axErrPage n) }
  else { w := w, res := [uns 64 (w.axPos (R.AX_XPOS n)), uns 64 (w.axPos (R.AX_VEL n)), (w.axAstat n).toNat, 4 - w.axInFlight n] }

/-! ## Quantities and the recorder -/

/-- QTY_READ (R512): the last complete freeze image and its FRZ_SEQ. -/
def svcQtyRead (w : W) (x : Nat → Nat) : SvcOut :=
  let s := x 0
  let c := firstOf [failIf (w.dom 2 != 1) eDomainOff, failIf (decide (167 < s)) eRange]
  if c ≠ 0 then { w := w, code := c, page := some 0x13 }
  else
    let hi := w.rd (R.QTY_Qs_VIEW_HI s)
    let seq := w.rd R.QTY_FRZ_SEQ
    { w := w, res := [w.rd64 (R.QTY_Qs_FINE s), w.rdN (R.QTY_Qs_VIEW s) + 2 ^ 32 * fld hi 0 8, fld hi 8 9,
                      (if w.qty.frz.isSome then seq - 1#32 else seq).toNat] }

/-- QTY_FREEZE (R259, R512). -/
def svcQtyFreeze (w : W) (_ : Nat → Nat) : SvcOut :=
  if w.dom 2 ≠ 1 then { w := w, code := eDomainOff, page := some 0x13 } else { w := w.freeze 1 }

/-- FLOW_IN (R244, R249, R512). -/
def svcFlowIn (w : W) (x : Nat → Nat) : SvcOut :=
  let c := firstOf [failIf (w.dom 2 != 1) eDomainOff, failIf (decide (7 < x 0) || !F64.isFin (x 1)) eRange]
  if c ≠ 0 then { w := w, code := c, page := some 0x13 } else { w := w.flowIn (x 0) (BitVec.ofNat 32 (F64.to32 (x 1))) }

/-- REC_TRIG (R777). -/
def svcRecTrig (w : W) (x : Nat → Nat) : SvcOut :=
  let (w, code) := w.recTrig (x 0) 1
  { w := w, code := code, page := some 0x07 }

/-! ## Safety -/

/-- SAF_REQ by task n (R516, R634): of a function that has another requester, or none, it is refused with ERR_PERM, whatever else is
wrong (R75). -/
def svcSafReq (n : Nat) (w : W) (x : Nat → Nat) : SvcOut :=
  let (w', ok) := w.safRequest n (x 0) (x 1 == 1)
  let c := firstOf [failIf (w.dom 3 != 1) eDomainOff, failIf (decide (x 0 ≤ 15) && !ok) ePerm,
    failIf (decide (15 < x 0 ∨ 1 < x 1)) eRange]
  if c ≠ 0 then { w := w, code := c, page := some 0x3C } else { w := w' }

/-- SAF_STAT. -/
def svcSafStat (w : W) (x : Nat → Nat) : SvcOut :=
  let c := firstOf [failIf (w.dom 3 != 1) eDomainOff, failIf (decide (15 < x 0)) eRange]
  if c ≠ 0 then { w := w, code := c, page := some 0x3C } else { w := w, res := [w.rdN (R.SAF_FUNC_STATf (x 0))] }

/-! ## Keys -/

/-- The job of a KEY_SUBMIT (R713, R515): its input is copied now. -/
def svcJob (n : Nat) (m : Memory) (w : W) (x : Nat → Nat) : SecJob :=
  { place := w.freePlace, host := false, task := n, worldS := (w.tk n).worldS, op := x 0, slot := nfld (x 1) 0 7,
    slot2 := nfld (x 1) 8 7, attr := BitVec.ofNat 32 (x 1 / 2 ^ 32), input := w.refBytes m n (x 2) (min (x 3) 4096),
    cap := x 5, out := x 4 }

/-- KEY_SUBMIT by task n (R515, R713, R717). While PD8 starts, the job is accepted within the bound of 16 and held (R88, R113);
the checks that need the keys then run at its start only. -/
def svcKeySubmit (n : Nat) (m : Memory) (w : W) (x : Nat → Nat) : SvcOut :=
  let j := svcJob n m w x
  let starts := w.gusting 0x3D
  let c := firstOf ([failIf (w.dom 8 != 1 && !starts) eDomainOff,
      failIf (decide (4096 < x 3) || decide (512 < x 5)) eLen,
      failIf ((x 1).testBit 7 || nfld (x 1) 15 17 != 0 || (refSpace (x 4) != 2 && refSpace (x 4) != 3)) eRange,
      failIf (decide (16 ≤ w.key.jobs.length + (if starts then w.heldIn R.KEY_RING_DB else 0))) eFull,
      if starts then 0 else w.secCode j true]
    ++ w.refCodes n (x 2) (x 3) 1 false ++ w.refCodes n (x 4) (x 5) 1 true)
  if c ≠ 0 then { w := w, code := c, page := some 0x3D }
  else { w := ({ w with key.jobs := w.key.jobs ++ [j] }).keySync, res := [j.place] }

/-- KEY_POLL by task n (R515): the status and the length of a job that is not done are free. -/
def svcKeyPoll (n : Nat) (w : W) (x : Nat → Nat) : SvcOut :=
  let job := w.key.jobs.find? fun j => j.place == x 0 && !j.host && j.task == n && !j.orphan
  if w.dom 8 ≠ 1 then { w := w, code := eDomainOff, page := some 0x3D }
  else match job with
    | none => { w := w, code := eRange, page := some 0x3D }
    | some j =>
      if j.state ≠ 3 then
        let (w, s) := w.fresh 64
        let (w, k) := w.fresh 64
        { w := w, res := [j.state, s, k] }
      else
        let w := w.refWrite n j.out j.output
        { w := ({ w with key.jobs := w.key.jobs.filter fun y => y.place != j.place }).keySync,
          res := [3, j.status, j.output.length] }

/-- KEY_RANDOM (R729). -/
def svcKeyRandom (w : W) (_ : Nat → Nat) : SvcOut :=
  let c := firstOf [failIf (w.dom 8 != 1) eDomainOff, failIf w.zeroised eSquall, failIf (!w.rngReady) eState]
  if c ≠ 0 then { w := w, code := c, page := some 0x3D }
  else let (w, b) := w.rand 8; { w := w, res := [leNat b] }

end W

end Sys2Proof.Machine
end

