-- ==== Sys2Proof/Machine/SysCmd.lean ====
section
/-!
DEFINITION. the SYS services of Breeze code (R508 to R516): SYS d, a, n of engine e
-/
namespace Sys2Proof.Machine

/-- TSC_NOW: SYS service TSC_NOW returns the present TSC (R511). -/
def execSysTscNow (e : Fin 4) (d a : Fin 64) (s : State) : Out := run (fun _ w => w.sys e 0x001 d a W.svcTsc) s

/-- RTC_READ: SYS service RTC_READ returns the RTC seconds and sub-second (R511). -/
def execSysRtcRead (e : Fin 4) (d a : Fin 64) (sub : Fin 32768) (s : State) : Out :=
  run (fun _ w => w.sys e 0x002 d a (W.svcRtc sub)) s

/-- REG_READ: SYS service REG_READ reads a register or register pair (R511). -/
def execSysRegRead (e : Fin 4) (d a : Fin 64) (s : State) : Out := run (fun _ w => w.sys e 0x003 d a (W.svcReg e)) s

/-- SLV_SUBMIT: SYS service SLV_SUBMIT submits a solver descriptor (R322). -/
def execSysSlvSubmit (e : Fin 4) (d a : Fin 64) (s : State) : Out := run (fun _ w => w.sys e 0x010 d a W.svcSubmit) s

/-- SLV_STATUS: SYS service SLV_STATUS returns a descriptor's status block (R513). -/
def execSysSlvStatus (e : Fin 4) (d a : Fin 64) (x : Ecc) (s : State) : Out :=
  run (fun m w => w.sys e 0x011 d a (W.svcStatus x m)) s

/-- SLV_READ: SYS service SLV_READ copies solver SRAM into LOC or RET (R513). -/
def execSysSlvRead (e : Fin 4) (d a : Fin 64) (x : Ecc) (s : State) : Out :=
  run (fun m w => w.sys e 0x012 d a (W.svcSlvRead e x m)) s

/-- SLV_WRITE: SYS service SLV_WRITE copies data into solver SRAM (R513). -/
def execSysSlvWrite (e : Fin 4) (d a : Fin 64) (ev : MemEv) (s : State) : Out :=
  run (fun m w => w.sys e 0x013 d a (W.svcSlvWrite e m) ev 2) s

/-- CAN_SEND: SYS service CAN_SEND queues a frame in a free SYS mailbox (R541). -/
def execSysCanSend (e : Fin 4) (d a : Fin 64) (ev : MemEv) (s : State) : Out :=
  run (fun m w => w.sys e 0x020 d a (W.svcCanSend e m) ev 3) s

/-- CAN_RECV: SYS service CAN_RECV copies and releases a full receive mailbox (R555). -/
def execSysCanRecv (e : Fin 4) (d a : Fin 64) (s : State) : Out := run (fun _ w => w.sys e 0x021 d a (W.svcCanRecv e)) s

/-- CAN_STAT: SYS service CAN_STAT returns a channel's error state and counters (R511). -/
def execSysCanStat (e : Fin 4) (d a : Fin 64) (s : State) : Out := run (fun _ w => w.sys e 0x022 d a W.svcCanStat) s

/-- AX_CMD: SYS service AX_CMD submits one motion command (R575). -/
def execSysAxCmd (e : Fin 4) (d a : Fin 64) (s : State) : Out := run (fun _ w => w.sys e 0x030 d a (W.svcAxCmd e)) s

/-- AX_STAT: SYS service AX_STAT returns an axis's position, velocity and status (R615). -/
def execSysAxStat (e : Fin 4) (d a : Fin 64) (s : State) : Out := run (fun _ w => w.sys e 0x031 d a W.svcAxStat) s

/-- QTY_READ: SYS service QTY_READ returns a slot's values from one freeze image (R512). -/
def execSysQtyRead (e : Fin 4) (d a : Fin 64) (s : State) : Out := run (fun _ w => w.sys e 0x040 d a W.svcQtyRead) s

/-- QTY_FREEZE: SYS service QTY_FREEZE requests a freeze (R512). -/
def execSysQtyFreeze (e : Fin 4) (d a : Fin 64) (s : State) : Out := run (fun _ w => w.sys e 0x041 d a W.svcQtyFreeze) s

/-- FLOW_IN: SYS service FLOW_IN writes a thermal point's bus flow (R512). -/
def execSysFlowIn (e : Fin 4) (d a : Fin 64) (s : State) : Out := run (fun _ w => w.sys e 0x042 d a W.svcFlowIn) s

/-- REC_TRIG: SYS service REC_TRIG fires a recorder trigger (R777). -/
def execSysRecTrig (e : Fin 4) (d a : Fin 64) (s : State) : Out := run (fun _ w => w.sys e 0x050 d a W.svcRecTrig) s

/-- SAF_REQ: SYS service SAF_REQ requests or drops a safety function's enable (R516). -/
def execSysSafReq (e : Fin 4) (d a : Fin 64) (s : State) : Out := run (fun _ w => w.sys e 0x060 d a (W.svcSafReq e)) s

/-- SAF_STAT: SYS service SAF_STAT returns a safety function's status word (R511). -/
def execSysSafStat (e : Fin 4) (d a : Fin 64) (s : State) : Out := run (fun _ w => w.sys e 0x061 d a W.svcSafStat) s

/-- KEY_SUBMIT: SYS service KEY_SUBMIT submits a security job and returns a handle (R515). -/
def execSysKeySubmit (e : Fin 4) (d a : Fin 64) (ev : MemEv) (s : State) : Out :=
  run (fun m w => w.sys e 0x070 d a (W.svcKeySubmit e m) ev 2) s

/-- KEY_POLL: SYS service KEY_POLL reports a job's state and collects its output (R515). -/
def execSysKeyPoll (e : Fin 4) (d a : Fin 64) (s : State) : Out := run (fun _ w => w.sys e 0x071 d a (W.svcKeyPoll e)) s

/-- KEY_RANDOM: SYS service KEY_RANDOM returns 64 random bits (R511). -/
def execSysKeyRandom (e : Fin 4) (d a : Fin 64) (s : State) : Out := run (fun _ w => w.sys e 0x072 d a W.svcKeyRandom) s

end Sys2Proof.Machine
end

