-- ==== Sys2Proof/Machine/TwinCmd.lean ====
section
/-!
DEFINITION. The commands of the twin, its links and its claims (chapter 15).
-/
namespace Sys2Proof.Machine

/-- CLAIM_ROUND_TIMER: 1,000 µs after the previous round, with CLM high, a TWIN unit starts a claim round (R665). -/
def execClaimRoundTimer (okIn : Bool) (s : State) : Out := run (fun _ w => (w.twinOkIn okIn).startRound) s

/-- CLM_FALL: A falling edge on CLM after 3 µs high starts a round for every unit (R665). -/
def execClmFall (s : State) : Out := run (fun _ w => w.startRound) s

/-- CLAIM_ROUND_END: A claim round ends: the winner enables its pads, losers disable theirs, LAST_WIN is stored (R666). -/
def execClaimRoundEnd (line : BitVec 16) (endLow : Bool) (s : State) : Out :=
  run (fun _ w => w.claimRoundEnd line.toNat endLow) s

/-- TWIN_OK_IN_FALL: TWIN_OK_IN falls and a healthy unit without a claim starts a fast takeover round (R676). -/
def execTwinOkInFall (s : State) : Out := run (fun _ w => w.twinOkFall) s

/-- RECLAIM_HOLDOFF_EXPIRY: The preferred unit has been healthy for HOLDOFF seconds and may offer a reclaim (R677). -/
def execReclaimHoldoffExpiry (s : State) : Out := run (fun _ w => w.reclaimHoldoff) s

/-- RECLAIM_WINDOW_EXPIRY: A reclaim falls out of the 86,400 s window and RECLAIMS decreases (R678). -/
def execReclaimWindowExpiry (s : State) : Out := run (fun _ w => w.reclaimExpiry) s

/-- CLAIM_LISTEN_EXPIRY: 3 ms after RED is enabled in TWIN mode the unit may begin to offer (R680). -/
def execClaimListenExpiry (okIn : Bool) (s : State) : Out := run (fun _ w => w.listenExpiry okIn) s

/-- PAIRING_TIMEOUT: Pairing has not completed after 2 s and the unit offers with UNPAIRED_START (R680). -/
def execPairingTimeout (s : State) : Out := run (fun _ w => w.pairingTimeout) s

/-- CROSSWIND_COPY_RECEIVE: The standby receives a task copy message into its Crosswind area, or marks the task STALE (R682). -/
def execCrosswindCopyReceive (n : Fin 4) (c : CwCopy) (good : Bool) (errs : Fin 4) (s : State) : Out :=
  run (fun _ w => w.copyReceive n.val c good errs.val) s

/-- MSG_RX: A link message is delivered into a free receive slot on the partner (R691). -/
def execMsgRx (p : Fin 4) (rx : Option LinkRx) (errs : Fin 4) (s : State) : Out :=
  run (fun m w => match rx with
    | some r => w.msgReceive p.val r.tag r.pos r.data errs.val
    | none => w.msgDelivered p.val errs.val m) s

/-- TIME_SYNC_EXCHANGE: Every 1 ms a follower exchanges timestamps with its source and corrects its TSC (R693). -/
def execTimeSyncExchange (p : Fin 4) (t1 t2 t3 t4 : Int) (claim : Bool) (retries errs : Fin 4)
    (s : State) : Out :=
  run (fun _ w => w.timeExchange p.val t1 t2 t3 t4 claim retries.val errs.val) s

/-- CLAIM_BIT_LOST: At the sample of a claim bit a unit that released CLM reads it low, loses the round, stops offering and disables its claim-gated pads within 2 µs (R666). -/
def execClaimBitLost (i : Fin 16) (s : State) : Out := run (fun _ w => w.claimBitLost i.val) s

end Sys2Proof.Machine
end

