-- ==== Sys2Proof/Machine/Dispatch.lean ====
section
/-!
DEFINITION. The dispatch: one arm for each command, a direct call of its meaning.
-/
namespace Sys2Proof.Machine

/-- The effect of a command on everything but the queue of waiting commands. -/
def exec (i : Instr) (s : State) : Host.Outcome State Fault Refusal :=
  match i with
  | .registerWrite off len v x => Sys2Proof.Machine.execRegisterWrite off len v x s
  | .registerPairRead off e => Sys2Proof.Machine.execRegisterPairRead off e s
  | .registerPairWrite off v x => Sys2Proof.Machine.execRegisterPairWrite off v x s
  | .hostBar2Write off d => Sys2Proof.Machine.execHostBar2Write off d s
  | .hostBar4Write off d => Sys2Proof.Machine.execHostBar4Write off d s
  | .hostMemRead bar off len e => Sys2Proof.Machine.execHostMemRead bar off len e s
  | .domainRetentionExit => Sys2Proof.Machine.execDomainRetentionExit s
  | .blockEnable pg x => Sys2Proof.Machine.execBlockEnable pg x s
  | .blockDisable pg x => Sys2Proof.Machine.execBlockDisable pg x s
  | .softReset pg en x => Sys2Proof.Machine.execSoftReset pg en x s
  | .softResetDone pg => Sys2Proof.Machine.execSoftResetDone pg s
  | .evtEnWrite pg v => Sys2Proof.Machine.execEvtEnWrite pg v s
  | .evtPendClear pg v arriving => Sys2Proof.Machine.execEvtPendClear pg v arriving s
  | .evtSet pg v => Sys2Proof.Machine.execEvtSet pg v s
  | .evtlatClear k v arriving => Sys2Proof.Machine.execEvtlatClear k v arriving s
  | .evtMaskWrite off v => Sys2Proof.Machine.execEvtMaskWrite off v s
  | .lockKeyFirst pg => Sys2Proof.Machine.execLockKeyFirst pg s
  | .lockKeySecond pg => Sys2Proof.Machine.execLockKeySecond pg s
  | .lockOtherWrite pg v => Sys2Proof.Machine.execLockOtherWrite pg v s
  | .unlockBudgetExpiry pg => Sys2Proof.Machine.execUnlockBudgetExpiry pg s
  | .powerOnReset => Sys2Proof.Machine.execPowerOnReset s
  | .brownOutReset => Sys2Proof.Machine.execBrownOutReset s
  | .brownOutRelease => Sys2Proof.Machine.execBrownOutRelease s
  | .externalReset => Sys2Proof.Machine.execExternalReset s
  | .watchdogReset => Sys2Proof.Machine.execWatchdogReset s
  | .wdtWarn => Sys2Proof.Machine.execWdtWarn s
  | .softwareReset => Sys2Proof.Machine.execSoftwareReset s
  | .startup x => Sys2Proof.Machine.execStartup x s
  | .bootGo persist x => Sys2Proof.Machine.execBootGo persist x s
  | .regFault b => Sys2Proof.Machine.execRegFault b s
  | .xtmFail => Sys2Proof.Machine.execXtmFail s
  | .lullEntry last => Sys2Proof.Machine.execLullEntry last s
  | .stateReqNone => Sys2Proof.Machine.execStateReqNone s
  | .stateReqReserved => Sys2Proof.Machine.execStateReqReserved s
  | .deepLullRequest => Sys2Proof.Machine.execDeepLullRequest s
  | .offRequest => Sys2Proof.Machine.execOffRequest s
  | .offEntryComplete => Sys2Proof.Machine.execOffEntryComplete s
  | .deepLullEntryComplete => Sys2Proof.Machine.execDeepLullEntryComplete s
  | .wakeNLow => Sys2Proof.Machine.execWakeNLow s
  | .wakeHoldExpiry => Sys2Proof.Machine.execWakeHoldExpiry s
  | .gustComplete d rngOk siA siB x => Sys2Proof.Machine.execGustComplete d rngOk siA siB x s
  | .pd5HoldoffExpiry => Sys2Proof.Machine.execPd5HoldoffExpiry s
  | .earlyWarningAssert => Sys2Proof.Machine.execEarlyWarningAssert s
  | .earlyWarningDeassert => Sys2Proof.Machine.execEarlyWarningDeassert s
  | .ckptPeriodic => Sys2Proof.Machine.execCkptPeriodic s
  | .ckptNow => Sys2Proof.Machine.execCkptNow s
  | .ckptPeriodWrite v => Sys2Proof.Machine.execCkptPeriodWrite v s
  | .ckptRetry => Sys2Proof.Machine.execCkptRetry s
  | .ckptComplete ok => Sys2Proof.Machine.execCkptComplete ok s
  | .roSample site nStressed nReference => Sys2Proof.Machine.execRoSample site nStressed nReference s
  | .xtalMeasure dev => Sys2Proof.Machine.execXtalMeasure dev s
  | .plannerRunScheduled c steps bySet => Sys2Proof.Machine.execPlannerRunScheduled c steps bySet s
  | .plannerRunTsc c steps => Sys2Proof.Machine.execPlannerRunTsc c steps s
  | .plannerRunNow c steps => Sys2Proof.Machine.execPlannerRunNow c steps s
  | .remapComplete ces ues => Sys2Proof.Machine.execRemapComplete ces ues s
  | .wcntFlush => Sys2Proof.Machine.execWcntFlush s
  | .sramScrubPass ces ues => Sys2Proof.Machine.execSramScrubPass ces ues s
  | .mramScrubPass ces ues => Sys2Proof.Machine.execMramScrubPass ces ues s
  | .selfTest => Sys2Proof.Machine.execSelfTest s
  | .meterOutputPeriod vin ext slice => Sys2Proof.Machine.execMeterOutputPeriod vin ext slice s
  | .correctionBlockEnd ch => Sys2Proof.Machine.execCorrectionBlockEnd ch s
  | .corrCommit v => Sys2Proof.Machine.execCorrCommit v s
  | .trackerWindowEnd t => Sys2Proof.Machine.execTrackerWindowEnd t s
  | .captBlock => Sys2Proof.Machine.execCaptBlock s
  | .rtdSlotEnd k vs vr vref compliance => Sys2Proof.Machine.execRtdSlotEnd k vs vr vref compliance s
  | .rtdDone za zb zref => Sys2Proof.Machine.execRtdDone za zb zref s
  | .pulseEdgeAccepted n level accepted sample => Sys2Proof.Machine.execPulseEdgeAccepted n level accepted sample s
  | .electricalStepEnd => Sys2Proof.Machine.execElectricalStepEnd s
  | .hostFlowInWrite h v => Sys2Proof.Machine.execHostFlowInWrite h v s
  | .preset slot => Sys2Proof.Machine.execPreset slot s
  | .freezeNow => Sys2Proof.Machine.execFreezeNow s
  | .freezePeriodic => Sys2Proof.Machine.execFreezePeriodic s
  | .freezeDone => Sys2Proof.Machine.execFreezeDone s
  | .intvEnd => Sys2Proof.Machine.execIntvEnd s
  | .rollClear slot => Sys2Proof.Machine.execRollClear slot s
  | .maxdemReset v => Sys2Proof.Machine.execMaxdemReset v s
  | .storePeriodic => Sys2Proof.Machine.execStorePeriodic s
  | .storeNow => Sys2Proof.Machine.execStoreNow s
  | .storeComplete ok => Sys2Proof.Machine.execStoreComplete ok s
  | .harmonicWindowEnd => Sys2Proof.Machine.execHarmonicWindowEnd s
  | .hrmDone => Sys2Proof.Machine.execHrmDone s
  | .slvRingDoorbell k x => Sys2Proof.Machine.execSlvRingDoorbell k x s
  | .armEvent n => Sys2Proof.Machine.execArmEvent n s
  | .armSlotEnable a v => Sys2Proof.Machine.execArmSlotEnable a v s
  | .jobStart partners waited ces ues time => Sys2Proof.Machine.execJobStart partners waited ces ues time s
  | .jobComplete coupling creg => Sys2Proof.Machine.execJobComplete coupling creg s
  | .jobTimeout iter => Sys2Proof.Machine.execJobTimeout iter s
  | .splitServeRequest x => Sys2Proof.Machine.execSplitServeRequest x s
  | .splitMessage off data => Sys2Proof.Machine.execSplitMessage off data s
  | .splitTimeout dropped => Sys2Proof.Machine.execSplitTimeout dropped s
  | .splitServeEnd => Sys2Proof.Machine.execSplitServeEnd s
  | .cycleLatch n c1 c2 ces ues => Sys2Proof.Machine.execCycleLatch n c1 c2 ces ues s
  | .triadWaitExpiry n => Sys2Proof.Machine.execTriadWaitExpiry n s
  | .taskWatchdog n => Sys2Proof.Machine.execTaskWatchdog n s
  | .startWarm n edge sub => Sys2Proof.Machine.execStartWarm n edge sub s
  | .startCold n edge sub => Sys2Proof.Machine.execStartCold n edge sub s
  | .taskStop n => Sys2Proof.Machine.execTaskStop n s
  | .clearFault n => Sys2Proof.Machine.execClearFault n s
  | .gpioInputAccept ix level => Sys2Proof.Machine.execGpioInputAccept ix level s
  | .gpioOutWrite v => Sys2Proof.Machine.execGpioOutWrite v s
  | .gpioOutSet v => Sys2Proof.Machine.execGpioOutSet v s
  | .gpioOutClr v => Sys2Proof.Machine.execGpioOutClr v s
  | .stationUpdate ix => Sys2Proof.Machine.execStationUpdate ix s
  | .stationWindowTimeout ix => Sys2Proof.Machine.execStationWindowTimeout ix s
  | .forceEntryWrite ix v => Sys2Proof.Machine.execForceEntryWrite ix v s
  | .forceClearAll => Sys2Proof.Machine.execForceClearAll s
  | .forceClearOrphans => Sys2Proof.Machine.execForceClearOrphans s
  | .onlineChange bank x => Sys2Proof.Machine.execOnlineChange bank x s
  | .bzNop e => Sys2Proof.Machine.execBzNop e s
  | .bzCend e d3 d4 current c1 c2 => Sys2Proof.Machine.execBzCend e d3 d4 current c1 c2 s
  | .bzRet e => Sys2Proof.Machine.execBzRet e s
  | .bzMff e d => Sys2Proof.Machine.execBzMff e d s
  | .bzMtf e a => Sys2Proof.Machine.execBzMtf e a s
  | .bzSel e d a b c => Sys2Proof.Machine.execBzSel e d a b c s
  | .bzSetc e d c => Sys2Proof.Machine.execBzSetc e d c s
  | .bzAdd e d a b => Sys2Proof.Machine.execBzAdd e d a b s
  | .bzSub e d a b => Sys2Proof.Machine.execBzSub e d a b s
  | .bzMul e d a b => Sys2Proof.Machine.execBzMul e d a b s
  | .bzMulh e d a b => Sys2Proof.Machine.execBzMulh e d a b s
  | .bzDiv e d a b => Sys2Proof.Machine.execBzDiv e d a b s
  | .bzDivu e d a b => Sys2Proof.Machine.execBzDivu e d a b s
  | .bzRem e d a b => Sys2Proof.Machine.execBzRem e d a b s
  | .bzCmp e a b => Sys2Proof.Machine.execBzCmp e a b s
  | .bzAnd e d a b => Sys2Proof.Machine.execBzAnd e d a b s
  | .bzOr e d a b => Sys2Proof.Machine.execBzOr e d a b s
  | .bzXor e d a b => Sys2Proof.Machine.execBzXor e d a b s
  | .bzShl e d a b => Sys2Proof.Machine.execBzShl e d a b s
  | .bzShr e d a b => Sys2Proof.Machine.execBzShr e d a b s
  | .bzSar e d a b => Sys2Proof.Machine.execBzSar e d a b s
  | .bzMin e d a b => Sys2Proof.Machine.execBzMin e d a b s
  | .bzMax e d a b => Sys2Proof.Machine.execBzMax e d a b s
  | .bzAbs e d a => Sys2Proof.Machine.execBzAbs e d a s
  | .bzNeg e d a => Sys2Proof.Machine.execBzNeg e d a s
  | .bzMadd e d a b x => Sys2Proof.Machine.execBzMadd e d a b x s
  | .bzTst e a b => Sys2Proof.Machine.execBzTst e a b s
  | .bzMovi e d imm => Sys2Proof.Machine.execBzMovi e d imm s
  | .bzIns e d a imm => Sys2Proof.Machine.execBzIns e d a imm s
  | .bzAddi e d a imm => Sys2Proof.Machine.execBzAddi e d a imm s
  | .bzCmpi e a imm => Sys2Proof.Machine.execBzCmpi e a imm s
  | .bzAndi e d a imm => Sys2Proof.Machine.execBzAndi e d a imm s
  | .bzOri e d a imm => Sys2Proof.Machine.execBzOri e d a imm s
  | .bzXori e d a imm => Sys2Proof.Machine.execBzXori e d a imm s
  | .bzShli e d a imm => Sys2Proof.Machine.execBzShli e d a imm s
  | .bzShri e d a imm => Sys2Proof.Machine.execBzShri e d a imm s
  | .bzSari e d a imm => Sys2Proof.Machine.execBzSari e d a imm s
  | .bzExtu e d a imm => Sys2Proof.Machine.execBzExtu e d a imm s
  | .bzExts e d a imm => Sys2Proof.Machine.execBzExts e d a imm s
  | .bzDep e d a imm => Sys2Proof.Machine.execBzDep e d a imm s
  | .bzFadd e d a b => Sys2Proof.Machine.execBzFadd e d a b s
  | .bzFsub e d a b => Sys2Proof.Machine.execBzFsub e d a b s
  | .bzFmul e d a b => Sys2Proof.Machine.execBzFmul e d a b s
  | .bzFdiv e d a b => Sys2Proof.Machine.execBzFdiv e d a b s
  | .bzFma e d a b x => Sys2Proof.Machine.execBzFma e d a b x s
  | .bzFsqrt e d a => Sys2Proof.Machine.execBzFsqrt e d a s
  | .bzFmin e d a b => Sys2Proof.Machine.execBzFmin e d a b s
  | .bzFmax e d a b => Sys2Proof.Machine.execBzFmax e d a b s
  | .bzFabs e d a => Sys2Proof.Machine.execBzFabs e d a s
  | .bzFneg e d a => Sys2Proof.Machine.execBzFneg e d a s
  | .bzFcmp e a b => Sys2Proof.Machine.execBzFcmp e a b s
  | .bzItof e d a => Sys2Proof.Machine.execBzItof e d a s
  | .bzFtoi e d a => Sys2Proof.Machine.execBzFtoi e d a s
  | .bzFtoit e d a => Sys2Proof.Machine.execBzFtoit e d a s
  | .bzFclamp e d a b x => Sys2Proof.Machine.execBzFclamp e d a b x s
  | .bzLd e sp ty d base off ev => Sys2Proof.Machine.execBzLd e sp ty d base off ev s
  | .bzLdx e sp d base off ev => Sys2Proof.Machine.execBzLdx e sp d base off ev s
  | .bzSt e sp ty d base off ev => Sys2Proof.Machine.execBzSt e sp ty d base off ev s
  | .bzB e c off => Sys2Proof.Machine.execBzB e c off s
  | .bzCall e off => Sys2Proof.Machine.execBzCall e off s
  | .fbTon e r d a b x ev => Sys2Proof.Machine.execFbTon e r d a b x ev s
  | .fbTof e r d a b x ev => Sys2Proof.Machine.execFbTof e r d a b x ev s
  | .fbTp e r d a b x ev => Sys2Proof.Machine.execFbTp e r d a b x ev s
  | .fbCtu e r d a b x ev => Sys2Proof.Machine.execFbCtu e r d a b x ev s
  | .fbCtd e r d a b x ev => Sys2Proof.Machine.execFbCtd e r d a b x ev s
  | .fbCtud e r d a b x ev => Sys2Proof.Machine.execFbCtud e r d a b x ev s
  | .fbRTrig e r d a b x ev => Sys2Proof.Machine.execFbRTrig e r d a b x ev s
  | .fbFTrig e r d a b x ev => Sys2Proof.Machine.execFbFTrig e r d a b x ev s
  | .fbPid e r d a b x ev => Sys2Proof.Machine.execFbPid e r d a b x ev s
  | .fbLim e r d a b x ev => Sys2Proof.Machine.execFbLim e r d a b x ev s
  | .sysTscNow e d a => Sys2Proof.Machine.execSysTscNow e d a s
  | .sysRtcRead e d a sub => Sys2Proof.Machine.execSysRtcRead e d a sub s
  | .sysRegRead e d a => Sys2Proof.Machine.execSysRegRead e d a s
  | .sysSlvSubmit e d a => Sys2Proof.Machine.execSysSlvSubmit e d a s
  | .sysSlvStatus e d a x => Sys2Proof.Machine.execSysSlvStatus e d a x s
  | .sysSlvRead e d a x => Sys2Proof.Machine.execSysSlvRead e d a x s
  | .sysSlvWrite e d a ev => Sys2Proof.Machine.execSysSlvWrite e d a ev s
  | .sysCanSend e d a ev => Sys2Proof.Machine.execSysCanSend e d a ev s
  | .sysCanRecv e d a => Sys2Proof.Machine.execSysCanRecv e d a s
  | .sysCanStat e d a => Sys2Proof.Machine.execSysCanStat e d a s
  | .sysAxCmd e d a => Sys2Proof.Machine.execSysAxCmd e d a s
  | .sysAxStat e d a => Sys2Proof.Machine.execSysAxStat e d a s
  | .sysQtyRead e d a => Sys2Proof.Machine.execSysQtyRead e d a s
  | .sysQtyFreeze e d a => Sys2Proof.Machine.execSysQtyFreeze e d a s
  | .sysFlowIn e d a => Sys2Proof.Machine.execSysFlowIn e d a s
  | .sysRecTrig e d a => Sys2Proof.Machine.execSysRecTrig e d a s
  | .sysSafReq e d a => Sys2Proof.Machine.execSysSafReq e d a s
  | .sysSafStat e d a => Sys2Proof.Machine.execSysSafStat e d a s
  | .sysKeySubmit e d a ev => Sys2Proof.Machine.execSysKeySubmit e d a ev s
  | .sysKeyPoll e d a => Sys2Proof.Machine.execSysKeyPoll e d a s
  | .sysKeyRandom e d a => Sys2Proof.Machine.execSysKeyRandom e d a s
  | .canIntegrationDone n => Sys2Proof.Machine.execCanIntegrationDone n s
  | .canDisableDone n => Sys2Proof.Machine.execCanDisableDone n s
  | .canTxRequest n b => Sys2Proof.Machine.execCanTxRequest n b s
  | .canTxAbort n b => Sys2Proof.Machine.execCanTxAbort n b s
  | .canMailboxWrite n k v => Sys2Proof.Machine.execCanMailboxWrite n k v s
  | .canArbitrationStart n dly ues => Sys2Proof.Machine.execCanArbitrationStart n dly ues s
  | .canFrameTransmitted n tdcv => Sys2Proof.Machine.execCanFrameTransmitted n tdcv s
  | .canFrameError n e tdcv => Sys2Proof.Machine.execCanFrameError n e tdcv s
  | .alone n => Sys2Proof.Machine.execAlone n s
  | .canFrameReceived n f sof => Sys2Proof.Machine.execCanFrameReceived n f sof s
  | .claimWaitExpiry n slot => Sys2Proof.Machine.execClaimWaitExpiry n slot s
  | .canRecover n => Sys2Proof.Machine.execCanRecover n s
  | .canRecoveryDone n => Sys2Proof.Machine.execCanRecoveryDone n s
  | .canRxLock n b => Sys2Proof.Machine.execCanRxLock n b s
  | .canRxRelease n b => Sys2Proof.Machine.execCanRxRelease n b s
  | .hpLock n => Sys2Proof.Machine.execHpLock n s
  | .hpRel n => Sys2Proof.Machine.execHpRel n s
  | .axCmdDoorbell n k => Sys2Proof.Machine.execAxCmdDoorbell n k s
  | .axMoveAbs n now tag a0 a1 => Sys2Proof.Machine.execAxMoveAbs n now tag a0 a1 s
  | .axMoveRel n now tag a0 a1 => Sys2Proof.Machine.execAxMoveRel n now tag a0 a1 s
  | .axJog n now tag a0 => Sys2Proof.Machine.execAxJog n now tag a0 s
  | .axStop n now tag a0 => Sys2Proof.Machine.execAxStop n now tag a0 s
  | .axHome n now tag a0 a1 a2 => Sys2Proof.Machine.execAxHome n now tag a0 a1 a2 s
  | .axSetPos n now tag a0 => Sys2Proof.Machine.execAxSetPos n now tag a0 s
  | .axDwell n now tag a0 => Sys2Proof.Machine.execAxDwell n now tag a0 s
  | .axisUpdate n vA vB diag clocks => Sys2Proof.Machine.execAxisUpdate n vA vB diag clocks s
  | .dwellElapsed n => Sys2Proof.Machine.execDwellElapsed n s
  | .holdCurrentExpiry d => Sys2Proof.Machine.execHoldCurrentExpiry d s
  | .chopComparatorTrip d coilB v => Sys2Proof.Machine.execChopComparatorTrip d coilB v s
  | .chopOffExpiry d coilB => Sys2Proof.Machine.execChopOffExpiry d coilB s
  | .overcurrentTrip d coilB v => Sys2Proof.Machine.execOvercurrentTrip d coilB v s
  | .axisDiagActive n level => Sys2Proof.Machine.execAxisDiagActive n level s
  | .stallDetected n => Sys2Proof.Machine.execStallDetected n s
  | .axisStopRamp n => Sys2Proof.Machine.execAxisStopRamp n s
  | .axisStopImmediate n => Sys2Proof.Machine.execAxisStopImmediate n s
  | .profileParamWrite n k v => Sys2Proof.Machine.execProfileParamWrite n k v s
  | .papplyNow n => Sys2Proof.Machine.execPapplyNow n s
  | .axisFaultClear n vA vB diag => Sys2Proof.Machine.execAxisFaultClear n vA vB diag s
  | .safetyInputFiltered chanB ix pinB level => Sys2Proof.Machine.execSafetyInputFiltered chanB ix pinB level s
  | .sfsPeriod smA edmA smB edmB dev => Sys2Proof.Machine.execSfsPeriod smA edmA smB edmB dev s
  | .discrepancy ix => Sys2Proof.Machine.execDiscrepancy ix s
  | .testPulseStart k => Sys2Proof.Machine.execTestPulseStart k s
  | .testPulseCheck k aA aB bA bB => Sys2Proof.Machine.execTestPulseCheck k aA aB bA bB s
  | .outputTestStart n => Sys2Proof.Machine.execOutputTestStart n s
  | .outputTestEnd lowA lowB => Sys2Proof.Machine.execOutputTestEnd lowA lowB s
  | .outputMonitorFault n chanB => Sys2Proof.Machine.execOutputMonitorFault n chanB s
  | .edmFault n chanB => Sys2Proof.Machine.execEdmFault n chanB s
  | .stopDelayExpiry f => Sys2Proof.Machine.execStopDelayExpiry f s
  | .claimRoundTimer okIn => Sys2Proof.Machine.execClaimRoundTimer okIn s
  | .clmFall => Sys2Proof.Machine.execClmFall s
  | .claimRoundEnd line endLow => Sys2Proof.Machine.execClaimRoundEnd line endLow s
  | .twinOkInFall => Sys2Proof.Machine.execTwinOkInFall s
  | .relinquish => Sys2Proof.Machine.execRelinquish s
  | .resume => Sys2Proof.Machine.execResume s
  | .unlatch => Sys2Proof.Machine.execUnlatch s
  | .resync => Sys2Proof.Machine.execResync s
  | .reclaimHoldoffExpiry => Sys2Proof.Machine.execReclaimHoldoffExpiry s
  | .reclaimWindowExpiry => Sys2Proof.Machine.execReclaimWindowExpiry s
  | .claimListenExpiry okIn => Sys2Proof.Machine.execClaimListenExpiry okIn s
  | .pairingTimeout => Sys2Proof.Machine.execPairingTimeout s
  | .crosswindCopyReceive n c good errs => Sys2Proof.Machine.execCrosswindCopyReceive n c good errs s
  | .linkTrained j rpos rport inv third peer => Sys2Proof.Machine.execLinkTrained j rpos rport inv third peer s
  | .linkError j laneLost third => Sys2Proof.Machine.execLinkError j laneLost third s
  | .linkMsgDoorbell j k x => Sys2Proof.Machine.execLinkMsgDoorbell j k x s
  | .msgRx p rx errs => Sys2Proof.Machine.execMsgRx p rx errs s
  | .linkRxSlotClear j v => Sys2Proof.Machine.execLinkRxSlotClear j v s
  | .timeSyncExchange p t1 t2 t3 t4 claim retries errs => Sys2Proof.Machine.execTimeSyncExchange p t1 t2 t3 t4 claim retries errs s
  | .keyRingDoorbell k x => Sys2Proof.Machine.execKeyRingDoorbell k x s
  | .keyJobStart => Sys2Proof.Machine.execKeyJobStart s
  | .keyJobComplete => Sys2Proof.Machine.execKeyJobComplete s
  | .secGenSym => Sys2Proof.Machine.execSecGenSym s
  | .secGenEc => Sys2Proof.Machine.execSecGenEc s
  | .secImportPub => Sys2Proof.Machine.execSecImportPub s
  | .secWrap => Sys2Proof.Machine.execSecWrap s
  | .secUnwrap => Sys2Proof.Machine.execSecUnwrap s
  | .secPersist => Sys2Proof.Machine.execSecPersist s
  | .secErase => Sys2Proof.Machine.execSecErase s
  | .secDerive => Sys2Proof.Machine.execSecDerive s
  | .secGcmEnc => Sys2Proof.Machine.execSecGcmEnc s
  | .secGcmDec => Sys2Proof.Machine.execSecGcmDec s
  | .secCmacGen => Sys2Proof.Machine.execSecCmacGen s
  | .secCmacVer => Sys2Proof.Machine.execSecCmacVer s
  | .secKwWrap => Sys2Proof.Machine.execSecKwWrap s
  | .secKwUnwrap => Sys2Proof.Machine.execSecKwUnwrap s
  | .secSha256 => Sys2Proof.Machine.execSecSha256 s
  | .secSha384 => Sys2Proof.Machine.execSecSha384 s
  | .secSign => Sys2Proof.Machine.execSecSign s
  | .secVerify => Sys2Proof.Machine.execSecVerify s
  | .secEcdh => Sys2Proof.Machine.execSecEcdh s
  | .secStatement => Sys2Proof.Machine.execSecStatement s
  | .secRandom => Sys2Proof.Machine.execSecRandom s
  | .secProvision => Sys2Proof.Machine.execSecProvision s
  | .secLcAdvance => Sys2Proof.Machine.execSecLcAdvance s
  | .secReprovision => Sys2Proof.Machine.execSecReprovision s
  | .keyBankWriteComplete ok => Sys2Proof.Machine.execKeyBankWriteComplete ok s
  | .rngReseed ok => Sys2Proof.Machine.execRngReseed ok s
  | .tamperInput ix active sub => Sys2Proof.Machine.execTamperInput ix active sub s
  | .meshMismatch sub => Sys2Proof.Machine.execMeshMismatch sub s
  | .tamperCmd => Sys2Proof.Machine.execTamperCmd s
  | .tamperLogClear => Sys2Proof.Machine.execTamperLogClear s
  | .supplySwitchToVbat sub => Sys2Proof.Machine.execSupplySwitchToVbat sub s
  | .supplySwitchToVin => Sys2Proof.Machine.execSupplySwitchToVin s
  | .backupBrownout => Sys2Proof.Machine.execBackupBrownout s
  | .bkpBorClear => Sys2Proof.Machine.execBkpBorClear s
  | .swoClear => Sys2Proof.Machine.execSwoClear s
  | .vbatMeasure mv => Sys2Proof.Machine.execVbatMeasure mv s
  | .bkpRegisterWrite ix v => Sys2Proof.Machine.execBkpRegisterWrite ix v s
  | .bkpCrcCheck => Sys2Proof.Machine.execBkpCrcCheck s
  | .rtcSecond => Sys2Proof.Machine.execRtcSecond s
  | .rtcShadowRead k sub => Sys2Proof.Machine.execRtcShadowRead k sub s
  | .rtcYearRead sub => Sys2Proof.Machine.execRtcYearRead sub s
  | .shadowTimeout => Sys2Proof.Machine.execShadowTimeout s
  | .rtcFieldWrite k v => Sys2Proof.Machine.execRtcFieldWrite k v s
  | .rtcSecCommit v => Sys2Proof.Machine.execRtcSecCommit v s
  | .rtcSetSCommit v => Sys2Proof.Machine.execRtcSetSCommit v s
  | .rtcCommitApply => Sys2Proof.Machine.execRtcCommitApply s
  | .xt32Stop => Sys2Proof.Machine.execXt32Stop s
  | .osfClear => Sys2Proof.Machine.execOsfClear s
  | .alarmEnable n v => Sys2Proof.Machine.execAlarmEnable n v s
  | .recTrigHost t => Sys2Proof.Machine.execRecTrigHost t s
  | .capture => Sys2Proof.Machine.execCapture s
  | .recordWrite => Sys2Proof.Machine.execRecordWrite s
  | .recTrgSel t => Sys2Proof.Machine.execRecTrgSel t s
  | .recTrgCfg v => Sys2Proof.Machine.execRecTrgCfg v s
  | .recClearEddy => Sys2Proof.Machine.execRecClearEddy s
  | .recClearCalm => Sys2Proof.Machine.execRecClearCalm s
  | .cleared => Sys2Proof.Machine.execCleared s
  | .recScan => Sys2Proof.Machine.execRecScan s
  | .recScanDone ces ues => Sys2Proof.Machine.execRecScanDone ces ues s
  | .dmaDoorbell c k => Sys2Proof.Machine.execDmaDoorbell c k s
  | .dmaDescriptorStart c ces ues => Sys2Proof.Machine.execDmaDescriptorStart c ces ues s
  | .dmaDone c data e => Sys2Proof.Machine.execDmaDone c data e s
  | .dmaHalt c poisoned data => Sys2Proof.Machine.execDmaHalt c poisoned data s
  | .dmaCompletionTimeout c data => Sys2Proof.Machine.execDmaCompletionTimeout c data s
  | .dmaResume c => Sys2Proof.Machine.execDmaResume c s
  | .dmaAbort c => Sys2Proof.Machine.execDmaAbort c s
  | .pePerstNLow => Sys2Proof.Machine.execPePerstNLow s
  | .pePerstNRise => Sys2Proof.Machine.execPePerstNRise s
  | .pmeTurnOff => Sys2Proof.Machine.execPmeTurnOff s
  | .hostLink speed width lstate d3 laneRev => Sys2Proof.Machine.execHostLink speed width lstate d3 laneRev s
  | .msixUnblock v => Sys2Proof.Machine.execMsixUnblock v s
  | .qspiRead addr n e => Sys2Proof.Machine.execQspiRead addr n e s
  | .qspiQread addr n e => Sys2Proof.Machine.execQspiQread addr n e s
  | .qspiWrite addr d => Sys2Proof.Machine.execQspiWrite addr d s
  | .qspiQwrite addr d => Sys2Proof.Machine.execQspiQwrite addr d s
  | .qspiStatus n => Sys2Proof.Machine.execQspiStatus n s
  | .enterQpi => Sys2Proof.Machine.execEnterQpi s
  | .exitQpi => Sys2Proof.Machine.execExitQpi s
  | .tgtReset => Sys2Proof.Machine.execTgtReset s
  | .qspiUnknownOpcode => Sys2Proof.Machine.execQspiUnknownOpcode s
  | .qspiBufferDrain x => Sys2Proof.Machine.execQspiBufferDrain x s
  | .qspiLinkHoldExpiry => Sys2Proof.Machine.execQspiLinkHoldExpiry s
  | .jtagBypass tdi => Sys2Proof.Machine.execJtagBypass tdi s
  | .jtagSamplePreload pins tdi => Sys2Proof.Machine.execJtagSamplePreload pins tdi s
  | .jtagExtest pins tdi => Sys2Proof.Machine.execJtagExtest pins tdi s
  | .jtagIdcode tdi => Sys2Proof.Machine.execJtagIdcode tdi s
  | .jtagClamp tdi => Sys2Proof.Machine.execJtagClamp tdi s
  | .jtagHighz tdi => Sys2Proof.Machine.execJtagHighz tdi s
  | .registerRead off len e => Sys2Proof.Machine.execRegisterRead off len e s
  | .claimBitLost ix => Sys2Proof.Machine.execClaimBitLost ix s
  | .testPulseEnd k => Sys2Proof.Machine.execTestPulseEnd k s
  | .meshInactive => Sys2Proof.Machine.execMeshInactive s
  | .xt32Restart => Sys2Proof.Machine.execXt32Restart s
  | .rtcCalWindow => Sys2Proof.Machine.execRtcCalWindow s
  | .olcLoadDone => Sys2Proof.Machine.execOlcLoadDone s
  | .buckCurrentLimit b => Sys2Proof.Machine.execBuckCurrentLimit b s
  | .vinMonUpdate mv served => Sys2Proof.Machine.execVinMonUpdate mv served s
  | .backupPowerUp => Sys2Proof.Machine.execBackupPowerUp s
  | .vinBelow1v => Sys2Proof.Machine.execVinBelow1v s
  | .configSpaceWrite bme funcMask pmeEn => Sys2Proof.Machine.execConfigSpaceWrite bme funcMask pmeEn s

end Sys2Proof.Machine
end

