-- ==== Sys2Proof/Machine/Idle.lean ====
section
/-!
DEFINITION. What passes while no command waits: 10 ns (log entry 5). The TSC counts while PLL_SYS runs (R102), at half
rate or with a slew of one count in each 10 µs while a follower corrects it (R693).
-/
namespace Sys2Proof.Machine

/-- 10 ns of a device whose TSC counts (R693): at half rate it comes 5 ns closer to its source, until it is within 1 µs. -/
def tick (d : Dev) : Dev :=
  if d.tw.halfRate then
    { d with tsc := if d.tw.halfTick then d.tsc + 1#64 else d.tsc, tw.halfTick := !d.tw.halfTick, tw.ahead := d.tw.ahead - 5,
             tw.halfRate := decide (1000 ≤ d.tw.ahead - 5) }
  else if d.tw.slew = 0 then { d with tsc := d.tsc + 1#64 }
  else if d.tw.slewTick < 1000 then { d with tsc := d.tsc + 1#64, tw.slewTick := d.tw.slewTick + 1 }
  else if 0 < d.tw.slew then { d with tsc := d.tsc + 2#64, tw.slew := d.tw.slew - 1, tw.slewTick := 0 }
  else { d with tw.slew := d.tw.slew + 1, tw.slewTick := 0 }

/-- 10 ns pass: the TSC counts while PLL_SYS runs; else the elapsed XTM time is kept for its restart (R102). -/
def idle (s : State) : State :=
  if s.pwr.pllSys then { s with toDev := tick s.toDev }
  else if s.pwr.xtmFail || s.pwr.held then s
  else { s with pwr.xtmElapsed := s.pwr.xtmElapsed + 1 }

end Sys2Proof.Machine
end

