-- ==== Sys2Proof/Machine/Pins.lean ====
section
/-!
DEFINITION. What the device drives on its pins and supplies (R96 to R98, R115, chapter 20). Every level follows from the
state, so no command has to set it.
-/
namespace Sys2Proof.Machine

/-- The level of an output-capable pin. -/
inductive PinLevel where
  | low | high
  /-- High-impedance: the board resistor sets the level (R827). -/
  | hiZ
  /-- A current of so many µA driven out of the pin (R212). -/
  | current (ua : Nat)
  /-- Centre-aligned PWM at 40 kHz, high for so many of the 10,000 units of 2.5 ns of a period (R595, R596). -/
  | pwm (high : Int)
  deriving DecidableEq, Repr

/-- A pin driven to a level. -/
def PinLevel.of (b : Bool) : PinLevel := if b then .high else .low

namespace W

/-! ## Supplies (R96 to R98) -/

/-- VCORE in mV: at PWR.VCORE_SET in Run, 100 mV below it in Lull, off in Deep Lull and while PD1 to PD9 are held (R96, R97). -/
def vcoreMv (w : W) : Nat :=
  if w.pwr.held ∨ w.pstate = 2 then 0
  else if w.pstate = 1 then 750 + 5 * w.rdF R.PWR_VCORE_SET 0 5 - 100
  else 750 + 5 * w.rdF R.PWR_VCORE_SET 0 5

/-- Every SRAM that VSRAM feeds is off or in retention: system SRAM, solver SRAM, message RAM (R96, R98). -/
def sramsIdle (w : W) : Bool := [4, 5, 6].all fun d => w.dom d == 0 || w.dom d == 2

/-- VSRAM in mV: 0.80 V while every SRAM it feeds is off or in retention, else 0.95 V; off in Deep Lull and while PD1 to PD9
are held (R96, R98). -/
def vsramMv (w : W) : Nat :=
  if w.pwr.held ∨ w.pstate = 2 then 0 else if w.sramsIdle then 800 else 950

/-! ## Pins of PD1 -/

/-- A cause of FAULT_N stands: a fault of VCORE or VSRAM (R99), of XTM (R101, R119), of the safety sequencer (R640), or a
vetoed step beyond its margin (R169). -/
def faultCause (w : W) : Bool :=
  w.rdB R.PWR_REG_STAT 4 || w.rdB R.PWR_REG_STAT 5 || w.pwr.xtmFail || w.saf.fault || w.age.lifeFault

/-- Start-up has reached phase n since the last reset of PD1 (R119). -/
def phaseAt (w : W) (n : Nat) : Bool := !w.pwr.held && decide (n ≤ w.rdF R.SYS_BOOT_STAT 0 4)

/-- FAULT_N: low while a cause stands; high-impedance in reset and until start-up begins (R115, R827). DEDUCED (log 56): the HKE
drives it from phase 1 on, high without a cause. -/
def faultN (w : W) : PinLevel := if w.phaseAt 1 then .of (!w.faultCause) else .hiZ

/-- IRQi_N, open-drain (R84). -/
def irqPin (w : W) (i : Nat) : PinLevel := if !w.pwr.held && w.irqLow i then .low else .hiZ

/-- PE_WAKE_N, open-drain (R801). -/
def peWakeN (w : W) : PinLevel := if !w.pwr.held && w.hif.peWakeLow then .low else .hiZ

/-- TWIN_OK_OUT (R675): high-impedance until the RED block is configured again (R115). DEDUCED (log 56): that is when phase 5 has
applied the image's records. -/
def twinOkPin (w : W) : PinLevel := if w.phaseAt 6 then .of w.twinOkOut else .hiZ

/-- GPIOi (R443). -/
def gpioPin (w : W) (i : Nat) : PinLevel := match w.gpioPad i with | some l => .of l | none => .hiZ

/-- PWR_ON, open-drain, of PD0: driven low from the entry into Off until a wake (R766). -/
def pwrOnPin (w : W) : PinLevel := if w.rdB R.BKP_STAT 1 then .low else .hiZ

/-! ## Pins of the domains -/

/-- A pin of domain d: high-impedance in reset and while the domain is off (R115, R827). -/
def pinOf (w : W) (d : Nat) (l : PinLevel) : PinLevel := if w.pwr.held ∨ w.dom d ≠ 1 then .hiZ else l

/-- IEXk, a current source of PD2 (R210, R211). -/
def iexPin (w : W) (k : Nat) : PinLevel := w.pinOf 2 (if w.iexOn k then .current (w.iexCurrent k) else .hiZ)

/-- A pin of the safety block: high-impedance until a safety configuration is in force (R115). -/
def safPin (w : W) (l : PinLevel) : PinLevel := w.pinOf 3 (if w.saf.tbl = [] then .hiZ else l)

/-- TPk (R624). -/
def tpPin (w : W) (k : Nat) : PinLevel := w.safPin (.of (!w.saf.tpOff.getLsbD k))

/-- SOnH and SOnL, high = on (R636, R638, R827). -/
def soHPin (w : W) (n : Nat) : PinLevel := w.safPin (.of (w.soH.getLsbD n))
def soLPin (w : W) (n : Nat) : PinLevel := w.safPin (.of (w.soL.getLsbD n))

/-- FORCE_IND: high while a force is enabled (R456). -/
def forceInd (w : W) : PinLevel := w.pinOf 4 (.of (!w.frcSet.isEmpty))

/-- CANn_STB: low while the channel is enabled and STB_FORCE is 0, else standby (R533). -/
def canStb (w : W) (n : Nat) : PinLevel := w.pinOf 6 (.of (!w.canEn n || w.rdB (R.CAN_MODE n) 6))

/-- CANn_TX between frames: recessive (R524, R533); a frame's bits lie below the model's grain. -/
def canTx (w : W) (_ : Nat) : PinLevel := w.pinOf 6 .high

/-! ## Axis pins (R591, R596 to R600, R608, R609) -/

/-- An output of axis n: claim-gated, high-impedance while the axis is DISABLED. -/
def axPin (w : W) (n : Nat) (l : PinLevel) : PinLevel :=
  w.pinOf 7 (if w.padsOn && w.axState n != axDISABLED then l else .hiZ)

/-- AXn_EN: active except in FAULT. -/
def axEnPin (w : W) (n : Nat) : PinLevel :=
  w.axPin n (.of ((w.axState n != axFAULT) != w.rdB (R.AX_CFG n) 7))

/-- AXn_DIR: high for positive motion, with DIR_POL inverted. -/
def axDirPin (w : W) (n : Nat) : PinLevel := w.axPin n (.of (w.rdB (R.AX_ASTAT n) 5 != w.rdB (R.AX_CFG n) 6))

/-- AXn_STEP between pulses. -/
def axStepPin (w : W) (n : Nat) : PinLevel := w.axPin n (.of (w.rdB (R.AX_CFG n) 5))

/-- The two half-bridges of a coil: in quiet mode its duties (R596); in strong mode driven in the reference's direction, or both low
(R597). -/
def ddCoil (w : W) (n : Nat) (coilB : Bool) : PinLevel × PinLevel :=
  if !w.rdB (R.DRV_DDd_STAT n) 0 then (.pwm (w.ddDuty n coilB 1), .pwm (w.ddDuty n coilB (-1)))
  else match w.ddDrive n coilB with
    | none => (.low, .low)
    | some plus => (.of plus, .of !plus)

/-- DDn_A1, DDn_A2, DDn_B1, DDn_B2: held low in FAULT (R600, R609). -/
def ddGates (w : W) (n : Nat) : PinLevel × PinLevel × PinLevel × PinLevel :=
  let pin (l : PinLevel) : PinLevel := if w.axDirect n && decide (n < 8) then w.axPin n l else .hiZ
  if w.axState n = axFAULT then (pin .low, pin .low, pin .low, pin .low)
  else
    let a := w.ddCoil n false
    let b := w.ddCoil n true
    (pin a.1, pin a.2, pin b.1, pin b.2)

end W

end Sys2Proof.Machine
end

