-- ==== Sys2Proof/WellFormed.lean ====
section
/-!
DEFINITION. Which commands are well formed: their operands lie inside the windows, the widths and the sets that the rules
give them. The machine answers an ill-formed command too; the statements that need the bounds name them.
-/
namespace Sys2Proof

/-- Bytes of a window (R44). -/
def barSize : Bar → Nat
  | .bar2 => 0x4000000
  | .bar4 => 0x1000000

/-- An access of `len` bytes lies in BAR0 (R44). -/
def inBar0 (off len : Nat) : Bool := decide (0 < len ∧ off + len ≤ 0x80000)

/-- Canary counts are bytes, the margin has three bits (R143). -/
def canaryOk (c : Canary) : Bool := decide (c.sys < 256 ∧ c.slv < 256 ∧ c.msg < 256 ∧ c.margin < 8)

/-- Four straps, four bucks (R99, R118). -/
def startOk (i : StartInfo) : Bool := decide (i.straps < 16 ∧ i.buckFail < 16)

/-- Words of solver and system SRAM that reads meet (R140, R283). -/
def ramOk (ces ues : List Nat) : Bool := (ces ++ ues).all fun a => decide (a < 0x3000000)

/-- The voltages of 0 V to 1.8 V at two current-sense inputs, in µV (R594). -/
def senseOk (vA vB : Int) : Bool := decide (0 ≤ vA ∧ vA ≤ 1800000 ∧ 0 ≤ vB ∧ vB ≤ 1800000)

/-- The outside of a register write. -/
def extOk (x : Ext) : Bool :=
  canaryOk x.canary && startOk x.start && decide (x.steps < 7) && senseOk x.isa x.isb && ramOk x.ramCe x.ramUe

/-- A frame of ISO 11898-1 (R523, R535, R539). -/
def frameOk (f : CanFrame) : Bool :=
  decide (f.dlc < 16) && decide (f.id < (if f.xtd then 2 ^ 29 else 2 ^ 11)) && decide (f.data.length ≤ 64) && !(f.rtr && f.fd)

/-- A channel sends from 64 mailboxes and 1,536 station entries (R446, R535). -/
def slotOk : CanSlot → Bool
  | .mailbox i => decide (i < 64)
  | .station i => decide (i < 1536)

/-- A whole copy is one line at offset 0 (R682). -/
def copyOk (c : CwCopy) : Bool := !c.whole || (match c.lines with | [(0, _)] => true | _ => false)

/-- What the partner says of itself (R681). -/
def peerOk (p : Peer) : Bool :=
  decide (p.mode < 4 ∧ p.rank < 16 ∧ p.epoch < 4096) && p.tasks.length == 4

/-- A message has a 16-bit TAG and a quad position (R690, R691). -/
def rxOk : Option LinkRx → Bool
  | none => true
  | some r => decide (r.tag < 65536 ∧ r.pos < 4)

/-- Well-formed commands. -/
def Instr.wf : Instr → Bool
  | .registerWrite off len _ x => inBar0 off len && extOk x
  | .registerPairRead off _ => inBar0 off 8
  | .registerPairWrite off _ x => inBar0 off 8 && extOk x
  | .hostBar2Write off d => decide (off + d.length ≤ 0x4000000)
  | .hostBar4Write off d => decide (off + d.length ≤ 0x1000000)
  | .hostMemRead bar off len _ => decide (off + len ≤ barSize bar)
  | .blockEnable _ x => extOk x
  | .blockDisable _ x => extOk x
  | .softReset _ _ x => extOk x
  | .evtMaskWrite off _ => decide (off / 0x1000 = 3 ∧ off % 4 = 0)
  | .startup x => extOk x
  | .bootGo _ x => extOk x
  | .gustComplete _ _ _ _ x => extOk x
  | .plannerRunScheduled c _ _ => canaryOk c
  | .plannerRunTsc c _ => canaryOk c
  | .plannerRunNow c _ => canaryOk c
  | .sramScrubPass ces ues => (ces ++ ues).all fun a => decide (a < 0x4000000)
  | .remapComplete ces ues => (ces ++ ues).all fun a => decide (a < 0x1000000)
  | .onlineChange _ x => extOk x
  | .slvRingDoorbell _ x => extOk x
  | .linkMsgDoorbell _ _ x => extOk x
  | .keyRingDoorbell _ x => extOk x
  | .cycleLatch _ _ _ ces ues => ramOk ces ues
  | .dmaDescriptorStart _ ces ues => ramOk ces ues
  | .axisUpdate _ vA vB _ _ => senseOk vA vB
  | .chopComparatorTrip _ _ v => senseOk v v
  | .overcurrentTrip _ _ v => senseOk v v
  | .axisFaultClear _ vA vB _ => senseOk vA vB
  | .mramScrubPass ces ues => (ces ++ ues).all fun a => decide (a < 0x1000000)
  | .meterOutputPeriod vin ext _ =>
    vin.length == 24 && (vin.all fun v => v.length == 256) && decide (1100000000 ≤ ext ∧ ext ≤ 1300000000)
  | .jobStart partners _ _ ues _ => decide (partners.length = 3) && partners.all (fun k => [0, 2, 5, 6, 7].contains k) &&
    ues.all fun u => decide (u < 0x2800000)
  | .splitMessage off data => decide (off + data.length ≤ 0x2800000)
  | .canArbitrationStart _ _ ues => ues.all fun i => decide (i < 65)
  | .canFrameReceived _ f _ => frameOk f
  | .claimWaitExpiry _ slot => slotOk slot
  | .crosswindCopyReceive _ c _ _ => copyOk c
  | .linkTrained _ _ _ _ _ peer => peerOk peer
  | .msgRx _ rx _ => rxOk rx
  | .tamperInput _ _ sub => decide (sub < 32768)
  | .meshMismatch sub => decide (sub < 32768)
  | .recScanDone ces ues => (ces ++ ues).all fun a => decide (a < 0x1000000)
  | .dmaDone _ data _ => decide (data.length ≤ 4194304)
  | .dmaHalt _ _ data => decide (data.length ≤ 4194304)
  | .dmaCompletionTimeout _ data => decide (data.length ≤ 4194304)
  | .qspiStatus n => decide (0 < n)
  | .qspiBufferDrain x => extOk x
  | .registerRead off len _ => inBar0 off len
  | .domainRetentionExit | .softResetDone .. | .evtEnWrite .. | .evtPendClear .. | .evtSet ..
  | .evtlatClear .. | .lockKeyFirst .. | .lockKeySecond .. | .lockOtherWrite .. | .unlockBudgetExpiry ..
  | .powerOnReset | .brownOutReset | .brownOutRelease | .externalReset | .watchdogReset | .wdtWarn
  | .softwareReset | .regFault .. | .xtmFail | .lullEntry .. | .stateReqNone | .stateReqReserved
  | .deepLullRequest | .offRequest | .offEntryComplete | .deepLullEntryComplete | .wakeNLow | .wakeHoldExpiry
  | .pd5HoldoffExpiry | .earlyWarningAssert | .earlyWarningDeassert | .ckptPeriodic | .ckptNow
  | .ckptPeriodWrite .. | .ckptRetry | .ckptComplete .. | .roSample .. | .xtalMeasure ..
  | .wcntFlush | .selfTest | .correctionBlockEnd .. | .corrCommit .. | .trackerWindowEnd .. | .harmonicWindowEnd | .captBlock
  | .rtdSlotEnd .. | .rtdDone .. | .pulseEdgeAccepted .. | .electricalStepEnd | .hostFlowInWrite ..
  | .preset .. | .freezeNow | .freezePeriodic | .freezeDone | .intvEnd | .rollClear .. | .maxdemReset ..
  | .storePeriodic | .storeNow | .storeComplete .. | .hrmDone | .armEvent ..
  | .armSlotEnable .. | .jobComplete .. | .jobTimeout .. | .splitServeRequest .. | .splitTimeout ..
  | .splitServeEnd | .triadWaitExpiry .. | .taskWatchdog .. | .startWarm .. | .startCold ..
  | .taskStop .. | .clearFault .. | .gpioInputAccept .. | .gpioOutWrite .. | .gpioOutSet .. | .gpioOutClr ..
  | .stationUpdate .. | .stationWindowTimeout .. | .forceEntryWrite .. | .forceClearAll | .forceClearOrphans
  | .bzNop .. | .bzCend .. | .bzRet .. | .bzMff .. | .bzMtf .. | .bzSel .. | .bzSetc ..
  | .bzAdd .. | .bzSub .. | .bzMul .. | .bzMulh .. | .bzDiv .. | .bzDivu .. | .bzRem .. | .bzCmp ..
  | .bzAnd .. | .bzOr .. | .bzXor .. | .bzShl .. | .bzShr .. | .bzSar .. | .bzMin .. | .bzMax .. | .bzAbs ..
  | .bzNeg .. | .bzMadd .. | .bzTst .. | .bzMovi .. | .bzIns .. | .bzAddi .. | .bzCmpi .. | .bzAndi ..
  | .bzOri .. | .bzXori .. | .bzShli .. | .bzShri .. | .bzSari .. | .bzExtu .. | .bzExts .. | .bzDep ..
  | .bzFadd .. | .bzFsub .. | .bzFmul .. | .bzFdiv .. | .bzFma .. | .bzFsqrt .. | .bzFmin .. | .bzFmax ..
  | .bzFabs .. | .bzFneg .. | .bzFcmp .. | .bzItof .. | .bzFtoi .. | .bzFtoit .. | .bzFclamp .. | .bzLd ..
  | .bzLdx .. | .bzSt .. | .bzB .. | .bzCall .. | .fbTon .. | .fbTof .. | .fbTp .. | .fbCtu .. | .fbCtd ..
  | .fbCtud .. | .fbRTrig .. | .fbFTrig .. | .fbPid .. | .fbLim .. | .sysTscNow .. | .sysRtcRead ..
  | .sysRegRead .. | .sysSlvSubmit .. | .sysSlvStatus .. | .sysSlvRead .. | .sysSlvWrite .. | .sysCanSend ..
  | .sysCanRecv .. | .sysCanStat .. | .sysAxCmd .. | .sysAxStat .. | .sysQtyRead .. | .sysQtyFreeze ..
  | .sysFlowIn .. | .sysRecTrig .. | .sysSafReq .. | .sysSafStat .. | .sysKeySubmit .. | .sysKeyPoll ..
  | .sysKeyRandom .. | .canIntegrationDone .. | .canDisableDone .. | .canTxRequest .. | .canTxAbort ..
  | .canMailboxWrite .. | .canFrameTransmitted .. | .canFrameError .. | .alone .. | .canRecover ..
  | .canRecoveryDone .. | .canRxLock .. | .canRxRelease .. | .hpLock .. | .hpRel .. | .axCmdDoorbell ..
  | .axMoveAbs .. | .axMoveRel .. | .axJog .. | .axStop .. | .axHome .. | .axSetPos .. | .axDwell ..
  | .dwellElapsed .. | .holdCurrentExpiry .. | .chopOffExpiry ..
  | .axisDiagActive .. | .stallDetected .. | .axisStopRamp .. | .axisStopImmediate ..
  | .profileParamWrite .. | .papplyNow .. | .safetyInputFiltered .. | .sfsPeriod ..
  | .discrepancy .. | .testPulseStart .. | .testPulseCheck .. | .outputTestStart .. | .outputTestEnd ..
  | .outputMonitorFault .. | .edmFault .. | .stopDelayExpiry .. | .claimRoundTimer .. | .clmFall
  | .claimRoundEnd .. | .twinOkInFall | .relinquish | .resume | .unlatch | .resync | .reclaimHoldoffExpiry
  | .reclaimWindowExpiry | .claimListenExpiry .. | .pairingTimeout | .linkError ..
  | .linkRxSlotClear .. | .timeSyncExchange .. | .keyJobStart | .keyJobComplete
  | .secGenSym | .secGenEc | .secImportPub | .secWrap | .secUnwrap | .secPersist | .secErase | .secDerive
  | .secGcmEnc | .secGcmDec | .secCmacGen | .secCmacVer | .secKwWrap | .secKwUnwrap | .secSha256 | .secSha384
  | .secSign | .secVerify | .secEcdh | .secStatement | .secRandom | .secProvision | .secLcAdvance
  | .secReprovision | .keyBankWriteComplete .. | .rngReseed .. | .tamperCmd | .tamperLogClear
  | .supplySwitchToVbat .. | .supplySwitchToVin | .backupBrownout | .bkpBorClear | .swoClear
  | .vbatMeasure .. | .bkpRegisterWrite .. | .bkpCrcCheck | .rtcSecond | .rtcShadowRead .. | .rtcYearRead ..
  | .shadowTimeout | .rtcFieldWrite .. | .rtcSecCommit .. | .rtcSetSCommit .. | .rtcCommitApply | .xt32Stop
  | .osfClear | .alarmEnable .. | .recTrigHost .. | .capture | .recordWrite | .recTrgSel .. | .recTrgCfg ..
  | .recClearEddy | .recClearCalm | .cleared | .recScan | .dmaDoorbell ..
  | .dmaResume .. | .dmaAbort .. | .pePerstNLow | .pePerstNRise | .pmeTurnOff | .hostLink ..
  | .msixUnblock .. | .qspiRead .. | .qspiQread .. | .qspiWrite .. | .qspiQwrite .. | .enterQpi | .exitQpi
  | .tgtReset | .qspiUnknownOpcode | .qspiLinkHoldExpiry | .jtagBypass .. | .jtagSamplePreload ..
  | .jtagExtest .. | .jtagIdcode .. | .jtagClamp .. | .jtagHighz .. | .claimBitLost .. | .testPulseEnd ..
  | .meshInactive | .xt32Restart | .rtcCalWindow | .olcLoadDone | .buckCurrentLimit .. | .vinMonUpdate ..
  | .backupPowerUp | .vinBelow1v | .configSpaceWrite .. => true

end Sys2Proof
end

