-- ==== Sys2Proof/Safety.lean ====
section
/-!
DEFINITION. The words in which the statements speak of good states and safe runs: a run that never stops; the byte memories
and the register file in canonical form; a state in which the power manager has nothing to do.
-/
namespace Sys2Proof

open Machine

/-- Every step of `n` steps answers a next state. -/
def runs (n : Nat) (s : State) : Prop := ∃ t, core.run n s = .next t

/-- The register file in canonical form: offsets strictly rising, no entry equal to its reset value. -/
abbrev regsWf (l : List (Nat × Word)) : Prop := l.Pairwise (fun a b => a.1 < b.1) ∧ ∀ e ∈ l, e.2 ≠ regReset e.1

/-- The canonical forms of a state. -/
structure Canonical (s : State) : Prop where
  mem : Memory.wf s.mem
  regs : regsWf s.regs

/-! ## Host accesses -/

/-- The record in which a host write takes effect, at an offset of a page other than LOCK: a budget that ran out has locked
the page, and a first key counts no more (R68, R69). -/
def hostEnter (w : W) (pg : Nat) : W := (w.relock pg).arm pg false

/-- The host reaches the device, and the page of a register at 0x040 or above answers: its domain is on or in retention,
or the register lies in PD1 (R22), and no block soft reset is in progress (R60). -/
structure HostReady (w : W) (off : Nat) : Prop where
  link : w.hostOk = true
  up : (w.pageUp (off / 0x1000) || inPd1 off) = true
  noSrst : w.inSrst (off / 0x1000) = false

/-! ## Events, health -/

/-- The registers in which an event shows itself: EVT_PEND of a page, EVTLAT, the recorder's LOST and STAT (R64, R81, R781). -/
def evtReg (off : Nat) : Bool :=
  off % 0x1000 == 0x018 || decide (R.EVT_EVTLAT 0 ≤ off ∧ off ≤ R.EVT_EVTLAT 7) || off == R.REC_LOST || off == R.REC_STAT

/-- Two records agree on the blocks, the memory writes and the free counter. -/
structure SameBlocks (w u : W) : Prop where
  rtc : u.rtc = w.rtc
  ax : u.ax = w.ax
  mot : u.mot = w.mot
  tw : u.tw = w.tw
  saf : u.saf = w.saf
  age : u.age = w.age
  mtr : u.mtr = w.mtr
  qty : u.qty = w.qty
  slv : u.slv = w.slv
  key : u.key = w.key
  tmp : u.tmp = w.tmp
  scan : u.scan = w.scan
  can : u.can = w.can
  jtag : u.jtag = w.jtag
  ctr : u.freeCtr = w.freeCtr
  wq : u.wq = w.wq

/-- The unit holds no claim, and in SOLO mode none is configured, so a change of health changes no claim (R661, R675). -/
def NoClaim (w : W) : Prop := w.rdF R.RED_CLAIM 0 16 = 0 ∧ (w.redMode = 0 → w.redRank = 0)

/-- The registers that the end of task n's run can change: its STATE, the events, RED.STAT, the displays of the key store. -/
def haltReg (n a : Nat) : Bool := evtReg a || a == R.TASK_STATE n || a == R.RED_STAT || (decide (R.KEY_STAT ≤ a ∧ a ≤ R.KEY_PSLOT))

/-! ## The power manager at rest -/

/-- What QSTAT shows of the solver's queue (R338). -/
def qstat (w : W) : Word :=
  let (e, gust, d) := match w.slv.exec with
    | some j => (1, b2n (w.slv.run.isNone && (w.dom 5 != 1 || !w.pwr.slvArray)), j.desc)
    | none => (0, 0, 0)
  BitVec.ofNat 32 (w.slv.queue.length + 16 * e + 32 * gust + 256 * d)

/-- Domain d is as its users ask: one with a user is on or starting, one without a user is not on after host release,
PD4 apart, whose switch-off may wait for its checkpoint (R23, R105). -/
def domainSettled (w : W) (d : Nat) : Prop :=
  if w.hasUser true d then w.dom d ≠ 0 ∧ (d = 4 → w.pwr.pd4OffWait = false ∧ w.pwr.ckptRetry = false)
  else w.dom d = 1 → w.released = false ∨ (d = 4 ∧ w.pwr.pd4OffWait = true)

/-- A working record in which the power manager has nothing to do: the device is in Run, no entry into a low-power state
is in progress, every domain is as its users ask, no solver job can start, no arm slot is enabled. -/
structure Steady (w : W) : Prop where
  held : w.pwr.held = false
  run : w.pstate = 0
  noReq : w.rdF R.PWR_STATE_REQ 0 2 = 0
  noEntry : w.pwr.lullEntry = false
  noArm : ∀ a < 8, w.rdB (R.SLV_ARM a) 31 = false
  noHit : w.evt.armHits = []
  noUe : w.tw.sysUe = []
  planner : w.age.deferred = false
  queue : w.slv.exec.isSome = true ∨ w.slv.queue = [] ∨ w.serving = true
  qstat : w.rd R.SLV_QSTAT = qstat w
  moving : w.rdB R.PWR_STATE 3 = (List.range 10).any fun d => w.dom d == 3
  array : w.slv.exec.isSome = true → w.dom 5 = 1 ∧ w.pwr.slvArray = true ∨ w.dom 5 = 3
  domains : ∀ d ∈ [4, 6, 7, 8, 9], domainSettled w d

/-- Domain d put in transition by its first user: PLL_SYS runs, DOM_STAT reads 3, PWR.STATE shows a domain moving (R23, R111). -/
def started (u : W) (d : Nat) : W := ((u.startPllSys).setDom d 3).wrB R.PWR_STATE 3 true

/-! ## Commands in a device at rest -/

/-- A host write of one word to a register of page `off / 0x1000` that every check passes: one access of the budget is
spent, an RWL register counts in SEQ, an access to PD5 restarts its hold-off; in between `eff` happens. -/
def accepted (w : W) (off : Nat) (eff : W → W) : W :=
  (eff (((hostEnter w (off / 0x1000)).accessWake off).countSeq true off)).spend (off / 0x1000) (off % 0x1000)

/-- A host write of one word to a register of page `off / 0x1000` that is refused with `code`. -/
def refusedWith (w : W) (off code : Nat) : W :=
  ((hostEnter w (off / 0x1000)).err (off / 0x1000) code).spend (off / 0x1000) (off % 0x1000)

/-- The device is at rest, the host reaches the register's page, and a locked register is unlocked. -/
structure Ready (s : State) (off : Nat) : Prop where
  rest : Steady (begin_ s)
  host : HostReady (begin_ s) off
  lock : regDef off ≠ none ∧ ∀ d, regDef off = some d → d.acc = .rwl → (begin_ s).unlocked (off / 0x1000) = true

/-- The command completes as the accepted host write of the register at `off` with the effect `eff`; nothing else changes. -/
def HostWrites (c : Instr) (s : State) (off : Nat) (eff : W → W) : Prop :=
  exec c s = .next (commit s (accepted (begin_ s) off eff))

/-- The command completes, and its whole effect is `u`. -/
def Yields (c : Instr) (s : State) (u : W) : Prop := exec c s = .next (commit s u)

/-! ## Commands in any device -/

/-- The command completes: its own effect is `u`, after which the power manager evaluates (R23, R111). -/
def Completes (c : Instr) (s : State) (u : W) : Prop := exec c s = .next (commit s (W.settle s.mem (begin_ s) u))

/-- The host reaches the register at `off`, which is listed and, if it is an RWL register, unlocked. -/
structure Open (s : State) (off : Nat) : Prop where
  host : HostReady (begin_ s) off
  lock : regDef off ≠ none ∧ ∀ d, regDef off = some d → d.acc = .rwl → (begin_ s).unlocked (off / 0x1000) = true

/-- The command completes as the accepted host write of the register at `off` with the effect `eff`. -/
def Takes (c : Instr) (s : State) (off : Nat) (eff : W → W) : Prop := Completes c s (accepted (begin_ s) off eff)

/-- The command completes as a host write of the register at `off` that its block refuses with `code`: the page's ERR takes
the code, nothing is written. -/
def Refuses (c : Instr) (s : State) (off code : Nat) : Prop :=
  Completes c s ((((hostEnter (begin_ s) (off / 0x1000)).accessWake off).err (off / 0x1000) code).spend (off / 0x1000) (off % 0x1000))

/-! ## Breeze code -/

/-- Register i of engine n as an instruction reads it: W0 is zero (R478). -/
def wreg (s : State) (n : Fin 4) (i : Fin 64) : DWord := if i = 0 then 0 else s.scan.eng[n].w[i]

/-- The flags byte of engine n (R480). -/
def flagsOf (s : State) (n : Fin 4) : BitVec 8 := s.scan.eng[n].flags

/-- The flags byte with Z, N, C, V and U replaced; Q, P and E stay (R480, R481). -/
def zncvu (old : BitVec 8) (z n c v u : Bool) : BitVec 8 :=
  (old &&& 0xE0#8) ||| BitVec.ofNat 8 (b2n z + 2 * b2n n + 4 * b2n c + 8 * b2n v + 16 * b2n u)

/-- Z and N of a result, with C and V; U is written 0 (R480, R481). -/
def aluFlags (s : State) (n : Fin 4) (r : DWord) (c v : Bool) : BitVec 8 := zncvu (flagsOf s n) (r == 0) r.msb c v false

/-- Engine n is in phase 2, the code word at its program counter is `v`, and a further word follows it. -/
structure Executes (s : State) (n : Fin 4) (v : Word) : Prop where
  word : (begin_ s).fetch n = some v
  more : ∀ e, s.scan.task[n].ent = some e → s.scan.eng[n].pc + 4 < 4 * e.code.length

/-- The state in which engine n has its program counter at `pc`, `v` in register d unless that is W0, and the flags `f`:
everything else is as in `s`. -/
def engineAt (s : State) (n : Fin 4) (pc : Nat) (d : Fin 64) (v : DWord) (f : BitVec 8) : State :=
  let g := s.scan.eng[n]
  { s with scan.eng := s.scan.eng.set n { g with w := if d = 0 then g.w else g.w.set d v, flags := f, pc := pc } }

/-- The state after an instruction that goes on to the next word (R478, R491). -/
def engineNext (s : State) (n : Fin 4) (d : Fin 64) (v : DWord) (f : BitVec 8) : State :=
  engineAt s n (s.scan.eng[n].pc + 4) d v f

/-- When engine n executes the load `v`, the command `c` completes with `r` in register d and the flags `f`, the program
counter on the next word, and nothing else changed. -/
def Loads (s : State) (n : Fin 4) (v : Word) (c : Instr) (d : Fin 64) (r : DWord) (f : BitVec 8) : Prop :=
  Executes s n v → exec c s = .next (engineNext s n d r f)

/-- The record with which a register instruction or SYS request of engine n takes effect: where task n leads an active lockstep
pair, its comparison has taken a free value (R471, R473, log entry 27). -/
def calling (s : State) (n : Fin 4) : W :=
  if (begin_ s).pairActive n = true then { begin_ s with freeCtr := s.freeCtr + 1 } else begin_ s

/-- The two engines of task n's active pair differ at the instruction: whether they do is free. -/
def Differs (s : State) (n : Fin 4) : Prop := (begin_ s).pairActive n = true ∧ Config.lsDiffers s.freeCtr = true

/-- When engine n executes the register instruction `v`, the command `c` completes with `r` in register d and the flags `f`, the
program counter on the next word, and nothing else changed; where the pair's engines differ, the task stops with a mismatch. -/
def Computes (s : State) (n : Fin 4) (v : Word) (c : Instr) (d : Fin 64) (r : DWord) (f : BitVec 8) : Prop :=
  Executes s n v →
    (¬Differs s n → exec c s = .next { engineNext s n d r f with freeCtr := (calling s n).freeCtr }) ∧
    (Differs s n → Completes c s ((calling s n).lsFault n))

/-- The byte of a memory after `fields` were written from address `a0` on: offset and bytes of each. -/
def written (m : Memory) (a0 : Nat) (fields : List (Nat × List Byte)) (a : Nat) : Byte :=
  (fields.findSome? fun f => if a0 + f.1 ≤ a then f.2[a - (a0 + f.1)]? else none).getD (memGet m a)

/-- The state after a function block of engine n whose instance stands at `base` of LOC or RET: `out` in register d, the
flags `f`, the fields written, their lines of RET marked dirty, the program counter on the next word, nothing else changed. -/
def BlockDone (s : State) (n : Fin 4) (inRet : Bool) (base : Nat) (fields : List (Nat × List Byte)) (d : Fin 64) (out : DWord)
    (f : BitVec 8) (t : State) : Prop :=
  (∀ a, memGet t.mem a = written s.mem ((begin_ s).spBase n (if inRet then 2 else 3) + base) fields a) ∧
  ∃ dirty : List Nat,
    (∀ l, l ∈ dirty ↔ l ∈ s.scan.task[n].dirty ∨ inRet = true ∧ ∃ x ∈ fields, ∃ i < x.2.length, (base + x.1 + i) / 64 = l) ∧
    t = { engineNext s n d out f with
      mem := t.mem, scan.task := s.scan.task.set n { s.scan.task[n] with dirty := dirty } }

/-- The flags byte with bits replaced: bit and value of each. -/
def withFlags (f : BitVec 8) (l : List (Nat × Bool)) : BitVec 8 :=
  l.foldl (fun f x => if x.2 then f ||| BitVec.ofNat 8 (2 ^ x.1) else f &&& ~~~BitVec.ofNat 8 (2 ^ x.1)) f

/-- An engine after a service call with results from W[a] on and the status `code` in W[d], which prevails over a result
(R508); a write to W0 is discarded, results beyond W63 have no register. -/
def afterCall (g : Eng) (d a : Fin 64) (code : Nat) (res : List Nat) : Eng :=
  { g with
    w := Vector.ofFn fun i : Fin 64 =>
      if i = 0 then g.w[i]
      else if i = d then BitVec.ofNat 64 code
      else if a.val ≤ i.val then ((res[i.val - a.val]?).map (BitVec.ofNat 64)).getD g.w[i]
      else g.w[i]
    flags := if code = 0 then g.flags &&& 0x7F#8 else g.flags ||| 0x80#8
    pc := g.pc + 4 }

/-- When engine n executes SYS with service `svc`, the command `c` completes with the effect `u` on the device, the results
`res` in W[a] and onward, and the status `code` in W[d]; where the pair's engines differ, the task stops with a mismatch. -/
def Serves (c : Instr) (s : State) (n : Fin 4) (d a : Fin 64) (svc code : Nat) (u : W) (res : List Nat) : Prop :=
  Executes s n (encI 0x2D d a svc) →
    (¬Differs s n →
      exec c s = .next (commit s { u with scan.eng := u.scan.eng.set n (afterCall s.scan.eng[n] d a code res) })) ∧
    (Differs s n → Completes c s ((calling s n).lsFault n))

/-- Argument i of a service call of engine n. -/
def arg (s : State) (n : Fin 4) (a : Fin 64) (i : Nat) : Nat :=
  if h : a.val + i < 64 then (wreg s n ⟨a.val + i, h⟩).toNat else 0

end Sys2Proof
end

