-- ==== Sys2Proof/Certificates/Slice0/Obligations.lean ====
section
/-!
DEFINITION. The statements about the VD9600 that the provers settle. Each says in its docstring which rules it formalises.
Host accesses, registers and engines are named as in Sys2Proof/Safety.lean.
-/
open Sys2Proof Sys2Proof.Machine

/-- The model's queue (first in, first out): a step is the front command's meaning on the state with the queue's rest. -/
def Obligations.StepRunsTheFrontCommand : Prop :=
  ∀ (s : State) (c : Instr) (rest : List Instr), s.pending = c :: rest → step s = exec c { s with pending := rest }

/-- Log entry 5 (the model's choice) with R102: what passes while no command waits. -/
def Obligations.EmptyQueueIdles : Prop :=
  ∀ s : State, s.pending = [] →
    (s.pwr.pllSys = true → s.tw.halfRate = false → s.tw.slew = 0 → step s = .next { s with tsc := s.tsc + 1 }) ∧
    (s.pwr.pllSys = false → s.pwr.xtmFail = false → s.pwr.held = false →
      step s = .next { s with pwr.xtmElapsed := s.pwr.xtmElapsed + 1 }) ∧
    (s.pwr.pllSys = false → s.pwr.held = true → step s = .next s)

/-- R59, R76: a refused request is a recorded error, never a stop of the device; every command completes. -/
def Obligations.EveryCommandCompletes : Prop :=
  ∀ (c : Instr) (s : State), ∃ t, exec c s = .next t ∧ t.pending = s.pending

/-- The representation of the memories of R20 and R44: the canonical form is kept by every step. -/
def Obligations.MemoryStaysCanonical : Prop :=
  ∀ s t : State, Memory.wf s.mem → step s = .next t → Memory.wf t.mem

/-- R14, R54, R71, R114: the reset state. What unwritten RAM reads as is the model's choice (log entry 2). -/
def Obligations.ResetIsCanonical : Prop :=
  Canonical State.reset ∧ State.reset.pending = [] ∧ (∀ a, memGet State.reset.mem a = 0) ∧
    (∀ off, (begin_ State.reset).rd off = regReset off) ∧
    (∀ p : Fin 128, (begin_ State.reset).unlocked p = false ∧ (begin_ State.reset).rd (R.H_CTRL p) = 0 ∧
      (begin_ State.reset).rd (R.H_EVT_EN p) = 0 ∧ (begin_ State.reset).rd (R.H_ERR p) = 0) ∧
    (∀ d : Fin 10, 2 ≤ d.val → (begin_ State.reset).dom d = 0) ∧ (begin_ State.reset).pstate = 0

/-- R64, R81, R85: one occurrence of a local event in a device at rest, its consumers and its frame. -/
def Obligations.EventReachesItsConsumers : Prop :=
  ∀ (w : W) (p b n : Nat), Steady w → p < 128 → b < 32 → globalEvent p b = some n →
    (w.rdB (R.H_EVT_EN p) b = false → w.raise (p, b) = w) ∧
    (w.rdB (R.H_EVT_EN p) b = true →
      (w.raise (p, b)).rdB (R.H_EVT_PEND p) b = true ∧ (w.raise (p, b)).rdB (R.EVT_EVTLAT (n / 32)) (n % 32) = true ∧
      (∀ e : Fin 4, w.rdB (R.EVT_SE_MASK (8 * e + n / 32)) (n % 32) = true →
        ((w.raise (p, b)).evt.seLatch[e]).getLsbD n = true) ∧
      (∀ a, evtReg a = false → (w.raise (p, b)).rd a = w.rd a) ∧ SameBlocks w (w.raise (p, b)))

/-- R65, R66, R67, R81, R83, R87: the effects of host writes to the event registers. -/
def Obligations.WritesOfTheEventRegisters : Prop :=
  ∀ (s : State) (pg : Fin 128) (v arriving : Word) (k : Fin 8) (off : Nat), Steady (begin_ s) → (begin_ s).hostOk = true →
    (pageDomain pg).isSome = true →
    (pg.val ≠ 0x3C → pg.val ≠ 0x3E → Yields (.evtSet pg v) s
      (((List.range 32).foldl (fun w i => if bit v i then w.raise (pg.val, i) else w) (hostEnter (begin_ s) pg)).spend pg 0x01C)) ∧
    (pg.val = 0x3C ∨ pg.val = 0x3E → Yields (.evtSet pg v) s (((hostEnter (begin_ s) pg).err pg ePerm).spend pg 0x01C)) ∧
    Yields (.evtEnWrite pg v) s
      (((List.range 32).foldl (fun w i =>
          if bit (v &&& evtBits pg) i && !bit ((begin_ s).rd (R.H_EVT_EN pg)) i && w.pageUp pg && w.rdB (R.H_EVT_RAW pg) i
          then w.raise (pg.val, i) else w)
        ((hostEnter (begin_ s) pg).wr (R.H_EVT_EN pg) (v &&& evtBits pg))).spend pg 0x014) ∧
    Yields (.evtPendClear pg v arriving) s
      (((hostEnter (begin_ s) pg).wr (R.H_EVT_PEND pg) ((begin_ s).rd (R.H_EVT_PEND pg) &&& ~~~(v &&& ~~~arriving))).spend pg 0x018) ∧
    (Ready s (R.EVT_EVTLAT k) → HostWrites (.evtlatClear k v arriving) s (R.EVT_EVTLAT k) fun w =>
      (List.range 32).foldl (fun w i => if w.vecAsserted i then w.msixSend i else w)
        (w.wr (R.EVT_EVTLAT k) (w.rd (R.EVT_EVTLAT k) &&& ~~~(v &&& ~~~arriving)))) ∧
    (isEvtMask off = true → Ready s off → HostWrites (.evtMaskWrite off v) s off fun w =>
      let u := w.wr off (if off = R.EVT_PIN_CFG then v &&& 0xF#32 else if R.EVT_REC_SEL 0 ≤ off then v &&& 0x800000FF#32 else v)
      (List.range 32).foldl (fun x i => if x.vecAsserted i && !w.vecAsserted i then x.msixSend i else x) u)

/-- R68, R69, R70: the unlock sequence, for every implemented page. -/
def Obligations.UnlockSequenceAndBudget : Prop :=
  ∀ (s : State) (pg : Fin 128) (v : Word), Steady (begin_ s) → (begin_ s).hostOk = true → (pageDomain pg).isSome = true →
    Yields (.lockKeyFirst pg) s ((((begin_ s).relock pg).wr (R.H_LOCK pg) 0).arm pg true) ∧
    Yields (.lockKeySecond pg) s
      ((if (begin_ s).evt.lockArmed.getLsbD pg then ((begin_ s).relock pg).wr (R.H_LOCK pg) 0x00010001#32
        else (begin_ s).relock pg).arm pg false) ∧
    (v ≠ 0x5A17#32 → v ≠ 0xA5E8#32 →
      Yields (.lockOtherWrite pg v) s ((((begin_ s).relock pg).wr (R.H_LOCK pg) 0).arm pg false)) ∧
    Yields (.unlockBudgetExpiry pg) s
      (if (begin_ s).rdB (R.H_LOCK pg) 0 = true ∧ (begin_ s).rdF (R.H_LOCK pg) 8 9 = 0 then (begin_ s).wr (R.H_LOCK pg) 0 else begin_ s)

/-- R72: a write to a locked register is ignored and recorded. -/
def Obligations.LockedRegisterRefusesTheWrite : Prop :=
  ∀ (s : State) (off : Nat) (v : BitVec 64) (x : Ext) (d : RegDef), Steady (begin_ s) → HostReady (begin_ s) off →
    off % 4 = 0 → 0x040 ≤ off % 0x1000 → (pageDomain (off / 0x1000)).isSome = true → regDef off = some d → d.acc = .rwl →
    (begin_ s).unlocked (off / 0x1000) = false →
    Yields (.registerWrite off 4 v x) s (refusedWith (begin_ s) off 0x0004)

/-- R22, R60, R75: accesses that an off domain or a block in SRST does not carry out; the block's own checks come before
ERR_BUSY. A doorbell in a page whose domain starts is held, not refused (R113, log entry 49). -/
def Obligations.OffDomainRefusesTheAccess : Prop :=
  ∀ (s : State) (off : Nat) (v : BitVec 64) (x : Ext), Steady (begin_ s) → (begin_ s).hostOk = true → off % 4 = 0 →
    0x040 ≤ off % 0x1000 → (pageDomain (off / 0x1000)).isSome = true → off ≠ R.HIF_BOOT_CTRL →
    ((begin_ s).pageUp (off / 0x1000) = false → inPd1 off = false →
      (W.gusting (begin_ s) (off / 0x1000) = false ∨ W.isDoorbell off = false →
        Yields (.registerWrite off 4 v x) s (refusedWith (begin_ s) off 0x0006)) ∧
      Yields (.registerRead off 4 .ok) s
        (((((begin_ s).relock (off / 0x1000)).err (off / 0x1000) 0x0006).spend (off / 0x1000) (off % 0x1000)).answer [0, 0, 0, 0])) ∧
    ((begin_ s).pageUp (off / 0x1000) = true → (begin_ s).rdB (R.H_CTRL (off / 0x1000)) 1 = true → off / 0x1000 ≠ 0x42 →
      (∀ d, regDef off = some d → d.acc = .rwl → (begin_ s).unlocked (off / 0x1000) = true) →
      (let own := match regDef off with
          | none => 0
          | some d => if d.acc = .ro ∨ isPairW off = true ∨ 4 ≤ off ∧ isPairW (off - 4) = true then 0
            else W.blockCheck (hostEnter (begin_ s) (off / 0x1000)) s.mem off (v.truncate 32) x
        Yields (.registerWrite off 4 v x) s (refusedWith (begin_ s) off (if own = 0 then 0x0001 else own))) ∧
      Yields (.registerRead off 4 .ok) s
        (((((begin_ s).relock (off / 0x1000)).err (off / 0x1000) 0x0001).spend (off / 0x1000) (off % 0x1000)).answer [0, 0, 0, 0]))

/-- R13, R15, R49, R52, R69: stored registers and register pairs, written and read by the host. -/
def Obligations.RegisterWritesAndReads : Prop :=
  ∀ (s : State) (off : Nat) (v : BitVec 64) (x : Ext) (d : RegDef), Ready s off → regDef off = some d → off % 4 = 0 →
    0x040 ≤ off % 0x1000 →
    (off / 0x1000 ∈ [0x00, 0x09, 0x12, 0x19, 0x2A, 0x3B, 0x3C] →
      (off ≠ R.SYS_RST_CTRL → d.acc = .rw ∨ d.acc = .rwl →
        W.blockCheck (hostEnter (begin_ s) (off / 0x1000)) s.mem off (v.truncate 32) x = 0 →
        HostWrites (.registerWrite off 4 v x) s off fun w =>
          w.wr off ((v.truncate 32 &&& BitVec.ofNat 32 d.wmask) ||| (w.rd off &&& ~~~BitVec.ofNat 32 d.wmask))) ∧
      (off / 0x1000 ∈ [0x00, 0x09, 0x3B, 0x3C] → (begin_ s).evt.pairRd = [] →
        Yields (.registerRead off 4 .ok) s
          ((((begin_ s).relock (off / 0x1000)).spend (off / 0x1000) (off % 0x1000)).answer (toLe 4 ((begin_ s).rd off).toNat)))) ∧
    (isPair off = true → off / 0x1000 ∈ [0x12, 0x13, 0x14] → (begin_ s).evt.pairRd = [] →
      Yields (.registerPairRead off .ok) s
        (({ (begin_ s).relock (off / 0x1000) with
              evt.pairRd := [(Master.host (begin_ s).port, off + 4, (begin_ s).rd (off + 4))] }.spend (off / 0x1000)
            (off % 0x1000)).answer (toLe 4 ((begin_ s).rd off).toNat))) ∧
    (off = R.QTY_PRESET_VAL → (begin_ s).evt.pairWr = [] → 2 ≤ (begin_ s).rdF (R.H_LOCK 0x13) 8 9 → ∃ t, exec (.registerPairWrite off v x) s = .next t ∧
      (begin_ t).rd64 R.QTY_PRESET_VAL = v.toNat ∧ t.evt.pairWr = [] ∧ t.mem = s.mem ∧
      (∀ a, a % 0x1000 ≠ 0x024 → a ≠ R.H_SEQ 0x13 → a ≠ R.QTY_PRESET_VAL → a ≠ R.QTY_PRESET_VAL + 4 → (begin_ t).rd a = (begin_ s).rd a))

/-- R44, R46, R47, R51, R158: host accesses through the memory windows. -/
def Obligations.MemoryWindows : Prop :=
  ∀ (s : State) (off len : Nat) (d : List Byte), Steady (begin_ s) → (begin_ s).hostOk = true → Memory.wf s.mem →
    (solverEnd ≤ off → off + d.length ≤ systemEnd → (begin_ s).domUp 4 = true →
      ∃ t, exec (.hostBar2Write off d) s = .next t ∧ t.toDev = s.toDev ∧
        ∀ a, memGet t.mem a = if off ≤ a ∧ a < off + d.length then d.getD (a - off) 0 else memGet s.mem a) ∧
    (solverEnd ≤ off → off + len ≤ systemEnd → (begin_ s).domUp 4 = true →
      Yields (.hostMemRead .bar2 off len .ok) s
        ((begin_ s).answer ((List.range len).map fun i => memGet s.mem (off + i)))) ∧
    (systemEnd ≤ off → Yields (.hostBar2Write off d) s (begin_ s) ∧
      Yields (.hostMemRead .bar2 off len .ok) s ((begin_ s).answer (List.replicate len 0))) ∧
    (d.length ∈ [1, 2, 4, 8] → off % d.length = 0 → off < mramSize → s.age.ueWords = [] →
      ((begin_ s).rdB R.NVM_WR_EN 0 = true → (begin_ s).mramGuarded off = false →
        Yields (.hostBar4Write off d) s
          (((begin_ s).putBytes (mramBase + (begin_ s).phys off) d).wear ((begin_ s).phys off / 4096))) ∧
      ((begin_ s).rdB R.NVM_WR_EN 0 = false → Yields (.hostBar4Write off d) s ((begin_ s).err 0x08 0x0007)) ∧
      Yields (.hostMemRead .bar4 off d.length .ok) s
        ((begin_ s).answer ((List.range d.length).map fun i => memGet s.mem (mramBase + (begin_ s).phys (off + i)))))

/-- R23, R56, R58, R60: CTRL of a page. -/
def Obligations.BlockEnableAndSoftReset : Prop :=
  ∀ (s : State) (pg : Fin 128) (x : Ext) (en : Bool) (d : Nat), Steady (begin_ s) → (begin_ s).hostOk = true → pageDomain pg = some d →
    (d ≤ 3 → pg.val ≠ 0x41 →
      Yields (.blockEnable pg x) s (((hostEnter (begin_ s) pg).wrB (R.H_CTRL pg) 0 true).spend pg 0x008) ∧
      Yields (.blockDisable pg x) s (((hostEnter (begin_ s) pg).wrB (R.H_CTRL pg) 0 false).spend pg 0x008)) ∧
    (pg.val = 0x03 ∨ pg.val = 0x09 →
      Yields (.softReset pg en x) s
        (let u := ((hostEnter (begin_ s) pg).wrB (R.H_CTRL pg) 0 en).resetRegs (0x1000 * pg + 0x040) (0x1000 * (pg + 1))
         let u : W := { u with evt.pairRd := s.evt.pairRd.filter fun (e : Master × Nat × Word) => e.2.1 / 0x1000 != pg.val,
                               evt.pairWr := s.evt.pairWr.filter fun (e : Master × Nat × Word) => e.2.1 / 0x1000 != pg.val
                               pwr.heldOps := s.pwr.heldOps.filter fun (e : HeldOp) => e.off / 0x1000 != pg.val }
         ((u.wr (R.H_ERR pg) 0).wrB (R.H_CTRL pg) 1 true).spend pg 0x008)) ∧
    Yields (.softResetDone pg) s ((begin_ s).wrB (R.H_CTRL pg) 1 false) ∧
    (pg.val ∈ [0x19, 0x2A, 0x3D, 0x40] → (begin_ s).hasUser true d = false → (begin_ s).dom d = 0 → (begin_ s).ew = false →
      (begin_ s).pwr.xtmFail = false → (begin_ s).buckFaulted d = false → (begin_ s).released = true →
      Yields (.blockEnable pg x) s (started (((hostEnter (begin_ s) pg).wrB (R.H_CTRL pg) 0 true).spend pg 0x008) d))

/-- R62: pages whose block no soft reset reaches. -/
def Obligations.SoftResetIsRefusedOnProtectedPages : Prop :=
  ∀ (s : State) (pg : Fin 128) (x : Ext) (en : Bool), Steady (begin_ s) → (begin_ s).hostOk = true →
    pg.val ∈ [0x00, 0x01, 0x05, 0x06, 0x08, 0x3C, 0x3D, 0x3E, 0x3F] →
    Yields (.softReset pg en x) s (refusedWith (begin_ s) (R.H_CTRL pg) 0x0007)

/-- R478, R480, R481, R491, R492: integer arithmetic of Breeze code, results and flags, with everything else unchanged. -/
def Obligations.IntegerArithmeticOfBreezeCode : Prop :=
  ∀ (s : State) (e : Fin 4) (d a b x : Fin 64) (imm : Fin 4096),
    let A := wreg s e a
    let B := wreg s e b
    let X := wreg s e x
    let I := (BitVec.ofNat 12 imm.val).signExtend 64
    Computes s e (encA 0x08 d a b 0) (.bzAdd e d a b) d (A + B) (aluFlags s e (A + B) (A.uaddOverflow B) (A.saddOverflow B)) ∧
    Computes s e (encA 0x09 d a b 0) (.bzSub e d a b) d (A - B) (aluFlags s e (A - B) (A.usubOverflow B) (A.ssubOverflow B)) ∧
    Computes s e (encA 0x0A d a b 0) (.bzMul e d a b) d (A * B) (aluFlags s e (A * B) false (A.smulOverflow B)) ∧
    Computes s e (encA 0x0B d a b 0) (.bzMulh e d a b) d ((A.signExtend 128 * B.signExtend 128).extractLsb' 64 64)
      (aluFlags s e ((A.signExtend 128 * B.signExtend 128).extractLsb' 64 64) false false) ∧
    Computes s e (encA 0x1A d a b x) (.bzMadd e d a b x) d (X + A * B) (aluFlags s e (X + A * B) false (A.smulOverflow B)) ∧
    Computes s e (encA 0x18 d a 0 0) (.bzAbs e d a) d (if A.msb then -A else A)
      (aluFlags s e (if A.msb then -A else A) false (A == BitVec.intMin 64)) ∧
    Computes s e (encA 0x19 d a 0 0) (.bzNeg e d a) d (-A) (aluFlags s e (-A) false (A == BitVec.intMin 64)) ∧
    Computes s e (encA 0x16 d a b 0) (.bzMin e d a b) d (if B.slt A then B else A)
      (aluFlags s e (if B.slt A then B else A) false false) ∧
    Computes s e (encA 0x17 d a b 0) (.bzMax e d a b) d (if A.slt B then B else A)
      (aluFlags s e (if A.slt B then B else A) false false) ∧
    Computes s e (encA 0x0F 0 a b 0) (.bzCmp e a b) 0 0 (aluFlags s e (A - B) (A.usubOverflow B) (A.ssubOverflow B)) ∧
    Computes s e (encI 0x22 d a imm) (.bzAddi e d a imm) d (A + I) (aluFlags s e (A + I) (A.uaddOverflow I) (A.saddOverflow I)) ∧
    Computes s e (encI 0x23 0 a imm) (.bzCmpi e a imm) 0 0 (aluFlags s e (A - I) (A.usubOverflow I) (A.ssubOverflow I))

/-- R478, R481, R482, R491: logic, shifts, immediates, moves and bit fields, with everything else unchanged. -/
def Obligations.LogicShiftsAndFieldsOfBreezeCode : Prop :=
  ∀ (s : State) (e : Fin 4) (d a b : Fin 64) (imm : Fin 4096) (c : Fin 15),
    let A := wreg s e a
    let B := wreg s e b
    let D := wreg s e d
    let U := BitVec.ofNat 64 imm.val
    let I := (BitVec.ofNat 12 imm.val).signExtend 64
    let lsb := imm.val % 64
    let wid := imm.val / 64 + 1
    let F := flagsOf s e
    let zn (r : DWord) : BitVec 8 := aluFlags s e r false false
    Computes s e (encA 0x10 d a b 0) (.bzAnd e d a b) d (A &&& B) (zn (A &&& B)) ∧
    Computes s e (encA 0x11 d a b 0) (.bzOr e d a b) d (A ||| B) (zn (A ||| B)) ∧
    Computes s e (encA 0x12 d a b 0) (.bzXor e d a b) d (A ^^^ B) (zn (A ^^^ B)) ∧
    Computes s e (encA 0x1B 0 a b 0) (.bzTst e a b) 0 0 (zn (A &&& B)) ∧
    Computes s e (encA 0x13 d a b 0) (.bzShl e d a b) d (A <<< (B.toNat % 64)) (zn (A <<< (B.toNat % 64))) ∧
    Computes s e (encA 0x14 d a b 0) (.bzShr e d a b) d (A >>> (B.toNat % 64)) (zn (A >>> (B.toNat % 64))) ∧
    Computes s e (encA 0x15 d a b 0) (.bzSar e d a b) d (A.sshiftRight (B.toNat % 64)) (zn (A.sshiftRight (B.toNat % 64))) ∧
    Computes s e (encI 0x24 d a imm) (.bzAndi e d a imm) d (A &&& U) (zn (A &&& U)) ∧
    Computes s e (encI 0x25 d a imm) (.bzOri e d a imm) d (A ||| U) (zn (A ||| U)) ∧
    Computes s e (encI 0x26 d a imm) (.bzXori e d a imm) d (A ^^^ U) (zn (A ^^^ U)) ∧
    Computes s e (encI 0x27 d a imm) (.bzShli e d a imm) d (A <<< lsb) (zn (A <<< lsb)) ∧
    Computes s e (encI 0x28 d a imm) (.bzShri e d a imm) d (A >>> lsb) (zn (A >>> lsb)) ∧
    Computes s e (encI 0x29 d a imm) (.bzSari e d a imm) d (A.sshiftRight lsb) (zn (A.sshiftRight lsb)) ∧
    Computes s e (encI 0x2A d a imm) (.bzExtu e d a imm) d ((A.extractLsb' lsb wid).setWidth 64)
      (zn ((A.extractLsb' lsb wid).setWidth 64)) ∧
    Computes s e (encI 0x2B d a imm) (.bzExts e d a imm) d ((A.extractLsb' lsb wid).signExtend 64)
      (zn ((A.extractLsb' lsb wid).signExtend 64)) ∧
    (∃ r : DWord, (∀ i < 64, r.getLsbD i = if lsb ≤ i ∧ i < lsb + wid then A.getLsbD (i - lsb) else D.getLsbD i) ∧
      Computes s e (encI 0x2C d a imm) (.bzDep e d a imm) d r (zn r)) ∧
    Computes s e (encA 0x00 0 0 0 0) (.bzNop e) 0 0 F ∧
    Computes s e (encA 0x03 d 0 0 0) (.bzMff e d) d (F.setWidth 64) F ∧
    Computes s e (encA 0x04 0 a 0 0) (.bzMtf e a) 0 0 (A.setWidth 8) ∧
    Computes s e (encA 0x05 d a b c) (.bzSel e d a b c) d (if s.scan.eng[e].cond c then A else B) F ∧
    Computes s e (encA 0x06 d 0 0 c) (.bzSetc e d c) d (if s.scan.eng[e].cond c then 1 else 0) F ∧
    Computes s e (encI 0x20 d 0 imm) (.bzMovi e d imm) d I F ∧
    Computes s e (encI 0x21 d a imm) (.bzIns e d a imm) d ((A <<< 12) ||| U) F

/-- R491, R492: integer division. -/
def Obligations.DivisionOfBreezeCode : Prop :=
  ∀ (s : State) (e : Fin 4) (d a b : Fin 64),
    let A := wreg s e a
    let B := wreg s e b
    let ovf := A == BitVec.intMin 64 && B == -1
    (B = 0 →
      Computes s e (encA 0x0C d a b 0) (.bzDiv e d a b) d 0 (aluFlags s e 0 false true) ∧
      Computes s e (encA 0x0D d a b 0) (.bzDivu e d a b) d 0 (aluFlags s e 0 false true) ∧
      Computes s e (encA 0x0E d a b 0) (.bzRem e d a b) d 0 (aluFlags s e 0 false true)) ∧
    (B ≠ 0 →
      Computes s e (encA 0x0C d a b 0) (.bzDiv e d a b) d (A.sdiv B) (aluFlags s e (A.sdiv B) false ovf) ∧
      Computes s e (encA 0x0D d a b 0) (.bzDivu e d a b) d (A / B) (aluFlags s e (A / B) false false) ∧
      Computes s e (encA 0x0E d a b 0) (.bzRem e d a b) d (A - B * A.sdiv B) (aluFlags s e (A - B * A.sdiv B) false ovf))

/-- R480, R481, R491, R493, R857: the binary64 instructions, with everything else unchanged. Which NaN operand FMIN and FMAX
pass on is a free value (log entry 4). -/
def Obligations.FloatingPointOfBreezeCode : Prop :=
  ∀ (s : State) (e : Fin 4) (d a b x : Fin 64),
    let A := (wreg s e a).toNat
    let B := (wreg s e b).toNat
    let X := (wreg s e x).toNat
    let F := flagsOf s e
    let fl (r : Nat) (nan : Bool) : BitVec 8 :=
      zncvu F (r % 2 ^ 63 == 0) (F64.lt r 0) false (!F64.isFin r && !F64.isNan r) (F64.isNan r || nan)
    let gives (v : Word) (c : Instr) (r : Nat) (nan : Bool) : Prop := Computes s e v c d (BitVec.ofNat 64 r) (fl r nan)
    let na := F64.isNan A
    let nab := F64.isNan A || F64.isNan B
    let two (r : Nat) : Nat := if F64.isNan A && F64.isNan B then (if Config.nanSecond A B then B else A) else r
    let toI (v : Word) (c : Instr) (r : Option Int) : Prop :=
      (na = true → Computes s e v c d 0 (zncvu F true false false true true)) ∧
      (∀ i : Int, na = false → r = some i →
        let y := BitVec.ofInt 64 (max (-2 ^ 63) (min (2 ^ 63 - 1) i))
        Computes s e v c d y (zncvu F (y == 0) y.msb false (decide (i < -2 ^ 63 ∨ 2 ^ 63 - 1 < i)) false)) ∧
      (na = false → r = none →
        let y := if 2 ^ 63 ≤ A then BitVec.intMin 64 else BitVec.intMax 64
        Computes s e v c d y (zncvu F (y == 0) y.msb false true false))
    gives (encA 0x30 d a b 0) (.bzFadd e d a b) (F64.add A B) nab ∧
    gives (encA 0x31 d a b 0) (.bzFsub e d a b) (F64.sub A B) nab ∧
    gives (encA 0x32 d a b 0) (.bzFmul e d a b) (F64.mul A B) nab ∧
    gives (encA 0x33 d a b 0) (.bzFdiv e d a b) (F64.div A B) nab ∧
    gives (encA 0x34 d a b x) (.bzFma e d a b x) (F64.fma A B X) (nab || F64.isNan X) ∧
    gives (encA 0x35 d a 0 0) (.bzFsqrt e d a) (F64.sqrt A) na ∧
    gives (encA 0x36 d a b 0) (.bzFmin e d a b) (two (fminNum b64 A B)) nab ∧
    gives (encA 0x37 d a b 0) (.bzFmax e d a b) (two (fmaxNum b64 A B)) nab ∧
    gives (encA 0x38 d a 0 0) (.bzFabs e d a) (A % 2 ^ 63) na ∧
    gives (encA 0x39 d a 0 0) (.bzFneg e d a) (F64.neg A) na ∧
    gives (encA 0x3B d a 0 0) (.bzItof e d a) (F64.ofInt (wreg s e a).toInt) false ∧
    Computes s e (encA 0x3A 0 a b 0) (.bzFcmp e a b) 0 0 (zncvu F (F64.eq A B) (F64.lt A B) false false nab) ∧
    toI (encA 0x3C d a 0 0) (.bzFtoi e d a) (F64.toInt A) ∧
    toI (encA 0x3D d a 0 0) (.bzFtoit e d a) (ftruncInt b64 A) ∧
    (let lo := if F64.isNan B then 0xFFF0000000000000 else B
     let hi := if F64.isNan X then 0x7FF0000000000000 else X
     let r := if na then A else fminNum b64 (fmaxNum b64 A lo) hi
     let q := !na && F64.lt hi A
     let p := !na && F64.lt A lo
     Computes s e (encA 0x3E d a b x) (.bzFclamp e d a b x) d (BitVec.ofNat 64 r)
       ((F &&& 0x9F#8) ||| BitVec.ofNat 8 (32 * b2n q + 64 * b2n p)))

/-- R478, R482, R491: conditions, branches, calls and returns, with everything else unchanged. -/
def Obligations.ControlFlowOfBreezeCode : Prop :=
  ∀ (s : State) (e : Fin 4) (c : Fin 15) (off : BitVec 20),
    let g := s.scan.eng[e]
    let f (i : Nat) : Bool := g.flags.getLsbD i
    let target : Int := g.pc + 4 + 4 * off.toInt
    let inCode (x : Int) : Prop := 0 ≤ x ∧ ∀ i, s.scan.task[e].ent = some i → x < 4 * i.code.length
    let goto (pc : Nat) (stk : List Nat) : State :=
      { s with scan.eng := s.scan.eng.set e { g with pc := pc, stk := stk } }
    g.cond c = [true, f 0 && !f 4, !f 0 || f 4, (f 1 != f 3) && !f 4, (f 1 == f 3) && !f 4, (f 0 || (f 1 != f 3)) && !f 4,
      !f 0 && (f 1 == f 3) && !f 4, f 2, !f 2, f 4, f 5, !f 5, f 6, f 7, f 3].getD c false ∧
    ((begin_ s).fetch e = some (encJ 0x88 c off.toNat) →
      (g.cond c = false → inCode (g.pc + 4) → exec (.bzB e c off) s = .next (goto (g.pc + 4) g.stk)) ∧
      (g.cond c = true → inCode target → exec (.bzB e c off) s = .next (goto target.toNat g.stk))) ∧
    ((begin_ s).fetch e = some (encJ 0x89 0 off.toNat) → g.stk.length < 16 → inCode target →
      exec (.bzCall e off) s = .next (goto target.toNat (g.stk ++ [g.pc + 4]))) ∧
    (∀ (l : List Nat) (r : Nat), (begin_ s).fetch e = some (encA 0x02 0 0 0 0) → g.stk = l ++ [r] → inCode r →
      exec (.bzRet e) s = .next (goto r l))

/-- R485 to R489, R491: loads and stores that no check stops, with everything else unchanged. -/
def Obligations.LoadsAndStoresOfBreezeCode : Prop :=
  ∀ (s : State) (e : Fin 4) (sp : Fin 5) (q : Fin 3) (ty : Fin 8) (d base : Fin 64) (off : Fin 4096),
    let size := [1, 1, 2, 2, 4, 4, 8, 4].getD ty.val 1
    let ea := ((wreg s e base).toNat + off.val * size) % 2 ^ 64
    let ba := ((wreg s e base).toNat + off.val) % 2 ^ 64
    let bytes (sp a n : Nat) : List Byte := (List.range n).map fun i => memGet s.mem ((begin_ s).spBase e sp + a + i)
    let inside (sp a n : Nat) : Prop := a + n ≤ (begin_ s).spSize e sp ∧ a % n = 0
    let v := leNat (bytes sp.val ea size)
    let task := s.scan.task[e]
    let stored (q a : Nat) (l : List Byte) : State :=
      { engineNext s e 0 0 (flagsOf s e) with
        mem := memPut s.mem ((begin_ s).spBase e q + a) l,
        scan.task := if q = 2 ∧ a / 64 ∉ task.dirty then s.scan.task.set e { task with dirty := task.dirty ++ [a / 64] }
          else s.scan.task }
    let mapped (a n : Nat) : Prop := ∀ i, task.ent = some i → ∀ k, a < 4 * k + 4 → 4 * k < a + n → W.wmapMarked i.wmap k = true
    (inside sp.val ea size → Loads s e (encI (0x40 + 8 * sp.val + ty.val) d base off) (.bzLd e sp ty d base off .ok) d
      (match ty.val with
        | 1 => (BitVec.ofNat 8 v).signExtend 64
        | 3 => (BitVec.ofNat 16 v).signExtend 64
        | 5 => (BitVec.ofNat 32 v).signExtend 64
        | 7 => BitVec.ofNat 64 (widen v)
        | _ => BitVec.ofNat 64 v) (flagsOf s e)) ∧
    (ba / 8 < (begin_ s).spSize e sp.val →
      let b := (memGet s.mem ((begin_ s).spBase e sp.val + ba / 8)).getLsbD (ba % 8)
      Loads s e (encI (0x68 + sp.val) d base off) (.bzLdx e sp d base off .ok) d (if b then 1 else 0)
        (if b then flagsOf s e ||| 0x20#8 else flagsOf s e &&& 0xDF#8)) ∧
    (s.tw.sysUe = [] → Executes s e (encI (0x70 + 8 * q.val + ty.val) d base off) →
      (ty.val ≠ 1 → inside (q.val + 1) ea size → (q.val = 0 → mapped ea size) →
        exec (.bzSt e q ty d base off .ok) s =
          .next (stored (q.val + 1) ea (if ty.val = 7 then toLe 4 (F64.to32 (wreg s e d).toNat) else toLe size (wreg s e d).toNat))) ∧
      (ty.val = 1 → ba / 8 < (begin_ s).spSize e (q.val + 1) → (q.val = 0 → mapped (ba / 8) 1) →
        let old := memGet s.mem ((begin_ s).spBase e (q.val + 1) + ba / 8)
        let m : Byte := BitVec.ofNat 8 (2 ^ (ba % 8))
        exec (.bzSt e q ty d base off .ok) s =
          .next (stored (q.val + 1) (ba / 8) [if (wreg s e d).getLsbD 0 then old ||| m else old &&& ~~~m])))

/-- R501 to R507: the function blocks, with everything else unchanged. -/
def Obligations.FunctionBlocksOfBreezeCode : Prop :=
  ∀ (s : State) (e : Fin 4) (r : Bool) (d a b x : Fin 64),
    let base := (wreg s e a).toNat
    let inp := (wreg s e b).toNat
    let par := (wreg s e x).toNat
    let sp := if r then 2 else 3
    let A := (begin_ s).spBase e sp + base
    let get (o n : Nat) : Nat := leNat ((List.range n).map fun i => memGet s.mem (A + o + i))
    let cs := s.scan.task[e].cstamp
    let st := memGet s.mem (A + 8)
    let F := flagsOf s e
    let bits (old : Byte) (k v : Nat) : Byte := BitVec.ofNat 8 (old.toNat / 2 ^ k * 2 ^ k + v)
    let runs (op size : Nat) (c : Instr) (fields : List (Nat × List Byte)) (out : Nat) (fl : List (Nat × Bool)) : Prop :=
      Executes s e (encA (op + b2n r) d a b x) → base + size ≤ (begin_ s).spSize e sp → base % 8 = 0 →
        ∃ t, exec c s = .next t ∧ BlockDone s e r base fields d (BitVec.ofNat 64 out) (withFlags F fl) t
    let timer (op : Nat) (c : Instr) (step : Timer → Bool → Nat → Nat → Timer × Nat) : Prop :=
      let old : Timer := ⟨get 0 8, st.getLsbD 0, st.getLsbD 1, st.getLsbD 2, st.getLsbD 3⟩
      let new := step old (inp != 0) par cs
      runs op 16 c
        ((8, [bits st 4 (b2n new.1.q + 2 * b2n new.1.prev + 4 * b2n new.1.run + 8 * b2n new.1.exp)]) ::
          (if new.1.start = old.start then [] else [(0, toLe 8 new.1.start)])) new.2 [(5, new.1.q)]
    let counter (op : Nat) (c : Instr) (step : (cv pv : Int) → (st inp : Nat) → Int × Nat × List (Nat × Bool)) : Prop :=
      let new := step (BitVec.ofNat 64 (get 0 8)).toInt (wreg s e x).toInt st.toNat inp
      runs op 16 c [(8, [bits st 4 new.2.1]), (0, toLe 8 (BitVec.ofInt 64 new.1).toNat)] (BitVec.ofInt 64 new.1).toNat new.2.2
    let trigger (op : Nat) (c : Instr) (clk : Bool) : Prop :=
      let old := memGet s.mem A
      runs op 8 c [(0, [bits old 1 (b2n clk)])] (b2n (clk && !old.getLsbD 0)) [(5, clk && !old.getLsbD 0)]
    s.tw.sysUe = [] → Memory.wf s.mem →
    timer 0xA0 (.fbTon e r d a b x .ok) tonStep ∧ timer 0xA2 (.fbTof e r d a b x .ok) tofStep ∧ timer 0xA4 (.fbTp e r d a b x .ok) tpStep ∧
    counter 0xA6 (.fbCtu e r d a b x .ok) ctuStep ∧ counter 0xA8 (.fbCtd e r d a b x .ok) ctdStep ∧
    counter 0xAA (.fbCtud e r d a b x .ok) ctudStep ∧
    trigger 0xAC (.fbRTrig e r d a b x .ok) (inp != 0) ∧ trigger 0xAE (.fbFTrig e r d a b x .ok) (inp == 0) ∧
    (let new := pidStep ⟨get 0 8, get 8 8, get 16 8, get 24 8, get 32 8, get 40 8, get 48 8, get 56 4⟩
        ⟨get 64 8, get 72 8, get 80 8, get 88 8⟩ (stampDt cs (get 96 8)) inp par
     runs 0xB0 104 (.fbPid e r d a b x .ok)
        ((if new.2.2.2 then [] else [(64, toLe 8 new.1.i ++ toLe 8 new.1.d ++ toLe 8 new.1.y ++ toLe 8 new.1.xd)]) ++
          [(96, toLe 8 cs)]) new.1.y [(5, new.2.1), (6, new.2.2.1), (4, new.2.2.2)]) ∧
    (let new := limStep (get 0 8) (get 8 8) (get 16 8) (get 24 8) (get 32 8) (stampDt cs (get 40 8)) inp (get 40 8 == 0)
     runs 0xB2 48 (.fbLim e r d a b x .ok)
        ((if new.2.2.2 then [] else [(32, toLe 8 new.1)]) ++ [(40, toLe 8 cs)]) new.1
        [(5, new.2.1), (6, new.2.2.1), (4, new.2.2.2)])

/-- R508, R512, R513, R516, R615: the services that only read, and their failure while the domain is off. -/
def Obligations.ServicesThatRead : Prop :=
  ∀ (s : State) (e : Fin 4) (d a : Fin 64) (sub : Fin 32768), Steady (begin_ s) →
    let w := calling s e
    let x := arg s e a
    let n := x 0
    let off (dom page : Nat) (c : Instr) (svc : Nat) : Prop := w.dom dom = 0 → Serves c s e d a svc eDomainOff (w.err page eDomainOff) []
    let flying (k : Nat) : Nat := (w.axis k).queue.length + b2n (w.axis k).active.isSome
    let status (k len : Nat) : Nat := w.get s.mem (w.descAddr n + k) len
    Serves (.sysTscNow e d a) s e d a 0x001 0 w [s.tsc.toNat] ∧
    (let runs := w.rdB R.RTC_STAT 1
     Serves (.sysRtcRead e d a sub) s e d a 0x002 0 (if runs then w.wrF R.RTC_SUBSEC 0 15 sub else w)
      [if w.tinv then 0xFFFFFFFF else w.rdN R.RTC_EPOCH_S, if runs then sub.val else w.rdF R.RTC_SUBSEC 0 15]) ∧
    (∀ p, pageDomain (n / 0x1000) = some p → n < 0x80000 → n % 4 = 0 → n / 0x1000 ∉ [0x05, 0x3D, 0x3E, 0x42] → x 1 = 0 →
      w.inSrst (n / 0x1000) = false →
      (p ≠ 5 → (p ≤ 1 ∨ w.dom p = 1) → 0x040 ≤ n % 0x1000 → isPair n = false → w.evt.pairRd = [] →
        Serves (.sysRegRead e d a) s e d a 0x003 0 (w.freeRead n) [((w.freeRead n).regWord n).toNat]) ∧
      (2 ≤ p → w.dom p = 0 → 0x040 ≤ n % 0x1000 → inPd1 n = false →
        Serves (.sysRegRead e d a) s e d a 0x003 eDomainOff (w.err (n / 0x1000) eDomainOff) [])) ∧
    (w.dom 5 = 1 → n < 64 → Serves (.sysSlvStatus e d a .ok) s e d a 0x011 0 { w with pwr.holdoff := true }
      [status 128 4, status 132 1, status 176 4, status 184 4, status 152 8]) ∧
    (w.dom 6 = 1 → n < 16 → Serves (.sysCanStat e d a) s e d a 0x022 0 w
      [if (w.canCh n).busoff then 2 else b2n (w.canPassive n), w.tec n, w.rec' n]) ∧
    (w.dom 7 = 1 → n < 16 → Serves (.sysAxStat e d a) s e d a 0x031 0 w
      [uns 64 (w.axPos (R.AX_XPOS n)), uns 64 (w.axPos (R.AX_VEL n)), (setFld (w.rd (R.AX_ASTAT n)) 20 3 (flying n)).toNat, 4 - flying n]) ∧
    (w.dom 2 = 1 → n < 168 → Serves (.sysQtyRead e d a) s e d a 0x040 0 w
      [w.rd64 (R.QTY_Qs_FINE n), w.rdN (R.QTY_Qs_VIEW n) + 2 ^ 32 * w.rdF (R.QTY_Qs_VIEW_HI n) 0 8,
       w.rdF (R.QTY_Qs_VIEW_HI n) 8 9,
       (if w.qty.frz.isSome then w.rd R.QTY_FRZ_SEQ - 1#32 else w.rd R.QTY_FRZ_SEQ).toNat]) ∧
    (w.dom 3 = 1 → n < 16 → Serves (.sysSafStat e d a) s e d a 0x061 0 w [w.rdN (R.SAF_FUNC_STATf n)]) ∧
    (w.dom 5 = 0 → Serves (.sysSlvStatus e d a .ok) s e d a 0x011 eDomainOff w []) ∧ off 6 (W.chanPage n) (.sysCanStat e d a) 0x022 ∧
    off 7 (W.axErrPage n) (.sysAxStat e d a) 0x031 ∧ off 2 0x13 (.sysQtyRead e d a) 0x040 ∧ off 3 0x3C (.sysSafStat e d a) 0x061

/-- R434, R459, R460, R487, R488, R495 to R497, R500, R516: how a run ends, and what that leaves alone. -/
def Obligations.TrapsStopsAndWatchdogOfTasks : Prop :=
  ∀ (s : State) (e : Fin 4) (off : BitVec 20) (sp : Fin 5) (ty : Fin 8) (d base : Fin 64) (o : Fin 4096),
    let w := begin_ s
    let g := s.scan.eng[e]
    let size := [1, 1, 2, 2, 4, 4, 8, 4].getD ty.val 1
    let ea := ((wreg s e base).toNat + o.val * size) % 2 ^ 64
    let stopped (u : W) (st rsn : Nat) (more : Nat → Bool) : Prop :=
      u.tstate e = st ∧ (st = 3 → u.rdF (R.TASK_STATE e) 8 4 = rsn) ∧ (u.tk e).phase = 0 ∧ u.wq = [] ∧
      u.scan.eng = s.scan.eng ∧ (∀ n, n ≠ e.val → u.tk n = w.tk n) ∧
      (w.tstate e = 2 → u.scan.gpio.getD e none = none ∧ ∀ f : Fin 16, tFnReq s.saf.tbl f % 4 = e → u.saf.req.getLsbD f = false) ∧
      (∀ a, haltReg e a = false → more a = false → u.rd a = w.rd a)
    let snap (u : W) (cause : Nat) : Prop :=
      u.scan.snap.getD e {} = { valid := true, cause := cause, cycle := s.scan.task[e].cyc % 2 ^ 32, eng := g }
    let traps (c : Instr) (v : Word) (code space : Nat) : Prop := w.fetch e = some v → ∃ u, Yields c s u ∧
      stopped u 3 4 (fun a => a == R.TASK_TRAP e || a == R.TASK_TRAP_PC e) ∧ snap u 1 ∧
      u.rdN (R.TASK_TRAP e) = code + 16 * space ∧ u.rd (R.TASK_TRAP_PC e) = BitVec.ofNat 32 g.pc
    let lockReg (a : Nat) : Bool := a == R.H_LOCK (0x0B + e)
    Steady w → NoClaim w → w.anyEn 4 = true → (∀ j ∈ s.key.jobs, j.host = true ∨ j.task ≠ e) →
    (16 ≤ g.stk.length → traps (.bzCall e off) (encJ 0x89 0 off.toNat) 4 0) ∧
    (g.stk = [] → traps (.bzRet e) (encA 0x02 0 0 0 0) 4 0) ∧
    (w.spSize e sp.val < ea + size → traps (.bzLd e sp ty d base o .ok) (encI (0x40 + 8 * sp.val + ty.val) d base o) 1 sp) ∧
    (ea + size ≤ w.spSize e sp.val → ea % size ≠ 0 →
      traps (.bzLd e sp ty d base o .ok) (encI (0x40 + 8 * sp.val + ty.val) d base o) 2 sp) ∧
    (ty.val = 4 → ea + 4 ≤ w.spSize e 1 → ea % 4 = 0 →
      (∀ i, s.scan.task[e].ent = some i → W.wmapMarked i.wmap (ea / 4) = false) →
      traps (.bzSt e 0 ty d base o .ok) (encI 0x74 d base o) 3 1) ∧
    (w.dom 4 = 1 → w.tstate e = 2 → (w.tk e).phase = 2 →
      ∃ u, Yields (.taskWatchdog e) s u ∧ stopped u 3 2 (fun _ => false) ∧ snap u 2) ∧
    (Ready s (R.TASK_CMD e) → w.tstate e = 2 → (w.tk e).phase = 0 → w.olcStep ≠ 5 →
      ∃ u, Yields (.taskStop e) s u ∧ stopped u 0 0 lockReg) ∧
    (Ready s (R.TASK_CMD e) → w.tstate e = 2 → (w.tk e).phase ≠ 0 →
      HostWrites (.taskStop e) s (R.TASK_CMD e) fun w => w.modTk e fun t => { t with stopReq := true }) ∧
    (Ready s (R.TASK_CMD e) → w.tstate e = 3 → ∃ u, Yields (.clearFault e) s u ∧ stopped u 0 0 lockReg)

/-- R442 to R444, R446, R449, R455, R456, R477: pins, forces and stations as the host and the bus change them. -/
def Obligations.PinsForcesAndStations : Prop :=
  ∀ (s : State) (v : Word) (pin : Fin 32) (level : Bool) (j : BitVec 11) (e : Fin 64) (st : Fin 1536) (x : Stn),
    let w := begin_ s
    let reg := R.FRC_FRCe_ADDR e
    let clears (c : Instr) (pick : Word → Bool) : Prop := Ready s R.FRC_CLEAR → HostWrites c s R.FRC_CLEAR fun u =>
      let off := (List.range 64).foldl (fun u i =>
        if bit (u.rd (R.FRC_FRCe_ADDR i)) 31 && pick (u.rd (R.FRC_FRCe_ADDR i)) then u.wrF (R.FRC_FRCe_ADDR i) 30 2 0 else u) u
      if (List.range 64).any (fun i => bit (w.rd (R.FRC_FRCe_ADDR i)) 31 && pick (w.rd (R.FRC_FRCe_ADDR i))) then off.raise E.FRC_FORCE_CHANGE
      else off
    Steady w →
    (Ready s R.GPIO_OUT → HostWrites (.gpioOutWrite v) s R.GPIO_OUT fun u => u.wr R.GPIO_OUT v) ∧
    (Ready s R.GPIO_OUT_SET → HostWrites (.gpioOutSet v) s R.GPIO_OUT_SET fun u => u.wr R.GPIO_OUT (u.rd R.GPIO_OUT ||| v)) ∧
    (Ready s R.GPIO_OUT_CLR → HostWrites (.gpioOutClr v) s R.GPIO_OUT_CLR fun u => u.wr R.GPIO_OUT (u.rd R.GPIO_OUT &&& ~~~v)) ∧
    Yields (.gpioInputAccept pin level) s
      (if w.rdB (R.H_CTRL 0x41) 0 = true ∧ w.rdF (R.GPIO_GPIOi_CFG pin) 0 2 ≠ 0
       then { w with scan.gpioIn := s.scan.gpioIn.set pin (some level) } else w) ∧
    (Ready s reg →
      (if fld v 0 2 ≠ 0 ∨ (bit v 31 = true ∧ w.spSize (fld v 18 2) (fld v 20 1) < fld v 0 18 + 4)
       then Yields (.forceEntryWrite e v) s (refusedWith w reg eRange)
       else HostWrites (.forceEntryWrite e v) s reg fun u =>
         let stored := u.wr reg (v &&& 0x801FFFFF#32)
         if bit (w.rd reg) 31 = bit v 31 then stored else stored.raise E.FRC_FORCE_CHANGE)) ∧
    clears .forceClearAll (fun _ => true) ∧
    clears .forceClearOrphans (fun a => bit a 30) ∧
    (Ready s R.SCAN_STN_UPD →
      (if j.toNat < w.rdN R.SCAN_STN_COUNT
       then HostWrites (.stationUpdate j) s R.SCAN_STN_UPD fun u =>
         let owner := (memGet s.mem (w.rdN R.SCAN_STN_BASE + 16 * j.toNat + 4)).toNat / 16 % 4
         { u with scan.upd := (s.scan.upd.filter fun p => p.1 != j.toNat) ++ [(j.toNat, owner)] }
       else Yields (.stationUpdate j) s (refusedWith w R.SCAN_STN_UPD eRange))) ∧
    (s.scan.stn.find? (fun y => y.idx == st.val) = some x →
      Yields (.stationWindowTimeout st) s
        (if x.window = true
         then { w with scan.stn := s.scan.stn.map fun y => if y.idx = st.val then { x with window := false, miss := true } else y }
         else w))

/-- R426, R427, R430, R436, R437, R440, R441, R476, R479, R696: the phases of a cycle. -/
def Obligations.CyclesOfATask : Prop :=
  ∀ (s : State) (n : Fin 4) (d3 d4 : Nat) (current : Bool) (c1 c2 : Option (List Byte)),
    let w := begin_ s
    let k := s.scan.task[n]
    let after (u : W) (a : Nat) : Byte := memGet (commit s u).mem a
    let ib := w.spBase n 0
    let ob := w.spBase n 1
    let size := w.spSize n 1
    let rb := w.spBase n 2
    let sv := w.spBase n 4
    let p := 100 * w.rdN (R.TASK_PERIOD n)
    let end3 := s.tsc.toNat + d3
    let logic (u : W) : Prop := u.scan.eng = s.scan.eng.set n { pc := (k.ent.map (·.entry)).getD 0 } ∧ (u.tk n).phase = 2 ∧
      (u.tk n).ent = k.ent ∧ (u.tk n).grid = k.grid ∧ ∀ j, j ≠ n.val → u.tk j = w.tk j
    Steady w → Memory.wf s.mem → w.dom 4 = 1 → w.tstate n = 2 → (∀ x ∈ s.scan.stn, x.task ≠ n) → w.frcSet = [] →
    (k.phase = 0 → w.triad = false → s.scan.upd = [] → w.xlinks n = [] → s.tw.cw[n] = none →
      ∃ u, Yields (.cycleLatch n c1 c2 [] []) s u ∧ logic u ∧ (∀ a, u.rd a = w.rd a) ∧
        u.tsc = (if s.tsc.toNat < k.grid then BitVec.ofNat 64 k.grid else s.tsc) ∧
        u.evt.seLatch = s.evt.seLatch.set n 0 ∧
        (∀ i < 64, after u (ib + i) =
          (toLe 32 (s.evt.seLatch[n]).toNat ++ toLe 4 w.gpioIn.toNat ++ List.replicate 28 0).getD i 0) ∧
        (∀ a, ¬ (ib ≤ a ∧ a < ib + 64) → ¬ (sv ≤ a ∧ a < sv + 2048) → after u a = memGet s.mem a) ∧
        (ib + 64 ≤ sv ∨ sv + 8 ≤ ib → ∀ i < 8, after u (sv + i) = (toLe 8 k.grid).getD i 0)) ∧
    (k.phase = 1 → k.vote = #v[none, none] →
      ∃ u, Yields (.triadWaitExpiry n) s u ∧ logic u ∧ u.rdB R.RED_TRIAD_STAT 2 = true ∧
        (∀ a, a ≠ R.RED_TRIAD_STAT → u.rd a = w.rd a) ∧ ∀ a, after u a = memGet s.mem a) ∧
    (w.fetch n = some (encA 0x01 0 0 0 0) → w.triad = false → w.copies n = false → k.stopReq = false → k.switchDue = false →
      k.grid ≤ end3 → end3 ≤ k.grid + p → 4 ≤ size → (rb + 2 * w.retUp n ≤ ob ∨ ob + 2 * size ≤ rb) →
      (∀ l ∈ k.dirty, 64 * l + 64 ≤ w.retUp n) →
      ∃ u, Yields (.bzCend n d3 d4 current c1 c2) s u ∧
        u.scan.eng = s.scan.eng ∧ (u.tk n).phase = 0 ∧ (u.tk n).grid = k.grid + p ∧ (u.tk n).cyc = k.cyc + 1 ∧
        (∀ j, j ≠ n.val → u.tk j = w.tk j) ∧
        u.scan.gpio = s.scan.gpio.set n (some (BitVec.ofNat 32 (leNat ((List.range 4).map fun i => memGet s.mem (ob + i))))) ∧
        u.rd64 (R.TASK_CYCLES n) = (w.rd64 (R.TASK_CYCLES n) + 1) % 2 ^ 64 ∧
        ((end3 - k.grid) % 100 = 0 → u.rd (R.TASK_LAST_EXEC n) = BitVec.ofNat 32 ((end3 - k.grid) / 100)) ∧
        (∀ a, a ∉ [R.TASK_LAST_EXEC n, R.TASK_MAX_EXEC n, R.TASK_MIN_IDLE n, R.TASK_CYCLES n, R.TASK_CYCLES n + 4] → u.rd a = w.rd a) ∧
        (∀ i < size, after u (ob + size + i) = memGet s.mem (ob + i)) ∧
        (∀ l ∈ k.dirty, ∀ i < 64, after u (rb + w.retUp n + 64 * l + i) = memGet s.mem (rb + 64 * l + i)) ∧
        (∀ a, ¬ (ob + size ≤ a ∧ a < ob + 2 * size) →
          (∀ l ∈ k.dirty, ¬ (rb + w.retUp n + 64 * l ≤ a ∧ a < rb + w.retUp n + 64 * l + 64)) → after u a = memGet s.mem a))

/-- R424, R459, R461 to R464, R467, R476, R500: how a task enters RUN, and the steps of an on-line change. -/
def Obligations.StartsAndOnLineChange : Prop :=
  ∀ (s : State) (n : Fin 4) (warm : Bool) (edge sub : Nat) (ent : ImgEnt) (bank : Fin 2) (img : List ImgEnt) (x : Ext),
    let w := begin_ s
    let clean : Prop := s.age.ueWords = [] ∧ x.start.mramCe = [] ∧ x.start.mramUe = []
    let after (u : W) (a : Nat) : Byte := memGet (commit s u).mem a
    let c : Instr := if warm then .startWarm n edge sub else .startCold n edge sub
    let base (k : Nat) := w.spBase n k
    let size (k : Nat) := w.spSize n k
    let up := w.retUp n
    let code := (hostEnter w (0x0B + n)).startCode s.mem n
    let sig := w.rdN (R.TASK_RET_SIG n)
    let kept := warm = true ∧ sig ≠ 0 ∧ sig = ent.retSig
    let apart (a b : Nat × Nat) : Prop := a.1 + a.2 ≤ b.1 ∨ b.1 + b.2 ≤ a.1
    let enter := hostEnter w 0x0A
    let olc := enter.olcCode s.mem (BitVec.ofNat 32 (2 ^ 31 + bank.val))
    Steady w → Memory.wf s.mem → w.olcStep ≠ 5 →
    (Ready s (R.TASK_CMD n) → code ≠ 0 → Yields c s (refusedWith w (R.TASK_CMD n) code)) ∧
    (Ready s (R.TASK_CMD n) → code = 0 → w.startEnt n = some ent → w.anyEn 4 = true →
      [(base 0, size 0), (base 1, 2 * size 1), (base 3, size 3), (base 2, 2 * up)].Pairwise apart →
      ent.loci.length ≤ size 3 → ent.reti.length ≤ up →
      ∃ u, Yields c s u ∧ u.tstate n = 2 ∧
        u.rdF (R.TASK_STATE n) 2 2 = (if warm = false then 2 else if kept then 1 else 3) ∧
        (u.tk n).ent = some ent ∧ (u.tk n).phase = 0 ∧ (u.tk n).cyc = 0 ∧
        (w.rdB (R.TASK_CFG n) 2 = false → (u.tk n).grid = (s.tsc.toNat + 19999) / 10000 * 10000) ∧
        (∀ j, j ≠ n.val → u.tk j = w.tk j) ∧ u.rd64 (R.TASK_CYCLES n) = 0 ∧ u.rd (R.TASK_OVR_CNT n) = 0 ∧
        u.rd (R.TASK_MIN_IDLE n) = 0xFFFFFFFF#32 ∧ u.rd (R.TASK_TRAP n) = 0 ∧ u.rd (R.TASK_TRAP_PC n) = w.rd (R.TASK_TRAP_PC n) ∧
        (u.scan.snap.getD n {}).valid = false ∧
        (u.rdN (R.TASK_RET_SIG n) = if kept then sig else ent.retSig % 2 ^ 32) ∧
        (∀ i < size 0, after u (base 0 + i) = 0) ∧ (∀ i < 2 * size 1, after u (base 1 + i) = 0) ∧
        (∀ i < size 3, after u (base 3 + i) = ent.loci.getD i 0) ∧
        (∀ i < up, after u (base 2 + i) = if kept then memGet s.mem (base 2 + up + i) else ent.reti.getD i 0) ∧
        (∀ i < up, after u (base 2 + up + i) = if kept then memGet s.mem (base 2 + up + i) else ent.reti.getD i 0) ∧
        (∀ a, a / 0x1000 ≠ 0x0B + n.val → a / 0x1000 ≠ 0x0F → evtReg a = false → u.rd a = w.rd a)) ∧
    (Ready s R.SCAN_OLC_CTRL → olc = 0 → clean →
      HostWrites (.onlineChange bank x) s R.SCAN_OLC_CTRL fun u =>
        let v : W := { u with
          scan.next := some (u.imgRead s.mem bank).2
          scan.task := Vector.ofFn fun j : Fin 4 => { u.tk j with switchDue := (u.tk j).switchDue || u.tstate j == 2 } }
        (v.wr R.SCAN_OLC_CTRL (BitVec.ofNat 32 (2 ^ 31 + bank.val))).wr R.SCAN_OLC_STAT
          (BitVec.ofNat 32 (4 + 8 * w.rdF R.SCAN_OLC_STAT 3 1))) ∧
    (Ready s R.SCAN_OLC_CTRL → olc ≠ 0 → clean →
      Yields (.onlineChange bank x) s
        (let e := enter.err 0x0A olc
         (((if 1 ≤ w.olcStep ∧ w.olcStep ≤ 6 then e else e.wrF R.SCAN_OLC_STAT 0 3 7).wrF R.SCAN_OLC_STAT 16 16 olc).raise
           E.SCAN_OLC_FAIL).spend 0x0A 0x064)) ∧
    (w.dom 4 = 1 → w.olcStep = 4 → s.scan.next = some img → w.frcSet = [] → (∀ j < 4, w.tstate j ≠ 2 ∧ (w.tk j).switchDue = false) →
      ∃ u, Yields .olcLoadDone s u ∧ u.olcStep = 0 ∧ u.rdN R.SCAN_BOOT_BANK = w.rdF R.SCAN_OLC_CTRL 0 1 ∧
        u.rdB R.SCAN_OLC_CTRL 31 = false ∧
        u.scan = { s.scan with img := img, next := none, half := 1 - s.scan.half, bootBank := w.rdF R.SCAN_OLC_CTRL 0 1 } ∧
        (∀ a, a ∉ [R.SCAN_OLC_STAT, R.SCAN_OLC_CTRL, R.SCAN_BOOT_BANK] → evtReg a = false → u.rd a = w.rd a) ∧
        (∀ a, ¬ (w.rdN R.SCAN_CODE_BASE ≤ a ∧ a < w.rdN R.SCAN_CODE_BASE + 2 * w.rdN R.SCAN_CODE_SIZE) → s.scan.half ≤ 1 →
          after u a = memGet s.mem a)) ∧
    (w.dom 4 = 1 → w.olcStep = 4 → (∀ j < 4, w.tstate j = 2 → (w.tk j).phase ≠ 0) → (w.tk n).switchDue = true →
      ∃ u, Yields .olcLoadDone s u ∧ u.olcStep = 5 ∧ u.scan.next = s.scan.next ∧ u.scan.img = s.scan.img ∧
        (∀ j < 4, u.tk j = w.tk j) ∧ (∀ a, a ≠ R.SCAN_OLC_STAT → u.rd a = w.rd a))

/-- R535, R536, R538, R540, R545, R546, R553, R554, R560: what the host does at the pages of the buses. -/
def Obligations.RequestsOfTheHostToABus : Prop :=
  ∀ (s : State) (n : Fin 16) (m : Fin 64) (k : Fin 16) (v : Word) (sel : Fin 65),
    let w := begin_ s
    let b := w.mbox n m
    let half := 4 * (m.val / 32)
    let page := 0x1A + n.val
    let fd := bit b.idw 30
    let brs := bit b.idw 31
    let rtr := bit b.mc 4
    let claim := bit b.mc 9
    let length := canLen (fld b.mc 0 4) fd
    let silent : Prop := w.rdB (R.H_CTRL page) 0 = false ∨ w.rdF (R.CAN_MODE n) 0 2 = 1 ∨ w.rdF (R.CAN_MODE n) 0 2 = 2 ∨ fld b.mc 6 2 ≠ 1
    let unfit : Prop := (fd = true ∧ w.rdB (R.CAN_MODE n) 2 = false) ∨ (rtr = true ∧ fd = true) ∨
      (brs = true ∧ (fd = false ∨ w.rdB (R.CAN_MODE n) 3 = false)) ∨ (claim = true ∧ (length < 2 ∨ rtr = true))
    let waiting (b : Mbx) : Prop := 1 ≤ fld b.mc 16 4 ∧ fld b.mc 16 4 ≤ 3
    let ends (u : W) (i : Nat) (b : Mbx) (st : Nat) : W :=
      let u := u.setMbox n i { b with mc := setFld b.mc 16 4 st, abort := false }
      if bit b.mc 10 = true then u.raise (E.CAN_TX n) else u
    let frees (u : W) (i : Nat) (b : Mbx) : W :=
      let e := setFld (setBit (setBit b.mc 12 false) 14 false) 16 4 0
      match b.shadow with
      | none => u.setMbox n i { b with mc := e }
      | some r =>
        let u := u.setMbox n i { b with
          mc := setFld ((setFld (setFld (setBit e 13 false) 0 6 0) 20 7 0) ||| r.bits) 16 4 9
          idw := r.idw, tsc := r.tsc, data := r.data, shadow := none }
        if i = 64 then u.raise (E.CAN_HP n) else if bit b.mc 10 = true then u.raise (E.CAN_RX n) else u
    let big := w.mbox n 64
    let sb := w.mbox n sel
    Steady w →
    (Ready s (R.CAN_TX_REQ n + half) → HostWrites (.canTxRequest n m) s (R.CAN_TX_REQ n + half) fun u =>
      if bit b.mc 8 = true then u.err page ePerm else if silent then u.err page eState else if unfit then u.err page eRange
      else if waiting b then u.err page eBusy
      else u.setMbox n m
        { b with mc := setFld b.mc 16 4 (if (w.canCh n).busoff then 3 else 1), reqAt := s.tsc.toNat, abort := false }) ∧
    (Ready s (R.CAN_TX_ABORT n + half) → HostWrites (.canTxAbort n m) s (R.CAN_TX_ABORT n + half) fun u =>
      if fld b.mc 6 2 ≠ 1 then u
      else if fld b.mc 16 4 = 1 ∨ fld b.mc 16 4 = 3 then ends u m b 5
      else if fld b.mc 16 4 = 2 then u.setMbox n m { b with abort := true } else u) ∧
    (Ready s (R.CAN_MB_VIEW n 0) → w.rdF (R.CAN_MB_SEL n) 0 7 = sel →
      (if sel.val ≠ 64 ∧ fld sb.mc 6 2 = 1 ∧ waiting sb
       then Yields (.canMailboxWrite n 0 v) s (refusedWith w (R.CAN_MB_VIEW n 0) eBusy)
       else HostWrites (.canMailboxWrite n 0 v) s (R.CAN_MB_VIEW n 0) fun u => u.setMbox n sel { sb with idw := v })) ∧
    (Ready s (R.CAN_MB_VIEW n (4 + k)) → w.rdF (R.CAN_MB_SEL n) 0 7 = sel → ¬ (sel.val ≠ 64 ∧ fld sb.mc 6 2 = 1 ∧ waiting sb) →
      HostWrites (.canMailboxWrite n ⟨4 + k, by omega⟩ v) s (R.CAN_MB_VIEW n (4 + k)) fun u =>
        u.setMbox n sel { sb with data := sb.data.take (4 * k) ++ toLe 4 v.toNat ++ sb.data.drop (4 * k + 4) }) ∧
    (Ready s (R.CAN_RECOVER n) →
      ((w.canCh n).busoff = false → Yields (.canRecover n) s (refusedWith w (R.CAN_RECOVER n) eState)) ∧
      ((w.canCh n).busoff = true → HostWrites (.canRecover n) s (R.CAN_RECOVER n) fun u =>
        (u.setCan n { w.canCh n with recov := true }).canSync n)) ∧
    (Ready s (R.CAN_RX_LOCK n + half) → HostWrites (.canRxLock n m) s (R.CAN_RX_LOCK n + half) fun u =>
      if fld b.mc 6 2 = 2 then u.setMbox n m { b with mc := setBit b.mc 12 true } else u) ∧
    (Ready s (R.CAN_RX_REL n + half) → HostWrites (.canRxRelease n m) s (R.CAN_RX_REL n + half) fun u =>
      if fld b.mc 6 2 = 2 then frees u m b else u) ∧
    (Ready s (R.CAN_HP_CTRL n) → HostWrites (.hpLock n) s (R.CAN_HP_CTRL n) fun u =>
      u.setMbox n 64 { big with mc := setBit big.mc 12 true }) ∧
    (Ready s (R.CAN_HP_CTRL n) → HostWrites (.hpRel n) s (R.CAN_HP_CTRL n) fun u => frees u 64 big)

/-- R532, R542, R544, R546, R550, R551, R553, R556, R559 to R562: what happens on a bus. -/
def Obligations.TrafficOnABus : Prop :=
  ∀ (s : State) (n : Fin 16) (m : Fin 64) (f : CanFrame) (sof : DWord) (dly tdcv : Nat) (e : CanErr) (k : Fin 128),
    let w := begin_ s
    let c := w.canCh n
    let b := w.mbox n m
    let tec := w.tec n
    let rc := w.rec' n
    let opmode := w.rdF (R.CAN_MODE n) 0 2
    let ends (st : Nat) (u : W) (i : Nat) (b : Mbx) : W :=
      let u := u.setMbox n i { b with mc := setFld b.mc 16 4 st, abort := false }
      if bit b.mc 10 = true ∧ 4 ≤ st ∧ st ≤ 7 then u.raise (E.CAN_TX n) else u
    let those (lo hi st : Nat) (u : W) : W := (List.range 64).foldl (fun u i =>
      if lo ≤ fld (u.mbox n i).mc 16 4 ∧ fld (u.mbox n i).mc 16 4 ≤ hi then ends st u i (u.mbox n i) else u) u
    let drops (u : W) : W := { u with scan.stn := u.scan.stn.map fun x => if x.chan = n.val then { x with slot := none } else x }
    let cause (i : Nat) (u : W) : W := (u.wrB (R.CAN_ERR_CAUSE n) i true).raise (E.CAN_ERR n)
    let counts (tec rc : Nat) (u : W) : W := u.wrN (R.CAN_ECNT n) (tec + 2 ^ 16 * rc)
    let heard (u : W) : W := ((u.wr (R.CAN_ACK_RUN n) 0).wrB (R.CAN_BSTAT n) 3 false).canSync n
    let returns (u : W) : W :=
      let u := u.setCan n { c with act := none }
      if b.abort = true then ends 5 u m b else u.setMbox n m { b with mc := setFld b.mc 16 4 1 }
    let offers := w.canOffers s.mem n
    let ctl (k : Nat) := w.rd (R.CAN_FILT n (4 * k + 2))
    let fits (k : Nat) : Prop := fld (ctl k) 0 2 ≠ 0 ∧ bit (w.rd (R.CAN_FILT n (4 * k))) 29 = f.xtd ∧
      canId f.xtd ((f.id ^^^ fld (w.rd (R.CAN_FILT n (4 * k))) 0 29) &&& w.rdF (R.CAN_FILT n (4 * k + 1)) 0 29) = 0
    Steady w → w.dom 6 = 1 →
    (w.rdB (R.H_CTRL (0x1A + n)) 0 = true → c.live = false → c.closing = false →
      Yields (.canIntegrationDone n) s ((w.setCan n { c with live := true }).canSync n)) ∧
    (c.closing = true → Yields (.canDisableDone n) s
      ((drops (those 1 3 5 (w.setCan n { c with closing := false, live := false, act := none }))).canSync n)) ∧
    ((∃ o ∈ offers, o.2.2.1 = .mailbox m) ↔ fld b.mc 6 2 = 1 ∧ fld b.mc 16 4 = 1 ∧ b.reqAt + 100 ≤ s.tsc.toNat ∧
      (bit b.mc 9 = true → w.hasClaim = true) ∧ (bit b.idw 30 = true → w.rdB (R.CAN_MODE n) 2 = true)) ∧
    (c.live = true → c.busoff = false → c.closing = false → opmode ≠ 1 → opmode ≠ 2 → c.act = none →
      (offers = [] → Yields (.canArbitrationStart n dly []) s w) ∧
      (∀ o ∈ offers, (∀ x ∈ offers, x = o ∨ o.1 < x.1 ∨ o.1 = x.1 ∧ o.2.1 < x.2.1) → o.2.2.1 = .mailbox m →
        Yields (.canArbitrationStart n dly []) s
          (((w.setMbox n m { b with
              mc := setFld b.mc 16 4 2
              data := if bit b.mc 9 = true then o.2.2.2.data.take 2 ++ b.data.drop 2 else b.data }).setCan n
            { c with act := some ⟨.mailbox m, s.tsc + BitVec.ofNat 64 dly, o.2.2.2⟩ }).canSync n))) ∧
    (c.act = some ⟨.mailbox m, sof, f⟩ → f.fd = false → opmode ≠ 3 → tec ≤ 256 → Yields (.canFrameTransmitted n tdcv) s
      (ends 4 ((heard ((counts (tec - 1) rc (w.setCan n { c with act := none, sent := some f })).canSync n)).inc
        (R.CAN_TX_DONE_CNT n)) m { b with tsc := sof })) ∧
    (c.act = some ⟨.mailbox m, sof, f⟩ → c.live = true → c.busoff = false → opmode ≠ 1 → opmode ≠ 2 →
      e.transmitter = true → e.lec ≠ 3 → e.stuffArb = false → e.more = 0 →
      let u := counts (min (tec + 8) 511) rc (returns (w.wrN (R.CAN_LEC n) (e.lec.val + 8 * b2n e.dataPhase)))
      (tec + 8 < 96 → Yields (.canFrameError n e none) s ((u.canSync n).canSync n)) ∧
      (248 ≤ tec → Yields (.canFrameError n e none) s
        (((cause 2 ((those 1 2 3 (u.setCan n { c with act := none, busoff := true, recov := !w.rdB (R.CAN_MODE n) 4 })).incSat
          (R.CAN_BUSOFF_CNT n))).canSync n).canSync n))) ∧
    (w.stnMatch n f = [] → f.fd = false → c.live = true → c.busoff = false → opmode = 0 → c.act = none → rc = 0 →
      ((∀ k < 128, ¬ fits k) → Yields (.canFrameReceived n f sof) s ((heard (w.canSync n)).incSat (R.CAN_RX_NOMATCH n))) ∧
      ((∀ i < k.val, ¬ fits i) → fits k → fld (ctl k) 0 2 = 1 → fld (ctl k) 8 6 = m.val →
        fld b.mc 6 2 = 2 → bit b.mc 12 = false → fld b.mc 16 4 ≠ 9 →
        let kept := f.data.take (if f.rtr = true then 0 else canLen (f.dlc % 16) false)
        let u := (heard (w.canSync n)).setMbox n m { b with
          mc := setFld ((setFld (setFld b.mc 0 6 0) 20 7 0) |||
            BitVec.ofNat 32 (f.dlc % 16 + 16 * b2n f.rtr + 32 * b2n f.esi + 2 ^ 20 * k.val)) 16 4 9
          idw := BitVec.ofNat 32 (f.id + 2 ^ 29 * b2n f.xtd + 2 ^ 31 * b2n f.brs)
          tsc := sof
          data := kept ++ List.replicate (64 - kept.length) 0 }
        Yields (.canFrameReceived n f sof) s
          ((if bit b.mc 10 = true then u.raise (E.CAN_RX n) else u).inc (R.CAN_RX_CNT n)))) ∧
    (Yields (.claimWaitExpiry n (.mailbox m)) s
      (if w.hasClaim = false ∧ fld b.mc 6 2 = 1 ∧ fld b.mc 16 4 = 1 ∧ bit b.mc 9 = true
       then ends 7 (w.incSat (R.CAN_NOCLAIM_CNT n)) m b else w)) ∧
    (16 ≤ w.rdF (R.CAN_ACK_RUN n) 0 8 → w.rdB (R.CAN_BSTAT n) 3 = false →
      let u := cause 4 (w.wrB (R.CAN_BSTAT n) 3 true)
      Yields (.alone n) s (if w.rdB (R.CAN_MODE n) 5 = true
        then heard (drops (those 1 2 6 (u.setCan n { c with act := none }))) else u)) ∧
    (c.busoff = true → c.recov = true → Yields (.canRecoveryDone n) s
      ((cause 3 (those 3 3 1 ((w.setCan n { c with busoff := false, recov := false }).wr (R.CAN_ECNT n) 0))).canSync n))

/-- R508, R509, R513 to R516, R541, R555, R575, R713, R729, R777: the services that change the device, where every check passes. -/
def Obligations.ServicesThatAct : Prop :=
  ∀ (s : State) (e : Fin 4) (d a : Fin 64) (m : Fin 64), Steady (begin_ s) →
    let w := calling s e
    let x := arg s e a
    let n := x 0
    let space (r : Nat) := r / 2 ^ 60
    let at_ (r : Nat) := r % 2 ^ 18
    let inside (r len unit : Nat) : Prop := space r ≤ 4 ∧ r / 2 ^ 18 % 2 ^ 42 = 0 ∧ at_ r % unit = 0 ∧ at_ r + len ≤ w.spSize e (space r)
    let here (r : Nat) := w.spBase e (space r) + at_ r
    let awake : W := { w with pwr.holdoff := true }
    let idle : Prop := w.slv.queue = [] ∧ w.slv.exec = none ∧ w.dom 5 = 1
    let moved : Prop := 8 ≤ x 1 ∧ x 1 ≤ 4096 ∧ x 1 % 8 = 0 ∧ x 0 % 8 = 0 ∧ x 0 + x 1 ≤ solverEnd
    let b := w.mbox n m
    let emptied : W := w.setMbox n m { b with mc := setFld (setBit (setBit b.mc 12 false) 14 false) 16 4 0 }
    let idw := BitVec.ofNat 32 (x 1)
    let cmd := W.axParse (BitVec.ofNat 32 (x 1)) (BitVec.ofNat 32 (x 2)) (BitVec.ofNat 32 (x 3)) (BitVec.ofNat 32 (x 4))
    let job : SecJob := {
      place := ((List.range 16).find? fun p => !w.key.jobs.any fun j => j.place == p).getD 0
      host := false, task := e, worldS := s.scan.task[e].worldS, op := n, slot := x 1 % 128, slot2 := x 1 / 2 ^ 8 % 128
      attr := BitVec.ofNat 32 (x 1 / 2 ^ 32), input := w.bytes s.mem (here (x 2)) (x 3), cap := x 5, out := x 4 }
    (w.dom 5 = 1 → w.slv.exec.isSome = true → w.slv.queue.length < 8 → n < 64 → w.slvBusy n = false →
      let u : W := { awake.put (w.descAddr n + 132) 1 1 with slv.queue := w.slv.queue ++ [{ desc := n, origin := 1, tag := x 1 % 2 ^ 16 }] }
      Serves (.sysSlvSubmit e d a) s e d a 0x010 0 (u.upd R.SLV_QSTAT (qstat u)) []) ∧
    (idle → moved → space (x 2) = 3 → inside (x 2) (x 1) 8 →
      Serves (.sysSlvRead e d a .ok) s e d a 0x012 0 (awake.putBytes (here (x 2)) (w.bytes s.mem (x 0) (x 1))) []) ∧
    (idle → moved → inside (x 2) (x 1) 8 →
      Serves (.sysSlvWrite e d a .ok) s e d a 0x013 0 (awake.putBytes (x 0) (w.bytes s.mem (here (x 2)) (x 1))) []) ∧
    (w.dom 6 = 1 → n < 16 → w.rdB (R.H_CTRL (0x1A + n)) 0 = true → w.rdF (R.CAN_MODE n) 0 2 ≠ 1 → w.rdF (R.CAN_MODE n) 0 2 ≠ 2 →
      bit idw 30 = false → bit idw 31 = false → x 2 ≤ 8 → inside (x 3) (x 2) 4 → (x 4 % 2 = 1 → 2 ≤ x 2) →
      let free (i : Nat) : Prop := fld (w.mbox n i).mc 6 2 = 1 ∧ bit (w.mbox n i).mc 8 = true ∧
        (fld (w.mbox n i).mc 16 4 = 0 ∨ 4 ≤ fld (w.mbox n i).mc 16 4 ∧ fld (w.mbox n i).mc 16 4 ≤ 8)
      free m → (∀ i < m.val, ¬ free i) →
      Serves (.sysCanSend e d a .ok) s e d a 0x020 0
        (w.setMbox n m
          { b with
            mc := setFld (setFld (setBit (setFld b.mc 0 4 (x 2)) 4 false) 9 1 (x 4 % 2)) 16 4 (if (w.canCh n).busoff then 3 else 1)
            idw := idw, data := w.bytes s.mem (here (x 3)) (x 2) ++ List.replicate (64 - x 2) 0
            reqAt := s.tsc.toNat, abort := false }) [m]) ∧
    (w.dom 6 = 1 → n < 16 → x 1 = m → fld b.mc 6 2 = 2 → space (x 2) = 3 → inside (x 2) 64 4 →
      (fld b.mc 16 4 ≠ 9 → Serves (.sysCanRecv e d a) s e d a 0x021 0 w [0, 0, 0, 0]) ∧
      (fld b.mc 16 4 = 9 → b.shadow = none → Serves (.sysCanRecv e d a) s e d a 0x021 0 (emptied.putBytes (here (x 2)) b.data)
        [1, b.idw.toNat, canLen (fld b.mc 0 4) (bit b.idw 30), b.tsc.toNat])) ∧
    (w.dom 7 = 1 → n < 16 → w.axCheck n 1 [(BitVec.ofNat 32 (x 1), cmd)] = 0 → cmd.now = false →
      Serves (.sysAxCmd e d a) s e d a 0x030 0 (w.modAx n fun q => { q with queue := q.queue ++ [cmd] }) []) ∧
    (w.dom 2 = 1 → Serves (.sysQtyFreeze e d a) s e d a 0x041 0
      (if w.qty.frz.isSome then w.wrB R.QTY_FRZ_CAUSE 1 true
       else { (w.inc R.QTY_FRZ_SEQ).wrN R.QTY_FRZ_CAUSE 2 with
         qty.frz := some (w.tscTime, w.rtcSec.toNat, s.qty.slot.toList) }) []) ∧
    (w.dom 2 = 1 → n < 8 → F64.isFin (x 1) = true → Serves (.sysFlowIn e d a) s e d a 0x042 0
      (((w.wr (R.QTY_Hh_FLOW_IN n) (BitVec.ofNat 32 (F64.to32 (x 1)))).setTh n { w.thOf n with stale := 0, wrote := true }).wrB (R.QTY_Hh_STAT n) 1 false) []) ∧
    (n < 64 → bit (s.recd.trig.getD n {}).cfg 0 = true → s.recd.queue.length < 32 → w.rdB R.REC_STAT 2 = false →
      Serves (.sysRecTrig e d a) s e d a 0x050 0
        { w with recd.queue := s.recd.queue ++ [{ trigger := n, origin := 1, internal := [], cap := none }] } []) ∧
    (w.dom 3 = 1 → n < 16 → x 1 ≤ 1 →
      if tFnEn s.saf.tbl n = true ∧ (tFnReq s.saf.tbl n).testBit 2 = true ∧ tFnReq s.saf.tbl n % 4 = e.val
      then Serves (.sysSafReq e d a) s e d a 0x060 0
        { w with saf.req := if x 1 = 1 then s.saf.req ||| BitVec.ofNat 16 (2 ^ n) else s.saf.req &&& ~~~BitVec.ofNat 16 (2 ^ n) } []
      else Serves (.sysSafReq e d a) s e d a 0x060 ePerm (w.err 0x3C ePerm) []) ∧
    (w.dom 8 = 1 → w.key.jobs.length < 16 → (x 1).testBit 7 = false → x 1 / 2 ^ 15 % 2 ^ 17 = 0 →
      x 3 ≤ 4096 → inside (x 2) (x 3) 1 → x 5 ≤ 512 → (space (x 4) = 2 ∨ space (x 4) = 3) → inside (x 4) (x 5) 1 → w.secCode job true = 0 →
      Serves (.sysKeySubmit e d a .ok) s e d a 0x070 0 ({ w with key.jobs := s.key.jobs ++ [job] }).keySync [job.place]) ∧
    (∀ j : SecJob, w.dom 8 = 1 → (s.key.jobs.map (·.place)).Nodup →
      (s.key.jobs.find? fun j => j.place == n && !j.host && j.task == e.val && !j.orphan) = some j →
      (j.state ≠ 3 → Serves (.sysKeyPoll e d a) s e d a 0x071 0 { w with freeCtr := w.freeCtr + 1 + 1 }
        [j.state, Config.freeNat w.freeCtr % 2 ^ 64, Config.freeNat (w.freeCtr + 1) % 2 ^ 64]) ∧
      (j.state = 3 → space j.out = 3 → Serves (.sysKeyPoll e d a) s e d a 0x071 0
        ({ w.putBytes (here j.out) j.output with key.jobs := s.key.jobs.filter fun y => y.place != j.place }).keySync
        [3, j.status, j.output.length])) ∧
    (w.dom 8 = 1 → w.rdB R.KEY_STAT 4 = false → w.rdB R.KEY_STAT 7 = true → w.rdB R.KEY_STAT 8 = false →
      Serves (.sysKeyRandom e d a) s e d a 0x072 0 { w with freeCtr := w.freeCtr + 1, key.requests := s.key.requests + 1 }
        [leNat (toBe 8 (Config.freeNat w.freeCtr % 2 ^ 64))])

/-- R806, R808 to R813, R822: the DMA channels. -/
def Obligations.DescriptorsOfADmaChannel : Prop :=
  ∀ (s : State) (c : Fin 4) (k : BitVec 9) (data : List Byte) (poisoned : Bool) (j : DmaJob),
    let w := begin_ s
    let st := R.HIF_CHc_STAT c
    let flying := w.rdF st 8 9
    let ci := w.rdF (R.HIF_CHc_CI c) 0 8
    let entry (u : W) (i : Nat) := u.rdN (R.HIF_CHc_BASE c) + 32 * (i % 256)
    let ends (u : W) (addr code moved : Nat) (ctl : Word) : W :=
      let u := (u.put (addr + 28) 4 moved).put (addr + 24) 4 (code + 2 ^ 16)
      let u := (u.wrF (R.HIF_CHc_CI c) 0 8 (u.rdF (R.HIF_CHc_CI c) 0 8 + 1)).wrF st 8 9 (u.rdF st 8 9 - 1)
      let u := ({ u with hif.dma := u.hif.dma.setIfInBounds c none }).wrB st 0 false
      let u := u.wrN (R.HIF_CHc_BYTES c) (u.rdN (R.HIF_CHc_BYTES c) + moved)
      if bit ctl 2 = true then u.raise E.HIF_DMA_DONE else u
    let counted (i : Nat) (u : W) : W :=
      if u.rdF R.HIF_HOST_ERRS (8 * i) 8 = 255 then u else (u.incSatF R.HIF_HOST_ERRS (8 * i) 8).raise E.HIF_HOST_ERR
    let halts (code : Nat) (u : W) : W :=
      let moved := min data.length j.len
      let u := if fld j.ctl 0 2 = 0 then u.putBytes j.doff (data.take j.len)
        else { u with hif.dmaOut := some (j.haddr, u.bytes s.mem j.doff moved) }
      ((ends (u.err 0x04 code) j.addr code moved j.ctl).wrB st 1 true).raise E.HIF_DMA_HALT
    let a := entry w ci
    let ctl := BitVec.ofNat 32 (w.get s.mem a 4)
    let len := w.get s.mem (a + 4) 4
    let haddr := w.get s.mem (a + 8) 8
    let doff := w.get s.mem (a + 16) 4
    let db := R.HIF_CHc_DB c
    Steady w →
    (Ready s db →
      if w.rdB R.SYS_STRAP 0 = true ∨ w.rdB (R.HIF_CHc_CTRL c) 0 = false then Yields (.dmaDoorbell c k) s (refusedWith w db eState)
      else if 256 < k.toNat then Yields (.dmaDoorbell c k) s (refusedWith w db eLen)
      else if 256 < flying + k.toNat then Yields (.dmaDoorbell c k) s (refusedWith w db eFull)
      else HostWrites (.dmaDoorbell c k) s db fun u =>
        (u.wrF (R.HIF_CHc_PI c) 0 8 (u.rdF (R.HIF_CHc_PI c) 0 8 + k.toNat)).wrF st 8 9 (flying + k.toNat)) ∧
    (Ready s (R.HIF_CHc_CMD c) → HostWrites (.dmaResume c) s (R.HIF_CHc_CMD c) fun u => u.wrB st 1 false) ∧
    (Ready s (R.HIF_CHc_CMD c) → s.hif.dma[c] = none → w.dom 4 = 1 → HostWrites (.dmaAbort c) s (R.HIF_CHc_CMD c) fun u =>
      ((List.range flying).foldl (fun u i =>
        ends (u.err 0x04 0x0502) (entry u (ci + i)) 0x0502 0 (BitVec.ofNat 32 (u.get s.mem (entry u (ci + i)) 4))) u).wrB st 1 false) ∧
    (w.rdB R.SYS_STRAP 0 = false → w.rdB (R.HIF_CHc_CTRL c) 0 = true → w.rdB st 1 = false → s.hif.dma[c] = none → flying ≠ 0 →
      s.hif.bme = true → w.rdF R.HIF_LINK_STAT 8 2 = 0 → w.dom 4 = 1 → solverEnd ≤ doff →
      Yields (.dmaDescriptorStart c [] []) s
        (if 4194304 < len ∨ systemEnd < doff + len then ends (w.err 0x04 eLen) a eLen 0 ctl
         else if 2 ≤ fld ctl 0 2 ∨ fld ctl 3 13 ≠ 0 ∨ len % 4 ≠ 0 ∨ haddr % 4 ≠ 0 ∨ doff % 4 ≠ 0 ∨ w.get s.mem (a + 20) 4 ≠ 0
         then ends (w.err 0x04 eRange) a eRange 0 ctl
         else if len = 0 then ends w a 0 0 ctl
         else ({ w with hif.dma := s.hif.dma.set c (some ⟨a, ctl, len, haddr, doff⟩) }).wrB st 0 true)) ∧
    (s.hif.dma[c] = some j → w.dom 4 = 1 → w.dom 5 = 0 → j.doff < solverEnd → (fld j.ctl 0 2 = 0 → j.len ≤ data.length) →
      Yields (.dmaDone c data .ok) s (ends (w.err 0x04 0x0006) j.addr 0x0006 0 j.ctl)) ∧
    (s.hif.dma[c] = some j → w.dom 4 = 1 → solverEnd ≤ j.doff →
      (fld j.ctl 0 2 = 0 → j.len ≤ data.length →
        Yields (.dmaDone c data .ok) s (ends (w.putBytes j.doff (data.take j.len)) j.addr 0 j.len j.ctl)) ∧
      (fld j.ctl 0 2 ≠ 0 → Yields (.dmaDone c data .ok) s
        (ends { w with hif.dmaOut := some (j.haddr, w.bytes s.mem j.doff j.len) } j.addr 0 j.len j.ctl)) ∧
      Yields (.dmaHalt c poisoned data) s (halts 0x0501 (if poisoned = true then counted 2 w else w)) ∧
      Yields (.dmaCompletionTimeout c data) s (halts eTimeout (counted 1 w)))

/-- R797, R799 to R802, R812, R822: the PCI Express link. -/
def Obligations.HostLinkAndItsMessages : Prop :=
  ∀ (s : State) (speed width : Fin 4) (lstate : Fin 8) (d3 laneRev bme mask pme : Bool) (v : Fin 32),
    let w := begin_ s
    let ls := R.HIF_LINK_STAT
    let follows (u : W) (changed : Prop) [Decidable changed] : W :=
      let up := u.hif.perstN && !u.hif.l2
      let u := u.wrB ls 4 up
      W.msixReleased w (if up ≠ (s.hif.perstN && !s.hif.l2) ∨ changed then u.raise E.HIF_HOST_LINK else u)
    let flying (c : Fin 4) := w.rdF (R.HIF_CHc_STAT c) 8 9
    let entry (c : Fin 4) (i : Nat) := w.rdN (R.HIF_CHc_BASE c) + 32 * ((w.rdF (R.HIF_CHc_CI c) 0 8 + i) % 256)
    let abandoned : W := (List.finRange 4).foldl (fun u c => (List.range (flying c)).foldl (fun u i =>
      (u.put (entry c i + 28) 4 0).put (entry c i + 24) 4 (eState + 2 ^ 16)) u) w
    let channel (a : Nat) : Bool := (List.range 4).any fun c =>
      a == R.HIF_CHc_CTRL c || a == R.HIF_CHc_STAT c || a == R.HIF_CHc_CI c
    Steady w → w.rdB R.SYS_STRAP 0 = false → w.dom 9 = 1 →
    w.rdF R.SYS_BOOT_STAT 0 4 = 9 →
    Yields (.hostLink speed width lstate d3 laneRev) s
      (if s.hif.perstN = true then
        let u : W := if lstate = 0 then w else { w with hif.l2 := false }
        follows ((((u.wrF ls 0 4 (speed + 4 * width)).wrF ls 5 3 lstate).wrF ls 8 2 (if d3 then 3 else 0)).wrB ls 10 laneRev)
          (w.rdF ls 8 2 ≠ if d3 then 3 else 0)
       else w) ∧
    (({ w with hif.l2 := true } : W).hasUser true 9 = true → Yields .pmeTurnOff s
      (if s.hif.perstN = true then follows { w.wrF ls 5 3 3 with hif.l2 := true } False else w)) ∧
    Yields .pePerstNRise s
      (if s.hif.perstN = true then w else follows { w with hif.perstN := true, hif.peWakeLow := false } False) ∧
    (s.hif.perstN = true → ({ w with hif.perstN := false } : W).hasUser true 9 = true → w.dom 4 = 1 →
      ∃ u, Yields .pePerstNLow s u ∧ u.hif.perstN = false ∧ u.hif.l2 = false ∧ u.hif.bme = false ∧ u.hif.funcMask = false ∧
        u.hif.pmeEn = false ∧ (∀ c : Fin 4, u.hif.dma[c] = none ∧ u.rdB (R.HIF_CHc_CTRL c) 0 = false ∧
          u.rdB (R.HIF_CHc_STAT c) 0 = false ∧ u.rdF (R.HIF_CHc_STAT c) 8 9 = 0) ∧
        u.rdF ls 0 4 = 0 ∧ u.rdB ls 4 = false ∧ u.rdF ls 5 6 = 0 ∧ u.wq = abandoned.wq ∧
        ∀ a, evtReg a = false → a ≠ ls → a ≠ R.H_ERR 0x04 → channel a = false → u.rd a = w.rd a) ∧
    (w.linkUp = true → Yields (.msixUnblock v) s
      (if s.hif.msixOwed.getLsbD v = true ∧ w.vecAsserted v = true ∧ w.msixBlocked v = false
       then { w with
         hif.msixOwed := s.hif.msixOwed &&& ~~~BitVec.ofNat 32 (2 ^ v.val)
         hif.msixSent := s.hif.msixSent.set v (s.hif.msixSent[v] + 1) }
       else w)) ∧
    Yields (.configSpaceWrite bme mask pme) s
      (if s.hif.perstN = true then W.msixReleased w { w with hif.bme := bme, hif.funcMask := mask, hif.pmeEn := pme } else w)

/-- R803, R814 to R819, R822: the Quad-SPI target. -/
def Obligations.QuadSpiTransactions : Prop :=
  ∀ (s : State) (addr : Word) (n : Nat) (d : List Byte) (x : Ext) (old : List (Nat × List Byte)),
    let w := begin_ s
    let q : W := { w with hif.qsHold := true }
    let window := addr.toNat / 2 ^ 28
    let off := addr.toNat % 2 ^ 28
    let fill := (s.hif.qsBuf.map fun b => b.2.length).sum
    let fails (u : W) : W :=
      let u : W := { u with hif.qsErr := true }
      if u.rdF R.HIF_HOST_ERRS 24 8 = 255 then u else (u.incSatF R.HIF_HOST_ERRS 24 8).raise E.HIF_HOST_ERR
    let mode (b : Bool) : W := if s.hif.qpi = b then { q with hif.qpi := b } else ({ q with hif.qpi := b }).raise E.HIF_HOST_LINK
    let outside : Prop := window ∉ [0, 2, 4]
    let inSram (k : Nat) : Prop := window = 2 ∧ solverEnd ≤ off ∧ off + k ≤ systemEnd ∧ w.domUp 4 = true
    let status := b2n (!s.hif.qsBuf.isEmpty) + 2 * b2n s.hif.qsErr + 4 + 8 * b2n ((List.range 4).any w.irqLow) + 16 * b2n s.hif.qpi
    Steady w → w.rdB R.SYS_STRAP 0 = true → w.dom 9 = 1 →
    (∀ c ∈ [Instr.qspiWrite addr d, .qspiQwrite addr d],
      (outside → Yields c s (fails (q.err 0x04 eRange))) ∧
      (fill + d.length ≤ 512 → d ≠ [] → window = 2 ∨ window = 4 ∨ window = 0 ∧ addr.toNat % 4 = 0 ∧ d.length % 4 = 0 →
        Yields c s { q with hif.qsBuf := s.hif.qsBuf ++ [(addr.toNat, d)] }) ∧
      (fill < 512 → 512 < fill + d.length → window = 2 ∨ window = 4 →
        Yields c s (fails (({ q with hif.qsBuf := s.hif.qsBuf ++ [(addr.toNat, d.take (512 - fill))] }).err 0x04 eBusy)))) ∧
    (∀ c ∈ [Instr.qspiRead addr n .ok, .qspiQread addr n .ok],
      (outside → Yields c s ((fails (q.err 0x04 eRange)).answer [])) ∧
      (¬ outside → s.hif.qsBuf ≠ [] → Yields c s (q.answer [0#8])) ∧
      (s.hif.qsBuf = [] → inSram n → Yields c s (q.answer (0xA5#8 :: (List.range n).map fun i => memGet s.mem (off + i))))) ∧
    Yields (.qspiStatus n) s ((({ q with hif.qsErr := false }).wrN R.HIF_QS_STAT status).answer (List.replicate n (BitVec.ofNat 8 status))) ∧
    Yields .enterQpi s (mode true) ∧ Yields .exitQpi s (mode false) ∧
    Yields .tgtReset s { mode false with hif.qsErr := false, hif.qsBuf := [] } ∧
    Yields .qspiUnknownOpcode s (fails q) ∧
    (s.hif.qsBuf = [] → Yields (.qspiBufferDrain x) s w) ∧
    (s.hif.qsBuf = (addr.toNat, d) :: old → inSram d.length → Memory.wf s.mem →
      ∃ t, exec (.qspiBufferDrain x) s = .next t ∧ t.toDev = { s.toDev with hif.qsBuf := old } ∧
        ∀ a, memGet t.mem a = if off ≤ a ∧ a < off + d.length then d.getD (a - off) 0 else memGet s.mem a) ∧
    (({ w with hif.qsHold := false } : W).hasUser true 9 = true → Yields .qspiLinkHoldExpiry s { w with hif.qsHold := false })

/-- R842, R843, R845: the test access port. -/
def Obligations.BoundaryScan : Prop :=
  ∀ (s : State) (pins tdi : List Bool),
    let w := begin_ s
    let scanned (op : JtagOp) (out : List Bool) : W := { w with jtag.ir := op, jtag.tdo := out }
    let bypassed (op : JtagOp) (t : State) : Prop := t = commit s (scanned op ((false :: tdi).take tdi.length))
    let id : List Bool := (List.range 32).map fun i => Nat.testBit 0x196009B3 i
    let captured : List Bool := (List.range scanLen).map fun i => pins.getD i false
    let bounded (op : JtagOp) : W := { scanned op ((captured ++ tdi).take tdi.length) with
      jtag.cells := if tdi = [] then s.jtag.cells else (captured ++ tdi).drop tdi.length }
    Steady w → w.pwr.below1V = false → w.rdB R.BKP_STAT 1 = false →
    (Yields (.jtagIdcode tdi) s (scanned .idcode ((id ++ tdi).take tdi.length))) ∧
    (s.key.lc ≠ 2 →
      (∃ t, exec (.jtagBypass tdi) s = .next t ∧ bypassed .bypass t) ∧
      (∃ t, exec (.jtagClamp tdi) s = .next t ∧ bypassed .clamp t) ∧
      (∃ t, exec (.jtagHighz tdi) s = .next t ∧ bypassed .highz t) ∧
      Yields (.jtagSamplePreload pins tdi) s (bounded .samplePreload) ∧ Yields (.jtagExtest pins tdi) s (bounded .extest)) ∧
    (s.key.lc = 2 → ∀ c ∈ [Instr.jtagBypass tdi, .jtagClamp tdi, .jtagHighz tdi, .jtagSamplePreload pins tdi, .jtagExtest pins tdi],
      ∃ t, exec c s = .next t ∧ bypassed .bypass t)

/-- R13, R15, R46, R49, R50, R52, R72, R75, R805: the forms of a host access to a register, and a register pair. -/
def Obligations.FormsOfRegisterAccess : Prop :=
  ∀ (s : State) (off len : Nat) (v : BitVec 64) (x : Ext) (e : Ecc),
    let w := begin_ s
    let pg := off / 0x1000
    let o := off % 0x1000
    let lo := BitVec.ofNat 32 v.toNat
    let hi := BitVec.ofNat 32 (v.toNat / 2 ^ 32)
    let enter := (hostEnter w pg).accessWake off
    let pairHalf : Prop := isPairW off = true ∨ 4 ≤ off ∧ isPairW (off - 4) = true
    let plain : Prop := HostReady w off ∧ off % 4 = 0 ∧ 0x040 ≤ o ∧ (pageDomain pg).isSome = true ∧ pg ≠ 0x42
    let r := (w.relock pg).accessWake off
    (w.hostOk = false → Completes (.registerWrite off len v x) s w) ∧
    (w.hostOk = true → (pageDomain pg).isNone = true → off % 4 = 0 → Completes (.registerWrite off 4 v x) s w) ∧
    (w.hostOk = true → off % 8 = 0 →
      Completes (.registerWrite off 8 v x) s ((w.hostWord x s.mem off lo).hostWord x s.mem (off + 4) hi)) ∧
    (w.hostOk = true → 8 < len → Completes (.registerWrite off len v x) s (w.err 0x04 eRange)) ∧
    (plain → 0 < len → len < 4 → Completes (.registerWrite off len v x) s
      (let c := W.pageCode (hostEnter w pg) true off true
       ((hostEnter w pg).err pg (if c = 0 ∨ c = eBusy then eRange else c)).spend pg o)) ∧
    (plain → (∀ d, regDef off = some d → d.acc = .ro) → Completes (.registerWrite off 4 v x) s (enter.spend pg o)) ∧
    (plain → Open s off → off ≠ R.HIF_BOOT_CTRL → ¬ pairHalf → (∀ d, regDef off = some d → d.acc ≠ .ro) →
      (enter.blockCheck s.mem off lo x = 0 → Takes (.registerWrite off 4 v x) s off fun u => u.blockWrite s.mem off lo x) ∧
      (enter.blockCheck s.mem off lo x ≠ 0 → pg ≠ 0x11 → off ≠ R.REC_TRIG → off ≠ R.SCAN_OLC_CTRL →
        Refuses (.registerWrite off 4 v x) s off (enter.blockCheck s.mem off lo x))) ∧
    (isPair off = true → pg ≠ 0x05 → pg ≠ 0x42 → regDef off ≠ none → HostReady w off → (pageDomain pg).isSome = true →
      (∀ y ∈ s.evt.pairRd, y.1 ≠ Master.host w.port) →
      Completes (.registerPairRead off e) s
        ((({ r with evt.pairRd := (Master.host w.port, off + 4, r.blockWord (off + 4)) :: s.evt.pairRd } : W).spend pg o).answer
          (toLe 4 (r.blockWord off).toNat))) ∧
    (isPairW off = true → w.hostOk = true → Completes (.registerPairWrite off v x) s
      ((w.hostWord x s.mem off lo).hostWord x s.mem (off + 4) hi)) ∧
    (isPairW off = false → Completes (.registerPairWrite off v x) s w)

/-- R114 to R117, R136, R138, R674, R745, R747, R768, R782: the resets of PD1 to PD9, while no write into MRAM is in progress that
one would cut off, the supply of PD0, and the measurement of VIN. -/
def Obligations.ResetsAndSupplies : Prop :=
  ∀ (s : State) (mv : BitVec 16) (served : Bool),
    let w := begin_ s
    let since (a : Nat) : Bool := [R.PWR_EW_COUNT, R.PWR_ENTRY_ABORT, R.NVM_ECC_CE, R.NVM_ECC_UE].contains a
    let kept (por : Bool) (a : Nat) : Bool := pageDomain (a / 0x1000) == some 0 || a == R.RED_EPOCH || (!por && since a)
    let part (a : Nat) : Bool := (List.range 8).any fun i => a == R.NVM_PART i
    let resets (c : Instr) (cause : Nat) (held below : Bool) : Prop := ∃ u, Completes c s u ∧
      (∀ a, kept (cause == 0) a = true → u.rd a = w.rd a) ∧
      (∀ a, kept (cause == 0) a = false → a ≠ R.SYS_RST_CAUSE → part a = false → u.rd a = regReset a) ∧
      (∀ i < 32, u.rdB R.SYS_RST_CAUSE i = (i == cause || (cause != 0 && w.rdB R.SYS_RST_CAUSE i))) ∧
      u.rtc = w.rtc ∧ u.tmp = w.tmp ∧ u.key.lc = s.key.lc ∧ u.key.jobs = [] ∧ u.slv = {} ∧ u.saf = {} ∧ u.recd = {} ∧
      u.qty = {} ∧ u.age.wcnt = s.age.log.wcnt ∧ u.age.log = s.age.log ∧ u.pwr.held = held ∧ u.pwr.below1V = below ∧
      u.pwr.pllSys = false ∧
      (∀ a < systemEnd, memGet (commit s u).mem a = 0) ∧ ∀ a, systemEnd ≤ a → memGet (commit s u).mem a = memGet s.mem a
    let calm : Prop := Memory.wf s.mem ∧ s.pwr.ckptImg = none ∧ s.qty.store = none ∧ s.key.bank = none ∧ s.recd.queue = []
    let lost (c : Instr) (xt : Bool) : Prop := ∃ u, Completes c s u ∧ u.rdB R.BKP_STAT 0 = w.rdB R.BKP_STAT 0 ∧
      u.rdB R.BKP_STAT 1 = false ∧ u.rdB R.BKP_FLAGS 0 = true ∧ u.rdB R.RTC_STAT 0 = true ∧ u.rdB R.RTC_STAT 1 = xt ∧
      (∀ i < 32, ∃ k, u.rd (R.BKP_GPR i) = BitVec.ofNat 32 (Config.freeNat k)) ∧ u.rd R.RED_EPOCH = 0 ∧ u.rdB R.RED_STAT 8 = true ∧
      u.slv = w.slv ∧ u.wq = []
    (calm → s.pwr.held = true → s.pwr.below1V = true → w.inOff = false → resets .powerOnReset 0 false false) ∧
    (calm → s.pwr.held = false → resets .brownOutReset 1 true false ∧ resets .externalReset 2 false s.pwr.below1V ∧
      resets .watchdogReset 3 false s.pwr.below1V) ∧
    (calm → Open s R.SYS_RST_CTRL → resets .softwareReset 4 false s.pwr.below1V) ∧
    (calm → s.pwr.held = true → resets .vinBelow1v 0 true true) ∧
    (s.pwr.held = true → s.pwr.below1V = false → w.inOff = false →
      Completes .brownOutRelease s { w with pwr.held := false }) ∧
    (s.pwr.held = true → Completes .externalReset s w ∧ Completes .watchdogReset s w ∧ Completes .brownOutReset s w) ∧
    (s.pwr.held = false → Completes .vinBelow1v s w ∧ Completes .brownOutRelease s w) ∧
    (s.pwr.held = false → Completes .wdtWarn s ({ w.raise E.SYS_WDT_WARN with tw.wdtWarn := true } : W).health) ∧
    (s.pwr.held = false → Completes (.vinMonUpdate mv served) s
      (let u := w.wrF R.PWR_VIN_MON 0 16 mv.toNat
       let u : W := if mv.toNat < 3000 then { u with qty.lowVin := true } else u
       if served then ({ u with tw.wdtWarn := false } : W).health else u)) ∧
    lost .backupBrownout false ∧
    (s.pwr.held = true ∨ s.rtc.vselLow = true → lost .backupPowerUp true)

/-- R21, R103 to R112, R766 to R768, R852, R854: the low-power states, their entries and wakes, and the start of a domain. -/
def Obligations.LowPowerStatesAndGusts : Prop :=
  ∀ (s : State) (last rngOk : Bool) (d : Fin 10) (siA siB : BitVec 16) (x : Ext),
    let w := begin_ s
    -- no channel waits for bus idle to be disabled (R532)
    let open_ : Prop := ∀ n : Fin 16, (w.canCh n).closing = false
    let idle : Prop := w.released = true ∧ s.pwr.held = false ∧ s.pwr.xtmFail = false ∧ w.pstate = 0 ∧ w.rdB R.PWR_AUTO 0 = true ∧
      w.anyUser true = false ∧ (w.dom 5 = 0 ∨ w.dom 5 = 2) ∧ w.rdF R.PWR_STATE_REQ 0 2 = 0 ∧ open_ ∧ ∀ d ∈ [6, 7, 8, 9], w.dom d ≠ 3
    let code := if w.rdB R.SAF_STAT 2 = false then ePerm else if w.anyUser false = true then eState
      else if w.rdF R.PWR_STATE_REQ 0 2 ≠ 0 ∨ s.pwr.lullEntry = true then eBusy else 0
    let ready (req : Nat) : Prop := w.rdF R.PWR_STATE_REQ 0 2 = req ∧ s.pwr.held = false ∧ s.pwr.xtmFail = false ∧
      w.anyUser false = false ∧ w.dom 4 = 0 ∧ open_ ∧ s.pwr.ckptImg = none ∧ s.qty.store = none ∧ s.qty.storeNext = none
    let asleep := { w with pwr.lullEntry := false }
    let quiet : Prop := w.rdF R.PWR_STATE_REQ 0 2 = 0 ∧ s.pwr.lullEntry = false ∧ w.rdB (R.H_EVT_EN 0x01) E.PWR_STATE_CHANGE.2 = false
    let woken := (w.wrF R.PWR_STATE 0 2 0).startPllSys
    -- the automatic Lull entry
    (¬ idle → Completes (.lullEntry last) s w) ∧
    (idle → Completes (.lullEntry false) s { w with pwr.lullEntry := true }) ∧
    (idle → s.pwr.lullEntry = true → w.dom 4 = 0 → Completes (.lullEntry true) s ((asleep.stopPllSys).sleep 1)) ∧
    (idle → s.pwr.lullEntry = false ∨ w.dom 4 ≠ 0 → Completes (.lullEntry true) s w) ∧
    -- requests of Deep Lull and Off
    (Open s R.PWR_STATE_REQ →
      Takes .stateReqNone s R.PWR_STATE_REQ (fun u => u) ∧ Refuses .stateReqReserved s R.PWR_STATE_REQ eRange ∧
      (code ≠ 0 → Refuses .deepLullRequest s R.PWR_STATE_REQ code ∧ Refuses .offRequest s R.PWR_STATE_REQ code) ∧
      (code = 0 → Takes .deepLullRequest s R.PWR_STATE_REQ (fun u => (u.wrF R.PWR_STATE_REQ 0 2 2).storeStart 3) ∧
        Takes .offRequest s R.PWR_STATE_REQ (fun u => ((u.wrF R.PWR_STATE_REQ 0 2 3).storeStart 3).ckptRequest false s.mem))) ∧
    (ready 2 → Completes .deepLullEntryComplete s
      (let u := [9, 8, 7, 6, 5, 3, 2].foldl (fun u d => if u.rdF R.PWR_STATE_REQ 0 2 = 2 then u.pdOff d else u) w
       if u.rdF R.PWR_STATE_REQ 0 2 = 2 then ((u.wr R.PWR_STATE_REQ 0).stopPllSys).sleep 2
       else [2, 3].foldl (fun u d => if u.dom d = 0 ∧ u.buckFaulted d = false then u.setDom d 3 else u) u)) ∧
    (¬ ready 2 → Completes .deepLullEntryComplete s w) ∧
    (ready 3 → s.recd.queue = [] → Completes .offEntryComplete s
      { (((w.wcntFlush.wrB R.BKP_STAT 1 true).wr R.BKP_WAKE_CAUSE 0).resetBy 0) with pwr.held := true }) ∧
    (¬ ready 3 ∨ s.recd.queue ≠ [] → Completes .offEntryComplete s w) ∧
    -- WAKE_N
    (w.inOff = true → ∃ u, Completes .wakeNLow s u ∧ u.inOff = false ∧ u.rd R.BKP_WAKE_CAUSE = 1 ∧ u.pwr.held = false ∧
      u.rd R.SYS_RST_CAUSE = 1 ∧ u.rdF R.SYS_BOOT_STAT 0 4 = 0) ∧
    (w.inOff = false → s.pwr.held = true ∨ s.pwr.xtmFail = true → Completes .wakeNLow s w) ∧
    (w.inOff = false → s.pwr.held = false → s.pwr.xtmFail = false → quiet → w.pstate = 0 → Completes .wakeNLow s w) ∧
    (w.inOff = false → s.pwr.held = false → s.pwr.xtmFail = false → quiet → w.pstate = 1 → w.rdB R.HIF_CFG 1 = false → w.dom 9 = 0 →
      w.ew = false → w.buckFaulted 9 = false → Completes .wakeNLow s (started { woken with pwr.wakeHold := true } 9)) ∧
    Completes .wakeHoldExpiry s { w with pwr.wakeHold := false } ∧
    -- PD5: retention and hold-off
    (w.dom 5 = 1 → s.pwr.holdoff = true → w.slvInFlight = 0 → w.serving = false →
      Completes .pd5HoldoffExpiry s { w.setDom 5 2 with pwr.holdoff := false, pwr.slvArray := false }) ∧
    (w.dom 5 ≠ 1 ∨ s.pwr.holdoff = false ∨ w.slvInFlight ≠ 0 ∨ w.serving = true → Completes .pd5HoldoffExpiry s w) ∧
    (w.dom 5 = 2 → Completes .domainRetentionExit s
      ((((({ w with pwr.holdoff := true } : W).setDom 5 1).abortEntry).setPstate 0).startPllSys)) ∧
    (w.dom 5 ≠ 2 → Completes .domainRetentionExit s w) ∧
    -- a domain becomes ready
    (s.pwr.held = true ∨ w.dom d ≠ 3 → Completes (.gustComplete d rngOk siA siB x) s w) ∧
    (s.pwr.held = false → w.dom d = 3 → x.start.mramCe = [] → x.start.mramUe = [] → s.age.ueWords.Nodup →
      ∃ u, Completes (.gustComplete d rngOk siA siB x) s u ∧
        (s.pwr.bootRecs = [] → s.pwr.heldOps = [] → 2 ≤ d.val →
          (d.val = 6 ∨ d.val = 7 → u = w.setDom d 1) ∧
          (d.val = 5 → u = ({ w.setDom 5 1 with pwr.slvArray := true, pwr.pd5Kept := false, pwr.holdoff := true } : W).slvQueued) ∧
          (d.val = 2 → u = (w.setDom 2 1).qtyStart s.mem) ∧ (d.val = 3 → u = (w.setDom 3 1).safStart s.mem siA siB) ∧
          (d.val = 8 → u = (w.setDom 8 1).sceStart s.mem rngOk) ∧
          (d.val = 4 → u = ((((w.setDom 4 1).imgLoad s.mem).ckptTouch s.mem).ckptRestore s.mem).1) ∧
          (d.val = 9 → u = (let v := w.setDom 9 1
            let up := !v.qspiSel && v.linkUp
            (v.wrB R.HIF_LINK_STAT 4 up).raiseIf (up && !w.rdB R.HIF_LINK_STAT 4) E.HIF_HOST_LINK))))

/-- R105, R125, R126, R128, R130, R131, R133 to R135, R138: checkpoints of the retained data and early warning. -/
def Obligations.CheckpointsAndEarlyWarning : Prop :=
  ∀ (s : State) (v : Word) (ok : Bool) (a : Nat) (img : List Byte) (t : Nat),
    let w := begin_ s
    let now := w.tscTime
    let startable : Prop := w.ckptAreas ≠ 0 ∧ (w.ckptImage s.mem).length ≤ 0x100000
    let due (u : W) (ref : Nat) : Option Nat :=
      if u.rdN R.PWR_CKPT_PERIOD = 0 then none else some (ref + u.rdN R.PWR_CKPT_PERIOD * 100000000)
    -- what the start of a checkpoint leaves
    let begun (u : W) : W := { u.wrB R.PWR_CKPT_STAT 2 true with
      pwr.ckptRef := some now, pwr.ckptNext := due u now, pwr.ckptRetry := false,
      pwr.ckptImg := some (s.pwr.ckptArea % w.ckptAreas, w.ckptImage s.mem) }
    (startable → s.pwr.ckptNext = some t → t ≤ now → w.dom 4 = 1 → s.pwr.ckptImg = none → Completes .ckptPeriodic s (begun w)) ∧
    (s.pwr.ckptNext = some t → t ≤ now → w.dom 4 ≠ 1 ∨ s.pwr.ckptImg ≠ none →
      Completes .ckptPeriodic s { w with pwr.ckptNext := due w t }) ∧
    (s.pwr.ckptNext = none ∨ s.pwr.ckptNext = some t ∧ now < t → Completes .ckptPeriodic s w) ∧
    (Open s R.PWR_CKPT_STAT →
      Takes .ckptNow s R.PWR_CKPT_STAT fun u =>
        let u := u.wrB R.PWR_CKPT_STAT 4 true
        if u.dom 4 ≠ 1 then u.wrB R.PWR_CKPT_STAT 4 false
        else if u.pwr.ckptImg ≠ none then { u with pwr.ckptFurther := true, pwr.ckptNow := true }
        else u.ckptStart s.mem) ∧
    (Open s R.PWR_CKPT_PERIOD → 3600 < v.toNat → Refuses (.ckptPeriodWrite v) s R.PWR_CKPT_PERIOD eRange) ∧
    (Open s R.PWR_CKPT_PERIOD → v.toNat ≤ 3600 →
      (w.released = false → Takes (.ckptPeriodWrite v) s R.PWR_CKPT_PERIOD fun u => u.wr R.PWR_CKPT_PERIOD v) ∧
      (w.released = true → Takes (.ckptPeriodWrite v) s R.PWR_CKPT_PERIOD fun u =>
        let ref := if w.rdN R.PWR_CKPT_PERIOD = 0 then some now else s.pwr.ckptRef
        { u.wr R.PWR_CKPT_PERIOD v with
          pwr.ckptRef := ref, pwr.ckptNext := if v = 0 then none else ref.map fun r => max (r + v.toNat * 100000000) now })) ∧
    (startable → s.pwr.ckptRetry = true → w.rd R.PWR_CKPT_PERIOD = 0 → s.pwr.pd4OffWait = true → w.dom 4 = 1 → s.pwr.ckptImg = none →
      Completes .ckptRetry s (begun w)) ∧
    (s.pwr.ckptRetry = false ∨ w.rd R.PWR_CKPT_PERIOD ≠ 0 ∨ s.pwr.pd4OffWait = false ∨ w.dom 4 ≠ 1 ∨ s.pwr.ckptImg ≠ none →
      Completes .ckptRetry s w) ∧
    -- the end of a checkpoint
    (s.pwr.ckptImg = none → Completes (.ckptComplete ok) s w) ∧
    (s.pwr.ckptImg = some (a, img) → s.pwr.ckptFurther = false → s.pwr.pd4OffWait = false →
      (Completes (.ckptComplete true) s
        (let u := (((w.mramPut (w.ckptBase a) img).wrF R.PWR_CKPT_STAT 0 2 a).wrB R.PWR_CKPT_STAT 2 false).wrB R.PWR_CKPT_STAT 3 true
         let u := u.wrN R.PWR_CKPT_SEQ (leNat ((img.drop 4).take 4))
         (({ u with pwr.ckptArea := (a + 1) % w.ckptAreas, pwr.ckptImg := none, pwr.ckptClass0 := false, pwr.ckptRetry := false } : W).wrB
           R.PWR_CKPT_STAT 4 s.pwr.ckptNow).raise E.PWR_CKPT_DONE)) ∧
      ∃ u, Completes (.ckptComplete false) s u ∧ u.pwr.ckptImg = none ∧ u.rdB R.PWR_CKPT_STAT 2 = false ∧
        u.rdB R.PWR_CKPT_STAT 3 = false ∧ u.rdB R.PWR_CKPT_STAT 4 = s.pwr.ckptNow ∧ u.rd R.PWR_CKPT_SEQ = w.rd R.PWR_CKPT_SEQ ∧
        (w.rdB (R.H_EVT_EN 0x01) E.PWR_CKPT_FAIL.2 = true → u.rdB (R.H_EVT_PEND 0x01) E.PWR_CKPT_FAIL.2 = true)) ∧
    -- a further one that waits starts now, or with PD4 off not at all; NOW is done with
    (s.pwr.ckptImg = some (a, img) → s.pwr.ckptFurther = true → ∃ u, Completes (.ckptComplete ok) s u ∧ u.pwr.ckptFurther = false ∧
      u.pwr.ckptNow = false ∧ (w.dom 4 ≠ 1 → u.rdB R.PWR_CKPT_STAT 4 = false ∧ u.pwr.ckptImg = none)) ∧
    -- early warning
    (w.ew = true ∨ s.pwr.held = true → Completes .earlyWarningAssert s w) ∧
    (w.ew = false → s.pwr.held = false → ∃ u, Completes .earlyWarningAssert s u ∧ u.ew = true ∧
      u.rd R.PWR_EW_COUNT = BitVec.ofNat 32 (satInc 32 (w.rdN R.PWR_EW_COUNT)) ∧ u.pwr.slvArray = false ∧ u.dom 5 ≠ 3 ∧
      (w.dom 4 = 1 → startable → u.pwr.ckptImg ≠ none ∧ u.pwr.ckptClass0 = true) ∧ (w.dom 4 ≠ 1 → u.pwr.ckptImg = s.pwr.ckptImg)) ∧
    (w.ew = true → s.pwr.held = false → Completes .earlyWarningDeassert s (((w.wrB R.PWR_STATE 2 false).raise E.PWR_EW_CLEAR).health)) ∧
    (w.ew = false ∨ s.pwr.held = true → Completes .earlyWarningDeassert s w)

/-- R99, R101, R140, R142, R144, R154, R157, R158, R161 to R163, R170: the faults of the supply and of XTM, and what the ageing
monitors and the background tasks of the MRAM and the SRAMs do. -/
def Obligations.FaultsAndMonitors : Prop :=
  ∀ (s : State) (b : Fin 4) (dev : Int) (site : Fin 8) (nS nR : Nat) (ces ceAt ues : List Nat) (sector : Nat) (rest : List Nat),
    let w := begin_ s
    let now := w.tscTime
    let fed (d : Nat) : Prop := b = 0 ∧ 2 ≤ d ∨ b = 1 ∧ 4 ≤ d ∧ d ≤ 6 ∨ b = 2 ∧ d = 9 ∨ b = 3 ∧ d = 2
    let live : Prop := s.pwr.held = false
    -- a word of solver SRAM, system SRAM, or message RAM above them, in a domain that answers
    let answers (u : W) (a : Nat) : Bool := if a < solverEnd then u.domUp 5 else if a < systemEnd then u.domUp 4 else u.dom 6 == 1
    let corrected (u : W) (a : Nat) : W :=
      if answers u a = false then u
      else
        let v : W := { u with age.sramCe := (now : Int) :: u.age.sramCe.filter u.recent }
        if a < solverEnd then v.incSat R.SLV_ECC_CE else v
    let lost (u : W) (a : Nat) : W :=
      if a < solverEnd then
        (if u.domUp 5 then (((u.err 0x15 0x1607).wrN R.SLV_UE_ADDR (a / 8 * 8)).incSat R.SLV_ECC_UE).raise E.SLV_SRAM_UE else u)
      else u.sramLost a
    let pends (e : Nat × Nat) (u : W) : Prop := w.rdB (R.H_EVT_EN e.1) e.2 = true → u.rdB (R.H_EVT_PEND e.1) e.2 = true
    -- a buck faults, or XTM fails
    (w.buckRuns b = false ∨ w.rdB R.PWR_REG_STAT (4 + b) = true → Completes (.regFault b) s w) ∧
    (w.buckRuns b = true → w.rdB R.PWR_REG_STAT (4 + b) = false → ∃ u, Completes (.regFault b) s u ∧
      u.rdB R.PWR_REG_STAT (4 + b) = true ∧ (∀ d, d ≤ 9 → fed d → u.dom d = 0) ∧ pends E.PWR_REG_FAULT u) ∧
    (s.pwr.held = true ∨ s.pwr.xtmFail = true ∨ w.rdF R.SYS_BOOT_STAT 0 4 < 3 → Completes .xtmFail s w) ∧
    (live → s.pwr.xtmFail = false → 3 ≤ w.rdF R.SYS_BOOT_STAT 0 4 → ∃ u, Completes .xtmFail s u ∧ u.pwr.xtmFail = true ∧
      u.pwr.pllSys = false ∧ u.pwr.lullEntry = false ∧ (∀ d ∈ [2, 4, 5, 6, 7, 8, 9], u.dom d = 0) ∧ pends E.PWR_XTM_FAIL u) ∧
    -- the monitors
    (live → Completes (.buckCurrentLimit b) s
      (let u : W := { w with age.episodes := (b.val, now) :: s.age.episodes.filter fun e => decide (now < e.2 + 8640000000000) }
       let n (i : Nat) : Nat := min 255 ((u.age.episodes.filter fun e => e.1 == i && decide (now < e.2 + 8640000000000)).length)
       ((((((u.wrF R.AGE_REG_HEALTH 0 8 (n 0)).wrF R.AGE_REG_HEALTH 8 8 (n 1)).wrF R.AGE_REG_HEALTH 16 8 (n 2)).wrF R.AGE_REG_HEALTH 24 8
         (n 3))).raiseIf (decide (16 ≤ n b)) E.AGE_HEALTH))) ∧
    (live → Completes (.xtalMeasure dev) s ((w.wrN R.AGE_XTAL (uns 16 dev)).raiseIf (decide (500 ≤ dev.natAbs)) E.AGE_HEALTH)) ∧
    (live → site = 0 ∨ w.dom (W.siteDomain site) = 1 → nR ≠ 0 → Config.otpK site ≠ 0 →
      let deg := (clampI 0 0xFFFFFF (rounded 142 (1000000 * (nR * Config.otpK site) - nS * 1000000000000) (nR * Config.otpK site))).toNat
      let hist := ((now, deg) :: s.age.ro[site]).filter fun e => decide (now < e.1 + 8640000000000)
      Completes (.roSample site nS nR) s
        (((({ w with age.ro := s.age.ro.set site hist } : W).wrF (R.AGE_RO_DEG site) 0 24
          (clampI 0 0xFFFFFF (rounded 143 (sumN (hist.map (·.2))) hist.length)).toNat).degSync).vetoCheck)) ∧
    (site ≠ 0 → w.dom (W.siteDomain site) ≠ 1 → Completes (.roSample site nS nR) s w) ∧
    -- flush, scrubbing, self-test, remapping
    (live → Completes .wcntFlush s
      (let u := (List.range 8).foldl (fun u i => u.logWear ((if s.age.log.copyB then 8 else 0) + i)) w
       { u with age.log.wcnt := u.age.wcnt, age.log.copyB := !s.age.log.copyB })) ∧
    (live → Completes (.sramScrubPass ces ues) s (ues.foldl lost (ces.foldl corrected w))) ∧
    (live → Completes (.mramScrubPass ceAt ues) s
      (ues.foldl W.mramLost (ceAt.foldl (fun u a => (u.mramCorrected a).wear (u.phys a / 4096)) w))) ∧
    Completes .selfTest s w ∧
    (s.age.remapQ = [] → Completes (.remapComplete ceAt ues) s w) ∧
    (live → s.age.remapQ = sector :: rest → w.spareTotal ≤ w.spareUsed → Completes (.remapComplete ceAt ues) s { w with age.remapQ := [] }) ∧
    (live → s.age.remapQ = sector :: rest → w.spareUsed < w.spareTotal → s.age.ueWords = [] →
      (∀ o ∈ ceAt ++ ues, o / 4096 ≠ sector) → Completes (.remapComplete ceAt ues) s
      ((((({ w with age.log.remap := (sector, w.spareUsed) :: s.age.log.remap, age.remapQ := rest } : W).mramPut (4096 * sector)
        (w.mram s.mem (4096 * sector) 4096)).logWrite).spareSync).raise E.NVM_NVM_REMAP)) ∧
    (s.pwr.held = true → ∀ c ∈ [Instr.buckCurrentLimit b, .xtalMeasure dev, .roSample site nS nR, .wcntFlush, .sramScrubPass ces ues,
      .mramScrubPass ceAt ues, .remapComplete ceAt ues], Completes c s w)

/-- R145 to R150, R152, R164: when the margin planner runs, and what a run leaves. -/
def Obligations.RunsOfThePlanner : Prop :=
  ∀ (s : State) (c : Canary) (k : Fin 7) (bySet : Bool) (u : W) (n : Nat),
    let w := begin_ s
    let t := w.rd64 R.RTC_EPOCH_S
    let early : Prop := if s.age.ran = true then w.tscTime < s.age.lastTsc + 20 * 3600 * 100000000
      else ∃ l, s.age.log.lastRtc = some l ∧ t < l + 20 * 3600
    let skip : Prop := w.tinv = true ∨ t % 86400 < w.rdN R.AGE_RUN_TIME ∨ early ∨ bySet = true ∨
      s.age.log.schedDay = some (t / 86400) ∨ s.pwr.held = true
    let today : W := { w with age.log.schedDay := some (t / 86400) }
    let want := 20 + u.degMax.1 / u.rdN R.AGE_DEG_STEP
    let v := u.plannerRun (some c) n
    (skip → Completes (.plannerRunScheduled c k bySet) s w) ∧
    (¬ skip → w.pstate = 2 → Completes (.plannerRunScheduled c k bySet) s { today with age.deferred := true }) ∧
    (¬ skip → w.pstate ≠ 2 → Completes (.plannerRunScheduled c k bySet) s (today.plannerRun (some c) k)) ∧
    (w.tinv = false ∨ w.tscTime < s.age.lastTsc + 8640000000000 ∨ s.pwr.held = true → Completes (.plannerRunTsc c k) s w) ∧
    (w.tinv = true → s.age.lastTsc + 8640000000000 ≤ w.tscTime → s.pwr.held = false →
      (w.pstate = 2 → Completes (.plannerRunTsc c k) s { w with age.deferred := true }) ∧
      (w.pstate ≠ 2 → Completes (.plannerRunTsc c k) s (w.plannerRun (some c) k))) ∧
    (Open s R.AGE_RUN → Takes (.plannerRunNow c k) s R.AGE_RUN fun u => u.plannerRun (some c) k) ∧
    -- a run
    v.age.lastTsc = u.tscTime ∧ v.age.ran = true ∧ v.age.deferred = false ∧
    v.age.log.lastRtc = (if u.tinv then none else some (u.rd64 R.RTC_EPOCH_S)) ∧
    (n < 3 → v.rd R.PWR_VCORE_SET = u.rd R.PWR_VCORE_SET ∧ v.rd R.AGE_SLV_CLK = u.rd R.AGE_SLV_CLK) ∧
    (3 ≤ n → v.rdF R.PWR_VCORE_SET 0 5 =
        (if u.rdB R.AGE_VETO 0 then u.rdF R.PWR_VCORE_SET 0 5 else max (u.rdF R.PWR_VCORE_SET 0 5) (min 30 want)) ∧
      v.rdF R.AGE_SLV_CLK 0 3 = (if u.rdB R.AGE_VETO 1 then u.rdF R.AGE_SLV_CLK 0 3 else max (u.rdF R.AGE_SLV_CLK 0 3) (min 6 (want - 30)))) ∧
    (n < 6 → v.rd R.AGE_LAST_RUN = u.rd R.AGE_LAST_RUN ∧ v.age.log.runs = u.age.log.runs) ∧
    (6 ≤ n → v.rd R.AGE_LAST_RUN = u.rd R.RTC_EPOCH_S ∧ v.age.log.runs = u.age.log.runs + 1)

/-- R176 to R179, R181, R187, R189 to R195, R200 to R202, R204, R206 to R208, R210, R211, R213 to R221, R223, R224, R250: what the
metering engine does at the end of an output period, a correction block, a tracker's window, a capture block, an RTD slot and at
an edge of a pulse input. What R176, R177, R184, R190 and R197 leave open of the filters is the model's choice (log entry 40). -/
def Obligations.MeteringInputs : Prop :=
  ∀ (s : State) (vin : List (List Int)) (ext : Nat) (slice : Fin 4096) (n : Fin 24) (v : Word) (t : Fin 4) (fq cycles : Nat) (k : Fin 8)
    (vs vr vref za zb zref : Int) (comp : Bool) (i : Fin 64) (level acc : Bool) (sample : Nat) (bp : List CorrBp),
    let w := begin_ s
    let on : Prop := w.dom 2 = 1
    let c := s.mtr.ch[n]
    -- an output period
    (on → ∃ u, Completes (.meterOutputPeriod vin ext slice) s u ∧ u.mtr.periods = s.mtr.periods + 1 ∧
      (w.chEn n = false → u.mtr.x[n] = s.mtr.x[n] ∧ u.mtr.clip.getLsbD n = false) ∧
      (w.chEn n = true → c.blk ≠ 3200 →
        -- the modulator, sinc³ by 64, and the FIR: the stream's bits stand for `modFull` percent of 0.5 V_REF / G
        let full : Int := ((if w.rdB R.AFE_REF_CFG 0 then ext else 1200000000) * modFull : Nat)
        let bits := (modStream full (Config.modBit s.freeCtr n) c.acc
          ((vin.getD n []).map fun v => v * (200 * 2 ^ w.rdF (R.AFE_CHn_CFG n) 4 3 : Nat))).2 ++ c.bits
        let raw := stage3 (((List.range 4).map (fun q => stage2 (bits.drop (64 * q))) ++ c.fir).take 238) modFull
        let x := clipRaw raw
        let y := if w.rdF (R.AFE_CHn_CFG n) 1 3 = 3 then coilInt c.y ((x :: c.raws).take 28)
          else if w.rdB (R.AFE_CHn_CFG n) 7 then highPass c.y x (c.raws.headD 0) else x * 2 ^ 32
        u.mtr.x[n] = stage6 (stage5 c.d ((y :: c.z).take 40)) c.scale c.gain ∧
        u.mtr.clip.getLsbD n = decide (8388607 ≤ raw.natAbs) ∧
        u.rdB (R.AFE_CHn_STAT n) 0 = (w.rdB (R.AFE_CHn_STAT n) 0 || decide (8388607 ≤ raw.natAbs)) ∧
        u.rdB (R.AFE_CHn_STAT n) 2 = (c.warm == 0))) ∧
    -- a correction block, a committed table
    (on → w.chEn n = true → c.blk = 3200 →
      let ended := { c with scale := w.rd (R.AFE_CHn_SCALE n), delay := sgn 14 (w.rdN (R.AFE_CHn_DELAY n)), blk := 0, sum2 := 0 }
      (c.pend = none → Completes (.correctionBlockEnd n) s (w.corrSet n ended (W.blockLevel c))) ∧
      (c.pend = some bp → Completes (.correctionBlockEnd n) s
        (((w.wrB R.AFE_CORR_STAT n true).raise E.AFE_CORR_APPLIED).corrSet n { ended with tab := bp, pend := none } (W.blockLevel c)))) ∧
    (w.chEn n = false ∨ c.blk ≠ 3200 → Completes (.correctionBlockEnd n) s w) ∧
    (Open s R.AFE_CORR_COMMIT →
      let sel := (List.range 24).filter fun j => bit v j
      (sel ≠ [] ∧ (∀ j ∈ sel, w.corrCode j ≠ 0) → Completes (.corrCommit v) s
        ((((hostEnter w 0x11).err 0x11 (w.corrCode (sel.headD 0))).raise E.AFE_CORR_ERR).spend 0x11 0x1C4)) ∧
      (sel = [] ∨ (∃ j ∈ sel, w.corrCode j = 0) → Takes (.corrCommit v) s R.AFE_CORR_COMMIT fun u =>
        (List.range 24).foldl (fun u j =>
          if bit v j = false then u
          else if u.corrCode j ≠ 0 then (u.err 0x11 (u.corrCode j)).raise E.AFE_CORR_ERR
          else u.setCh j { u.chOf j with pend := some (W.tabBps (u.tabBytes j) ((u.tabBytes j).getD 3 0).toNat) }) u)) ∧
    -- a tracker's window
    (let k := s.mtr.trk[t]
     let shut (used : Nat) : TrkSt := { k with start := k.n, sum2 := 0, cross := k.cross.drop used }
     let held := if s.mtr.lastLock[t] = 0 then w.nominal else s.mtr.lastLock[t]
     (w.trkEn t = false → Completes (.trackerWindowEnd t) s w) ∧
     (on → w.trkEn t = true → W.trkMeasure k = some (fq, cycles) →
       (W.trkStrong k = true ∧ 425000 ≤ fq ∧ fq ≤ 690000 → Completes (.trackerWindowEnd t) s
         (({ w.setTrk t (shut cycles) with mtr.lastLock := s.mtr.lastLock.set t fq } : W).trkSet t fq true false)) ∧
       (¬ (W.trkStrong k = true ∧ 425000 ≤ fq ∧ fq ≤ 690000) → Completes (.trackerWindowEnd t) s
         ((w.setTrk t (shut cycles)).trkSet t held false true))) ∧
     (on → w.trkEn t = true → W.trkMeasure k = none →
       (k.n - k.start < 4894 → Completes (.trackerWindowEnd t) s w) ∧
       (4894 ≤ k.n - k.start → Completes (.trackerWindowEnd t) s ((w.setTrk t (shut k.cross.length)).trkSet t held false true)))) ∧
    -- a capture block
    (w.rdB R.MTR_CAPT_CTRL 31 = false ∨ s.mtr.capt.length < 32 → Completes .captBlock s w) ∧
    (on → w.rdB R.MTR_CAPT_CTRL 31 = true → 32 ≤ s.mtr.capt.length →
      let rows := s.mtr.capt.take 32
      let u : W := { w with mtr.capt := s.mtr.capt.drop 32, mtr.captSeq := s.mtr.captSeq + 1 }
      let chans := (List.range 24).filter fun j => w.rdB R.MTR_CAPT_CTRL j
      let size := max 1 (w.rdN R.MTR_CAPT_SIZE)
      let idx := w.rdN R.MTR_CAPT_WR % size
      (w.dom 4 ≠ 1 ∨ s.pwr.pllSys = false → Completes .captBlock s ((u.incSat R.MTR_CAPT_LOST).raise E.MTR_CAPT_LOST)) ∧
      (w.dom 4 = 1 → s.pwr.pllSys = true → Completes .captBlock s
        (((u.putBytes (w.rdN R.MTR_CAPT_BASE + (16 + 128 * chans.length) * idx)
          (toLe 8 ((rows.headD (0, [])).1).toNat ++ toLe 4 s.mtr.captSeq.toNat ++ toLe 4 (w.rdF R.MTR_CAPT_CTRL 0 24) ++
            chans.flatMap fun j => rows.flatMap fun r => toLe 4 (r.2.getD j 0).toNat)).wrN R.MTR_CAPT_WR ((idx + 1) % size)).raise
          E.MTR_CAPT_BLOCK))) ∧
    -- RTD slots and cycles
    (s.mtr.rtdPos ≠ k → Completes (.rtdSlotEnd k vs vr vref comp) s w) ∧
    (on → s.mtr.rtdPos = k → w.rdB (R.AFE_RTP_CFG k) 0 = false →
      Completes (.rtdSlotEnd k vs vr vref comp) s { w with mtr.rtdPos := k + 1 }) ∧
    (on → s.mtr.rtdPos = k → w.rdB (R.AFE_RTP_CFG k) 0 = true → 0 < vref - s.mtr.zero[2] →
      ∃ u, Completes (.rtdSlotEnd k vs vr vref comp) s u ∧ u.mtr.rtdPos = k + 1 ∧
        (comp = true → u.rdF (R.H_ERR 0x11) 0 16 = 0x1201) ∧
        ∀ side : Fin 2,
          let m := 2 * k.val + side
          let vx := if side = 0 then vs else vr
          let num : Int := w.rdN R.AFE_RREF * (vx - (if side = 0 then s.mtr.zero[0] else s.mtr.zero[1]))
          let den := (vref - s.mtr.zero[2]).toNat
          let opn := comp || decide (vref < 20000000) || decide (1150000000 ≤ vx)
          let short := decide (2 * num < (w.rnom m * den : Nat))
          let oor := W.ratioBelow (-50000000) num (den * w.rnom m) || W.ratioAbove 200000000 num (den * w.rnom m)
          u.rdN (R.AFE_RTm_STAT m) = b2n (!opn && !short && !oor) + 2 * b2n opn + 4 * b2n short + 8 * b2n oor ∧
          u.rdN (R.AFE_RTm_RES m) = uns 32 (rounded 340 num den) ∧
          u.rd (R.AFE_RTm_T m) = (if opn || short then s.mtr.rtValid.getD m 0 else BitVec.ofNat 32 (uns 32 (W.rtdTemp num (den * w.rnom m))))) ∧
    (s.mtr.rtdPos ≠ 8 → Completes (.rtdDone za zb zref) s w) ∧
    (on → s.mtr.rtdPos = 8 → Completes (.rtdDone za zb zref) s
      (((({ w with mtr.zero := #v[za, zb, zref], mtr.rtdPos := 0 } : W).inc R.AFE_RTD_SEQ).raise E.AFE_RTD_DONE).thermAll)) ∧
    -- pulse inputs
    (on → Completes (.pulseEdgeAccepted i level false sample) s (w.incSatF (R.PLS_PIn_STAT i) 16 16)) ∧
    (w.rdB (R.PLS_PIn_STAT i) 0 = level → Completes (.pulseEdgeAccepted i level true sample) s w) ∧
    (on → w.rdB (R.PLS_PIn_STAT i) 0 = !level →
      let fwd := w.edgeFwd i sample
      let u := ({ w.wrB (R.PLS_PIn_STAT i) 0 level with mtr.levelAt := s.mtr.levelAt.set i (some sample) } : W).raiseIf (w.isDir i) E.PLS_PLS_DIR
      (w.isCounting i level = false → Completes (.pulseEdgeAccepted i level true sample) s u) ∧
      (w.isCounting i level = true → Completes (.pulseEdgeAccepted i level true sample) s
        (((u.countEdge i sample fwd).pulseMeter i fwd).thermPulse i fwd))) ∧
    -- PD2 off
    (¬ on → ∀ c ∈ [Instr.meterOutputPeriod vin ext slice, .correctionBlockEnd n, .trackerWindowEnd t, .captBlock,
      .rtdSlotEnd k vs vr vref comp, .rtdDone za zb zref, .pulseEdgeAccepted i level acc sample], Completes c s w)

/-- R235, R240, R241, R244, R253, R256 to R259, R261 to R268, R274: quantity slots, freezes, intervals and the billing store. -/
def Obligations.QuantitiesAndTheirStore : Prop :=
  ∀ (s : State) (h : Fin 8) (v : Word) (slot : BitVec 8) (q : Fin 168) (md : BitVec 8) (ok : Bool) (t r : Nat) (copied : List Slot)
    (j : StoreJob),
    let w := begin_ s
    let on : Prop := w.dom 2 = 1
    let frozen (cause : Nat) (u : W) : W :=
      if u.dom 2 ≠ 1 then u
      else if u.qty.frz.isSome then u.wrB R.QTY_FRZ_CAUSE cause true
      else { (u.inc R.QTY_FRZ_SEQ).wrN R.QTY_FRZ_CAUSE (2 ^ cause) with qty.frz := some (u.tscTime, u.rtcSec.toNat, u.qty.slot.toList) }
    let stored (causes : Nat) (u : W) : W :=
      let seq := (u.rdN R.QTY_STORE_SEQ + 1) % 2 ^ 32
      { u.wrB R.QTY_STORE_STAT 1 true with
        qty.store := some ⟨if u.rd R.QTY_STORE_SEQ = 0 then 0 else 1 - u.rdF R.QTY_STORE_STAT 4 1, seq, u.storeImage seq causes⟩ }
    (on → Completes .electricalStepEnd s
      (let u := (List.range 8).foldl (fun u e => (if bit (u.eCfg e) 0 then u.elecEnergy e (u.elemEnds e) else u).elecLive e (u.elemEnds e))
          (w.inc R.HRM_LIVE_SEQ)
       (({ u with qty.qualE := u.qty.qualE ||| u.qty.elOvl ||| u.qty.elInv, qty.el := Vector.replicate 24 {}, qty.elOvl := 0,
                  qty.elInv := 0 } : W).inc R.HRM_LIVE_SEQ).raise E.HRM_LIVE)) ∧
    (Open s (R.QTY_Hh_FLOW_IN h) → Takes (.hostFlowInWrite h v) s (R.QTY_Hh_FLOW_IN h) fun u =>
      ((u.wr (R.QTY_Hh_FLOW_IN h) v).setTh h { u.thOf h with stale := 0, wrote := true }).wrB (R.QTY_Hh_STAT h) 1 false) ∧
    (Open s R.QTY_PRESET_IDX →
      (167 < slot.toNat → Refuses (.preset slot) s R.QTY_PRESET_IDX eRange) ∧
      (slot.toNat < 168 → w.pointEn (w.slotPoint slot.toNat) = true → Refuses (.preset slot) s R.QTY_PRESET_IDX eState) ∧
      (slot.toNat < 168 → w.pointEn (w.slotPoint slot.toNat) = false → Takes (.preset slot) s R.QTY_PRESET_IDX fun u =>
        ((u.wrN R.QTY_PRESET_IDX slot.toNat).setSlot slot.toNat
          { fine := BitVec.ofNat 64 (w.rd64 R.QTY_PRESET_VAL), rem := 0, roll := false }).raise E.QTY_PRESET)) ∧
    (Open s (R.QTY_Qs_VIEW_HI q) → Takes (.rollClear q) s (R.QTY_Qs_VIEW_HI q) fun u =>
      (u.setSlot q { u.slotOf q with roll := false }).wrB (R.QTY_Qs_VIEW_HI q) 16 false) ∧
    (Open s R.HRM_MD_RESET → Takes (.maxdemReset md) s R.HRM_MD_RESET fun u =>
      (List.range 8).foldl (fun u e => if md.getLsbD e then (u.wr (R.HRM_MAXDEM (2 * e)) 0).wr (R.HRM_MAXDEM (2 * e + 1)) 0 else u) u) ∧
    -- freezes
    (Open s R.QTY_FREEZE → Takes .freezeNow s R.QTY_FREEZE fun u => frozen 0 (u.wrB R.QTY_FREEZE 0 true)) ∧
    Completes .freezePeriodic s (if w.rd R.QTY_FRZ_PERIOD = 0 then w else frozen 2 w) ∧
    (s.qty.frz = none → Completes .freezeDone s w) ∧
    (s.qty.frz = some (t, r, copied) → Completes .freezeDone s
      (let u := copied.zipIdx.foldl (fun u e =>
          let reg := (u.view e.2 e.1.fine.toNat).1
          let rcnt := (u.view e.2 e.1.fine.toNat).2
          ((u.wr64 (R.QTY_Qs_FINE e.2) e.1.fine.toNat).wrN (R.QTY_Qs_VIEW e.2) reg).wrN (R.QTY_Qs_VIEW_HI e.2)
            (reg / 2 ^ 32 % 256 + 256 * rcnt + 2 ^ 16 * b2n e.1.roll)) ((w.wr64 R.QTY_FRZ_TSC t).wrN R.QTY_FRZ_RTC r)
       (((({ s.qty.sums.foldl (fun u e => u.wr e.1 e.2) u with qty.frz := none, qty.sums := [] } : W).inc R.QTY_FRZ_SEQ).wrB
          R.QTY_FREEZE 0 false).raise E.QTY_FREEZE_DONE))) ∧
    -- intervals
    (on → ∃ u, Completes .intvEnd s u ∧ u.rd R.QTY_INTV_SEQ = w.rd R.QTY_INTV_SEQ + 1 ∧
      (∀ p : Fin 168, u.qty.intvFine[p] = s.qty.slot[p].fine) ∧ u.qty.slot = s.qty.slot ∧ u.qty.partE = 0 ∧ u.qty.partH = 0 ∧
      u.qty.qualE = 0 ∧ u.qty.qualH = 0 ∧ u.qty.revH = 0 ∧ u.qty.lowVin = decide (w.rdF R.PWR_VIN_MON 0 16 < 3000) ∧
      u.rdB R.QTY_FRZ_CAUSE 3 = true ∧ (∀ c, s.qty.frz = some c → u.qty.frz = some c) ∧
      (∀ e < 8, w.pointEn (.e e) = true → ∀ x ∈ W.pairWords (R.QTY_Ee_SUM (6 * e)) (w.slotDelta (7 * e)) ++
        W.pairWords (R.QTY_Ee_SUM (6 * e) + 8) (w.slotDelta (7 * e + 1)), x ∈ u.qty.sums) ∧
      (∀ e < 8, ∀ d < 6, w.pointEn (.h e) = true →
        ∀ x ∈ W.pairWords (R.QTY_Hh_SUM (20 * e) + 8 * d) (w.slotDelta (56 + 6 * e + d)), x ∈ u.qty.sums) ∧
      ((∀ p : Point, w.pointEn p = false) → u.qty.sums = [])) ∧
    -- the billing store
    (on → s.qty.store = none → Completes .storePeriodic s (stored 1 w)) ∧
    (on → s.qty.store = some j → Completes .storePeriodic s w) ∧
    (Open s R.QTY_STORE_STAT → Takes .storeNow s R.QTY_STORE_STAT fun u =>
      let u := u.wrB R.QTY_STORE_STAT 0 true
      if u.dom 2 ≠ 1 then u
      else if u.qty.store.isSome then { u with qty.storeNext := some (u.qty.storeNext.getD 0 ||| 4) }
      else stored 4 u) ∧
    (s.qty.store = none → Completes (.storeComplete ok) s w) ∧
    (s.qty.store = some j → s.qty.storeNext = none →
      let u : W := { w.wrB R.QTY_STORE_STAT 1 false with qty.store := none }
      Completes (.storeComplete true) s
        ((((((u.mramPut (w.storeBase j.sector) j.img).wrN R.QTY_STORE_SEQ j.seq).wrB R.QTY_STORE_STAT 2 true).wrF R.QTY_STORE_STAT 4 1
          j.sector).raise E.QTY_STORE_DONE).wrB R.QTY_STORE_STAT 0 false) ∧
      Completes (.storeComplete false) s
        ((((u.tear (w.storeBase j.sector) 1476).wrB R.QTY_STORE_STAT 2 false).raise E.QTY_STORE_FAIL).wrB R.QTY_STORE_STAT 0 false)) ∧
    (s.qty.store = some j → s.qty.storeNext = some t → ∃ u, Completes (.storeComplete ok) s u ∧ u.qty.storeNext = none ∧
      u.rdB R.QTY_STORE_STAT 1 = true ∧ u.rdB R.QTY_STORE_STAT 2 = ok ∧ ∃ j', u.qty.store = some j' ∧
        j'.seq = ((if ok then j.seq else w.rdN R.QTY_STORE_SEQ) % 2 ^ 32 + 1) % 2 ^ 32) ∧
    (¬ on → ∀ c ∈ [Instr.electricalStepEnd, .freezePeriodic, .intvEnd, .storePeriodic], Completes c s w)

/-- R269 to R273: harmonic windows and their results. -/
def Obligations.HarmonicWindows : Prop :=
  ∀ (s : State) (e : Nat) (r : HrmRes),
    let w := begin_ s
    let full : Prop := 160000000 * w.nc ≤ s.qty.winBuf.length * s.qty.winF
    let words := (List.range 6).flatMap fun g => w.hrmWords g (decide (g % 3 < w.elems e)) (w.hrmBin e g) (w.hrmBin e 0 w.nc).ang
    let stat := BitVec.ofNat 32 (e + 8 * b2n (!s.qty.winLock) + 16 * b2n s.qty.winOvl)
    let results : HrmRes := ⟨stat, BitVec.ofNat 64 s.qty.winTsc, BitVec.ofNat 32 (fofRat b32 false s.qty.winF 10000), words⟩
    (w.dom 2 ≠ 1 → Completes .harmonicWindowEnd s w) ∧
    (w.dom 2 = 1 → s.qty.winPoint = none → Completes .harmonicWindowEnd s w.winStart) ∧
    (w.dom 2 = 1 → s.qty.winPoint = some e → ¬ full → Completes .harmonicWindowEnd s w) ∧
    (w.dom 2 = 1 → s.qty.winPoint = some e → full → Completes .harmonicWindowEnd s (W.winStart { w with qty.hrm := some results })) ∧
    -- the next point whose bit of CTRL is set, in turn
    (w.rdF R.HRM_CTRL 0 8 = 0 → (w.winStart).qty.winPoint = none) ∧
    (∀ a : Fin 8, w.rdF R.HRM_CTRL 0 8 = 2 ^ a.val → (w.winStart).qty.winPoint = some a.val ∧ (w.winStart).qty.winBuf = [] ∧
      (w.winStart).qty.winTsc = w.tscTime ∧ (w.winStart).qty.winOvl = false) ∧
    (s.qty.hrm = none → Completes .hrmDone s w) ∧
    (s.qty.hrm = some r → Completes .hrmDone s
      (((r.words.foldl (fun u x => u.wr x.1 x.2)
        (((({ w.inc R.HRM_WIN_SEQ with qty.hrm := none } : W).wr R.HRM_RES_STAT r.stat).wr64 R.HRM_RES_TSC r.tsc.toNat).wr R.HRM_FUND_F
          r.f)).inc R.HRM_WIN_SEQ).raise E.HRM_HRM_DONE))

/-- R111, R283, R318 to R326, R328, R331, R332, R338: the queue of the solver, its arm slots, and how a job starts and ends. -/
def Obligations.QueueAndJobsOfTheSolver : Prop :=
  ∀ (s : State) (k : BitVec 4) (x : Ext) (n : Fin 256) (a : Fin 8) (v : Word) (partners : List Nat) (waited : Bool) (ces : Nat) (ues : List Nat)
    (time iter : Nat) (coup : Option (Nat × Nat × Nat)) (creg : Nat) (j : SlvJob) (r : SlvRun),
    let w := begin_ s
    let entry (i : Nat) : Nat × Nat :=
      let at_ := w.rdN R.SLV_RING_BASE + 16 * ((w.rdF R.SLV_RING_PI 0 4 + i) % 16)
      (w.get s.mem at_ 1, w.get s.mem (at_ + 2) 2)
    let es := (List.range k.toNat).map entry
    let inFlight := s.slv.queue.length + b2n s.slv.exec.isSome
    let busy (d : Nat) : Prop := (∃ q ∈ s.slv.queue, q.desc = d) ∨ ∃ q, s.slv.exec = some q ∧ q.desc = d
    -- the host's doorbell
    (Open s R.SLV_RING_DB → x.ramCe = [] → x.ramUe = [] →
      (9 < k.toNat → Refuses (.slvRingDoorbell k x) s R.SLV_RING_DB eLen) ∧
      (k.toNat ≤ 9 → (∃ e ∈ es, 63 < e.1) → Refuses (.slvRingDoorbell k x) s R.SLV_RING_DB eRange) ∧
      (k.toNat ≤ 9 → (∀ e ∈ es, e.1 ≤ 63) →
        (9 < inFlight + k.toNat → Refuses (.slvRingDoorbell k x) s R.SLV_RING_DB eFull) ∧
        (inFlight + k.toNat ≤ 9 → (∃ e ∈ es, busy e.1) ∨ ¬ (es.map (·.1)).Nodup → Refuses (.slvRingDoorbell k x) s R.SLV_RING_DB eBusy) ∧
        (inFlight + k.toNat ≤ 9 → (∀ e ∈ es, ¬ busy e.1) → (es.map (·.1)).Nodup →
          Takes (.slvRingDoorbell k x) s R.SLV_RING_DB fun u =>
            es.foldl (fun u e => u.slvAccept e.1 0 e.2) (u.wrF R.SLV_RING_PI 0 4 (w.rdF R.SLV_RING_PI 0 4 + k.toNat))))) ∧
    -- arm slots
    (s.pwr.held = false → Completes (.armEvent n) s
      ((List.range 8).foldl (fun u b =>
        let d := u.rdF (R.SLV_ARM b) 0 6
        if u.rdB (R.SLV_ARM b) 31 = false ∨ u.rdF (R.SLV_ARM b) 8 8 ≠ n then u
        else if w.pstate = 2 ∨ u.slvBusy d ∨ 9 ≤ u.slvInFlight then (u.incSat (R.SLV_ARM_MISSED b)).raise E.SLV_ARM_MISSED
        else (u.inc (R.SLV_ARM_COUNT b)).slvAccept d 2 b) w)) ∧
    (Open s (R.SLV_ARM a) →
      (let taken : Prop := ∃ b : Fin 8, b ≠ a ∧ w.rdB (R.SLV_ARM b) 31 = true ∧ w.rdF (R.SLV_ARM b) 0 6 = fld v 0 6
       (taken → Refuses (.armSlotEnable a v) s (R.SLV_ARM a) eState) ∧
       (¬ taken → Takes (.armSlotEnable a v) s (R.SLV_ARM a) fun u =>
         (u.wr (R.SLV_ARM a) ((v ||| 0x80000000#32) &&& 0x8000FF3F#32)).wr (R.SLV_ARM_MISSED a) 0))) ∧
    -- a job starts
    (s.slv.exec = none ∨ s.slv.run ≠ none ∨ w.dom 5 ≠ 1 ∨ s.pwr.slvArray = false ∨ w.ew = true ∨ w.serving = true →
      Completes (.jobStart partners waited ces ues time) s w) ∧
    (s.pwr.held = false → s.slv.exec = some j → s.slv.run = none → w.dom 5 = 1 → s.pwr.slvArray = true → w.ew = false → w.serving = false →
      ∃ u r, Completes (.jobStart partners waited ces ues time) s u ∧ u.slv.exec = some j ∧ u.slv.run = some r ∧
        r.desc = (List.range 128).map (fun i => BitVec.ofNat 8 (w.slvRd s.mem ues (w.rdN R.SLV_DESC_BASE + 256 * j.desc + i) 1)) ∧
        r.seq = w.rdN R.SLV_JOB_SEQ ∧ r.tsc0 = s.tsc.toNat ∧ r.ues = ues ∧ u.rd R.SLV_JOB_SEQ = w.rd R.SLV_JOB_SEQ + 1 ∧
        u.rdN R.SLV_ECC_UE = satAdd 32 (w.rdN R.SLV_ECC_UE) ues.length ∧
        u.rdN R.SLV_ECC_CE = satAdd 32 (w.rdN R.SLV_ECC_CE) ces ∧
        (descCode ⟨r.desc⟩ ≠ 0 → r.code = descCode ⟨r.desc⟩)) ∧
    -- a job ends
    (s.slv.exec = none ∨ s.slv.run = none → Completes (.jobComplete coup creg) s w ∧ Completes (.jobTimeout iter) s w) ∧
    (w.rdF R.SLV_JOB_TMO 0 16 = 0 → Completes (.jobTimeout iter) s w) ∧
    (s.pwr.held = false → s.slv.exec = some j → s.slv.run = some r → j.desc < 64 →
      ∀ c ∈ [Instr.jobComplete coup creg, .jobTimeout iter], (c = .jobTimeout iter → w.rdF R.SLV_JOB_TMO 0 16 ≠ 0) →
        ∃ u, Completes c s u ∧ u.slv.run = none ∧ u.rdN R.SLV_LAST_DESC = j.desc ∧
          u.rdB (if j.desc < 32 then R.SLV_DONE_MAP else R.SLV_DONE_MAP_HI) (j.desc % 32) = true ∧
          (w.rdB (R.H_EVT_EN 0x15) E.SLV_JOB_DONE.2 = true → u.rdB (R.H_EVT_PEND 0x15) E.SLV_JOB_DONE.2 = true) ∧
          (r.code ≠ 0 → r.code ≠ 0x1604 → u.rdF R.SLV_LAST_STATUS 0 16 = r.code % 2 ^ 16 ∧
            (r.code ≠ 0x1601 → u.rdF (R.H_ERR 0x15) 0 16 = r.code % 2 ^ 16) ∧ u.rd R.SLV_LAST_ITER = 0 ∧ u.rd R.SLV_LAST_FAIL = 0))

/-- R373, R376, R378 to R380: the split horizon, at the lead and at a partner. -/
def Obligations.SplitHorizon : Prop :=
  ∀ (s : State) (x : SplitSetup) (off : Nat) (data : List Byte) (dropped : Bool) (r : SlvRun),
    let w := begin_ s
    let live : Prop := s.pwr.held = false
    -- the REASON with which a setup message is refused; 0 for ACCEPT
    let reason : Nat := if w.hasClaim = false then 2 else if w.rdB R.QP_SPLIT_CFG 0 = false then 5
      else if s.slv.queue ≠ [] ∨ s.slv.exec ≠ none then 6 else if w.rdN R.QP_SPLIT_LEN < splitNeed x w.qid then 7 else 0
    let hears : Prop := w.leadUp = true ∧ w.ew = false ∧ w.serving = false
    let back : Nat := s.slv.served.elim 0 fun y => y.boblk + y.bwblk
    (live → hears → reason = 0 → Completes (.splitServeRequest x) s
      (((({ w with slv.reply := some 0, slv.served := some x } : W).wrB R.QP_SPLIT_STAT 4 true).demand 5).raise E.QP_SERVE_START)) ∧
    (live → hears → reason ≠ 0 → Completes (.splitServeRequest x) s { w with slv.reply := some reason }) ∧
    (¬ hears → Completes (.splitServeRequest x) s w) ∧
    -- messages
    (live → w.serving = true → off + data.length ≤ w.rdN R.QP_SPLIT_LEN → w.domUp 5 = true → w.leadUp = true →
      Completes (.splitMessage off data) s (w.putBytes (w.rdN R.QP_SPLIT_BASE + off) data)) ∧
    (w.serving = true → w.rdN R.QP_SPLIT_LEN < off + data.length ∨ w.domUp 5 = false ∨ w.leadUp = false →
      Completes (.splitMessage off data) s w) ∧
    (live → w.serving = false → s.slv.run = some r → r.split = true →
      Completes (.splitMessage off data) s { w with slv.run := some { r with msgs := r.msgs + 1 } }) ∧
    (w.serving = false → s.slv.run = none ∨ s.slv.run = some r ∧ r.split = false →
      Completes (.splitMessage off data) s w ∧ Completes (.splitTimeout dropped) s w) ∧
    -- the lead abandons the split, and goes on with the whole job
    (live → s.slv.run = some r → r.split = true → Completes (.splitTimeout dropped) s
      ((((({ w with slv.run := some { r with split := false, flags := r.flags ||| 24 } } : W).wrF R.QP_SPLIT_STAT 0 4
        (if dropped then 9 else 8)).incSat R.QP_FALLBACK_CNT).raise E.QP_SPLIT_FALLBACK))) ∧
    -- a partner returns its block
    (w.serving = false → Completes .splitServeEnd s w) ∧
    (live → w.serving = true → Completes .splitServeEnd s
      (((((({ w with slv.returned := some (back, s.freeCtr), slv.served := none, freeCtr := s.freeCtr + 1 } : W).inc
        R.QP_SERVE_CNT).wrB R.QP_SPLIT_STAT 4 false).undef (w.rdN R.QP_SPLIT_BASE) (w.rdN R.QP_SPLIT_LEN)).raise
        E.QP_SERVE_END).slvKick)) ∧
    (s.pwr.held = true → ∀ c ∈ [Instr.splitServeRequest x, .splitMessage off data, .splitTimeout dropped, .splitServeEnd], Completes c s w)

/-- R572 to R578: the motion commands of the host, staged and submitted: refused by the first check that fails, queued, or put in the
place of what waits. -/
def Obligations.CommandsToAnAxis : Prop :=
  ∀ (s : State) (n : Fin 16) (now : Bool) (tag : BitVec 16) (a0 a1 a2 : Word) (k : BitVec 3),
    let w := begin_ s
    let ax := s.ax[n]
    let st := w.axState n
    let direct := w.axDirect n
    let abs (x : Word) : Nat := (sgn 32 x.toNat).natAbs
    let cmd (op : Nat) (b0 b1 b2 : Word) : AxCmd := ⟨op, now, tag.toNat, b0, b1, b2⟩
    -- a HOME that the axis can perform; the arguments of each command
    let homes : Bool := if direct then w.rdF (R.DRV_DDd_STALL n) 0 16 != 0 else w.rdF (R.AX_CFG n) 9 2 == 2
    let fits (c : AxCmd) : Bool :=
      let zero1 := c.a1 == 0 && c.a2 == 0
      match c.op with
      | 1 => c.a2 == 0 && decide (abs c.a0 ≤ 2147483392)
      | 2 => c.a2 == 0
      | 3 => zero1 && decide (abs c.a0 ≤ 128000000)
      | 4 => zero1 && decide (c.a0.toNat ≤ 1)
      | 5 => decide (c.a0.toNat ≤ 1 ∧ 1 ≤ c.a1.toNat ∧ c.a1.toNat ≤ 128000000) &&
          (!direct || decide ((c.a1.toNat : Int) < w.rdN (R.DRV_DDd_VSW n) - w.rdN (R.DRV_DDd_VHYS n)))
      | 6 => zero1
      | 7 => zero1 && decide (1 ≤ c.a0.toNat ∧ c.a0.toNat ≤ 60000000)
      | _ => false
    let flying := ax.queue.length + b2n ax.active.isSome
    let code (count : Nat) (cs : List AxCmd) (reserved : Bool) : Nat :=
      let first := match cs with | c :: _ => c.now | [] => false
      if st = 0 ∨ st = 6 ∨ st = 7 ∨ (cs.any (fun c => c.op == 5 && !homes)) = true then eState
      else if 4 < count then eLen
      else if reserved = true ∨ (cs.any fun c => !fits c) = true ∨ ((cs.drop 1).any fun c => c.now) = true then eRange
      else if 4 < (if first then 0 else flying) + count then eFull else 0
    let ended (st : Nat) : List (Nat × Nat) := ax.ended ++ (ax.active.toList ++ ax.queue).map fun c => (c.tag, st)
    (Open s (R.AX_CMD_DB n) →
      ∀ p ∈ [(Instr.axMoveAbs n now tag a0 a1, cmd 1 a0 a1 0), (.axMoveRel n now tag a0 a1, cmd 2 a0 a1 0),
          (.axJog n now tag a0, cmd 3 a0 0 0), (.axStop n now tag a0, cmd 4 a0 0 0), (.axHome n now tag a0 a1 a2, cmd 5 a0 a1 a2),
          (.axSetPos n now tag a0, cmd 6 a0 0 0), (.axDwell n now tag a0, cmd 7 a0 0 0)],
        (code 1 [p.2] false = 0 → ∃ u, Completes p.1 s u ∧
          u.rdF (R.AX_CMD_PI n) 0 2 = (w.rdF (R.AX_CMD_PI n) 0 2 + 1) % 4 ∧ u.wq = [] ∧
          (∀ i : Fin 16, i ≠ n → u.ax[i] = s.ax[i]) ∧ (∀ a, a / 0x1000 ≠ 0x2B + n → u.rd a = w.rd a) ∧
          (now = false → u.ax[n] = { ax with queue := ax.queue ++ [p.2] }) ∧
          (now = true → u.ax[n].active = none ∧ u.ax[n].queue = [p.2] ∧ u.ax[n].ended = ended 0x2C01)) ∧
        (code 1 [p.2] false ≠ 0 → ∃ u, Completes p.1 s u ∧ u.ax = s.ax ∧ u.wq = [] ∧
          u.rdF (R.H_ERR (0x2B + n)) 0 16 = code 1 [p.2] false ∧ u.rd (R.AX_CMD_PI n) = w.rd (R.AX_CMD_PI n) ∧
          ∀ a, a / 0x1000 ≠ 0x2B + n → u.rd a = w.rd a)) ∧
    (Open s (R.AX_CMD_DB n) →
      let pi := w.rdF (R.AX_CMD_PI n) 0 2
      let entry (i q : Nat) : Word := w.rd (R.AX_CMD_STAGE n (4 * ((pi + i) % 4) + q))
      let cs : List AxCmd := (List.range (min k.toNat 4)).map fun i =>
        ⟨fld (entry i 0) 0 4, bit (entry i 0) 4, fld (entry i 0) 16 16, entry i 1, entry i 2, entry i 3⟩
      let code := code k.toNat cs ((List.range (min k.toNat 4)).any fun i => fld (entry i 0) 5 11 != 0)
      (code ≠ 0 → Refuses (.axCmdDoorbell n k) s (R.AX_CMD_DB n) code) ∧
      (code = 0 → Takes (.axCmdDoorbell n k) s (R.AX_CMD_DB n) fun u =>
        (((match (cs : List AxCmd) with
          | c :: _ => if c.now then u.axEndAll n 0x2C01 else u
          | [] => u).modAx n fun a => { a with queue := a.queue ++ cs }).wrF (R.AX_CMD_PI n) 0 2 (pi + k.toNat))))

/-- R579, R580, R586, R601, R600, R604, R607, R614: the stops, the profile values and the end of a fault that the host writes. -/
def Obligations.StopsAndProfileOfAnAxis : Prop :=
  ∀ (s : State) (n : Fin 16) (vA vB : Int) (diag : Bool) (v : Word) (j : Fin 4),
    let w := begin_ s
    let ax := s.ax[n]
    let st := w.axState n
    -- the STOP register: an axis in FAULT or HELD has no command and stays there
    (Open s (R.AX_STOP n) →
      (w.rdB (R.H_CTRL (0x2B + n)) 0 = false →
        Refuses (.axisStopRamp n) s (R.AX_STOP n) eState ∧ Refuses (.axisStopImmediate n) s (R.AX_STOP n) eState) ∧
      (w.rdB (R.H_CTRL (0x2B + n)) 0 = true → st = 6 ∨ st = 7 →
        Takes (.axisStopRamp n) s (R.AX_STOP n) (fun u => u) ∧ Takes (.axisStopImmediate n) s (R.AX_STOP n) fun u => u) ∧
      (w.rdB (R.H_CTRL (0x2B + n)) 0 = true → st ≠ 6 → st ≠ 7 →
        (ax.v = 0 → Takes (.axisStopRamp n) s (R.AX_STOP n) fun u => (u.axEndAll n 0x2C02).setAxState n 1) ∧
        (ax.v ≠ 0 → Takes (.axisStopRamp n) s (R.AX_STOP n) fun u => (u.axEndAll n 0x2C02).axRamp n) ∧
        Takes (.axisStopImmediate n) s (R.AX_STOP n) fun u => ((u.axEndAll n 0x2C02).axImmediate n false).setAxState n 1)) ∧
    -- an immediate stop: no speed, no further step, a loss of position
    ((w.axImmediate n false).ax[n].v = 0 ∧ (w.axImmediate n false).rd (R.AX_VEL n) = 0 ∧ (w.axImmediate n false).ax[n].halted = true ∧
      (w.axImmediate n false).rd (R.AX_XPOS n) = w.rd (R.AX_XPOS n) ∧
      (w.axImmediate n false).rdN (R.AX_UNC n) = satAdd 32 (w.rdN (R.AX_UNC n)) (stopLoss ax.v.toNat ax.dec.toNat false)) ∧
    -- profile values
    (Open s (R.AX_VMAX n + 4 * j) →
      (let en := w.rdB (R.H_CTRL (0x2B + n)) 0
       let bad : Prop := j = 0 ∧ en = true ∧ (v = 0 ∨ 128000000 < v.toNat) ∨ (j = 1 ∨ j = 2) ∧ v = 0
       (bad → Refuses (.profileParamWrite n j v) s (R.AX_VMAX n + 4 * j) eRange) ∧
       (¬ bad → Takes (.profileParamWrite n j v) s (R.AX_VMAX n + 4 * j) fun u =>
         (u.wr (R.AX_VMAX n + 4 * j) v).wrB (R.AX_PAPPLY n) 1 true))) ∧
    (Open s (R.AX_PAPPLY n) → Takes (.papplyNow n) s (R.AX_PAPPLY n) fun u =>
      (u.modAx n fun a => { a with applyNow := true }).wrB (R.AX_PAPPLY n) 0 true) ∧
    -- the end of a fault: no over-current input at or above OC_TH, no active DIAG
    (Open s (R.AX_FAULT_CLR n) →
      (let above (v : Int) : Prop := w.rdF (R.DRV_DDd_CFG n) 0 8 * 3515625 ≤ (v - 900000).natAbs * 1000
       let cause : Prop := w.axDirect n = true ∧ (above vA ∨ above vB) ∨ diag ≠ w.rdB (R.AX_CFG n) 8
       (st ≠ 6 → Takes (.axisFaultClear n vA vB diag) s (R.AX_FAULT_CLR n) fun u => u) ∧
       (st = 6 → cause → Refuses (.axisFaultClear n vA vB diag) s (R.AX_FAULT_CLR n) eState) ∧
       (st = 6 → ¬ cause → Takes (.axisFaultClear n vA vB diag) s (R.AX_FAULT_CLR n) fun u =>
          let u := (u.setAxState n 1).wrF (R.AX_ASTAT n) 16 4 0
          if n.val < 8 then u.wrF (R.DRV_DDd_STAT n) 1 2 0 else u)))

/-- R571, R573, R578, R580, R582, R586, R587, R589, R590, R597, R599, R600, R602, R604 to R607, R613, R616: the update of an axis and
what happens to it. -/
def Obligations.EventsOfAnAxis : Prop :=
  ∀ (s : State) (n : Fin 16) (d : Fin 8) (vA vB v : Int) (level coilB : Bool) (clocks : Fin 601) (c : AxCmd) (rest : List AxCmd),
    let w := begin_ s
    let ax := s.ax[n]
    let st := w.axState n
    let on : Prop := w.dom 7 = 1
    let ticked := w.rd R.MOT_TICKS + (if n = 0 then 1 else 0)
    -- the DIAG pin is active, and what that does to an axis that runs
    let active := level != w.rdB (R.AX_CFG n) 8
    let mode := w.rdF (R.AX_CFG n) 9 2
    let quiet : Prop := active = false ∨ mode = 0
    let applied (u : W) : Prop := u.ax[n].vmax = w.rd (R.AX_VMAX n) ∧ u.ax[n].acc = w.rd (R.AX_ACC n) ∧ u.ax[n].dec = w.rd (R.AX_DEC n) ∧
      u.ax[n].jerk = w.rd (R.AX_JERK n) ∧ u.rd (R.AX_PAPPLY n) = 0
    let update := Instr.axisUpdate n vA vB level clocks
    -- the update: PD7 off, an axis that does not run, one that faults by DIAG
    (¬ on → Completes update s w) ∧
    (on → st = 0 ∨ st = 6 ∨ st = 7 ∧ quiet → ax.ended = [] → ∃ u, Completes update s u ∧ u.axState n = st ∧ u.rd R.MOT_TICKS = ticked ∧
      u.rdB (R.AX_ASTAT n) 11 = active ∧ u.ax[n].steps = 0 ∧ u.ax[n].x = ax.x ∧ u.ax[n].v = ax.v ∧ u.ax[n].active = ax.active ∧
      u.ax[n].queue = ax.queue ∧ (ax.applyNow = true → applied u) ∧ (st = 7 → w.rdB (R.AX_PAPPLY n) 1 = true → applied u) ∧
      ∀ a ∈ [R.AX_XPOS n, R.AX_XCMD n, R.AX_VEL n, R.AX_UNC n, R.AX_TARGET n], u.rd a = w.rd a) ∧
    (on → active = true → st ≠ 0 → st ≠ 6 → mode = 1 ∨ mode = 2 ∧ st ≠ 3 →
      ∃ u, Completes update s u ∧ u.axState n = 6 ∧ u.rdF (R.AX_ASTAT n) 16 4 = mode + 1 ∧ u.rd (R.AX_VEL n) = 0 ∧
        u.ax[n].active = none ∧ u.ax[n].queue = []) ∧
    -- one that moves; XPOS follows in whole steps
    (on → st = 2 → quiet → ax.active = some c → ax.ramp = false → ax.homeStep = 0 → ax.applyNow = false →
      let vm := F64.min (F64.ofNat ax.vmax.toNat) (w.axVstep n)
      let p := profileStep ax.tgt.toNat (match ax.cap with | some x => F64.min vm (F64.ofNat x) | none => vm) (F64.ofNat ax.acc.toNat)
        (F64.ofNat ax.dec.toNat) (F64.ofNat ax.jerk.toNat) ax.x.toNat ax.v.toNat ax.a.toNat
      ∃ u, Completes update s u ∧ u.rd R.MOT_TICKS = ticked ∧ u.ax[n].x = BitVec.ofNat 64 p.x ∧
        u.ax[n].v = BitVec.ofNat 64 p.v ∧ u.ax[n].a = BitVec.ofNat 64 p.a ∧
        u.rdN (R.AX_XCMD n) = uns 32 ((F64.toInt p.x).getD 0) ∧ u.rdN (R.AX_VEL n) = uns 32 ((F64.toInt p.v).getD 0) ∧
        (p.arrived = false → u.axState n = 2 ∧ u.ax[n].active = some c) ∧ (p.arrived = true → u.axState n = 1 ∧ u.ax[n].active = none) ∧
        (p.overshoot = true → u.rdB (R.AX_ASTAT n) 7 = true) ∧
        (w.axDirect n = false → ax.halted = false →
          let g : Int := (256 / 2 ^ w.rdF (R.AX_CFG n) 1 4 : Nat)
          let due := Int.tdiv (u.axPos (R.AX_XCMD n) - w.axPos (R.AX_XPOS n)) g
          u.ax[n].steps = due ∧ u.rdN (R.AX_XPOS n) = uns 32 (w.axPos (R.AX_XPOS n) + due * g)) ∧
        (ax.halted = true → u.ax[n].steps = 0 ∧ u.rd (R.AX_XPOS n) = w.rd (R.AX_XPOS n))) ∧
    -- the assignment of a position
    (on → st = 1 → quiet → ax.active = none → ax.queue = c :: rest → c.op = 6 → w.rd (R.AX_VEL n) = 0 → ax.v = 0 → ax.ramp = false →
      ax.ended = [] → ax.applyNow = false →
      ∃ u, Completes update s u ∧ u.rd (R.AX_XPOS n) = c.a0 ∧ u.rd (R.AX_XCMD n) = c.a0 ∧ u.rd (R.AX_UNC n) = 0 ∧
        u.rdB (R.AX_ASTAT n) 6 = true ∧ u.ax[n].active = none ∧ u.ax[n].queue = rest ∧
        u.rd (R.AX_LAST_DONE n) = BitVec.ofNat 32 (c.tag % 2 ^ 16) ∧ u.rd (R.AX_DONE_CNT n) = w.rd (R.AX_DONE_CNT n) + 1) ∧
    -- timed events; a DWELL that ends with a speed left ends in a ramp stop
    (st = 4 → Completes (.dwellElapsed n) s
      (if ax.v = 0 then (w.axEnd n 0).setAxState n 1 else (w.axEnd n 0).axRamp n)) ∧
    (st ≠ 4 → Completes (.dwellElapsed n) s w) ∧
    Completes (.holdCurrentExpiry d) s (if w.rd (R.AX_VEL d) = 0 then w.wrB (R.DRV_DDd_STAT d) 3 true else w) ∧
    -- the chopper: in strong mode a driven coil whose current reaches its reference after the blanking time decays slowly
    (let b := s.ax[d.val]
     let iref := if w.rdB (R.DRV_DDd_STAT d) 3 then w.rdF (R.DRV_DDd_ICUR d) 16 16 else w.rdF (R.DRV_DDd_ICUR d) 0 16
     let part := (cos120 (if coilB then b.e + 768 else b.e)).natAbs
     let decays := if coilB then b.decayB else b.decayA
     let trips : Prop := w.rdB (R.DRV_DDd_STAT d) 0 = true ∧ w.rdF (R.DRV_DDd_ICUR d) 0 16 * 2 ^ 120 ≤ part * iref * 100 ∧ decays = false ∧
       part * iref * 1000000 ≤ ((v - 900000) * (w.rdF (R.DRV_DDd_ISGAIN d) 0 16 : Nat)).natAbs * 2 ^ 120 ∧
       (if coilB then b.edgeB else b.edgeA) + w.rdF (R.DRV_DDd_CFG d) 16 8 ≤ w.tscTime
     let turns (on : Bool) : W := w.modAx d fun a =>
       if coilB then { a with decayB := on, edgeB := w.tscTime } else { a with decayA := on, edgeA := w.tscTime }
     (trips → Completes (.chopComparatorTrip d coilB v) s (turns true)) ∧
     (¬ trips → Completes (.chopComparatorTrip d coilB v) s w) ∧
     (decays = true → Completes (.chopOffExpiry d coilB) s (turns false)) ∧
     (decays = false → Completes (.chopOffExpiry d coilB) s w)) ∧
    -- faults
    (let above : Prop := w.axDirect d = true ∧ w.rdF (R.DRV_DDd_CFG d) 0 8 * 3515625 ≤ (v - 900000).natAbs * 1000
     let u := w.wrB (R.DRV_DDd_STAT d) (if coilB then 2 else 1) true
     (¬ above ∨ w.axState d = 0 → Completes (.overcurrentTrip d coilB v) s w) ∧
     (above → w.axState d = 6 → Completes (.overcurrentTrip d coilB v) s u) ∧
     (above → w.axState d ≠ 0 → w.axState d ≠ 6 → Completes (.overcurrentTrip d coilB v) s (u.axFault d 1))) ∧
    (let u := w.wrB (R.AX_ASTAT n) 11 active
     Completes (.axisDiagActive n level) s
       (if active = false ∨ st = 0 ∨ st = 6 then u else if mode = 1 then u.axFault n 2
        else if mode = 2 ∧ st ≠ 3 then u.axFault n 3
        else if mode = 2 ∧ w.axDirect n = false then u.axStall n else u)) ∧
    Completes (.stallDetected n) s
      (if w.axDirect n = true ∧ 1 ≤ ax.stall ∧ w.rdF (R.DRV_DDd_STALL n) 24 8 ≤ ax.stall then w.axStall n else w) ∧
    -- a fault ends every command, a stall gives the axis its position
    (∀ rsn < 16, (w.axFault n rsn).axState n = 6 ∧ (w.axFault n rsn).rdF (R.AX_ASTAT n) 16 4 = rsn ∧ (w.axFault n rsn).ax[n].v = 0 ∧
      (w.axFault n rsn).ax[n].active = none ∧ (w.axFault n rsn).ax[n].queue = [] ∧ (w.axFault n rsn).rd (R.AX_VEL n) = 0 ∧
      (w.axFault n rsn).ax[n].ended = ax.ended ++ (ax.active.toList ++ ax.queue).map fun c => (c.tag, 0x2C03)) ∧
    (ax.active = some c → c.op = 5 → ax.homeStep = 1 → ax.armed = true →
      (w.axStall n).rd (R.AX_XPOS n) = c.a2 ∧ (w.axStall n).rd (R.AX_XCMD n) = c.a2 ∧ (w.axStall n).ax[n].homeStep = 4 ∧
        (w.axStall n).ax[n].v = 0 ∧ (w.axStall n).ax[n].cap = some c.a1.toNat) ∧
    (ax.active = none ∨ ax.homeStep ≠ 1 ∨ ax.armed = false → w.axStall n = w)

/-- R101, R119 to R121, R820, R821, R854: start-up, its stop when XTM fails, its wait for a host image, and GO. -/
def Obligations.StartUpAndBootImages : Prop :=
  ∀ (s : State) (x : Ext) (persist : Bool),
    let w := begin_ s
    let i := x.start
    -- phases 1 to 3: straps and PD1, the words of the MRAM found wrong, the bucks that fail
    let one := (((w.setPhase 1).wrN R.SYS_STRAP (i.straps % 16)).pd1Start).triadSync
    let two := (one.setPhase 2).mramMeets i.mramCe i.mramUe
    let three := ([1, 0, 3].foldl (fun (u : W) b => if i.buckFail.testBit b then u.regFault b else u) two).setPhase 3
    let four := (({ three with pwr.xtmElapsed := 0 } : W).startPllSys).setPhase 4
    let five := four.setPhase 5
    let runs : Prop := s.pwr.held = false ∧ w.rdF R.SYS_BOOT_STAT 0 4 = 0
    let sound : Prop := s.pwr.xtmFail = false
    let goes : Prop := runs ∧ sound ∧ i.xtmFailPhase ∉ [3, 4, 5]
    let len := w.rdN R.HIF_BOOT_LEN
    let img := w.bytes s.mem solverEnd (min len 516096)
    let code := bootCode len img
    let go := accepted w R.HIF_BOOT_CTRL fun u => u.wrB R.HIF_BOOT_CTRL 1 persist
    (¬ runs → Completes (.startup x) s w) ∧
    (runs → i.xtmFailPhase = 3 → Completes (.startup x) s three.xtmFails) ∧
    (runs → sound → i.xtmFailPhase = 4 → Completes (.startup x) s four.xtmFails) ∧
    (runs → sound → i.xtmFailPhase = 5 → Completes (.startup x) s five.xtmFails) ∧
    (goes → five.rdB R.SYS_STRAP 3 = true → Completes (.startup x) s
      (((five.wrB R.SYS_BOOT_STAT 9 true).bootOn 4).bootOn 9)) ∧
    (goes → five.rdB R.SYS_STRAP 3 = false → Completes (.startup x) s
      (((five.bootTouch s.mem).phase5 ((five.bootTouch s.mem).bootRead s.mem) x s.mem).phases6to9 x s.mem)) ∧
    (Open s R.HIF_BOOT_CTRL →
      (w.rdB R.SYS_BOOT_STAT 9 = false → Takes (.bootGo persist x) s R.HIF_BOOT_CTRL fun u =>
        ((u.wrB R.HIF_BOOT_CTRL 1 persist).wrF R.HIF_BOOT_CTRL 16 16 eState).err 0x04 eState) ∧
      (w.rdB R.SYS_BOOT_STAT 9 = true → code ≠ 0 →
        Completes (.bootGo persist x) s ((go.wrF R.HIF_BOOT_CTRL 16 16 code).err 0x04 code)) ∧
      (w.rdB R.SYS_BOOT_STAT 9 = true → code = 0 → Completes (.bootGo persist x) s
        (let u := go.wrF R.HIF_BOOT_CTRL 16 16 0
         let u := if persist then u.mramPut (u.partBase 0) (img.take (u.partSize 0 - 8192)) else u
         ((u.wrB R.SYS_BOOT_STAT 9 false).phase5 (some (bootImg img)) x s.mem).phases6to9 x s.mem)))

/-- R619, R621, R622, R624 to R627, R632, R635, R637 to R640: the periods, tests and faults of the safety sequencer. -/
def Obligations.PeriodsAndTestsOfTheSafetySequencer : Prop :=
  ∀ (s : State) (smA edmA smB edmB : BitVec 8) (dev chanB pinB level lowA lowB low : Bool) (i f : Fin 16) (k : Fin 4) (n o : Fin 8)
    (aA aB bA bB : BitVec 16),
    let w := begin_ s
    let t := s.saf.tbl
    let on : Prop := w.dom 3 = 1
    let seq : Bool := w.rdB R.SAF_STAT 3
    let at8 (n : Fin 8) : BitVec 8 := BitVec.ofNat 8 (2 ^ n.val)
    let one (u : W) (chanB : Bool) (g : SafChan → SafChan) : W := if chanB then { u with saf.b := g u.saf.b } else { u with saf.a := g u.saf.a }
    let put (b : Bool) (v : BitVec 16) : BitVec 16 := if b then v ||| BitVec.ofNat 16 (2 ^ i.val) else v &&& ~~~BitVec.ofNat 16 (2 ^ i.val)
    let filt (c : SafChan) : SafChan := if pinB then { c with filtB := put level c.filtB } else { c with filtA := put level c.filtA }
    let source := if pinB then tInTpb t i else tInTpa t i
    let window : Prop := 1 ≤ source ∧ s.saf.tpWin.getLsbD (source - 1) = true
    let away : Prop := level = !(tInType t i == 2 && pinB)
    let l : W := { (w.safApply).inc R.SAF_PERIOD_CNT with saf.a.sm := smA, saf.a.edm := edmA, saf.b.sm := smB, saf.b.edm := edmB }
    let dA := W.safLatch t l.saf.a false ^^^ W.safLatch t l.saf.b false
    let dB := W.safLatch t l.saf.a true ^^^ W.safLatch t l.saf.b true
    let dIn := BitVec.ofNat 16 (bitsOf 16 fun i => (l.saf.a.ins.getD i {}).st != (l.saf.b.ins.getD i {}).st)
    let dFn := BitVec.ofNat 16 (bitsOf 16 fun f => (l.saf.a.fns.getD f {}).st != (l.saf.b.fns.getD f {}).st)
    let dLine := l.saf.a.lines ^^^ l.saf.b.lines
    let twice : Prop := dA &&& s.saf.dA ≠ 0 ∨ dB &&& s.saf.dB ≠ 0 ∨ dIn &&& s.saf.dIn ≠ 0 ∨ dFn &&& s.saf.dFn ≠ 0 ∨ dLine &&& s.saf.dLine ≠ 0
    let env : SafEnv := ⟨t, s.saf.req, seq, BitVec.ofNat 8 (bitsOf 8 fun n => !l.soH.getLsbD n && !l.soL.getLsbD n)⟩
    let reaches (c : SafChan) : Bool := (c.ins[i]).da != (c.ins[i]).db && !((c.ins[i]).st == siFAULT && (c.ins[i]).discf) &&
      tInType t i != 0 && decide (4 * tInDisc t i ≤ (c.ins[i]).dcount)
    let discr (c : SafChan) : SafChan := if reaches c then
      { c with ins := c.ins.set i { c.ins[i] with st := siFAULT, discf := true, cycled := (c.ins[i]).st == siFAULT && (c.ins[i]).cycled } } else c
    let fed (pick : Nat → Nat) : BitVec 16 := BitVec.ofNat 16 (bitsOf 16 fun i => tInType t i != 0 && pick i == k + 1)
    let read (old m raw : BitVec 16) : BitVec 16 := (old &&& ~~~m) ||| (m &&& raw)
    let check (c : SafChan) (rawA rawB : BitVec 16) : SafChan :=
      { c with tfA := read c.tfA (fed (tInTpa t)) rawA, tfB := read c.tfB (fed (tInTpb t)) rawB }
    let ca := check s.saf.a aA aB
    let cb := check s.saf.b bA bB
    let src : BitVec 4 := BitVec.ofNat 4 (2 ^ k.val)
    let count := w.rdN R.SAF_PERIOD_CNT
    let slot : Prop := count % 4000 = 500 * n ∧ tOutFunc t n < 16 ∧ (tOutFlags t n).testBit 0 = true ∧
      s.saf.a.lines.getLsbD n = true ∧ s.saf.b.lines.getLsbD n = true ∧ s.saf.test = none
    let outFault (u : W) (n : Fin 8) (chanB : Bool) : W := ((one u chanB fun c => { c with outFlt := c.outFlt ||| at8 n }).safSync).raiseIf
      (!u.saf.a.outFlt.getLsbD n && !u.saf.b.outFlt.getLsbD n) E.SAF_OUT_FAULT
    let stop (c : SafChan) : SafChan := if (c.fns[f]).st = sfSTOPPING then
      { c with fns := c.fns.set f { c.fns[f] with st := sfSAFE },
               want := c.want &&& ~~~BitVec.ofNat 8 (bitsOf 8 fun n => tOutFunc t n == f.val) } else c
    -- without PD3 nothing happens
    (¬ on → ∀ c ∈ [Instr.safetyInputFiltered chanB i pinB level, .sfsPeriod smA edmA smB edmB dev, .discrepancy i, .testPulseStart k,
      .testPulseCheck k aA aB bA bB, .outputTestStart n, .outputMonitorFault n chanB, .edmFault n chanB, .stopDelayExpiry f],
      Completes c s w) ∧
    -- inputs
    (on → Completes (.safetyInputFiltered chanB i pinB level) s
      (if tInType t i = 0 ∨ window ∧ away then w else one w chanB filt)) ∧
    -- a period: what each channel latches, the comparison, which is the first check, and each channel's evaluation
    (on → ∃ u, Completes (.sfsPeriod smA edmA smB edmB dev) s u ∧ u.rdN R.SAF_PERIOD_CNT = (count + 1) % 2 ^ 32 ∧
      u.saf.a.sm = smA ∧ u.saf.a.edm = edmA ∧ u.saf.b.sm = smB ∧ u.saf.b.edm = edmB ∧
      u.saf.dA = dA ∧ u.saf.dB = dB ∧ u.saf.dIn = dIn ∧ u.saf.dFn = dFn ∧ u.saf.dLine = dLine ∧
      (seq = true ∨ ¬ twice ∧ dev = false →
        u.saf.a = (safEval env l.saf.a).1 ∧ u.saf.b = (safEval env l.saf.b).1 ∧ u.saf.test = l.saf.test ∧ u.saf.fault = s.saf.fault) ∧
      (seq = false → twice ∨ dev = true → w.pstate = 0 → u.saf.fault = true ∧ u.saf.test = none ∧ u.saf.a.lines = 0 ∧ u.saf.b.lines = 0 ∧
        u.saf.a.want = 0 ∧ u.saf.b.want = 0 ∧ (∀ f : Fin 16, tFnEn t f = true → (u.saf.a.fns[f]).st = sfFAULT ∧ (u.saf.a.fns[f]).fault = 5))) ∧
    (on → Completes (.discrepancy i) s
      ((({ w with saf.a := discr s.saf.a, saf.b := discr s.saf.b } : W).safSync).raiseIf (reaches s.saf.a) E.SAF_DISCREPANCY)) ∧
    -- test pulses of the sources
    (on → Completes (.testPulseStart k) s { w with saf.tpOff := s.saf.tpOff ||| src, saf.tpWin := s.saf.tpWin ||| src }) ∧
    Completes (.testPulseEnd k) s { w with saf.tpOff := s.saf.tpOff &&& ~~~src, saf.tpWin := s.saf.tpWin &&& ~~~src } ∧
    (on → s.saf.tpOff.getLsbD k = false → Completes (.testPulseCheck k aA aB bA bB) s w) ∧
    (on → s.saf.tpOff.getLsbD k = true → Completes (.testPulseCheck k aA aB bA bB) s
      ((({ w with saf.a := ca, saf.b := cb } : W).safSync).raiseIf
        ((ca.tfA ||| cb.tfA) &&& ~~~(s.saf.a.tfA ||| s.saf.b.tfA) != 0#16 || (ca.tfB ||| cb.tfB) &&& ~~~(s.saf.a.tfB ||| s.saf.b.tfB) != 0#16)
        E.SAF_TEST_FAULT)) ∧
    -- test pulses of the outputs, their faults, and the end of a stop
    (on → Completes (.outputTestStart n) s
      (if slot then ({ w with saf.test := some (n.val, (s.saf.retest[n]).getD ((count / 4000) % 2 == 1)),
                              saf.retest := s.saf.retest.set n none } : W).safSync else w)) ∧
    (s.saf.test = none → Completes (.outputTestEnd lowA lowB) s w) ∧
    (s.saf.test = some (o.val, low) → Completes (.outputTestEnd lowA lowB) s
      (let u := ({ w with saf.test := none, saf.a.lines := s.saf.a.lines ||| s.saf.a.due,
                          saf.b.lines := s.saf.b.lines ||| s.saf.b.due } : W).inc R.SAF_TEST_CNT
       let v := if lowA then u.safSync else outFault u.safSync o false
       if lowB then v else outFault v o true)) ∧
    (on → Completes (.outputMonitorFault n chanB) s
      (if tOutFunc t n < 16 ∧ s.saf.test.map (·.1) ≠ some n.val then outFault w n chanB else w)) ∧
    (on → Completes (.edmFault n chanB) s
      (if tOutFunc t n < 16 ∧ (tOutFlags t n).testBit 1 = true then
        ((one w chanB fun c => { c with edmFlt := c.edmFlt ||| at8 n }).safSync).raiseIf
          (!s.saf.a.edmFlt.getLsbD n && !s.saf.b.edmFlt.getLsbD n) E.SAF_EDM_FAULT
       else w)) ∧
    (on → Completes (.stopDelayExpiry f) s
      (if (s.saf.a.fns[f]).st = sfSTOPPING then
        (({ w with saf.a := stop s.saf.a, saf.b := stop s.saf.b } : W).safSync).raise E.SAF_FUNC_OFF else w))

/-- R661, R664 to R680: the rounds in which units win and lose a claim, their timers, and the RED commands. -/
def Obligations.ClaimRoundsAndTimers : Prop :=
  ∀ (s : State) (okIn endLow : Bool) (i : Fin 16) (line : BitVec 16),
    let w := begin_ s
    let seen : W := if okIn then w.wrB R.RED_STAT 4 true else w
    let joins (u : W) : W := if u.redMode = 1 ∧ u.tw.inRound = false then
      { (u.wrN R.RED_OFFER u.offer).inc R.RED_ROUND_CNT with tw.inRound := true, tw.lost := none, tw.fast := false } else u
    let o := w.rdF R.RED_OFFER 0 16
    let judged := W.claimBits o line.toNat s.tw.lost 16 false false
    let faulted := endLow || judged.2
    let win := if faulted then 0 else line.toNat
    let won : Prop := win ≠ 0 ∧ o = win ∧ judged.1 = false
    let down := (w.wrB R.RED_STAT 4 false).raise E.RED_PARTNER_DOWN
    let takes : Prop := down.redMode = 1 ∧ down.healthy = true ∧ down.hasClaim = false ∧ down.tw.latched = false ∧ down.rdB R.RED_CFG 8 = true
    let obeys (c : Instr) (f : W → W) : Prop := Open s R.RED_CMD → Takes c s R.RED_CMD fun u => (f u).roleSync.health
    -- a round starts
    Completes (.claimRoundTimer okIn) s (joins seen) ∧ Completes .clmFall s (joins w) ∧
    (takes → down.tw.inRound = true → Completes .twinOkInFall s { down with tw.fast := true }) ∧
    (takes → down.tw.inRound = false → Completes .twinOkInFall s (joins down)) ∧
    (¬ takes → Completes .twinOkInFall s down) ∧
    -- a bit is lost
    (s.tw.inRound = true ∧ s.tw.lost = none ∧ o ≠ 0 ∧ o.testBit i = false →
      Completes (.claimBitLost i) s
        (if w.hasClaim then ({ w with tw.lost := some i.val } : W).dropClaim false else { w with tw.lost := some i.val })) ∧
    (s.tw.inRound = false ∨ s.tw.lost.isSome = true ∨ o = 0 ∨ o.testBit i = true → Completes (.claimBitLost i) s w) ∧
    -- a round ends
    (s.tw.inRound = false ∨ w.redMode ≠ 1 → Completes (.claimRoundEnd line endLow) s w) ∧
    (s.tw.inRound = true → w.redMode = 1 → s.tw.fast = false → ∃ u, Completes (.claimRoundEnd line endLow) s u ∧
      u.tw.inRound = false ∧ u.rdF R.RED_LAST_WIN 0 16 = win ∧
      (win ≠ 0 → u.rdF R.RED_EPOCH 0 12 = win % 4096 ∧ u.tw.eRef = some (win % 4096)) ∧
      (won → u.tw.prevWin = 1 ∧
        (s.tw.prevWin = 2 → u.rdF R.RED_RECLAIMS 0 2 = min 3 (w.rdF R.RED_RECLAIMS 0 2 + 1)) ∧
        (w.hasClaim = false → w.healthy = true → u.rdF R.RED_CLAIM 0 16 = win) ∧
        (w.hasClaim = true → u.rdF R.RED_CLAIM 0 16 = w.rdF R.RED_CLAIM 0 16)) ∧
      (¬ won → u.rdF R.RED_CLAIM 0 16 = 0 ∧ (win ≠ 0 → u.tw.prevWin = 2) ∧ (win = 0 → u.tw.prevWin = 0)) ∧
      (faulted = true → u.tw.goodRun = 0) ∧ (faulted = false → u.tw.faultRun = 0)) ∧
    -- the timers
    Completes .reclaimHoldoffExpiry s (if w.healthy then { w with tw.heldOff := true } else w) ∧
    Completes .reclaimWindowExpiry s (w.wrN R.RED_RECLAIMS (w.rdF R.RED_RECLAIMS 0 2 - 1)) ∧
    Completes (.claimListenExpiry okIn) s
      (if s.tw.listen = 1 then { seen with tw.listen := if seen.rdB R.RED_STAT 4 && !seen.paired then 2 else 3 } else w) ∧
    Completes .pairingTimeout s
      (if s.tw.listen = 2 then ({ w with tw.listen := 3 } : W).wrB R.RED_STAT 9 true else w) ∧
    -- the commands of the host
    obeys .relinquish (fun u => { u with tw.relq := true }) ∧ obeys .resume (fun u => { u with tw.relq := false }) ∧
    obeys .unlatch (fun u => ({ u with tw.latched := false } : W).wr R.RED_RECLAIMS 0) ∧
    obeys .resync (fun u => if u.hasClaim then { u with tw.resync := 0xF } else ({ u with tw.cur := 0 } : W).staleSync)

/-- R40, R682, R685, R689 to R693, R695: the link ports, their messages, the copies of a standby, and time. -/
def Obligations.LinkPortsMessagesAndTime : Prop :=
  ∀ (s : State) (p rpos rport inv : Fin 4) (n retries errs : Fin 4) (third laneLost good claim : Bool) (peer : Peer) (k : BitVec 4)
    (v : BitVec 8) (x : Ext) (rx : LinkRx) (free : Fin 8) (e : LnkMsg) (rest : List LnkMsg) (t1 t2 t3 t4 : Int) (c : CwCopy),
    let w := begin_ s
    let sent (u : W) : W := if retries = 0 then u else u.wrN (R.LNK_Pp_RETRY p) (satAdd 32 (u.rdN (R.LNK_Pp_RETRY p)) retries)
    let heard (p : Fin 4) (u : W) : W :=
      if errs = 0 then u else u.wrF (R.LNK_Pp_ERRCNT p) 16 16 (satAdd 16 (u.rdF (R.LNK_Pp_ERRCNT p) 16 16) errs)
    let st := R.LNK_Pp_STAT p
    let wrong := decide (w.expectedPeer p ≠ (rpos.val, rport.val))
    let trains : Prop := s.pwr.held = false ∧ w.linkReady p = true ∧ w.trained p = false
    let raw := 1 + 2 * b2n wrong + 4 * rpos.val + 16 * rport.val + 64 * inv.val
    let code := w.msgCode s.mem p k.toNat
    let met := heard p (sent w)
    let timed := (if p = 3 then met else { met with tw.srcClaim := claim }).timeSync
    let off := rounded 693 ((t2 - t1) - (t4 - t3)) 2
    let delay := rounded 693 ((t2 - t1) + (t4 - t3)) 2
    let counts := rounded 694 off 10
    let standby : Prop := w.paired = true ∧ w.hasClaim = false ∧ s.tw.nocopy.getLsbD n = false
    let ok : Prop := good = true ∧ c.crc = crc32c (W.cwBody n c)
    let missed : Prop := ∃ q, s.tw.cwCycle[n] = some q ∧ c.cycle % 2 ^ 32 ≠ (q + 1) % 2 ^ 32
    let old : Bool × List (Nat × List Byte) := (s.tw.cw[n]).elim (false, []) fun o => (o.whole, o.lines)
    let joins : Prop := ¬ missed ∧ s.tw.cwGap.getLsbD n = false ∧ (s.tw.cur.getLsbD n = true ∨ old.1 = true)
    -- a port trains, and goes down
    (¬ trains → Completes (.linkTrained p rpos rport inv third peer) s w) ∧
    (trains → ∃ u, Completes (.linkTrained p rpos rport inv third peer) s u ∧ u.rdN st = raw ∧
      (w.rdB (R.H_EVT_EN 0x40) E.LNK_LINK_CHANGE.2 = true → u.rdB (R.H_EVT_PEND 0x40) E.LNK_LINK_CHANGE.2 = true) ∧
      (p ≠ 3 ∨ wrong = true → u.rdB R.RED_STAT 3 = w.rdB R.RED_STAT 3) ∧
      (p = 3 → wrong = false → peer.rank % 16 = w.redRank → u.tw.latched = true ∧ u.rdB R.RED_STAT 7 = true) ∧
      (p = 3 → wrong = false → peer.rank % 16 ≠ w.redRank → peer.rev = sysRev → peer.mode = w.redMode →
        u.rdB R.RED_STAT 3 = true ∧ u.rdF R.RED_PARTNER 0 6 = peer.rank % 16 + 16 * (peer.mode % 4))) ∧
    (s.pwr.held = true ∨ w.trained p = false → Completes (.linkError p laneLost third) s w) ∧
    (s.pwr.held = false → w.trained p = true → ∃ u, Completes (.linkError p laneLost third) s u ∧
      u.rd st = 0 ∧ u.rd (R.LNK_Pp_OFFSET p) = 0 ∧ u.rd (R.LNK_Pp_DELAY p) = 0 ∧ (p = 3 → u.paired = false) ∧
      u.rdN (R.LNK_Pp_RETRY p) = (if laneLost then w.rdN (R.LNK_Pp_RETRY p) else satAdd 32 (w.rdN (R.LNK_Pp_RETRY p)) 3) ∧
      u.rdF (R.LNK_Pp_ERRCNT p) 16 16 =
        (if laneLost then w.rdF (R.LNK_Pp_ERRCNT p) 16 16 else satAdd 16 (w.rdF (R.LNK_Pp_ERRCNT p) 16 16) 4)) ∧
    -- messages
    (Open s (R.LNK_Pp_MSG_DB p) → x.ramCe = [] → x.ramUe = [] →
      (w.domUp 4 = false → code = eDomainOff) ∧
      (code ≠ 0 → Refuses (.linkMsgDoorbell p k x) s (R.LNK_Pp_MSG_DB p) code) ∧
      (code = 0 → Takes (.linkMsgDoorbell p k x) s (R.LNK_Pp_MSG_DB p) fun u =>
        ({ u with tw.msgs := s.tw.msgs.set p (s.tw.msgs[p] ++ w.msgEntries s.mem p k.toNat) } : W).wrF (R.LNK_Pp_MSG_PI p) 0 3
          (w.rdF (R.LNK_Pp_MSG_PI p) 0 3 + k.toNat))) ∧
    (s.tw.msgs[p] = [] ∨ w.trained p = false → Completes (.msgRx p none retries) s w) ∧
    (s.tw.msgs[p] = e :: rest → w.trained p = true → w.domUp 4 = true → Completes (.msgRx p none retries) s
      { sent w with tw.msgs := s.tw.msgs.set p rest, tw.msgOut := some (p.val, e.tag, w.bytes s.mem e.src e.len) }) ∧
    (s.tw.msgs[p] = e :: rest → w.trained p = true → w.domUp 4 = false → Completes (.msgRx p none retries) s
      (({ sent w with tw.msgs := s.tw.msgs.set p rest, tw.msgOut := some (p.val, e.tag, List.replicate e.len 0) } : W).err 0x40 eDomainOff)) ∧
    (w.trained p = false ∨ w.dom 4 ≠ 1 → Completes (.msgRx p (some rx) errs) s w) ∧
    (w.trained p = true → w.dom 4 = 1 → (∀ i : Fin 8, w.rdB (R.LNK_Pp_RX_STAT p) i = true) →
      Completes (.msgRx p (some rx) errs) s (heard p w)) ∧
    (w.trained p = true → w.dom 4 = 1 → w.rdB (R.LNK_Pp_RX_STAT p) free = false →
      (∀ i : Fin 8, i < free → w.rdB (R.LNK_Pp_RX_STAT p) i = true) →
      Completes (.msgRx p (some rx) errs) s
        ((((heard p w).putBytes (w.rdN (R.LNK_Pp_RX_BASE p) + 4160 * free)
            (toLe 4 rx.data.length ++ toLe 2 (rx.tag % 2 ^ 16) ++ toLe 2 (rx.pos % 4) ++ toLe 8 s.tsc.toNat ++ List.replicate 48 0 ++ rx.data)).wrB
          (R.LNK_Pp_RX_STAT p) free true).raise E.LNK_MSG_RX)) ∧
    (Open s (R.LNK_Pp_RX_STAT p) → Takes (.linkRxSlotClear p v) s (R.LNK_Pp_RX_STAT p) fun u =>
      u.wr (R.LNK_Pp_RX_STAT p) (w.rd (R.LNK_Pp_RX_STAT p) &&& ~~~(v.setWidth 32 &&& 0xFF#32))) ∧
    -- time
    (w.trained p = false → Completes (.timeSyncExchange p t1 t2 t3 t4 claim retries errs) s w) ∧
    (w.trained p = true → timed.rdF R.LNK_TIME_SRC 0 3 ≠ p + 1 → Completes (.timeSyncExchange p t1 t2 t3 t4 claim retries errs) s timed) ∧
    (w.trained p = true → timed.rdF R.LNK_TIME_SRC 0 3 = p + 1 → ∃ u, Completes (.timeSyncExchange p t1 t2 t3 t4 claim retries errs) s u ∧
      u.rdN (R.LNK_Pp_OFFSET p) = uns 32 off ∧ u.rdN (R.LNK_Pp_DELAY p) = uns 32 delay ∧
      u.rdN (R.LNK_Pp_RETRY p) = satAdd 32 (w.rdN (R.LNK_Pp_RETRY p)) retries ∧
      (1000 ≤ off → u.tsc = s.tsc + BitVec.ofInt 64 counts ∧ u.tw.halfRate = false) ∧ (off < 1000 → u.tsc = s.tsc) ∧
      (off ≤ -1000 → u.tw.halfRate = true ∧ u.tw.ahead = off.natAbs) ∧ (1000 ≤ off.natAbs → u.rdB st 8 = false) ∧
      (off.natAbs < 1000 → u.tw.slew = counts ∧ u.tw.halfRate = false)) ∧
    -- copies
    (¬ standby → Completes (.crosswindCopyReceive n c good errs) s w) ∧
    (standby → ∃ u, Completes (.crosswindCopyReceive n c good errs) s u ∧ u.tw.cwCycle = s.tw.cwCycle.set n (some c.cycle) ∧
      u.rdF (R.LNK_Pp_ERRCNT 3) 16 16 = satAdd 16 (w.rdF (R.LNK_Pp_ERRCNT 3) 16 16) errs ∧
      (¬ ok ∨ missed → u.tw.cur.getLsbD n = false) ∧
      (¬ ok → u.tw.cwGap.getLsbD n = true ∧ u.tw.cw = s.tw.cw ∧ u.tw.cwHalf = s.tw.cwHalf) ∧
      (ok → u.tw.cwHalf = s.tw.cwHalf ^^^ BitVec.ofNat 4 (2 ^ n.val)) ∧
      (ok → c.whole = true → u.tw.cwGap.getLsbD n = false ∧ u.tw.cw = s.tw.cw.set n (some c)) ∧
      (ok → c.whole = false → missed → u.tw.cwGap.getLsbD n = true) ∧
      (ok → c.whole = false → joins → u.tw.cw = s.tw.cw.set n (some { c with whole := old.1, lines := old.2 ++ c.lines })) ∧
      (ok → c.whole = false → ¬ joins → u.tw.cw = s.tw.cw.set n (some { c with whole := old.1, lines := old.2 })))

/-- R702, R711, R715 to R717, R722, R725, R726, R729, R739: the life of a security job, its bank write, the generator. -/
def Obligations.LifeOfASecurityJob : Prop :=
  ∀ (s : State) (k : BitVec 5) (x : Ext) (j : SecJob) (b : BankJob) (ok : Bool) (kek nonce owner : List Byte),
    let w := begin_ s
    let live : Prop := s.pwr.held = false
    let doing : Option SecJob := s.key.jobs.find? fun y => y.state == 2
    let waiting : Option SecJob := s.key.jobs.find? fun y => y.state == 1
    let code := if 16 < k.toNat then eLen else if 16 < s.key.jobs.length + k.toNat then eFull else 0
    let pi := w.rdF R.KEY_RING_PI 0 4
    let copied (u : W) : W := (List.range k.toNat).foldl (fun (u : W) (i : Nat) =>
      let a := w.rdN R.KEY_RING_BASE + 64 * ((pi + i) % 16)
      let v : W := { u with key.jobs := u.key.jobs ++ [u.ringJob s.mem a] }
      if w.domUp 4 then v.put (a + 34) 1 (v.get s.mem (a + 34) 1 / 2 * 2) else v) u
    let status := if j.squall = true ∧ j.copy ≠ eDomainOff then eSquall else w.secCode j
    let without (u : W) : W := { u with key.jobs := u.key.jobs.filter fun y => y.place != j.place }
    let handed : W := if j.host then
        without (if w.domUp 4 then (w.putBytes j.out j.output).putBytes (j.entry + 32)
            (toLe 4 (j.status + 2 ^ 16) ++ toLe 4 j.output.length ++ toLe 8 s.tsc.toNat)
          else w.err 0x3D eDomainOff)
      else if j.orphan then without w else w.setJob { j with state := 3, tscEnd := s.tsc.toNat }
    let renewed := if w.needsAuth j && handed.rngReady then handed.newChal else handed
    let mine (l : List (Nat × KeySlot)) : List (Nat × KeySlot) :=
      l.filter (fun e => 65 ≤ e.1) ++ s.key.slots.filter fun e => e.1 < 65
    -- the ring doorbell
    (Open s R.KEY_RING_DB → x.ramCe = [] → x.ramUe = [] →
      (code ≠ 0 → Refuses (.keyRingDoorbell k x) s R.KEY_RING_DB code) ∧
      (code = 0 → Takes (.keyRingDoorbell k x) s R.KEY_RING_DB fun u => ((copied u).wrN R.KEY_RING_PI ((pi + k.toNat) % 16)).keySync)) ∧
    -- the start of the oldest job, and its checks
    (live → w.dom 8 = 1 → doing = none → waiting = some j →
      Completes .keyJobStart s (w.setJob { j with state := 2, status := status, ran := status != 0 }).keySync) ∧
    (s.pwr.held = true ∨ w.dom 8 ≠ 1 ∨ doing.isSome = true ∨ waiting = none → Completes .keyJobStart s w) ∧
    -- its completion
    (live → doing = some j → j.ran = true → j.writing = false → Completes .keyJobComplete s
      (((((renewed.inc R.KEY_JOB_CNT).wrN R.KEY_LAST_STATUS (j.status + 2 ^ 16 * (j.op % 2 ^ 16))).err 0x3D j.status).raise
        E.KEY_JOB_DONE).raiseIf (j.status != 0) E.KEY_JOB_ERR).keySync) ∧
    (s.pwr.held = true ∨ doing = none ∨ (doing = some j ∧ (j.ran = false ∨ j.writing = true)) → Completes .keyJobComplete s w) ∧
    -- a bank write reaches its commit word, or fails
    (s.pwr.held = true ∨ s.key.bank = none → Completes (.keyBankWriteComplete ok) s w) ∧
    (live → s.key.bank = some b → doing = some j → Completes (.keyBankWriteComplete false) s
      (({ w with key.bank := none } : W).setJob { j with writing := false, status := eBankFail, output := [] }).keySync) ∧
    (live → s.key.bank = some b → b.kek = none → b.owner = none → doing = some j → Completes (.keyBankWriteComplete true) s
      ((((({ (({ w with key.bank := none } : W).mramPut (w.bankBase b.bank + 1188) (toLe 4 0xA55AC33C)) with
          key.slots := mine b.slots } : W).wrN R.KEY_BANK_SEQ b.seq).wrB R.KEY_STAT 10 (b.bank == 1)).setJob
            { j with writing := false }).keySync)) ∧
    (live → s.key.bank = some b → b.kek = some (kek, nonce) → ∃ u, Completes (.keyBankWriteComplete true) s u ∧
      u.key.bank = none ∧ u.tmp.kek = kek ∧ u.tmp.nonce = nonce ∧ u.rdN R.KEY_BANK_SEQ = b.seq % 2 ^ 32 ∧ u.rdB R.TMP_STAT 0 = false ∧
      (∀ n, 65 ≤ n → u.slotKey n = (b.slots.find? fun e => e.1 == n).map (·.2)) ∧
      (b.owner = some owner → u.key.ownerHash = owner ∧ u.key.lc = 1)) ∧
    -- the generator
    (w.dom 8 ≠ 1 ∨ s.pwr.held = true → Completes (.rngReseed ok) s w) ∧
    (live → w.dom 8 = 1 → Completes (.rngReseed true) s
      (if s.key.requests < 2 ^ 20 then w else { w with key.requests := 0 })) ∧
    (live → w.dom 8 = 1 → Completes (.rngReseed false) s
      (if w.rdB R.KEY_STAT 8 = true then w else (w.wrB R.KEY_STAT 8 true).raise E.KEY_RNG_FAIL))

/-- R702, R706, R711, R718 to R720, R722, R724 to R726, R728, R729, R733, R739: what the security operations do with the keys and
put out. Random bits are free values (log entry 4); how an x-coordinate of 48 bytes becomes a key is one too. -/
def Obligations.SecurityOperations : Prop :=
  ∀ (s : State) (j : SecJob),
    let w := begin_ s
    let key := w.keyOf j.slot
    let other := w.keyOf j.slot2
    let t := aType j.attr
    let kt := aType key.attr
    let rnd (n : Nat) : List Byte := toBe n (Config.freeNat s.freeCtr % 2 ^ (8 * n))
    let drawn : W := { w with freeCtr := s.freeCtr + 1, key.requests := s.key.requests + 1 }
    let secret (c : Crypto.Curve) : List Byte := toBe c.size (beNat (rnd (c.size + 8)) % (c.n - 1) + 1)
    let slot (n o : Nat) (mat : List Byte) (u : W) : W := u.setKeySlot n (some ⟨withOrigin j.attr o, mat⟩)
    let kek (sel : Nat) : List Byte := if sel = 0 then s.tmp.kek else s.key.pair.getD []
    let doing : Option SecJob := s.key.jobs.find? fun y => y.state == 2
    let ends (c : Instr) (op : Nat) (u : W) (code : Nat) (out : List Byte) : Prop := j.op = op →
      Completes c s (u.setJob { j with
        ran := true, status := code, output := if code = 0 then out else [], writing := u.key.bank.isSome }).keySync
    let aad := gcmAad j.input
    let body := j.input.drop (14 + aad)
    let text := body.take (body.length - 16)
    let sealed := Crypto.gcm false key.mat (j.input.take 12) ((j.input.drop 14).take aad) body
    let opened := Crypto.gcm true key.mat (j.input.take 12) ((j.input.drop 14).take aad) text
    let macLen := j.input.length - 16
    let c := curveOf kt
    let z := Crypto.ecdhX c (beNat key.mat) (j.input.take (2 * c.size))
    let signer := if j.slot = 65 then 64 else 65
    let stmt := toLe 4 0x57A7 ++ toLe 1 1 ++ toLe 1 j.slot ++ toLe 1 signer ++ toLe 1 s.key.lc ++
      toLe 1 (w.rdF R.KEY_STAT 4 3) ++ toLe 3 0 ++ toLe 4 key.attr.toNat ++ toLe 8 s.tsc.toNat ++ toLe 4 w.rtcSec.toNat ++
      toLe 4 j.input.length ++ w.devid ++ keyInfo key ++ j.input ++ List.replicate (64 - j.input.length) 0
    let sc := curveOf (aType (w.keyOf signer).attr)
    let target := blobN j.input 0 1
    let advanced : W := { w with key.lc := target, key.otpDead := s.key.otpDead || target == 4 }
    let moved := (advanced.wrF R.KEY_STAT 0 3 target).raise E.KEY_LC_CHANGE
    -- an operation runs only as the executing job, once
    (∀ i ∈ [(Instr.secGenSym, 0x01), (.secGenEc, 0x02), (.secImportPub, 0x03), (.secWrap, 0x04), (.secUnwrap, 0x05), (.secPersist, 0x06),
        (.secErase, 0x07), (.secDerive, 0x08), (.secGcmEnc, 0x10), (.secGcmDec, 0x11), (.secCmacGen, 0x12), (.secCmacVer, 0x13),
        (.secKwWrap, 0x14), (.secKwUnwrap, 0x15), (.secSha256, 0x18), (.secSha384, 0x19), (.secSign, 0x20), (.secVerify, 0x21),
        (.secEcdh, 0x22), (.secStatement, 0x30), (.secRandom, 0x38), (.secProvision, 0x40), (.secLcAdvance, 0x41), (.secReprovision, 0x42)],
      s.pwr.held = true ∨ doing = none ∨ (doing = some j ∧ (j.ran = true ∨ j.op ≠ i.2)) → Completes i.1 s w) ∧
    (s.pwr.held = false → doing = some j → j.ran = false →
      ends .secGenSym 0x01 (slot j.slot 0 (rnd (keyLen t)) drawn) 0 [] ∧
      ends .secGenEc 0x02 (slot j.slot 0 (secret (curveOf t)) drawn) 0 (pubKey ⟨withOrigin j.attr 0, secret (curveOf t)⟩) ∧
      ends .secImportPub 0x03 (slot j.slot 1 j.input w) 0 [] ∧
      ends .secWrap 0x04 drawn 0 (blobOf (kek target) (rnd 12) target key) ∧
      (∀ x, unblob (kek (blobN j.input 5 1)) j.input = some x → ends .secUnwrap 0x05 (w.setKeySlot j.slot (some x)) 0 []) ∧
      (unblob (kek (blobN j.input 5 1)) j.input = none → ends .secUnwrap 0x05 w eAuthFail []) ∧
      (w.ew = true → ends .secPersist 0x06 w eState []) ∧
      (w.ew = false → ends .secPersist 0x06 (w.persistentChange s.mem j.slot2 (some key)) 0 []) ∧
      (j.slot < 67 → ends .secErase 0x07 (w.setKeySlot j.slot none) 0 []) ∧
      (67 ≤ j.slot → w.ew = true → ends .secErase 0x07 w eState []) ∧
      (67 ≤ j.slot → w.ew = false → ends .secErase 0x07 (w.persistentChange s.mem j.slot none) 0 []) ∧
      ends .secDerive 0x08 (slot j.slot2 2 (Crypto.kdf key.mat j.input [] (keyLen t)) w) 0 [] ∧
      ends .secGcmEnc 0x10 w 0 (sealed.1 ++ sealed.2) ∧
      (opened.2 = body.drop (body.length - 16) → ends .secGcmDec 0x11 w 0 opened.1) ∧
      (opened.2 ≠ body.drop (body.length - 16) → ends .secGcmDec 0x11 w eAuthFail []) ∧
      ends .secCmacGen 0x12 w 0 (Crypto.cmac key.mat j.input) ∧
      ends .secCmacVer 0x13 w (if Crypto.cmac key.mat (j.input.take macLen) = j.input.drop macLen then 0 else eAuthFail) [] ∧
      ends .secKwWrap 0x14 w 0 (Crypto.kwWrap key.mat other.mat) ∧
      (∀ x, Crypto.kwUnwrap key.mat j.input = some x → ends .secKwUnwrap 0x15 (slot j.slot2 1 x w) 0 []) ∧
      (Crypto.kwUnwrap key.mat j.input = none → ends .secKwUnwrap 0x15 w eAuthFail []) ∧
      ends .secSha256 0x18 w 0 (Crypto.sha256 j.input) ∧ ends .secSha384 0x19 w 0 (Crypto.sha384 j.input) ∧
      ends .secSign 0x20 drawn 0 (Crypto.ecdsaSign c (beNat key.mat) (beNat (secret c)) j.input) ∧
      ends .secVerify 0x21 w
        (if Crypto.ecdsaVerify c (pubKey key) (j.input.take c.size) (j.input.drop c.size) then 0 else eAuthFail) [] ∧
      ends .secEcdh 0x22 (slot j.slot2 2
        (Crypto.kdf (if z.length = 32 then z else toBe 32 (Config.ecdhKey (beNat z))) (j.input.drop (2 * c.size)) [] 32) w) 0 [] ∧
      ends .secStatement 0x30 drawn 0 (stmt ++ Crypto.ecdsaSign sc (beNat (w.keyOf signer).mat) (beNat (secret sc))
        (if signer = 64 then Crypto.sha256 stmt else Crypto.sha384 stmt)) ∧
      ends .secRandom 0x38 drawn 0 (rnd j.cap) ∧
      (let r := W.newDevice (w.bankNext s.mem).2 (w.bankNext s.mem).1 (some (Crypto.sha256 j.input)) w
       ends .secProvision 0x40 r.1 0 r.2.2) ∧
      (let r := W.newDevice (w.bankTop s.mem) (w.bankNext s.mem).1 none w
       ends .secReprovision 0x42 r.1 0 r.2.2) ∧
      (target = 2 → ends .secLcAdvance 0x41 moved 0 []) ∧
      (target ≠ 2 → ends .secLcAdvance 0x41 ((W.squall 7 moved).setJob { j with state := 2 }) 0 []))

/-- R679, R731 to R738, R740, R744, R745, R748, R749, R751, R752: tamper inputs and Squall, the supply switch and the backup domain. -/
def Obligations.TamperAndBackupSupply : Prop :=
  ∀ (s : State) (i : Fin 4) (active : Bool) (sub : Nat) (sub15 : BitVec 15) (mv : BitVec 16) (g : Fin 32) (v : Word),
    let w := begin_ s
    let timed := w.wrN R.RTC_SUBSEC (sub % 2 ^ 15)
    let meets : Prop := s.rtc.vselLow = false ∧ w.rdB R.TMP_CFG (4 * i) = true ∧ w.rdB R.TMP_STAT (1 + i) ≠ active
    let set := timed.wrB R.TMP_STAT (1 + i) active
    let meshOn : Prop := s.rtc.vselLow = false ∧ w.rdB R.TMP_CFG 16 = true
    let count := satInc 3 s.tmp.mesh
    let meshed : W := { timed with tmp.mesh := count }
    let trips : Prop := w.rdF R.TMP_CFG 17 3 ≤ count ∧ w.rdB R.TMP_STAT 5 = false
    let matched := ({ w with tmp.mesh := 0 } : W).wrB R.TMP_STAT 5 false
    -- what Squall leaves
    let erased (u : W) : Prop := u.rdB R.TMP_STAT 0 = true ∧ u.tmp.kek = List.replicate 32 0 ∧ u.tmp.nonce = List.replicate 32 0 ∧
      u.key.slots = [] ∧ u.key.pair = none ∧ u.key.bank = none ∧
      (∀ j ∈ u.key.jobs, j.squall = true ∨ j.state = 3 ∧ j.output = [])
    let src := w.rdB R.BKP_STAT 0
    let onVbat := (w.wrB R.BKP_STAT 0 true).wrN R.RTC_SUBSEC sub15.toNat
    let lost (u : W) : W := (((u.wr R.RED_EPOCH 0).wrB R.RED_STAT 8 true).wrB R.BKP_FLAGS 1 true).raise E.BKP_BKP_CRC
    -- inputs and mesh
    (¬ meets → Completes (.tamperInput i active sub) s w) ∧
    (meets → active = false → Completes (.tamperInput i active sub) s
      (set.raiseIf (w.tamperActive && !set.tamperActive) E.TMP_TAMPER_CLEAR)) ∧
    (meets → active = true → ∃ u, Completes (.tamperInput i active sub) s u ∧ erased u ∧ u.rdB R.TMP_STAT (1 + i) = true) ∧
    (¬ meshOn → Completes (.meshMismatch sub) s w ∧ Completes .meshInactive s w) ∧
    (meshOn → ¬ trips → Completes (.meshMismatch sub) s meshed) ∧
    (meshOn → trips → ∃ u, Completes (.meshMismatch sub) s u ∧ erased u ∧ u.rdB R.TMP_STAT 5 = true) ∧
    (meshOn → Completes .meshInactive s (matched.raiseIf (w.tamperActive && !matched.tamperActive) E.TMP_TAMPER_CLEAR)) ∧
    -- the commands of the TMP page
    (Open s R.TMP_CMD → ∃ u, Completes .tamperCmd s u ∧ erased u) ∧
    (Open s R.TMP_LOG_CLR →
      (s.key.lc = 2 → Refuses .tamperLogClear s R.TMP_LOG_CLR ePerm) ∧
      (s.key.lc ≠ 2 → Takes .tamperLogClear s R.TMP_LOG_CLR fun u =>
        (({ u with tmp.log := Vector.replicate 16 (0, 0) } : W).wr R.TMP_LOG_IDX 0).wrB R.TMP_STAT 6 false)) ∧
    -- the supply switch
    (src = true → Completes (.supplySwitchToVbat sub15) s w) ∧
    (src = false → w.rdB R.BKP_FLAGS 2 = true → Completes (.supplySwitchToVbat sub15) s ((onVbat.incSat R.BKP_SWO_CNT).raise E.BKP_SWO)) ∧
    (src = false → w.rdB R.BKP_FLAGS 2 = false → Completes (.supplySwitchToVbat sub15) s
      (((((onVbat.wrB R.BKP_FLAGS 2 true).wr R.BKP_SWO_TIME w.rtcSec).wrN R.BKP_SWO_SUB sub15.toNat).incSat R.BKP_SWO_CNT).raise
        E.BKP_SWO)) ∧
    (src = false → Completes .supplySwitchToVin s w) ∧
    (src = true → Completes .supplySwitchToVin s
      (({ w.wrB R.BKP_STAT 0 false with rtc.vselLow := false } : W).raise E.BKP_SWO_END)) ∧
    (src = true ∨ s.pwr.held = true → Completes (.vbatMeasure mv) s w) ∧
    (src = false → s.pwr.held = false → Completes (.vbatMeasure mv) s
      (let u := w.wrN R.BKP_VBAT mv.toNat
       if mv.toNat < w.rdF R.BKP_VBAT_LOW_TH 0 16 then (u.wrB R.BKP_FLAGS 3 true).raise E.BKP_VBAT_LOW else u)) ∧
    -- the registers of the backup domain
    (Open s R.BKP_FLAGS →
      Takes .bkpBorClear s R.BKP_FLAGS (fun u => if s.rtc.vselLow then u else u.wrB R.BKP_FLAGS 0 false) ∧
      Takes .swoClear s R.BKP_FLAGS fun u => ((u.wrB R.BKP_FLAGS 2 false).wr R.BKP_SWO_TIME 0).wr R.BKP_SWO_SUB 0) ∧
    (Open s (R.BKP_GPR g) → Takes (.bkpRegisterWrite g v) s (R.BKP_GPR g) fun u =>
      let u := u.wr (R.BKP_GPR g) v
      u.wrN R.BKP_BCRC (crc32c u.bkpCovered)) ∧
    (Open s R.BKP_CRC_CHK → Takes .bkpCrcCheck s R.BKP_CRC_CHK fun u =>
      if crc32c u.bkpCovered = u.rdN R.BKP_BCRC then u else lost u)

/-- R753 to R764: the calendar clock, its shadow and its setting, its oscillator, and the alarms. -/
def Obligations.CalendarClockAndAlarms : Prop :=
  ∀ (s : State) (k : Fin 10) (f : Fin 5) (sub : BitVec 15) (v : Word) (t : DWord) (n : Fin 2) (c : Nat),
    let w := begin_ s
    let run := w.rdB R.RTC_STAT 1
    let now := w.rd64 R.RTC_EPOCH_S
    let ticked := w.wr R.RTC_SUBSEC 0
    let next := if now = rtcLast then (ticked.wr64 R.RTC_EPOCH_S 0).wrB R.RTC_STAT 0 true else ticked.wr64 R.RTC_EPOCH_S (now + 1)
    let ran := if run then w.wrF R.RTC_SUBSEC 0 15 sub.toNat else w
    let shadow : RtcShadow := s.rtc.shadow.getD ⟨ran.rdN R.RTC_SUBSEC, now⟩
    let reads (i : Instr) (k : Nat) : Prop := HostReady w R.RTC_SUBSEC → s.evt.pairRd = [] → ∃ u, Completes i s u ∧
      u.rtc.shadow = (if k = 6 then none else some shadow) ∧
      u.hif.rdata = toLe 4 (BitVec.ofNat 32 (W.timeField shadow.sub shadow.epoch (0x048 + 4 * k))).toNat
    let buf := s.rtc.buf
    let fields : List RtcBuf := [{ buf with min := some (fld v 0 6) }, { buf with hour := some (fld v 0 5) },
      { buf with day := some (fld v 0 5) }, { buf with month := some (fld v 0 4) }, { buf with year := some (fld v 0 12) }]
    let en := v ||| 1#32
    let code := if run = false then eState else if t.toNat ≤ rtcLast then 0 else eRange
    -- the tick
    (run = false ∨ s.rtc.commit.isSome = true → Completes .rtcSecond s w) ∧
    (run = true → s.rtc.commit = none → Completes .rtcSecond s
      (((next.raiseIf (!next.tinv) E.RTC_SECOND).alarmTick 0).alarmTick 1)) ∧
    -- the shadow
    reads (.rtcShadowRead k sub) k ∧ reads (.rtcYearRead sub) 6 ∧
    Completes .shadowTimeout s
      (if s.rtc.shadow.isSome then ({ w with rtc.shadow := none } : W).wrB R.RTC_FLAGS 1 true else w) ∧
    -- the set buffer and its commits
    (Open s (R.RTC_MIN + 4 * f) → Takes (.rtcFieldWrite f v) s (R.RTC_MIN + 4 * f) fun u =>
      { u with rtc.buf := fields.getD f buf }) ∧
    (Open s R.RTC_SEC →
      (run = false → Refuses (.rtcSecCommit v) s R.RTC_SEC eState) ∧
      (run = true → w.bufTime (fld v 0 6) = none → Refuses (.rtcSecCommit v) s R.RTC_SEC eRange) ∧
      (run = true → w.bufTime (fld v 0 6) = some c → c ≤ rtcLast → Takes (.rtcSecCommit v) s R.RTC_SEC fun u =>
        { u with rtc.commit := some c, rtc.shadow := none })) ∧
    (Open s R.RTC_SET_S → 2 ≤ w.rdF (R.H_LOCK 0x05) 8 9 → s.evt.pairWr = [] → ∃ u, Completes (.rtcSetSCommit t) s u ∧
      (code = 0 → u.rtc.commit = some t.toNat ∧ u.rtc.shadow = none ∧ u.evt.pairWr = []) ∧
      (code ≠ 0 → u.rtc = s.rtc ∧ u.rdF (R.H_ERR 0x05) 0 16 = code)) ∧
    (s.rtc.commit = none → Completes .rtcCommitApply s w) ∧
    (s.rtc.commit = some c → ∃ u, Completes .rtcCommitApply s u ∧ u.rtc.commit = none ∧ u.rtc.buf = {} ∧ u.rtc.shadow = none ∧
      u.rd64 R.RTC_EPOCH_S = c % 2 ^ 64 ∧ u.rd R.RTC_SUBSEC = 0 ∧ u.tinv = false ∧ u.rd R.RTC_LAST_SET_OLD = w.rtcSec ∧
      u.rdN R.RTC_SET_CNT = (w.rdN R.RTC_SET_CNT + 1) % 2 ^ 32) ∧
    -- the oscillator
    Completes .xt32Stop s
      (if run then (((w.wrB R.RTC_STAT 1 false).wrB R.RTC_STAT 0 true).wrB R.RTC_FLAGS 0 true).raise E.RTC_OSF else w) ∧
    Completes .xt32Restart s
      (if run then w else { w.wrB R.RTC_STAT 1 true with rtc.calInForce := w.rd R.RTC_CAL }) ∧
    Completes .rtcCalWindow s { w with rtc.calInForce := w.rd R.RTC_CAL } ∧
    (Open s R.RTC_FLAGS →
      (run = false → Refuses .osfClear s R.RTC_FLAGS eState) ∧
      (run = true → Takes .osfClear s R.RTC_FLAGS fun u => u.wr R.RTC_FLAGS (w.rd R.RTC_FLAGS &&& ~~~1#32))) ∧
    -- an alarm
    (Open s (R.RTC_ALMn_CFG n) →
      (W.alarmInRange (w.alarmMatch n) = false → Refuses (.alarmEnable n v) s (R.RTC_ALMn_CFG n) eRange) ∧
      (W.alarmInRange (w.alarmMatch n) = true → Takes (.alarmEnable n v) s (R.RTC_ALMn_CFG n) fun u =>
        let u := u.wrF (R.RTC_ALMn_CFG n) 0 3 en.toNat
        match nextOccurrence (w.alarmMatch n) now with
        | some x => (u.wr64 (R.RTC_ALMn_NEXT n) x).wrB (R.RTC_ALMn_STAT n) 3 false
        | none => (u.wr64 (R.RTC_ALMn_NEXT n) (2 ^ 64 - 1)).wrB (R.RTC_ALMn_STAT n) 3 true))

/-- R93, R776 to R779, R781 to R788: triggers of the event recorder, captures, records, the scan of the slots, and clearing. -/
def Obligations.TriggersAndRecords : Prop :=
  ∀ (s : State) (t : Fin 64) (v : Word) (it : RecItem) (cap : RecCap) (seq : Word) (rest : List RecItem) (k : Nat),
    let w := begin_ s
    let live : Prop := s.pwr.held = false
    let trig := s.recd.trig[t]
    let full : Prop := 32 ≤ s.recd.queue.length ∨ w.rdB R.REC_STAT 2 = true
    let len := fld v 8 7
    let staged := (List.range (min len 56)).map fun j => w.rdF (R.REC_LIST j) 0 19
    let code := if staged.any (fun x => [0x05, 0x3D, 0x3E, 0x42].contains (x / 0x1000)) then ePerm
      else if 56 < len then eLen
      else if staged.any (fun x => x % 4 != 0 || (pageDomain (x / 0x1000)).isNone) then eRange else 0
    let sel := w.rdF R.REC_TRG_SEL 0 6
    let read : W × List Word × Bool × Bool := if it.trigger < 64 then
      W.recReadAll (W.engRead .recorder) (w.recList it.trigger) w else (w, it.internal, false, false)
    let scanning := read.1.rdB R.REC_STAT 0
    let captured : W := { (if scanning then read.1 else read.1.inc R.REC_SEQ_NEXT) with
      recd.queue := read.1.recd.queue.set k { it with
        cap := some ⟨s.tsc, w.rtcSec, w.tinv, read.2.2.1, read.2.2.2, read.2.1,
          if scanning then none else some (read.1.rd R.REC_SEQ_NEXT)⟩ } }
    let idle : Prop := w.rdB R.REC_STAT 0 = false ∧ w.rdB R.REC_STAT 3 = false
    let only : Prop := it.trigger < 64 ∧ bit (s.recd.trig.getD it.trigger {}).cfg 1 = true
    let calm := w.rdN R.REC_CALM_NEXT
    let eddy := decide (only ∨ s.recd.calm ≤ calm)
    let slot := if eddy then s.recd.calm + w.rdN R.REC_EDDY_NEXT else calm
    let popped : W := { w with recd.queue := rest }
    let stored := (popped.mramPut (w.slotAt slot) (W.recordBytes it cap seq eddy ++ toLe 4 0xA5C33C5A)).inc R.REC_WRITTEN
    let area := w.partSize 6 / 256
    let want := w.rdN R.REC_CALM_SLOTS
    let bad := decide (want % 16 ≠ 0 ∨ area < want + 16)
    let got := if bad then 0 else want
    let total := s.recd.calm + s.recd.eddy
    let found (i : Nat) : Option Nat × Bool := slotState (w.mram s.mem (w.slotAt i) 256)
    let torn := ((List.range total).filter fun i => (found i).2).length
    let zeroed (u : W) (lo n : Nat) : W := (List.range n).foldl (fun u i => u.mramPut (u.slotAt (lo + i)) (toLe 4 0)) u
    -- triggers
    (Open s R.REC_TRIG →
      (bit trig.cfg 0 = false → Refuses (.recTrigHost t) s R.REC_TRIG eState) ∧
      (bit trig.cfg 0 = true → ¬ full → Takes (.recTrigHost t) s R.REC_TRIG fun u =>
        { u with recd.queue := s.recd.queue ++ [⟨t.val, 2, [], none⟩] }) ∧
      (bit trig.cfg 0 = true → full → s.recd.lostSince ≠ 0 → ∃ u, Completes (.recTrigHost t) s u ∧
        u.recd.queue = s.recd.queue ∧ u.recd.lostSince = s.recd.lostSince + 1 ∧ u.rdN R.REC_LOST = satInc 32 (w.rdN R.REC_LOST) ∧
        u.rdF (R.H_ERR 0x07) 0 16 = eFull)) ∧
    (Open s R.REC_TRG_SEL → Takes (.recTrgSel t) s R.REC_TRG_SEL fun u =>
      (List.range 56).foldl (fun u j => u.wr (R.REC_LIST j) (trig.list.getD j 0)) (u.wrN R.REC_TRG_SEL t)) ∧
    (Open s R.REC_TRG_CFG →
      (code ≠ 0 → Refuses (.recTrgCfg v) s R.REC_TRG_CFG code) ∧
      (code = 0 → Takes (.recTrgCfg v) s R.REC_TRG_CFG fun u =>
        let new : RecTrig := { (s.recd.trig.getD sel {}) with
          cfg := v &&& 0x7F03#32, list := (List.range 56).map fun j => w.rd (R.REC_LIST j) }
        { u with recd.trig := s.recd.trig.setIfInBounds sel new })) ∧
    -- a capture
    (s.pwr.held = true ∨ s.recd.queue.findIdx? (fun i => i.cap.isNone) = none → Completes .capture s w) ∧
    (live → s.recd.queue.findIdx? (fun i => i.cap.isNone) = some k → s.recd.queue[k]? = some it →
      Completes .capture s (if it.trigger < 64 then
        let old : RecTrig := captured.recd.trig.getD it.trigger {}
        { captured with recd.trig := captured.recd.trig.setIfInBounds it.trigger { old with cnt := old.cnt + 1#32 } }
        else captured)) ∧
    -- the record at the head of the queue
    (s.pwr.held = true ∨ ¬ idle ∨ s.recd.queue = [] ∨ (s.recd.queue = it :: rest ∧ (it.cap.bind (·.seq)) = none) →
      Completes .recordWrite s w) ∧
    (live → idle → s.recd.queue = it :: rest → it.cap = some cap → cap.seq = some seq →
      (eddy = true → s.recd.eddy = 0 → Completes .recordWrite s popped.recMarker) ∧
      (eddy = true → s.recd.eddy ≠ 0 → Completes .recordWrite s
        (stored.wrN R.REC_EDDY_NEXT ((w.rdN R.REC_EDDY_NEXT + 1) % s.recd.eddy)).recMarker) ∧
      (eddy = false → Completes .recordWrite s
        (let u := stored.wrN R.REC_CALM_NEXT (calm + 1)
         if calm + 1 = s.recd.calm then ((u.wrB R.REC_STAT 1 true).raise E.REC_CALM_FULL).recMarker else u.recMarker))) ∧
    -- the start-up scan
    (live → Completes .recScan s
      ((({ w with recd.calm := got, recd.eddy := area - got, recd.scanOn := true } : W).wrB R.REC_STAT 0 true).wrB R.REC_STAT 4 bad)) ∧
    (s.pwr.held = true ∨ s.recd.scanOn = false → Completes (.recScanDone [] []) s w) ∧
    (live → s.recd.scanOn = true → s.age.ueWords = [] → ∃ u, Completes (.recScanDone [] []) s u ∧ u.recd.scanOn = false ∧
      u.rdB R.REC_STAT 0 = false ∧ u.rdN R.REC_TORN = torn % 2 ^ 32 ∧
      (w.rdB (R.H_EVT_EN 0x07) E.REC_READY.2 = true → u.rdB (R.H_EVT_PEND 0x07) E.REC_READY.2 = true)) ∧
    -- clearing
    (Open s R.REC_CLEAR →
      (s.recd.clearing ≠ 0 → Refuses .recClearEddy s R.REC_CLEAR eBusy) ∧
      (s.recd.clearing = 0 → Takes .recClearEddy s R.REC_CLEAR fun u =>
        ({ u with recd.clearing := 1 } : W).wrB R.REC_STAT 3 true) ∧
      (w.rdF R.KEY_STAT 0 3 = 2 → Refuses .recClearCalm s R.REC_CLEAR ePerm) ∧
      (w.rdF R.KEY_STAT 0 3 ≠ 2 → s.recd.clearing ≠ 0 → Refuses .recClearCalm s R.REC_CLEAR eBusy) ∧
      (w.rdF R.KEY_STAT 0 3 ≠ 2 → s.recd.clearing = 0 → Takes .recClearCalm s R.REC_CLEAR fun u =>
        ({ u with recd.clearing := 2 } : W).wrB R.REC_STAT 3 true)) ∧
    (s.pwr.held = true ∨ s.recd.clearing = 0 → Completes .cleared s w) ∧
    (live → s.recd.clearing ≠ 0 → Completes .cleared s
      (let u := if s.recd.clearing.testBit 0 then (zeroed w s.recd.calm s.recd.eddy).wr R.REC_EDDY_NEXT 0 else w
       let u := if s.recd.clearing.testBit 1 then ((zeroed u 0 s.recd.calm).wr R.REC_CALM_NEXT 0).wrB R.REC_STAT 1 false else u
       ((({ u with recd.clearing := 0 } : W).wrB R.REC_STAT 3 false).raise E.REC_CLEARED)))

/-- R471, R473, R508: every service that an engine executes answers, with status 0 or with an error code, and the engine goes on; where
the engines of its lockstep pair differ, or the data that it reads are lost, the task stops instead. -/
def Obligations.EveryServiceAnswers : Prop :=
  ∀ (s : State) (e : Fin 4) (d a : Fin 64) (sub : Fin 32768) (x : Ecc) (ev : MemEv),
    let w := begin_ s
    let reading : List (Instr × Nat) := [(.sysSlvWrite e d a ev, 0x013), (.sysCanSend e d a ev, 0x020), (.sysKeySubmit e d a ev, 0x070)]
    let stops : Prop := ev = .ue ∨ ev = .mismatch ∧ w.pairActive e = true
    let answers (u : W) (code : Nat) (res : List Nat) : Prop := u.scan.eng = s.scan.eng.set e (afterCall s.scan.eng[e] d a code res)
    ∀ c ∈ reading ++ [(Instr.sysTscNow e d a, 0x001), (.sysRtcRead e d a sub, 0x002), (.sysRegRead e d a, 0x003),
        (.sysSlvSubmit e d a, 0x010), (.sysSlvStatus e d a x, 0x011), (.sysSlvRead e d a x, 0x012), (.sysCanRecv e d a, 0x021),
        (.sysCanStat e d a, 0x022), (.sysAxCmd e d a, 0x030), (.sysAxStat e d a, 0x031), (.sysQtyRead e d a, 0x040),
        (.sysQtyFreeze e d a, 0x041), (.sysFlowIn e d a, 0x042), (.sysRecTrig e d a, 0x050), (.sysSafReq e d a, 0x060),
        (.sysSafStat e d a, 0x061), (.sysKeyPoll e d a, 0x071), (.sysKeyRandom e d a, 0x072)],
      (w.fetch e ≠ some (encI 0x2D d a c.2) → Completes c.1 s w) ∧
      (Executes s e (encI 0x2D d a c.2) → Differs s e → Completes c.1 s ((calling s e).lsFault e)) ∧
      (Executes s e (encI 0x2D d a c.2) → ¬ Differs s e → (c ∈ reading → ¬ stops) →
        ∃ u code res, Completes c.1 s u ∧ (code ≠ 0 → res = []) ∧ answers u code res) ∧
      (Executes s e (encI 0x2D d a c.2) → ¬ Differs s e → c ∈ reading → stops →
        ∃ u, Completes c.1 s u ∧ ((∃ code, code ≠ 0 ∧ answers u code []) ∨ u.rdF (R.TASK_STATE e) 0 2 = 3))

/-- R797, R799 to R802, R808 to R819, R822, R842, R845: the ports of the host and of the test equipment, in any state of the device. -/
def Obligations.HostPortsInAnyState : Prop :=
  ∀ (s : State) (tdi pins : List Bool) (addr : Word) (d : List Byte) (n : Nat) (e : Ecc) (x : Ext) (speed width : Fin 4) (lstate : Fin 8)
    (d3 rev bme mask pme poisoned : Bool) (v : Fin 32) (c : Fin 4) (k : BitVec 9) (ces ues : List Nat) (j : DmaJob) (t : List (Nat × List Byte)) (o : Nat),
    let w := begin_ s
    -- boundary scan
    let tap : Prop := s.pwr.below1V = false ∧ w.inOff = false
    let acts (op : JtagOp) : JtagOp := if s.key.lc = 2 then .bypass else op
    let shifts (op : JtagOp) (cap : List Bool) : W := { w with jtag.ir := op, jtag.tdo := (cap ++ tdi).take tdi.length }
    let captured : List Bool := (List.range scanLen).map fun i => pins.getD i false
    let bounded (op : JtagOp) : W := if s.key.lc = 2 then shifts .bypass [false] else
      { shifts op captured with jtag.cells := if tdi = [] then s.jtag.cells else (captured ++ tdi).drop tdi.length }
    -- the Quad-SPI target
    let target : Prop := w.qspiSel = true ∧ s.pwr.held = false
    let q := ({ w with hif.qsHold := true } : W).wake
    let win := addr.toNat / 2 ^ 28
    let off := addr.toNat % 2 ^ 28
    let outside : Prop := win ∉ [0, 2, 4]
    let kept := d.take (512 - (q.hif.qsBuf.map fun b => b.2.length).sum)
    let whole := if win = 0 then kept.take (kept.length / 4 * 4) else kept
    let buffered : W := if whole = [] then q else { q with hif.qsBuf := q.hif.qsBuf ++ [(addr.toNat, whole)] }
    let read : W := if win = 2 then q.memRead .bar2 off n e s.mem else if win = 4 then q.memRead .bar4 off n e s.mem
      else if off % 4 = 0 then (let r := W.qsReadWords e ((n + 3) / 4) off q; r.1.answer (r.2.take n)) else q.hostRead e off n
    let qpi (b : Bool) : W := ({ q with hif.qpi := b } : W).raiseIf (q.hif.qpi != b) E.HIF_HOST_LINK
    -- the PCI Express link
    let ls := R.HIF_LINK_STAT
    let ds := if d3 then 3 else 0
    let awake : W := if lstate = 0 then w else { w with hif.l2 := false }
    -- DMA
    let st := R.HIF_CHc_STAT c
    let flying := w.rdF st 8 9
    let ci := w.rdF (R.HIF_CHc_CI c) 0 8
    let dbCode := if w.qspiSel = true ∨ w.rdB (R.HIF_CHc_CTRL c) 0 = false then eState else if 256 < k.toNat then eLen
      else if 256 < flying + k.toNat then eFull else 0
    let starts : Prop := w.qspiSel = false ∧ w.rdB (R.HIF_CHc_CTRL c) 0 = true ∧ w.rdB st 1 = false ∧ s.hif.dma[c] = none ∧ flying ≠ 0 ∧
      s.hif.bme = true ∧ w.rdF ls 8 2 = 0 ∧ w.dom 4 = 1
    let a := w.rdN (R.HIF_CHc_BASE c) + 32 * (ci % 256)
    let ctl := BitVec.ofNat 32 (w.get s.mem a 4)
    let len := w.get s.mem (a + 4) 4
    let haddr := w.get s.mem (a + 8) 8
    let doff := w.get s.mem (a + 16) 4
    let checked := w.dmaCheck ctl len haddr doff
    let code := if checked = 0 ∧ w.get s.mem (a + 20) 4 ≠ 0 then eRange else checked
    (¬ tap → ∀ i ∈ [Instr.jtagIdcode tdi, .jtagBypass tdi, .jtagClamp tdi, .jtagHighz tdi, .jtagSamplePreload pins tdi,
      .jtagExtest pins tdi], Completes i s w) ∧
    (tap → Completes (.jtagIdcode tdi) s (shifts .idcode ((List.range 32).map fun i => Nat.testBit 0x196009B3 i)) ∧
      Completes (.jtagBypass tdi) s (shifts .bypass [false]) ∧ Completes (.jtagClamp tdi) s (shifts (acts .clamp) [false]) ∧
      Completes (.jtagHighz tdi) s (shifts (acts .highz) [false]) ∧
      Completes (.jtagSamplePreload pins tdi) s (bounded .samplePreload) ∧ Completes (.jtagExtest pins tdi) s (bounded .extest)) ∧
    (¬ target → ∀ i ∈ [Instr.qspiWrite addr d, .qspiQwrite addr d, .qspiRead addr n e, .qspiQread addr n e, .qspiStatus n, .enterQpi,
      .exitQpi, .tgtReset, .qspiUnknownOpcode], Completes i s w) ∧
    (target → ∀ i ∈ [Instr.qspiWrite addr d, .qspiQwrite addr d],
      (outside → Completes i s (q.err 0x04 eRange).qsFail) ∧
      (win = 0 → addr.toNat % 4 ≠ 0 → Completes i s (q.qsErrAt addr.toNat eRange).qsFail) ∧
      (¬ outside → win ≠ 0 ∨ addr.toNat % 4 = 0 → Completes i s
        (if whole.length < kept.length then (buffered.qsErrAt (addr.toNat + whole.length) eRange).qsFail
         else if kept.length < d.length then (buffered.err 0x04 eBusy).qsFail else buffered))) ∧
    (target → ∀ i ∈ [Instr.qspiRead addr n e, .qspiQread addr n e],
      (outside → Completes i s ((q.err 0x04 eRange).qsFail.answer [])) ∧
      (¬ outside → q.hostOk = false ∨ q.hif.qsBuf ≠ [] → Completes i s (q.answer [0#8])) ∧
      (¬ outside → q.hostOk = true → q.hif.qsBuf = [] → Completes i s (read.answer (0xA5#8 :: read.hif.rdata)))) ∧
    (target →
      Completes (.qspiStatus n) s
        (let u : W := { q with hif.qsErr := false }
         (if u.domUp 9 then u.wrN R.HIF_QS_STAT q.qsStatus else u).answer (List.replicate n (BitVec.ofNat 8 q.qsStatus))) ∧
      Completes .enterQpi s (qpi true) ∧ Completes .exitQpi s (qpi false) ∧
      Completes .tgtReset s { qpi false with hif.qsErr := false, hif.qsBuf := [] } ∧ Completes .qspiUnknownOpcode s q.qsFail) ∧
    (s.hif.qsBuf = [] ∨ w.hostOk = false → Completes (.qspiBufferDrain x) s w) ∧
    (s.hif.qsBuf = (o, d) :: t → w.hostOk = true → Completes (.qspiBufferDrain x) s
      (let u : W := { w with hif.qsBuf := t }
       if o / 2 ^ 28 = 0 then (W.qsWords (o % 2 ^ 28) d).foldl (fun u y => u.hostWord x s.mem y.1 y.2) u
       else if o / 2 ^ 28 = 2 then u.bar2Write (o % 2 ^ 28) d else u.bar4Write (o % 2 ^ 28) d)) ∧
    Completes .qspiLinkHoldExpiry s { w with hif.qsHold := false } ∧
    (w.linkOk = false → ∀ i ∈ [Instr.hostLink speed width lstate d3 rev, .pmeTurnOff, .configSpaceWrite bme mask pme], Completes i s w) ∧
    (w.linkOk = true →
      Completes (.hostLink speed width lstate d3 rev) s (W.linkSync w
        ((((awake.wrF ls 0 4 (speed.val + 4 * width.val)).wrF ls 5 3 lstate).wrF ls 8 2 ds).wrB ls 10 rev) (w.rdF ls 8 2 != ds)) ∧
      Completes .pmeTurnOff s (W.linkSync w { w.wrF ls 5 3 3 with hif.l2 := true } false) ∧
      Completes (.configSpaceWrite bme mask pme) s
        (W.msixReleased w { w with hif.bme := bme, hif.funcMask := mask, hif.pmeEn := pme })) ∧
    (w.qspiSel = true ∨ s.hif.perstN = true → Completes .pePerstNRise s { w with hif.perstN := true }) ∧
    (w.qspiSel = false → s.hif.perstN = false → Completes .pePerstNRise s
      (W.linkSync w (({ w with hif.perstN := true, hif.peWakeLow := false } : W).wake) false)) ∧
    (w.qspiSel = true ∨ s.hif.perstN = false → Completes .pePerstNLow s { w with hif.perstN := false }) ∧
    (w.qspiSel = false → s.hif.perstN = true → Completes .pePerstNLow s
      (let u := (List.range 4).foldl (fun (u : W) i => u.wrB (R.HIF_CHc_CTRL i) 0 false) w.dmaAbandon
       let u : W := { u with hif.perstN := false, hif.bme := false, hif.funcMask := false, hif.pmeEn := false, hif.l2 := false }
       W.linkSync w ((u.wrF ls 0 4 0).wrF ls 5 6 0) false)) ∧
    Completes (.msixUnblock v) s
      (if s.hif.msixOwed.getLsbD v = true ∧ w.vecAsserted v = true ∧ w.msixBlocked v = false
       then ({ w with hif.msixOwed := s.hif.msixOwed &&& ~~~BitVec.ofNat 32 (2 ^ v.val) } : W).msixSend v else w) ∧
    (Open s (R.HIF_CHc_DB c) →
      (dbCode ≠ 0 → Refuses (.dmaDoorbell c k) s (R.HIF_CHc_DB c) dbCode) ∧
      (dbCode = 0 → Takes (.dmaDoorbell c k) s (R.HIF_CHc_DB c) fun u =>
        (u.wrF (R.HIF_CHc_PI c) 0 8 (w.rdF (R.HIF_CHc_PI c) 0 8 + k.toNat)).wrF st 8 9 (flying + k.toNat))) ∧
    (Open s (R.HIF_CHc_CMD c) →
      Takes (.dmaResume c) s (R.HIF_CHc_CMD c) (fun u => u.wrB st 1 false) ∧
      (s.hif.dma[c] = none → Takes (.dmaAbort c) s (R.HIF_CHc_CMD c) fun u =>
        (W.dmaFlush s.mem c 0x0502 flying ci u).wrB st 1 false) ∧
      (s.hif.dma[c] = some j → Takes (.dmaAbort c) s (R.HIF_CHc_CMD c) fun u =>
        let y := W.dmaFlush s.mem c 0x0502 (flying - 1) (ci + 1) u
        (({ y with hif.dma := y.hif.dma.setIfInBounds c (some j) } : W).wrB st 0 true).wrB st 1 false)) ∧
    (¬ starts → Completes (.dmaDescriptorStart c ces ues) s w) ∧
    (starts → code ≠ 0 → Completes (.dmaDescriptorStart c [] []) s ((w.err 0x04 code).dmaEnd c a code 0 ctl)) ∧
    (starts → code = 0 → len = 0 → Completes (.dmaDescriptorStart c [] []) s (w.dmaEnd c a 0 0 ctl)) ∧
    (starts → code = 0 → len ≠ 0 → Completes (.dmaDescriptorStart c [] []) s
      (let u := w.retWake (W.bar2Domain doff)
       ({ u with hif.dma := u.hif.dma.setIfInBounds c (some ⟨a, ctl, len, haddr, doff⟩) } : W).wrB st 0 true)) ∧
    (s.hif.dma[c] = none → ∀ i ∈ [Instr.dmaDone c d e, .dmaHalt c poisoned d, .dmaCompletionTimeout c d], Completes i s w) ∧
    (s.hif.dma[c] = some j →
      (fld j.ctl 0 2 = 0 → d.length < j.len → Completes (.dmaDone c d e) s w) ∧
      (fld j.ctl 0 2 ≠ 0 ∨ j.len ≤ d.length → w.domUp (W.bar2Domain j.doff) = false →
        Completes (.dmaDone c d e) s ((w.err 0x04 eDomainOff).dmaEnd c j.addr eDomainOff 0 j.ctl)) ∧
      (fld j.ctl 0 2 ≠ 0 ∨ j.len ≤ d.length → w.domUp (W.bar2Domain j.doff) = true →
        Completes (.dmaDone c d e) s (let r := w.dmaMove s.mem j d j.len e; r.1.dmaEnd c j.addr 0 r.2 j.ctl)) ∧
      Completes (.dmaHalt c poisoned d) s (W.dmaFail c 0x0501 d s.mem (if poisoned then w.hostErr 2 else w)) ∧
      Completes (.dmaCompletionTimeout c d) s (W.dmaFail c eTimeout d s.mem (w.hostErr 1)))

/-- R140, R153, R156, R283, R459, R674: what the reads of memory meet that a doorbell, a DMA descriptor, an input latch or an on-line
change starts. -/
def Obligations.ErrorsThatReadsOfMemoryMeet : Prop :=
  ∀ (s : State) (x : Ext) (p c n : Fin 4) (k4 : BitVec 4) (k5 : BitVec 5) (b : Fin 2) (c1 c2 : Option (List Byte)) (ces ues : List Nat),
    let w := begin_ s
    let up (a : Nat) : Bool := decide (a < systemEnd) && w.domUp (W.bar2Domain a)
    let solver (a : Nat) : Bool := decide (a < solverEnd) && w.domUp 5
    let bank (o : Nat) : Bool := w.inPart (1 + b) o
    let found (u : W) (ces ues : List Nat) : Prop :=
      ces.countP up ≤ u.age.sramCe.count (w.tscTime : Int) ∧
      u.rdN R.SLV_ECC_CE = satAdd 32 (w.rdN R.SLV_ECC_CE) (ces.countP solver) ∧
      u.rdN R.SLV_ECC_UE = satAdd 32 (w.rdN R.SLV_ECC_UE) (ues.countP solver) ∧
      (∀ a, ues.getLast? = some a → solver a = true → u.rdN R.SLV_UE_ADDR = a / 8 * 8) ∧
      (∀ a ∈ ues, up a = true → solverEnd ≤ a → a / 8 ∈ u.tw.sysUe)
    (∀ i ∈ [(Instr.slvRingDoorbell k4 x, R.SLV_RING_DB), (.keyRingDoorbell k5 x, R.KEY_RING_DB),
        (.linkMsgDoorbell p k4 x, R.LNK_Pp_MSG_DB p)],
      Open s i.2 → ∃ u, Completes i.1 s u ∧ found u x.ramCe x.ramUe) ∧
    (∃ u, Completes (.dmaDescriptorStart c ces ues) s u ∧ (s.hif.dma[c] ≠ none ∨ w.rdF (R.HIF_CHc_STAT c) 8 9 = 0 → u = w)) ∧
    (∃ u, Completes (.cycleLatch n c1 c2 ces ues) s u ∧ found u ces ues) ∧
    (Open s R.SCAN_OLC_CTRL → b.val ≠ w.rdF R.SCAN_BOOT_BANK 0 1 → w.olcBusy = false → ∃ u, Completes (.onlineChange b x) s u ∧
      u.rdN R.NVM_ECC_CE = satAdd 32 (w.rdN R.NVM_ECC_CE) (x.start.mramCe.countP bank) ∧
      (∀ o ∈ x.start.mramUe, bank o = true → w.phys o / 8 * 8 ∈ u.age.ueWords))

/-- R96 to R101, R115, R533, R600, R609, R640, R827: supplies and pins as they follow from the state. -/
def Obligations.SuppliesAndPins : Prop :=
  ∀ (s : State) (b : Fin 2) (n : Fin 16) (x : Fin 8),
    let w := begin_ s
    let set := 750 + 5 * w.rdF R.PWR_VCORE_SET 0 5
    -- the core and SRAM supplies in Run, in Lull and in Deep Lull
    (s.pwr.held = false → w.pstate = 0 → w.vcoreMv = set) ∧
    (s.pwr.held = false → w.pstate = 1 → w.vcoreMv = set - 100) ∧
    (s.pwr.held = true ∨ w.pstate = 2 → w.vcoreMv = 0 ∧ w.vsramMv = 0) ∧
    (s.pwr.held = false → w.pstate < 2 →
      ((∀ d ∈ [4, 5, 6], w.dom d = 0 ∨ w.dom d = 2) → w.vsramMv = 800) ∧
      ((∃ d ∈ [4, 5, 6], w.dom d ≠ 0 ∧ w.dom d ≠ 2) → w.vsramMv = 950)) ∧
    -- FAULT_N after a fault of VCORE or VSRAM, and after XTM has failed
    (s.pwr.held = false → w.buckRuns b = true → w.rdB R.PWR_REG_STAT (4 + b) = false →
      ∃ u, Completes (.regFault ⟨b, by omega⟩) s u ∧ u.faultN = .low) ∧
    (s.pwr.held = false → s.pwr.xtmFail = false → 3 ≤ w.rdF R.SYS_BOOT_STAT 0 4 →
      ∃ u, Completes .xtmFail s u ∧ u.faultN = .low ∧ ∀ d ∈ [2, 4, 5, 6, 7, 8, 9], ∀ l, u.pinOf d l = .hiZ) ∧
    (s.pwr.held = true → w.faultN = .hiZ) ∧
    -- a transceiver's standby pin
    (w.dom 6 ≠ 1 → w.canStb n = .hiZ ∧ w.canTx n = .hiZ) ∧
    (s.pwr.held = false → w.dom 6 = 1 →
      (w.rdB (R.H_CTRL (0x1A + n)) 0 = true ∧ w.rdB (R.CAN_MODE n) 6 = false → w.canStb n = .low) ∧
      (w.rdB (R.H_CTRL (0x1A + n)) 0 = false ∨ w.rdB (R.CAN_MODE n) 6 = true → w.canStb n = .high) ∧ w.canTx n = .high) ∧
    -- the gates of a direct-drive axis in FAULT
    (s.pwr.held = false → w.dom 7 = 1 → w.padsOn = true → w.axDirect x = true → w.axState x = 6 →
      w.ddGates x = (.low, .low, .low, .low))
end

