-- ==== Sys2Proof/Laws/Bits.lean ====
section
/-!
SUPPORT. What the bit-field helpers do: a field reads back what was stored in it, and every other bit stays.
-/
namespace Sys2Proof.Machine

/-- The bits of a field. -/
theorem testBit_fld (v : Word) (lo n i : Nat) : (fld v lo n).testBit i = (decide (i < n) && v.toNat.testBit (lo + i)) := by
  simp [fld, Nat.testBit_mod_two_pow, Nat.testBit_shiftRight]

/-- A word without one of its fields, and the field, make the word. -/
theorem fld_shift_le (v lo n : Nat) : ((v >>> lo) % 2 ^ n) <<< lo ≤ v := by
  rw [Nat.shiftLeft_eq, Nat.shiftRight_eq_div_pow]
  calc v / 2 ^ lo % 2 ^ n * 2 ^ lo ≤ v / 2 ^ lo * 2 ^ lo := Nat.mul_le_mul_right _ (Nat.mod_le _ _)
    _ ≤ v := Nat.div_mul_le_self _ _

/-- The parts of a number around one of its fields. -/
theorem split_field (v lo n : Nat) :
    v = 2 ^ (lo + n) * (v / 2 ^ (lo + n)) + (2 ^ lo * (v / 2 ^ lo % 2 ^ n) + v % 2 ^ lo) := by
  have h1 : v / 2 ^ lo = 2 ^ n * (v / 2 ^ lo / 2 ^ n) + v / 2 ^ lo % 2 ^ n := (Nat.div_add_mod _ _).symm
  have h2 : v / 2 ^ lo / 2 ^ n = v / 2 ^ (lo + n) := by rw [Nat.div_div_eq_div_mul, ← Nat.pow_add]
  have h3 : v = 2 ^ lo * (v / 2 ^ lo) + v % 2 ^ lo := (Nat.div_add_mod _ _).symm
  calc v = 2 ^ lo * (v / 2 ^ lo) + v % 2 ^ lo := h3
    _ = 2 ^ lo * (2 ^ n * (v / 2 ^ (lo + n)) + v / 2 ^ lo % 2 ^ n) + v % 2 ^ lo := by rw [← h2, ← h1]
    _ = _ := by rw [Nat.mul_add, ← Nat.mul_assoc, ← Nat.pow_add, Nat.add_assoc]

/-- The number that `setFld` makes. -/
theorem setFld_nat (v lo n x : Nat) :
    v - ((v >>> lo) % 2 ^ n) <<< lo + (x % 2 ^ n) <<< lo =
      2 ^ (lo + n) * (v / 2 ^ (lo + n)) + (2 ^ lo * (x % 2 ^ n) + v % 2 ^ lo) := by
  have h := split_field v lo n
  have hle := fld_shift_le v lo n
  rw [Nat.shiftLeft_eq, Nat.shiftRight_eq_div_pow] at hle
  rw [Nat.shiftLeft_eq, Nat.shiftLeft_eq, Nat.shiftRight_eq_div_pow, Nat.mul_comm _ (2 ^ lo),
    Nat.mul_comm (x % 2 ^ n) (2 ^ lo)]
  rw [Nat.mul_comm] at hle
  generalize 2 ^ (lo + n) * (v / 2 ^ (lo + n)) = a at *
  generalize 2 ^ lo * (v / 2 ^ lo % 2 ^ n) = b at *
  generalize v % 2 ^ lo = c at *
  omega

/-- The bits of a word with a field replaced. -/
theorem testBit_setFld (v : Word) (lo n x i : Nat) (h : lo + n ≤ 32) :
    (setFld v lo n x).toNat.testBit i =
      if lo ≤ i ∧ i < lo + n then x.testBit (i - lo) else v.toNat.testBit i := by
  have hv : v.toNat < 2 ^ 32 := v.isLt
  have hf : 2 ^ lo * (x % 2 ^ n) + v.toNat % 2 ^ lo < 2 ^ (lo + n) := by
    have a : v.toNat % 2 ^ lo < 2 ^ lo := Nat.mod_lt _ (Nat.two_pow_pos lo)
    have b : x % 2 ^ n + 1 ≤ 2 ^ n := Nat.mod_lt _ (Nat.two_pow_pos n)
    calc 2 ^ lo * (x % 2 ^ n) + v.toNat % 2 ^ lo < 2 ^ lo * (x % 2 ^ n) + 2 ^ lo := by omega
      _ = 2 ^ lo * (x % 2 ^ n + 1) := by rw [Nat.mul_add, Nat.mul_one]
      _ ≤ 2 ^ lo * 2 ^ n := Nat.mul_le_mul_left _ b
      _ = 2 ^ (lo + n) := (Nat.pow_add ..).symm
  have key : ∀ j, (2 ^ (lo + n) * (v.toNat / 2 ^ (lo + n)) + (2 ^ lo * (x % 2 ^ n) + v.toNat % 2 ^ lo)).testBit j =
      if lo ≤ j ∧ j < lo + n then x.testBit (j - lo) else v.toNat.testBit j := by
    intro j
    rw [Nat.testBit_two_pow_mul_add _ hf]
    have ha : v.toNat % 2 ^ lo < 2 ^ lo := Nat.mod_lt _ (Nat.two_pow_pos lo)
    by_cases h1 : j < lo + n
    · rw [if_pos h1, Nat.testBit_two_pow_mul_add _ ha]
      by_cases h2 : j < lo
      · rw [if_pos h2, if_neg (by omega), Nat.testBit_mod_two_pow]; simp [h2]
      · rw [if_neg h2, if_pos ⟨by omega, h1⟩, Nat.testBit_mod_two_pow]
        simp; omega
    · rw [if_neg h1, if_neg (by omega), Nat.testBit_div_two_pow]
      congr 1; omega
  have hlt : 2 ^ (lo + n) * (v.toNat / 2 ^ (lo + n)) + (2 ^ lo * (x % 2 ^ n) + v.toNat % 2 ^ lo) < 2 ^ 32 := by
    apply Nat.lt_pow_two_of_testBit
    intro j hj
    rw [key j, if_neg (by omega)]
    exact Nat.testBit_lt_two_pow (lt_of_lt_of_le hv (Nat.pow_le_pow_right (by decide) hj))
  have e : (setFld v lo n x).toNat =
      2 ^ (lo + n) * (v.toNat / 2 ^ (lo + n)) + (2 ^ lo * (x % 2 ^ n) + v.toNat % 2 ^ lo) := by
    unfold setFld fld
    rw [BitVec.toNat_ofNat, setFld_nat, Nat.mod_eq_of_lt hlt]
  rw [e, key]

/-- The field just stored. -/
theorem fld_setFld (v : Word) (lo n x : Nat) (h : lo + n ≤ 32) : fld (setFld v lo n x) lo n = x % 2 ^ n := by
  apply Nat.eq_of_testBit_eq
  intro i
  rw [testBit_fld, testBit_setFld _ _ _ _ _ h, Nat.testBit_mod_two_pow]
  by_cases hi : i < n
  · simp [hi]
  · simp [hi]

/-- A field apart from the one stored. -/
theorem fld_setFld_ne (v : Word) (lo n x lo' n' : Nat) (h : lo + n ≤ 32) (hd : lo' + n' ≤ lo ∨ lo + n ≤ lo') :
    fld (setFld v lo n x) lo' n' = fld v lo' n' := by
  apply Nat.eq_of_testBit_eq
  intro i
  rw [testBit_fld, testBit_fld, testBit_setFld _ _ _ _ _ h]
  by_cases hi : i < n'
  · rw [if_neg (by omega)]
  · simp [hi]

/-- A bit apart from the field stored. -/
theorem bit_setFld_ne (v : Word) (lo n x i : Nat) (h : lo + n ≤ 32) (hd : i < lo ∨ lo + n ≤ i) :
    bit (setFld v lo n x) i = bit v i := by
  unfold bit
  rw [testBit_setFld _ _ _ _ _ h, if_neg (by omega)]

/-- A one-bit field just stored. -/
theorem bit_setFld (v : Word) (i x : Nat) (h : i < 32) : bit (setFld v i 1 x) i = x.testBit 0 := by
  unfold bit
  rw [testBit_setFld _ _ _ _ _ (by omega), if_pos (by omega), Nat.sub_self]

/-- Storing what a field holds changes nothing. -/
theorem setFld_self (v : Word) (lo n x : Nat) (h : lo + n ≤ 32) (hx : fld v lo n = x % 2 ^ n) : setFld v lo n x = v := by
  apply BitVec.eq_of_toNat_eq
  apply Nat.eq_of_testBit_eq
  intro i
  rw [testBit_setFld _ _ _ _ _ h]
  split
  · rename_i hi
    have := congrArg (fun k => k.testBit (i - lo)) hx
    simp only [testBit_fld, Nat.testBit_mod_two_pow] at this
    rw [show lo + (i - lo) = i by omega] at this
    have hd : i - lo < n := by omega
    simpa [hd] using this.symm
  · rfl

@[simp] theorem b2n_testBit (b : Bool) : (b2n b).testBit 0 = b := by cases b <;> rfl

@[simp] theorem b2n_mod (b : Bool) : b2n b % 2 = b2n b := by cases b <;> rfl

end Sys2Proof.Machine
end

