-- ==== Sys2Proof/Laws/Memory.lean ====
section
/-!
SUPPORT. The byte memories: a read after a write, what a write leaves alone, and that every operation keeps the canonical
form.
-/
namespace Sys2Proof.Machine

@[simp] theorem memGet_nil (a : Nat) : memGet [] a = memDefault := rfl

theorem memGet_absent : ∀ (m : Memory) (a : Nat), (∀ c ∈ m, a < c.1) → memGet m a = memDefault
  | [], _, _ => rfl
  | (x, y) :: t, a, h => by
    have hx := h (x, y) (by simp)
    unfold memGet
    rw [if_neg (by simp at hx; omega)]
    exact memGet_absent t a fun c hc => h c (by simp [hc])

/-- What the memory holds at `b` after a byte is stored at `a`. -/
theorem memGet_memSet : ∀ (m : Memory) (a b : Nat) (v : Byte), Memory.wf m →
    memGet (memSet m a v) b = if b = a then v else memGet m b
  | [], a, b, v, _ => by
    unfold memSet
    by_cases h : v = memDefault <;> by_cases hb : b = a <;> simp_all [memGet, eq_comm]
  | (x, y) :: t, a, b, v, h => by
    have hp := List.pairwise_cons.mp h.1
    have ht : Memory.wf t := ⟨hp.2, fun c hc => h.2 c (by simp [hc])⟩
    have ab : ∀ z ≤ x, memGet t z = memDefault := fun z hz => memGet_absent t z fun c hc => by
      have := hp.1 c hc; simp at this; omega
    unfold memSet
    by_cases h1 : a < x
    · have hax := ab a (by omega)
      by_cases hv : v = memDefault <;> by_cases hb : b = a
      · subst hb; simp [h1, hv, memGet, hax]; omega
      · simp [h1, hv, hb]
      · simp [h1, hv, hb, memGet]
      · simp [h1, hv, hb, memGet, Ne.symm hb]
    · by_cases h2 : a = x
      · subst h2
        by_cases hv : v = memDefault <;> by_cases hb : b = a
        · subst hb; simp [hv, ab b (by omega)]
        · simp [hv, hb, memGet, Ne.symm hb]
        · simp [hv, hb, memGet]
        · simp [hv, hb, memGet, Ne.symm hb]
      · simp only [h1, h2, if_false]
        have ih := memGet_memSet t a b v ht
        unfold memGet
        rw [ih]
        by_cases hb : b = a
        · subst hb; simp [show ¬ x = b by omega]
        · simp [hb]

theorem memSet_bound : ∀ (m : Memory) (a : Nat) (v : Byte) (k : Nat), k < a → (∀ c ∈ m, k < c.1) → ∀ c ∈ memSet m a v, k < c.1
  | [], a, v, k, hk, _ => by unfold memSet; split <;> simp [hk]
  | (x, y) :: t, a, v, k, hk, h => by
    have hx : k < x := h (x, y) (by simp)
    have ht : ∀ c ∈ t, k < c.1 := fun c hc => h c (by simp [hc])
    unfold memSet
    repeat' split
    · exact h
    · intro c hc; rcases List.mem_cons.mp hc with rfl | hc <;> [exact hk; exact h c hc]
    · exact ht
    · intro c hc; rcases List.mem_cons.mp hc with rfl | hc <;> [exact hk; exact ht c hc]
    · intro c hc; rcases List.mem_cons.mp hc with rfl | hc <;> [exact hx; exact memSet_bound t a v k hk ht c hc]

/-- Storing a byte keeps the canonical form. -/
theorem memSet_wf : ∀ (m : Memory) (a : Nat) (v : Byte), Memory.wf m → Memory.wf (memSet m a v)
  | [], a, v, _ => by
    unfold memSet
    split
    · exact ⟨List.Pairwise.nil, by simp⟩
    · rename_i h; exact ⟨by simp, by simpa using h⟩
  | (x, y) :: t, a, v, h => by
    have hp := List.pairwise_cons.mp h.1
    have ht : Memory.wf t := ⟨hp.2, fun c hc => h.2 c (by simp [hc])⟩
    unfold memSet
    by_cases h1 : a < x
    · by_cases hv : v = memDefault
      · simpa only [h1, hv, if_true] using h
      · simp only [h1, hv, if_true, if_false]
        refine ⟨List.pairwise_cons.mpr ⟨?_, h.1⟩, ?_⟩
        · intro c hc
          rcases List.mem_cons.mp hc with rfl | hc
          · exact h1
          · exact Nat.lt_trans h1 (hp.1 c hc)
        · intro c hc
          rcases List.mem_cons.mp hc with rfl | hc
          · exact hv
          · exact h.2 c hc
    · by_cases h2 : a = x
      · subst h2
        by_cases hv : v = memDefault
        · simpa only [h1, hv, if_true, if_false] using ht
        · simp only [h1, hv, if_true, if_false]
          refine ⟨List.pairwise_cons.mpr ⟨hp.1, hp.2⟩, ?_⟩
          intro c hc
          rcases List.mem_cons.mp hc with rfl | hc
          · exact hv
          · exact ht.2 c hc
      · simp only [h1, h2, if_false]
        have ih := memSet_wf t a v ht
        refine ⟨List.pairwise_cons.mpr ⟨memSet_bound t a v x (by omega) hp.1, ih.1⟩, ?_⟩
        intro c hc
        rcases List.mem_cons.mp hc with rfl | hc
        · exact h.2 _ (by simp)
        · exact ih.2 c hc

theorem memPut_wf : ∀ (d : List Byte) (m : Memory) (a : Nat), Memory.wf m → Memory.wf (memPut m a d)
  | [], _, _, h => h
  | b :: d, m, a, h => memPut_wf d (memSet m a b) (a + 1) (memSet_wf m a b h)

theorem memClear_wf (m : Memory) (lo hi : Nat) (h : Memory.wf m) : Memory.wf (memClear m lo hi) :=
  ⟨h.1.filter _, fun c hc => h.2 c (List.mem_filter.mp hc).1⟩

theorem MemWrite.apply_wf (m : Memory) (x : MemWrite) (h : Memory.wf m) : Memory.wf (x.apply m) := by
  cases x with
  | bytes a d => exact memPut_wf d m a h
  | clear lo hi => exact memClear_wf m lo hi h
  | free a n c => exact memPut_wf _ m a h

theorem applyWrites_wf (m : Memory) (h : Memory.wf m) : ∀ ws, Memory.wf (applyWrites m ws)
  | [] => h
  | x :: ws => MemWrite.apply_wf _ x (applyWrites_wf m h ws)

/-- What the memory holds at `b` after the bytes `d` are stored from `a` up. -/
theorem memGet_memPut : ∀ (d : List Byte) (m : Memory) (a b : Nat), Memory.wf m →
    memGet (memPut m a d) b = if a ≤ b ∧ b < a + d.length then d.getD (b - a) 0 else memGet m b
  | [], m, a, b, _ => by simp [memPut, show ¬ (a ≤ b ∧ b < a) by omega]
  | x :: d, m, a, b, h => by
    have ih := memGet_memPut d (memSet m a x) (a + 1) b (memSet_wf m a x h)
    unfold memPut
    rw [ih, memGet_memSet m a b x h]
    by_cases h1 : b = a
    · subst h1; simp [show ¬ (b + 1 ≤ b) by omega]
    · by_cases h2 : a + 1 ≤ b ∧ b < a + 1 + d.length
      · have : b - a = (b - (a + 1)) + 1 := by omega
        simp [h2, this, show a ≤ b ∧ b < a + (d.length + 1) by omega]
      · rw [if_neg h2, if_neg h1, if_neg (by simp only [List.length_cons]; omega)]

theorem memGet_memClear : ∀ (m : Memory) (lo hi b : Nat),
    memGet (memClear m lo hi) b = if lo ≤ b ∧ b < hi then memDefault else memGet m b
  | [], _, _, _ => by simp [memClear]
  | (x, y) :: t, lo, hi, b => by
    have ih := memGet_memClear t lo hi b
    unfold memClear at ih ⊢
    rw [List.filter_cons]
    by_cases hx : x < lo ∨ hi ≤ x
    · rw [if_pos (by simpa using hx)]
      unfold memGet
      rw [ih]
      by_cases hb : x = b
      · subst hb; simp [show ¬ (lo ≤ x ∧ x < hi) by omega]
      · simp [hb]
    · rw [if_neg (by simpa using hx), ih]
      by_cases hb : lo ≤ b ∧ b < hi
      · simp [hb]
      · simp [hb, memGet, show ¬ x = b by omega]

/-- A command's newest memory write is applied last. -/
@[simp] theorem applyWrites_cons (m : Memory) (x : MemWrite) (ws : List MemWrite) :
    applyWrites m (x :: ws) = x.apply (applyWrites m ws) := rfl
@[simp] theorem applyWrites_nil (m : Memory) : applyWrites m [] = m := rfl

/-- A command sees through its own writes exactly what the memory holds after them. -/
theorem byteIn_applyWrites (m : Memory) (h : Memory.wf m) (a : Nat) : ∀ ws, W.byteIn m a ws = memGet (applyWrites m ws) a
  | [] => rfl
  | x :: ws => by
    have ih := byteIn_applyWrites m h a ws
    have hw := applyWrites_wf m h ws
    cases x with
    | bytes b d =>
      rw [applyWrites_cons]
      show _ = memGet (memPut _ b d) a
      rw [memGet_memPut d _ b a hw, ← ih]
      rfl
    | clear lo hi =>
      rw [applyWrites_cons]
      show _ = memGet (memClear _ lo hi) a
      rw [memGet_memClear, ← ih]
      rfl
    | free b n c =>
      rw [applyWrites_cons]
      show _ = memGet (memPut _ b (freeBytes n c)) a
      rw [memGet_memPut _ _ b a hw, ← ih]
      show (if b ≤ a ∧ a < b + n then Config.freeByte c (a - b) else W.byteIn m a ws) = _
      by_cases hb : b ≤ a ∧ a < b + n
      · have h1 : a - b < n := by omega
        simp [hb, freeBytes, h1]
      · simp [hb, freeBytes]

@[simp] theorem commit_mem (s : State) (w : W) : (commit s w).mem = applyWrites s.mem w.wq := rfl
@[simp] theorem commit_toDev (s : State) (w : W) : (commit s w).toDev = w.toDev := rfl
@[simp] theorem commit_pending (s : State) (w : W) : (commit s w).pending = s.pending := rfl

/-- A command that runs keeps the memories in canonical form and leaves the queue alone. -/
theorem run_keeps (f : Memory → W → W) (s : State) : ∃ t, run f s = .next t ∧ t.pending = s.pending ∧
    (Memory.wf s.mem → Memory.wf t.mem) := ⟨_, rfl, rfl, fun h => applyWrites_wf _ h _⟩

end Sys2Proof.Machine
end

