-- ==== Sys2Proof/Laws/Breeze.lean ====
section
/-!
SUPPORT. What an instruction of Breeze code does once it is fetched: a register instruction changes its engine alone.
-/
namespace Sys2Proof.Machine

/-- A change that the evaluation does not watch is the whole effect of a command. -/
theorem run_quiet {s : State} {f : Memory → W → W} {u : W} (hf : f s.mem (begin_ s) = u)
    (ht : u.tw.sysUe = s.tw.sysUe) (hq : W.quiet (begin_ s) u = true) : run f s = .next (commit s u) := by
  have e : W.taskUe (begin_ s) u = u := by unfold W.taskUe; exact if_pos ht
  unfold run W.settle
  rw [hf, e, if_pos hq]

/-- A record in which the registers, the power manager, the events, the solver, the keys and the host interface are as
before is quiet, if it writes no memory or no word of system SRAM is uncorrectable. -/
theorem quiet_of {s : State} {u : W} (hr : u.regs = s.regs) (hp : u.pwr = s.pwr) (he : u.evt = s.evt) (hs : u.slv = s.slv)
    (hk : u.key = s.key) (hh : u.hif = s.hif) (hw : u.tw.sysUe = [] ∨ u.wq = []) : W.quiet (begin_ s) u = true := by
  unfold W.quiet begin_
  rcases hw with hw | hw <;> simp [hr, hp, he, hs, hk, hh, hw]

theorem vector_getD {α : Type} {k : Nat} (v : Vector α k) (i : Nat) (d : α) (h : i < k) : v.getD i d = v[i] := by
  simp [Vector.getD, Array.getD, h]

theorem vector_set {α : Type} {k : Nat} (v : Vector α k) (i : Nat) (x : α) (h : i < k) :
    v.setIfInBounds i x = v.set i x := by
  apply Vector.ext
  intro j hj
  simp [Vector.getElem_set, Vector.getElem_setIfInBounds]

theorem eng_getD (s : State) (n : Fin 4) : (begin_ s).eng n = s.scan.eng[n] := vector_getD _ _ _ n.isLt

theorem tk_getD (s : State) (n : Fin 4) : (begin_ s).tk n = s.scan.task[n] := vector_getD _ _ _ n.isLt

theorem eng_setEng (w : W) (n : Fin 4) (g : Eng) : (w.setEng n g).eng n = g := by
  unfold W.setEng W.eng
  simp [vector_getD _ _ _ n.isLt, vector_set _ _ _ n.isLt]

theorem setEng_setEng (w : W) (n : Nat) (g h : Eng) : (w.setEng n g).setEng n h = w.setEng n h := by
  unfold W.setEng
  simp [Vector.setIfInBounds_setIfInBounds]

/-- The comparison of an active pair that does not differ takes a free value, and no other task's makes one (R471, R473). -/
theorem compared_same {s : State} {n : Fin 4} (h : ¬ Differs s n) (f : W → W) : (begin_ s).compared n f = f (calling s n) := by
  have : (begin_ s).pairActive n = true → Config.lsDiffers s.freeCtr = false := fun p => by
    simpa [Differs, p] using h
  unfold W.compared calling
  cases p : (begin_ s).pairActive n
  · rfl
  · have k : Config.lsDiffers (begin_ s).freeCtr = false := this p
    simp only [k]
    rfl

/-- One that differs stops the task. -/
theorem compared_differs {s : State} {n : Fin 4} (h : Differs s n) (f : W → W) :
    (begin_ s).compared n f = (calling s n).lsFault n := by
  unfold W.compared calling
  have k : Config.lsDiffers (begin_ s).freeCtr = true := h.2
  simp only [h.1, k]
  rfl

/-- The record of a call differs from the state in the counter of free values only. -/
theorem calling_eq (s : State) (n : Fin 4) : calling s n = { begin_ s with freeCtr := (calling s n).freeCtr } := by
  unfold calling; split <;> rfl

/-- A register instruction that is fetched and is not the last word, where the pair's engines do not differ. -/
theorem run_bzOp {s : State} {n : Fin 4} {v : Word} {f : Eng → Eng} (h : Executes s n v) (hd : ¬ Differs s n)
    (hpc : (f s.scan.eng[n]).pc = s.scan.eng[n].pc) :
    run (fun _ w => w.bzOp n v f) s =
      .next { s with scan.eng := s.scan.eng.set n { f s.scan.eng[n] with pc := s.scan.eng[n].pc + 4 }
                     freeCtr := (calling s n).freeCtr } := by
  have g : (calling s n).eng n = s.scan.eng[n] := by rw [calling_eq]; exact eng_getD s n
  have e : (begin_ s).bzOp n v f =
      (calling s n).setEng n { f s.scan.eng[n] with pc := s.scan.eng[n].pc + 4 } := by
    unfold W.bzOp W.bz
    rw [if_pos h.word]
    refine (compared_same hd _).trans ?_
    unfold W.next W.jump
    simp only [eng_setEng, setEng_setEng, g, hpc]
    have ht : ((calling s n).setEng n { f s.scan.eng[n] with pc := s.scan.eng[n].pc + 4 }).tk n = s.scan.task[n] := by
      rw [calling_eq]; exact tk_getD s n
    rw [ht]
    split
    · rename_i e he
      rw [if_neg (by have := h.more e he; omega)]
    · rfl
  rw [calling_eq] at e
  refine (run_quiet e rfl (quiet_of rfl rfl rfl rfl rfl rfl (.inr rfl))).trans ?_
  congr 1
  unfold W.setEng commit begin_
  simp [vector_set _ _ _ n.isLt]

/-- A register instruction that is fetched, where they differ. -/
theorem run_bzOp_differs {s : State} {n : Fin 4} {v : Word} {f : Eng → Eng} (h : Executes s n v) (hd : Differs s n) :
    run (fun _ w => w.bzOp n v f) s = run (fun _ _ => (calling s n).lsFault n) s := by
  have e : (begin_ s).bzOp n v f = (calling s n).lsFault n := by
    unfold W.bzOp W.bz
    rw [if_pos h.word]
    exact compared_differs hd _
  unfold run
  dsimp only
  rw [e]

end Sys2Proof.Machine
end

