-- ==== Sys2Proof/Laws/Register.lean ====
section
/-!
SUPPORT. The register file: a register reads as the word stored in it, and every other register stays.
-/
namespace Sys2Proof.Machine
namespace W

/-! ## The list -/

theorem findReg_putReg_same (l : List (Nat × Word)) (a : Nat) (v : Word) : findReg (putReg l a v) a = some v := by
  induction l with
  | nil => simp [putReg, findReg]
  | cons e t ih =>
    obtain ⟨x, y⟩ := e
    unfold putReg
    split
    · simp [findReg]
    · split
      · simp [findReg]
      · rename_i h1 h2
        rw [findReg, if_neg (fun h => h2 h.symm), ih]

theorem findReg_putReg_ne (l : List (Nat × Word)) (a b : Nat) (v : Word) (h : b ≠ a) :
    findReg (putReg l a v) b = findReg l b := by
  induction l with
  | nil => simp [putReg, findReg, Ne.symm h]
  | cons e t ih =>
    obtain ⟨x, y⟩ := e
    unfold putReg
    split
    · rw [findReg, if_neg (Ne.symm h)]
    · split
      · rename_i h1 h2
        subst h2
        rw [findReg, if_neg (Ne.symm h), findReg, if_neg (Ne.symm h)]
      · rw [findReg, findReg, ih]

theorem findReg_filter (l : List (Nat × Word)) (p : Nat → Bool) (b : Nat) :
    findReg (l.filter fun e => p e.1) b = if p b then findReg l b else none := by
  induction l with
  | nil => simp [findReg]
  | cons e t ih =>
    obtain ⟨x, y⟩ := e
    by_cases hp : p x
    · rw [List.filter_cons_of_pos (by simpa using hp), findReg, findReg, ih]
      by_cases hx : x = b
      · subst hx; simp [hp]
      · simp [hx]
    · rw [List.filter_cons_of_neg (by simpa using hp), ih, findReg]
      by_cases hx : x = b
      · subst hx; simp [hp]
      · simp [hx]

theorem findReg_setReg_same (l : List (Nat × Word)) (a : Nat) (v d : Word) :
    (findReg (setReg l a v d) a).getD d = v := by
  unfold setReg
  split
  · rename_i h
    rw [findReg_filter l (fun x => x != a)]
    simp [h]
  · rw [findReg_putReg_same]; rfl

theorem findReg_setReg_ne (l : List (Nat × Word)) (a b : Nat) (v d : Word) (h : b ≠ a) :
    findReg (setReg l a v d) b = findReg l b := by
  unfold setReg
  split
  · rw [findReg_filter l (fun x => x != a)]
    simp [h]
  · exact findReg_putReg_ne l a b v h

/-! ## Reading after writing -/

@[simp] theorem rd_wr_same (w : W) (a : Nat) (v : Word) : (w.wr a v).rd a = v := findReg_setReg_same ..

theorem rd_wr_ne (w : W) (a b : Nat) (v : Word) (h : b ≠ a) : (w.wr a v).rd b = w.rd b := by
  unfold rd wr; rw [findReg_setReg_ne _ _ _ _ _ h]

/-- Bringing a register up to date that is so changes nothing. -/
theorem upd_self (w : W) (a : Nat) (v : Word) (h : w.rd a = v) : w.upd a v = w := by
  unfold upd; rw [if_pos h]

theorem rd_wr (w : W) (a b : Nat) (v : Word) : (w.wr a v).rd b = if b = a then v else w.rd b := by
  by_cases h : b = a
  · subst h; simp
  · rw [rd_wr_ne _ _ _ _ h, if_neg h]

theorem rd_resetRegs (w : W) (lo hi b : Nat) :
    (w.resetRegs lo hi).rd b = if lo ≤ b ∧ b < hi then regReset b else w.rd b := by
  unfold rd resetRegs
  rw [findReg_filter w.regs (fun x => decide (x < lo ∨ hi ≤ x))]
  by_cases h : lo ≤ b ∧ b < hi
  · rw [if_pos h, if_neg (by simp; omega)]; rfl
  · rw [if_neg h, if_pos (by simp; omega)]

@[simp] theorem rdN_wrN_same (w : W) (a v : Nat) : (w.wrN a v).rdN a = v % 2 ^ 32 := by
  simp [rdN, wrN]

theorem rdN_wrN_ne (w : W) (a b v : Nat) (h : b ≠ a) : (w.wrN a v).rdN b = w.rdN b := by
  simp [rdN, wrN, rd_wr_ne _ _ _ _ h]

theorem rd_wrN (w : W) (a b v : Nat) : (w.wrN a v).rd b = if b = a then BitVec.ofNat 32 v else w.rd b := rd_wr ..

theorem rd_wrF (w : W) (a lo n x b : Nat) :
    (w.wrF a lo n x).rd b = if b = a then setFld (w.rd a) lo n x else w.rd b := rd_wr ..

theorem rd_wrB (w : W) (a i : Nat) (c : Bool) (b : Nat) :
    (w.wrB a i c).rd b = if b = a then setFld (w.rd a) i 1 (b2n c) else w.rd b := rd_wr ..

theorem rdF_wrF_same (w : W) (a lo n x : Nat) (h : lo + n ≤ 32) : (w.wrF a lo n x).rdF a lo n = x % 2 ^ n := by
  unfold rdF wrF; rw [rd_wr_same, fld_setFld _ _ _ _ h]

theorem rdF_wrF_apart (w : W) (a lo n x lo' n' : Nat) (h : lo + n ≤ 32) (hd : lo' + n' ≤ lo ∨ lo + n ≤ lo') :
    (w.wrF a lo n x).rdF a lo' n' = w.rdF a lo' n' := by
  unfold rdF wrF; rw [rd_wr_same, fld_setFld_ne _ _ _ _ _ _ h hd]

theorem rdB_wrB_same (w : W) (a i : Nat) (c : Bool) (h : i < 32) : (w.wrB a i c).rdB a i = c := by
  unfold rdB wrB wrF; rw [rd_wr_same, bit_setFld _ _ _ h, b2n_testBit]

theorem rdB_wrB_apart (w : W) (a i j : Nat) (c : Bool) (h : i < 32) (hd : j ≠ i) : (w.wrB a i c).rdB a j = w.rdB a j := by
  unfold rdB wrB wrF; rw [rd_wr_same, bit_setFld_ne _ _ _ _ _ (by omega) (by omega)]

end W
end Sys2Proof.Machine
end

