-- ==== Sys2Proof/Laws/State.lean ====
section
/-!
SUPPORT. What each primitive update leaves alone: one lemma per field and update.
-/
namespace Sys2Proof.Machine
namespace W

/-! ### wr -/

@[simp] theorem wr_tsc (w : W) (a : Nat) (v : Word) : (w.wr a v).tsc = w.tsc := rfl
@[simp] theorem wr_pwr (w : W) (a : Nat) (v : Word) : (w.wr a v).pwr = w.pwr := rfl
@[simp] theorem wr_evt (w : W) (a : Nat) (v : Word) : (w.wr a v).evt = w.evt := rfl
@[simp] theorem wr_recd (w : W) (a : Nat) (v : Word) : (w.wr a v).recd = w.recd := rfl
@[simp] theorem wr_hif (w : W) (a : Nat) (v : Word) : (w.wr a v).hif = w.hif := rfl
@[simp] theorem wr_rtc (w : W) (a : Nat) (v : Word) : (w.wr a v).rtc = w.rtc := rfl
@[simp] theorem wr_ax (w : W) (a : Nat) (v : Word) : (w.wr a v).ax = w.ax := rfl
@[simp] theorem wr_mot (w : W) (a : Nat) (v : Word) : (w.wr a v).mot = w.mot := rfl
@[simp] theorem wr_tw (w : W) (a : Nat) (v : Word) : (w.wr a v).tw = w.tw := rfl
@[simp] theorem wr_saf (w : W) (a : Nat) (v : Word) : (w.wr a v).saf = w.saf := rfl
@[simp] theorem wr_age (w : W) (a : Nat) (v : Word) : (w.wr a v).age = w.age := rfl
@[simp] theorem wr_mtr (w : W) (a : Nat) (v : Word) : (w.wr a v).mtr = w.mtr := rfl
@[simp] theorem wr_qty (w : W) (a : Nat) (v : Word) : (w.wr a v).qty = w.qty := rfl
@[simp] theorem wr_slv (w : W) (a : Nat) (v : Word) : (w.wr a v).slv = w.slv := rfl
@[simp] theorem wr_key (w : W) (a : Nat) (v : Word) : (w.wr a v).key = w.key := rfl
@[simp] theorem wr_tmp (w : W) (a : Nat) (v : Word) : (w.wr a v).tmp = w.tmp := rfl
@[simp] theorem wr_scan (w : W) (a : Nat) (v : Word) : (w.wr a v).scan = w.scan := rfl
@[simp] theorem wr_can (w : W) (a : Nat) (v : Word) : (w.wr a v).can = w.can := rfl
@[simp] theorem wr_jtag (w : W) (a : Nat) (v : Word) : (w.wr a v).jtag = w.jtag := rfl
@[simp] theorem wr_freeCtr (w : W) (a : Nat) (v : Word) : (w.wr a v).freeCtr = w.freeCtr := rfl
@[simp] theorem wr_wq (w : W) (a : Nat) (v : Word) : (w.wr a v).wq = w.wq := rfl

/-! ### wrN -/

@[simp] theorem wrN_tsc (w : W) (a v : Nat) : (w.wrN a v).tsc = w.tsc := rfl
@[simp] theorem wrN_pwr (w : W) (a v : Nat) : (w.wrN a v).pwr = w.pwr := rfl
@[simp] theorem wrN_evt (w : W) (a v : Nat) : (w.wrN a v).evt = w.evt := rfl
@[simp] theorem wrN_recd (w : W) (a v : Nat) : (w.wrN a v).recd = w.recd := rfl
@[simp] theorem wrN_hif (w : W) (a v : Nat) : (w.wrN a v).hif = w.hif := rfl
@[simp] theorem wrN_rtc (w : W) (a v : Nat) : (w.wrN a v).rtc = w.rtc := rfl
@[simp] theorem wrN_ax (w : W) (a v : Nat) : (w.wrN a v).ax = w.ax := rfl
@[simp] theorem wrN_mot (w : W) (a v : Nat) : (w.wrN a v).mot = w.mot := rfl
@[simp] theorem wrN_tw (w : W) (a v : Nat) : (w.wrN a v).tw = w.tw := rfl
@[simp] theorem wrN_saf (w : W) (a v : Nat) : (w.wrN a v).saf = w.saf := rfl
@[simp] theorem wrN_age (w : W) (a v : Nat) : (w.wrN a v).age = w.age := rfl
@[simp] theorem wrN_mtr (w : W) (a v : Nat) : (w.wrN a v).mtr = w.mtr := rfl
@[simp] theorem wrN_qty (w : W) (a v : Nat) : (w.wrN a v).qty = w.qty := rfl
@[simp] theorem wrN_slv (w : W) (a v : Nat) : (w.wrN a v).slv = w.slv := rfl
@[simp] theorem wrN_key (w : W) (a v : Nat) : (w.wrN a v).key = w.key := rfl
@[simp] theorem wrN_tmp (w : W) (a v : Nat) : (w.wrN a v).tmp = w.tmp := rfl
@[simp] theorem wrN_scan (w : W) (a v : Nat) : (w.wrN a v).scan = w.scan := rfl
@[simp] theorem wrN_can (w : W) (a v : Nat) : (w.wrN a v).can = w.can := rfl
@[simp] theorem wrN_jtag (w : W) (a v : Nat) : (w.wrN a v).jtag = w.jtag := rfl
@[simp] theorem wrN_freeCtr (w : W) (a v : Nat) : (w.wrN a v).freeCtr = w.freeCtr := rfl
@[simp] theorem wrN_wq (w : W) (a v : Nat) : (w.wrN a v).wq = w.wq := rfl

/-! ### wrF -/

@[simp] theorem wrF_tsc (w : W) (a lo n x : Nat) : (w.wrF a lo n x).tsc = w.tsc := rfl
@[simp] theorem wrF_pwr (w : W) (a lo n x : Nat) : (w.wrF a lo n x).pwr = w.pwr := rfl
@[simp] theorem wrF_evt (w : W) (a lo n x : Nat) : (w.wrF a lo n x).evt = w.evt := rfl
@[simp] theorem wrF_recd (w : W) (a lo n x : Nat) : (w.wrF a lo n x).recd = w.recd := rfl
@[simp] theorem wrF_hif (w : W) (a lo n x : Nat) : (w.wrF a lo n x).hif = w.hif := rfl
@[simp] theorem wrF_rtc (w : W) (a lo n x : Nat) : (w.wrF a lo n x).rtc = w.rtc := rfl
@[simp] theorem wrF_ax (w : W) (a lo n x : Nat) : (w.wrF a lo n x).ax = w.ax := rfl
@[simp] theorem wrF_mot (w : W) (a lo n x : Nat) : (w.wrF a lo n x).mot = w.mot := rfl
@[simp] theorem wrF_tw (w : W) (a lo n x : Nat) : (w.wrF a lo n x).tw = w.tw := rfl
@[simp] theorem wrF_saf (w : W) (a lo n x : Nat) : (w.wrF a lo n x).saf = w.saf := rfl
@[simp] theorem wrF_age (w : W) (a lo n x : Nat) : (w.wrF a lo n x).age = w.age := rfl
@[simp] theorem wrF_mtr (w : W) (a lo n x : Nat) : (w.wrF a lo n x).mtr = w.mtr := rfl
@[simp] theorem wrF_qty (w : W) (a lo n x : Nat) : (w.wrF a lo n x).qty = w.qty := rfl
@[simp] theorem wrF_slv (w : W) (a lo n x : Nat) : (w.wrF a lo n x).slv = w.slv := rfl
@[simp] theorem wrF_key (w : W) (a lo n x : Nat) : (w.wrF a lo n x).key = w.key := rfl
@[simp] theorem wrF_tmp (w : W) (a lo n x : Nat) : (w.wrF a lo n x).tmp = w.tmp := rfl
@[simp] theorem wrF_scan (w : W) (a lo n x : Nat) : (w.wrF a lo n x).scan = w.scan := rfl
@[simp] theorem wrF_can (w : W) (a lo n x : Nat) : (w.wrF a lo n x).can = w.can := rfl
@[simp] theorem wrF_jtag (w : W) (a lo n x : Nat) : (w.wrF a lo n x).jtag = w.jtag := rfl
@[simp] theorem wrF_freeCtr (w : W) (a lo n x : Nat) : (w.wrF a lo n x).freeCtr = w.freeCtr := rfl
@[simp] theorem wrF_wq (w : W) (a lo n x : Nat) : (w.wrF a lo n x).wq = w.wq := rfl

/-! ### wrB -/

@[simp] theorem wrB_tsc (w : W) (a i : Nat) (b : Bool) : (w.wrB a i b).tsc = w.tsc := rfl
@[simp] theorem wrB_pwr (w : W) (a i : Nat) (b : Bool) : (w.wrB a i b).pwr = w.pwr := rfl
@[simp] theorem wrB_evt (w : W) (a i : Nat) (b : Bool) : (w.wrB a i b).evt = w.evt := rfl
@[simp] theorem wrB_recd (w : W) (a i : Nat) (b : Bool) : (w.wrB a i b).recd = w.recd := rfl
@[simp] theorem wrB_hif (w : W) (a i : Nat) (b : Bool) : (w.wrB a i b).hif = w.hif := rfl
@[simp] theorem wrB_rtc (w : W) (a i : Nat) (b : Bool) : (w.wrB a i b).rtc = w.rtc := rfl
@[simp] theorem wrB_ax (w : W) (a i : Nat) (b : Bool) : (w.wrB a i b).ax = w.ax := rfl
@[simp] theorem wrB_mot (w : W) (a i : Nat) (b : Bool) : (w.wrB a i b).mot = w.mot := rfl
@[simp] theorem wrB_tw (w : W) (a i : Nat) (b : Bool) : (w.wrB a i b).tw = w.tw := rfl
@[simp] theorem wrB_saf (w : W) (a i : Nat) (b : Bool) : (w.wrB a i b).saf = w.saf := rfl
@[simp] theorem wrB_age (w : W) (a i : Nat) (b : Bool) : (w.wrB a i b).age = w.age := rfl
@[simp] theorem wrB_mtr (w : W) (a i : Nat) (b : Bool) : (w.wrB a i b).mtr = w.mtr := rfl
@[simp] theorem wrB_qty (w : W) (a i : Nat) (b : Bool) : (w.wrB a i b).qty = w.qty := rfl
@[simp] theorem wrB_slv (w : W) (a i : Nat) (b : Bool) : (w.wrB a i b).slv = w.slv := rfl
@[simp] theorem wrB_key (w : W) (a i : Nat) (b : Bool) : (w.wrB a i b).key = w.key := rfl
@[simp] theorem wrB_tmp (w : W) (a i : Nat) (b : Bool) : (w.wrB a i b).tmp = w.tmp := rfl
@[simp] theorem wrB_scan (w : W) (a i : Nat) (b : Bool) : (w.wrB a i b).scan = w.scan := rfl
@[simp] theorem wrB_can (w : W) (a i : Nat) (b : Bool) : (w.wrB a i b).can = w.can := rfl
@[simp] theorem wrB_jtag (w : W) (a i : Nat) (b : Bool) : (w.wrB a i b).jtag = w.jtag := rfl
@[simp] theorem wrB_freeCtr (w : W) (a i : Nat) (b : Bool) : (w.wrB a i b).freeCtr = w.freeCtr := rfl
@[simp] theorem wrB_wq (w : W) (a i : Nat) (b : Bool) : (w.wrB a i b).wq = w.wq := rfl

/-! ### inc -/

@[simp] theorem inc_tsc (w : W) (a : Nat) : (w.inc a).tsc = w.tsc := rfl
@[simp] theorem inc_pwr (w : W) (a : Nat) : (w.inc a).pwr = w.pwr := rfl
@[simp] theorem inc_evt (w : W) (a : Nat) : (w.inc a).evt = w.evt := rfl
@[simp] theorem inc_recd (w : W) (a : Nat) : (w.inc a).recd = w.recd := rfl
@[simp] theorem inc_hif (w : W) (a : Nat) : (w.inc a).hif = w.hif := rfl
@[simp] theorem inc_rtc (w : W) (a : Nat) : (w.inc a).rtc = w.rtc := rfl
@[simp] theorem inc_ax (w : W) (a : Nat) : (w.inc a).ax = w.ax := rfl
@[simp] theorem inc_mot (w : W) (a : Nat) : (w.inc a).mot = w.mot := rfl
@[simp] theorem inc_tw (w : W) (a : Nat) : (w.inc a).tw = w.tw := rfl
@[simp] theorem inc_saf (w : W) (a : Nat) : (w.inc a).saf = w.saf := rfl
@[simp] theorem inc_age (w : W) (a : Nat) : (w.inc a).age = w.age := rfl
@[simp] theorem inc_mtr (w : W) (a : Nat) : (w.inc a).mtr = w.mtr := rfl
@[simp] theorem inc_qty (w : W) (a : Nat) : (w.inc a).qty = w.qty := rfl
@[simp] theorem inc_slv (w : W) (a : Nat) : (w.inc a).slv = w.slv := rfl
@[simp] theorem inc_key (w : W) (a : Nat) : (w.inc a).key = w.key := rfl
@[simp] theorem inc_tmp (w : W) (a : Nat) : (w.inc a).tmp = w.tmp := rfl
@[simp] theorem inc_scan (w : W) (a : Nat) : (w.inc a).scan = w.scan := rfl
@[simp] theorem inc_can (w : W) (a : Nat) : (w.inc a).can = w.can := rfl
@[simp] theorem inc_jtag (w : W) (a : Nat) : (w.inc a).jtag = w.jtag := rfl
@[simp] theorem inc_freeCtr (w : W) (a : Nat) : (w.inc a).freeCtr = w.freeCtr := rfl
@[simp] theorem inc_wq (w : W) (a : Nat) : (w.inc a).wq = w.wq := rfl

/-! ### incSat -/

@[simp] theorem incSat_tsc (w : W) (a : Nat) : (w.incSat a).tsc = w.tsc := rfl
@[simp] theorem incSat_pwr (w : W) (a : Nat) : (w.incSat a).pwr = w.pwr := rfl
@[simp] theorem incSat_evt (w : W) (a : Nat) : (w.incSat a).evt = w.evt := rfl
@[simp] theorem incSat_recd (w : W) (a : Nat) : (w.incSat a).recd = w.recd := rfl
@[simp] theorem incSat_hif (w : W) (a : Nat) : (w.incSat a).hif = w.hif := rfl
@[simp] theorem incSat_rtc (w : W) (a : Nat) : (w.incSat a).rtc = w.rtc := rfl
@[simp] theorem incSat_ax (w : W) (a : Nat) : (w.incSat a).ax = w.ax := rfl
@[simp] theorem incSat_mot (w : W) (a : Nat) : (w.incSat a).mot = w.mot := rfl
@[simp] theorem incSat_tw (w : W) (a : Nat) : (w.incSat a).tw = w.tw := rfl
@[simp] theorem incSat_saf (w : W) (a : Nat) : (w.incSat a).saf = w.saf := rfl
@[simp] theorem incSat_age (w : W) (a : Nat) : (w.incSat a).age = w.age := rfl
@[simp] theorem incSat_mtr (w : W) (a : Nat) : (w.incSat a).mtr = w.mtr := rfl
@[simp] theorem incSat_qty (w : W) (a : Nat) : (w.incSat a).qty = w.qty := rfl
@[simp] theorem incSat_slv (w : W) (a : Nat) : (w.incSat a).slv = w.slv := rfl
@[simp] theorem incSat_key (w : W) (a : Nat) : (w.incSat a).key = w.key := rfl
@[simp] theorem incSat_tmp (w : W) (a : Nat) : (w.incSat a).tmp = w.tmp := rfl
@[simp] theorem incSat_scan (w : W) (a : Nat) : (w.incSat a).scan = w.scan := rfl
@[simp] theorem incSat_can (w : W) (a : Nat) : (w.incSat a).can = w.can := rfl
@[simp] theorem incSat_jtag (w : W) (a : Nat) : (w.incSat a).jtag = w.jtag := rfl
@[simp] theorem incSat_freeCtr (w : W) (a : Nat) : (w.incSat a).freeCtr = w.freeCtr := rfl
@[simp] theorem incSat_wq (w : W) (a : Nat) : (w.incSat a).wq = w.wq := rfl

/-! ### incSatF -/

@[simp] theorem incSatF_tsc (w : W) (a lo n : Nat) : (w.incSatF a lo n).tsc = w.tsc := rfl
@[simp] theorem incSatF_pwr (w : W) (a lo n : Nat) : (w.incSatF a lo n).pwr = w.pwr := rfl
@[simp] theorem incSatF_evt (w : W) (a lo n : Nat) : (w.incSatF a lo n).evt = w.evt := rfl
@[simp] theorem incSatF_recd (w : W) (a lo n : Nat) : (w.incSatF a lo n).recd = w.recd := rfl
@[simp] theorem incSatF_hif (w : W) (a lo n : Nat) : (w.incSatF a lo n).hif = w.hif := rfl
@[simp] theorem incSatF_rtc (w : W) (a lo n : Nat) : (w.incSatF a lo n).rtc = w.rtc := rfl
@[simp] theorem incSatF_ax (w : W) (a lo n : Nat) : (w.incSatF a lo n).ax = w.ax := rfl
@[simp] theorem incSatF_mot (w : W) (a lo n : Nat) : (w.incSatF a lo n).mot = w.mot := rfl
@[simp] theorem incSatF_tw (w : W) (a lo n : Nat) : (w.incSatF a lo n).tw = w.tw := rfl
@[simp] theorem incSatF_saf (w : W) (a lo n : Nat) : (w.incSatF a lo n).saf = w.saf := rfl
@[simp] theorem incSatF_age (w : W) (a lo n : Nat) : (w.incSatF a lo n).age = w.age := rfl
@[simp] theorem incSatF_mtr (w : W) (a lo n : Nat) : (w.incSatF a lo n).mtr = w.mtr := rfl
@[simp] theorem incSatF_qty (w : W) (a lo n : Nat) : (w.incSatF a lo n).qty = w.qty := rfl
@[simp] theorem incSatF_slv (w : W) (a lo n : Nat) : (w.incSatF a lo n).slv = w.slv := rfl
@[simp] theorem incSatF_key (w : W) (a lo n : Nat) : (w.incSatF a lo n).key = w.key := rfl
@[simp] theorem incSatF_tmp (w : W) (a lo n : Nat) : (w.incSatF a lo n).tmp = w.tmp := rfl
@[simp] theorem incSatF_scan (w : W) (a lo n : Nat) : (w.incSatF a lo n).scan = w.scan := rfl
@[simp] theorem incSatF_can (w : W) (a lo n : Nat) : (w.incSatF a lo n).can = w.can := rfl
@[simp] theorem incSatF_jtag (w : W) (a lo n : Nat) : (w.incSatF a lo n).jtag = w.jtag := rfl
@[simp] theorem incSatF_freeCtr (w : W) (a lo n : Nat) : (w.incSatF a lo n).freeCtr = w.freeCtr := rfl
@[simp] theorem incSatF_wq (w : W) (a lo n : Nat) : (w.incSatF a lo n).wq = w.wq := rfl

/-! ### wr64 -/

@[simp] theorem wr64_tsc (w : W) (a v : Nat) : (w.wr64 a v).tsc = w.tsc := rfl
@[simp] theorem wr64_pwr (w : W) (a v : Nat) : (w.wr64 a v).pwr = w.pwr := rfl
@[simp] theorem wr64_evt (w : W) (a v : Nat) : (w.wr64 a v).evt = w.evt := rfl
@[simp] theorem wr64_recd (w : W) (a v : Nat) : (w.wr64 a v).recd = w.recd := rfl
@[simp] theorem wr64_hif (w : W) (a v : Nat) : (w.wr64 a v).hif = w.hif := rfl
@[simp] theorem wr64_rtc (w : W) (a v : Nat) : (w.wr64 a v).rtc = w.rtc := rfl
@[simp] theorem wr64_ax (w : W) (a v : Nat) : (w.wr64 a v).ax = w.ax := rfl
@[simp] theorem wr64_mot (w : W) (a v : Nat) : (w.wr64 a v).mot = w.mot := rfl
@[simp] theorem wr64_tw (w : W) (a v : Nat) : (w.wr64 a v).tw = w.tw := rfl
@[simp] theorem wr64_saf (w : W) (a v : Nat) : (w.wr64 a v).saf = w.saf := rfl
@[simp] theorem wr64_age (w : W) (a v : Nat) : (w.wr64 a v).age = w.age := rfl
@[simp] theorem wr64_mtr (w : W) (a v : Nat) : (w.wr64 a v).mtr = w.mtr := rfl
@[simp] theorem wr64_qty (w : W) (a v : Nat) : (w.wr64 a v).qty = w.qty := rfl
@[simp] theorem wr64_slv (w : W) (a v : Nat) : (w.wr64 a v).slv = w.slv := rfl
@[simp] theorem wr64_key (w : W) (a v : Nat) : (w.wr64 a v).key = w.key := rfl
@[simp] theorem wr64_tmp (w : W) (a v : Nat) : (w.wr64 a v).tmp = w.tmp := rfl
@[simp] theorem wr64_scan (w : W) (a v : Nat) : (w.wr64 a v).scan = w.scan := rfl
@[simp] theorem wr64_can (w : W) (a v : Nat) : (w.wr64 a v).can = w.can := rfl
@[simp] theorem wr64_jtag (w : W) (a v : Nat) : (w.wr64 a v).jtag = w.jtag := rfl
@[simp] theorem wr64_freeCtr (w : W) (a v : Nat) : (w.wr64 a v).freeCtr = w.freeCtr := rfl
@[simp] theorem wr64_wq (w : W) (a v : Nat) : (w.wr64 a v).wq = w.wq := rfl

/-! ### resetRegs -/

@[simp] theorem resetRegs_tsc (w : W) (lo hi : Nat) : (w.resetRegs lo hi).tsc = w.tsc := rfl
@[simp] theorem resetRegs_pwr (w : W) (lo hi : Nat) : (w.resetRegs lo hi).pwr = w.pwr := rfl
@[simp] theorem resetRegs_evt (w : W) (lo hi : Nat) : (w.resetRegs lo hi).evt = w.evt := rfl
@[simp] theorem resetRegs_recd (w : W) (lo hi : Nat) : (w.resetRegs lo hi).recd = w.recd := rfl
@[simp] theorem resetRegs_hif (w : W) (lo hi : Nat) : (w.resetRegs lo hi).hif = w.hif := rfl
@[simp] theorem resetRegs_rtc (w : W) (lo hi : Nat) : (w.resetRegs lo hi).rtc = w.rtc := rfl
@[simp] theorem resetRegs_ax (w : W) (lo hi : Nat) : (w.resetRegs lo hi).ax = w.ax := rfl
@[simp] theorem resetRegs_mot (w : W) (lo hi : Nat) : (w.resetRegs lo hi).mot = w.mot := rfl
@[simp] theorem resetRegs_tw (w : W) (lo hi : Nat) : (w.resetRegs lo hi).tw = w.tw := rfl
@[simp] theorem resetRegs_saf (w : W) (lo hi : Nat) : (w.resetRegs lo hi).saf = w.saf := rfl
@[simp] theorem resetRegs_age (w : W) (lo hi : Nat) : (w.resetRegs lo hi).age = w.age := rfl
@[simp] theorem resetRegs_mtr (w : W) (lo hi : Nat) : (w.resetRegs lo hi).mtr = w.mtr := rfl
@[simp] theorem resetRegs_qty (w : W) (lo hi : Nat) : (w.resetRegs lo hi).qty = w.qty := rfl
@[simp] theorem resetRegs_slv (w : W) (lo hi : Nat) : (w.resetRegs lo hi).slv = w.slv := rfl
@[simp] theorem resetRegs_key (w : W) (lo hi : Nat) : (w.resetRegs lo hi).key = w.key := rfl
@[simp] theorem resetRegs_tmp (w : W) (lo hi : Nat) : (w.resetRegs lo hi).tmp = w.tmp := rfl
@[simp] theorem resetRegs_scan (w : W) (lo hi : Nat) : (w.resetRegs lo hi).scan = w.scan := rfl
@[simp] theorem resetRegs_can (w : W) (lo hi : Nat) : (w.resetRegs lo hi).can = w.can := rfl
@[simp] theorem resetRegs_jtag (w : W) (lo hi : Nat) : (w.resetRegs lo hi).jtag = w.jtag := rfl
@[simp] theorem resetRegs_freeCtr (w : W) (lo hi : Nat) : (w.resetRegs lo hi).freeCtr = w.freeCtr := rfl
@[simp] theorem resetRegs_wq (w : W) (lo hi : Nat) : (w.resetRegs lo hi).wq = w.wq := rfl

/-! ### setDom -/

@[simp] theorem setDom_tsc (w : W) (d v : Nat) : (w.setDom d v).tsc = w.tsc := rfl
@[simp] theorem setDom_pwr (w : W) (d v : Nat) : (w.setDom d v).pwr = w.pwr := rfl
@[simp] theorem setDom_evt (w : W) (d v : Nat) : (w.setDom d v).evt = w.evt := rfl
@[simp] theorem setDom_recd (w : W) (d v : Nat) : (w.setDom d v).recd = w.recd := rfl
@[simp] theorem setDom_hif (w : W) (d v : Nat) : (w.setDom d v).hif = w.hif := rfl
@[simp] theorem setDom_rtc (w : W) (d v : Nat) : (w.setDom d v).rtc = w.rtc := rfl
@[simp] theorem setDom_ax (w : W) (d v : Nat) : (w.setDom d v).ax = w.ax := rfl
@[simp] theorem setDom_mot (w : W) (d v : Nat) : (w.setDom d v).mot = w.mot := rfl
@[simp] theorem setDom_tw (w : W) (d v : Nat) : (w.setDom d v).tw = w.tw := rfl
@[simp] theorem setDom_saf (w : W) (d v : Nat) : (w.setDom d v).saf = w.saf := rfl
@[simp] theorem setDom_age (w : W) (d v : Nat) : (w.setDom d v).age = w.age := rfl
@[simp] theorem setDom_mtr (w : W) (d v : Nat) : (w.setDom d v).mtr = w.mtr := rfl
@[simp] theorem setDom_qty (w : W) (d v : Nat) : (w.setDom d v).qty = w.qty := rfl
@[simp] theorem setDom_slv (w : W) (d v : Nat) : (w.setDom d v).slv = w.slv := rfl
@[simp] theorem setDom_key (w : W) (d v : Nat) : (w.setDom d v).key = w.key := rfl
@[simp] theorem setDom_tmp (w : W) (d v : Nat) : (w.setDom d v).tmp = w.tmp := rfl
@[simp] theorem setDom_scan (w : W) (d v : Nat) : (w.setDom d v).scan = w.scan := rfl
@[simp] theorem setDom_can (w : W) (d v : Nat) : (w.setDom d v).can = w.can := rfl
@[simp] theorem setDom_jtag (w : W) (d v : Nat) : (w.setDom d v).jtag = w.jtag := rfl
@[simp] theorem setDom_freeCtr (w : W) (d v : Nat) : (w.setDom d v).freeCtr = w.freeCtr := rfl
@[simp] theorem setDom_wq (w : W) (d v : Nat) : (w.setDom d v).wq = w.wq := rfl

/-! ### upd -/

@[simp] theorem upd_tsc (w : W) (a : Nat) (v : Word) : (w.upd a v).tsc = w.tsc := by unfold upd; split <;> rfl
@[simp] theorem upd_pwr (w : W) (a : Nat) (v : Word) : (w.upd a v).pwr = w.pwr := by unfold upd; split <;> rfl
@[simp] theorem upd_evt (w : W) (a : Nat) (v : Word) : (w.upd a v).evt = w.evt := by unfold upd; split <;> rfl
@[simp] theorem upd_recd (w : W) (a : Nat) (v : Word) : (w.upd a v).recd = w.recd := by unfold upd; split <;> rfl
@[simp] theorem upd_hif (w : W) (a : Nat) (v : Word) : (w.upd a v).hif = w.hif := by unfold upd; split <;> rfl
@[simp] theorem upd_rtc (w : W) (a : Nat) (v : Word) : (w.upd a v).rtc = w.rtc := by unfold upd; split <;> rfl
@[simp] theorem upd_ax (w : W) (a : Nat) (v : Word) : (w.upd a v).ax = w.ax := by unfold upd; split <;> rfl
@[simp] theorem upd_mot (w : W) (a : Nat) (v : Word) : (w.upd a v).mot = w.mot := by unfold upd; split <;> rfl
@[simp] theorem upd_tw (w : W) (a : Nat) (v : Word) : (w.upd a v).tw = w.tw := by unfold upd; split <;> rfl
@[simp] theorem upd_saf (w : W) (a : Nat) (v : Word) : (w.upd a v).saf = w.saf := by unfold upd; split <;> rfl
@[simp] theorem upd_age (w : W) (a : Nat) (v : Word) : (w.upd a v).age = w.age := by unfold upd; split <;> rfl
@[simp] theorem upd_mtr (w : W) (a : Nat) (v : Word) : (w.upd a v).mtr = w.mtr := by unfold upd; split <;> rfl
@[simp] theorem upd_qty (w : W) (a : Nat) (v : Word) : (w.upd a v).qty = w.qty := by unfold upd; split <;> rfl
@[simp] theorem upd_slv (w : W) (a : Nat) (v : Word) : (w.upd a v).slv = w.slv := by unfold upd; split <;> rfl
@[simp] theorem upd_key (w : W) (a : Nat) (v : Word) : (w.upd a v).key = w.key := by unfold upd; split <;> rfl
@[simp] theorem upd_tmp (w : W) (a : Nat) (v : Word) : (w.upd a v).tmp = w.tmp := by unfold upd; split <;> rfl
@[simp] theorem upd_scan (w : W) (a : Nat) (v : Word) : (w.upd a v).scan = w.scan := by unfold upd; split <;> rfl
@[simp] theorem upd_can (w : W) (a : Nat) (v : Word) : (w.upd a v).can = w.can := by unfold upd; split <;> rfl
@[simp] theorem upd_jtag (w : W) (a : Nat) (v : Word) : (w.upd a v).jtag = w.jtag := by unfold upd; split <;> rfl
@[simp] theorem upd_freeCtr (w : W) (a : Nat) (v : Word) : (w.upd a v).freeCtr = w.freeCtr := by unfold upd; split <;> rfl
@[simp] theorem upd_wq (w : W) (a : Nat) (v : Word) : (w.upd a v).wq = w.wq := by unfold upd; split <;> rfl

/-! ### err -/

@[simp] theorem err_tsc (w : W) (p c : Nat) : (w.err p c).tsc = w.tsc := by unfold err; split <;> rfl
@[simp] theorem err_pwr (w : W) (p c : Nat) : (w.err p c).pwr = w.pwr := by unfold err; split <;> rfl
@[simp] theorem err_evt (w : W) (p c : Nat) : (w.err p c).evt = w.evt := by unfold err; split <;> rfl
@[simp] theorem err_recd (w : W) (p c : Nat) : (w.err p c).recd = w.recd := by unfold err; split <;> rfl
@[simp] theorem err_hif (w : W) (p c : Nat) : (w.err p c).hif = w.hif := by unfold err; split <;> rfl
@[simp] theorem err_rtc (w : W) (p c : Nat) : (w.err p c).rtc = w.rtc := by unfold err; split <;> rfl
@[simp] theorem err_ax (w : W) (p c : Nat) : (w.err p c).ax = w.ax := by unfold err; split <;> rfl
@[simp] theorem err_mot (w : W) (p c : Nat) : (w.err p c).mot = w.mot := by unfold err; split <;> rfl
@[simp] theorem err_tw (w : W) (p c : Nat) : (w.err p c).tw = w.tw := by unfold err; split <;> rfl
@[simp] theorem err_saf (w : W) (p c : Nat) : (w.err p c).saf = w.saf := by unfold err; split <;> rfl
@[simp] theorem err_age (w : W) (p c : Nat) : (w.err p c).age = w.age := by unfold err; split <;> rfl
@[simp] theorem err_mtr (w : W) (p c : Nat) : (w.err p c).mtr = w.mtr := by unfold err; split <;> rfl
@[simp] theorem err_qty (w : W) (p c : Nat) : (w.err p c).qty = w.qty := by unfold err; split <;> rfl
@[simp] theorem err_slv (w : W) (p c : Nat) : (w.err p c).slv = w.slv := by unfold err; split <;> rfl
@[simp] theorem err_key (w : W) (p c : Nat) : (w.err p c).key = w.key := by unfold err; split <;> rfl
@[simp] theorem err_tmp (w : W) (p c : Nat) : (w.err p c).tmp = w.tmp := by unfold err; split <;> rfl
@[simp] theorem err_scan (w : W) (p c : Nat) : (w.err p c).scan = w.scan := by unfold err; split <;> rfl
@[simp] theorem err_can (w : W) (p c : Nat) : (w.err p c).can = w.can := by unfold err; split <;> rfl
@[simp] theorem err_jtag (w : W) (p c : Nat) : (w.err p c).jtag = w.jtag := by unfold err; split <;> rfl
@[simp] theorem err_freeCtr (w : W) (p c : Nat) : (w.err p c).freeCtr = w.freeCtr := by unfold err; split <;> rfl
@[simp] theorem err_wq (w : W) (p c : Nat) : (w.err p c).wq = w.wq := by unfold err; split <;> rfl

/-! ### putBytes -/

@[simp] theorem putBytes_regs (w : W) (a : Nat) (d : List Byte) : (w.putBytes a d).regs = w.regs := by unfold putBytes; split <;> rfl
@[simp] theorem putBytes_tsc (w : W) (a : Nat) (d : List Byte) : (w.putBytes a d).tsc = w.tsc := by unfold putBytes; split <;> rfl
@[simp] theorem putBytes_pwr (w : W) (a : Nat) (d : List Byte) : (w.putBytes a d).pwr = w.pwr := by unfold putBytes; split <;> rfl
@[simp] theorem putBytes_evt (w : W) (a : Nat) (d : List Byte) : (w.putBytes a d).evt = w.evt := by unfold putBytes; split <;> rfl
@[simp] theorem putBytes_recd (w : W) (a : Nat) (d : List Byte) : (w.putBytes a d).recd = w.recd := by unfold putBytes; split <;> rfl
@[simp] theorem putBytes_hif (w : W) (a : Nat) (d : List Byte) : (w.putBytes a d).hif = w.hif := by unfold putBytes; split <;> rfl
@[simp] theorem putBytes_rtc (w : W) (a : Nat) (d : List Byte) : (w.putBytes a d).rtc = w.rtc := by unfold putBytes; split <;> rfl
@[simp] theorem putBytes_ax (w : W) (a : Nat) (d : List Byte) : (w.putBytes a d).ax = w.ax := by unfold putBytes; split <;> rfl
@[simp] theorem putBytes_mot (w : W) (a : Nat) (d : List Byte) : (w.putBytes a d).mot = w.mot := by unfold putBytes; split <;> rfl
@[simp] theorem putBytes_tw (w : W) (a : Nat) (d : List Byte) : (w.putBytes a d).tw = w.tw := by unfold putBytes; split <;> rfl
@[simp] theorem putBytes_saf (w : W) (a : Nat) (d : List Byte) : (w.putBytes a d).saf = w.saf := by unfold putBytes; split <;> rfl
@[simp] theorem putBytes_age (w : W) (a : Nat) (d : List Byte) : (w.putBytes a d).age = w.age := by unfold putBytes; split <;> rfl
@[simp] theorem putBytes_mtr (w : W) (a : Nat) (d : List Byte) : (w.putBytes a d).mtr = w.mtr := by unfold putBytes; split <;> rfl
@[simp] theorem putBytes_qty (w : W) (a : Nat) (d : List Byte) : (w.putBytes a d).qty = w.qty := by unfold putBytes; split <;> rfl
@[simp] theorem putBytes_slv (w : W) (a : Nat) (d : List Byte) : (w.putBytes a d).slv = w.slv := by unfold putBytes; split <;> rfl
@[simp] theorem putBytes_key (w : W) (a : Nat) (d : List Byte) : (w.putBytes a d).key = w.key := by unfold putBytes; split <;> rfl
@[simp] theorem putBytes_tmp (w : W) (a : Nat) (d : List Byte) : (w.putBytes a d).tmp = w.tmp := by unfold putBytes; split <;> rfl
@[simp] theorem putBytes_scan (w : W) (a : Nat) (d : List Byte) : (w.putBytes a d).scan = w.scan := by unfold putBytes; split <;> rfl
@[simp] theorem putBytes_can (w : W) (a : Nat) (d : List Byte) : (w.putBytes a d).can = w.can := by unfold putBytes; split <;> rfl
@[simp] theorem putBytes_jtag (w : W) (a : Nat) (d : List Byte) : (w.putBytes a d).jtag = w.jtag := by unfold putBytes; split <;> rfl
@[simp] theorem putBytes_freeCtr (w : W) (a : Nat) (d : List Byte) : (w.putBytes a d).freeCtr = w.freeCtr := by unfold putBytes; split <;> rfl

/-! ### put -/

@[simp] theorem put_regs (w : W) (a n v : Nat) : (w.put a n v).regs = w.regs := by unfold put putBytes; split <;> rfl
@[simp] theorem put_tsc (w : W) (a n v : Nat) : (w.put a n v).tsc = w.tsc := by unfold put putBytes; split <;> rfl
@[simp] theorem put_pwr (w : W) (a n v : Nat) : (w.put a n v).pwr = w.pwr := by unfold put putBytes; split <;> rfl
@[simp] theorem put_evt (w : W) (a n v : Nat) : (w.put a n v).evt = w.evt := by unfold put putBytes; split <;> rfl
@[simp] theorem put_recd (w : W) (a n v : Nat) : (w.put a n v).recd = w.recd := by unfold put putBytes; split <;> rfl
@[simp] theorem put_hif (w : W) (a n v : Nat) : (w.put a n v).hif = w.hif := by unfold put putBytes; split <;> rfl
@[simp] theorem put_rtc (w : W) (a n v : Nat) : (w.put a n v).rtc = w.rtc := by unfold put putBytes; split <;> rfl
@[simp] theorem put_ax (w : W) (a n v : Nat) : (w.put a n v).ax = w.ax := by unfold put putBytes; split <;> rfl
@[simp] theorem put_mot (w : W) (a n v : Nat) : (w.put a n v).mot = w.mot := by unfold put putBytes; split <;> rfl
@[simp] theorem put_tw (w : W) (a n v : Nat) : (w.put a n v).tw = w.tw := by unfold put putBytes; split <;> rfl
@[simp] theorem put_saf (w : W) (a n v : Nat) : (w.put a n v).saf = w.saf := by unfold put putBytes; split <;> rfl
@[simp] theorem put_age (w : W) (a n v : Nat) : (w.put a n v).age = w.age := by unfold put putBytes; split <;> rfl
@[simp] theorem put_mtr (w : W) (a n v : Nat) : (w.put a n v).mtr = w.mtr := by unfold put putBytes; split <;> rfl
@[simp] theorem put_qty (w : W) (a n v : Nat) : (w.put a n v).qty = w.qty := by unfold put putBytes; split <;> rfl
@[simp] theorem put_slv (w : W) (a n v : Nat) : (w.put a n v).slv = w.slv := by unfold put putBytes; split <;> rfl
@[simp] theorem put_key (w : W) (a n v : Nat) : (w.put a n v).key = w.key := by unfold put putBytes; split <;> rfl
@[simp] theorem put_tmp (w : W) (a n v : Nat) : (w.put a n v).tmp = w.tmp := by unfold put putBytes; split <;> rfl
@[simp] theorem put_scan (w : W) (a n v : Nat) : (w.put a n v).scan = w.scan := by unfold put putBytes; split <;> rfl
@[simp] theorem put_can (w : W) (a n v : Nat) : (w.put a n v).can = w.can := by unfold put putBytes; split <;> rfl
@[simp] theorem put_jtag (w : W) (a n v : Nat) : (w.put a n v).jtag = w.jtag := by unfold put putBytes; split <;> rfl
@[simp] theorem put_freeCtr (w : W) (a n v : Nat) : (w.put a n v).freeCtr = w.freeCtr := by unfold put putBytes; split <;> rfl

/-! ### undef -/

@[simp] theorem undef_regs (w : W) (a n : Nat) : (w.undef a n).regs = w.regs := by unfold undef; split <;> rfl
@[simp] theorem undef_tsc (w : W) (a n : Nat) : (w.undef a n).tsc = w.tsc := by unfold undef; split <;> rfl
@[simp] theorem undef_pwr (w : W) (a n : Nat) : (w.undef a n).pwr = w.pwr := by unfold undef; split <;> rfl
@[simp] theorem undef_evt (w : W) (a n : Nat) : (w.undef a n).evt = w.evt := by unfold undef; split <;> rfl
@[simp] theorem undef_recd (w : W) (a n : Nat) : (w.undef a n).recd = w.recd := by unfold undef; split <;> rfl
@[simp] theorem undef_hif (w : W) (a n : Nat) : (w.undef a n).hif = w.hif := by unfold undef; split <;> rfl
@[simp] theorem undef_rtc (w : W) (a n : Nat) : (w.undef a n).rtc = w.rtc := by unfold undef; split <;> rfl
@[simp] theorem undef_ax (w : W) (a n : Nat) : (w.undef a n).ax = w.ax := by unfold undef; split <;> rfl
@[simp] theorem undef_mot (w : W) (a n : Nat) : (w.undef a n).mot = w.mot := by unfold undef; split <;> rfl
@[simp] theorem undef_tw (w : W) (a n : Nat) : (w.undef a n).tw = w.tw := by unfold undef; split <;> rfl
@[simp] theorem undef_saf (w : W) (a n : Nat) : (w.undef a n).saf = w.saf := by unfold undef; split <;> rfl
@[simp] theorem undef_age (w : W) (a n : Nat) : (w.undef a n).age = w.age := by unfold undef; split <;> rfl
@[simp] theorem undef_mtr (w : W) (a n : Nat) : (w.undef a n).mtr = w.mtr := by unfold undef; split <;> rfl
@[simp] theorem undef_qty (w : W) (a n : Nat) : (w.undef a n).qty = w.qty := by unfold undef; split <;> rfl
@[simp] theorem undef_slv (w : W) (a n : Nat) : (w.undef a n).slv = w.slv := by unfold undef; split <;> rfl
@[simp] theorem undef_key (w : W) (a n : Nat) : (w.undef a n).key = w.key := by unfold undef; split <;> rfl
@[simp] theorem undef_tmp (w : W) (a n : Nat) : (w.undef a n).tmp = w.tmp := by unfold undef; split <;> rfl
@[simp] theorem undef_scan (w : W) (a n : Nat) : (w.undef a n).scan = w.scan := by unfold undef; split <;> rfl
@[simp] theorem undef_can (w : W) (a n : Nat) : (w.undef a n).can = w.can := by unfold undef; split <;> rfl
@[simp] theorem undef_jtag (w : W) (a n : Nat) : (w.undef a n).jtag = w.jtag := by unfold undef; split <;> rfl

/-! ### lose -/

@[simp] theorem lose_regs (w : W) (lo hi : Nat) : (w.lose lo hi).regs = w.regs := rfl
@[simp] theorem lose_tsc (w : W) (lo hi : Nat) : (w.lose lo hi).tsc = w.tsc := rfl
@[simp] theorem lose_pwr (w : W) (lo hi : Nat) : (w.lose lo hi).pwr = w.pwr := rfl
@[simp] theorem lose_evt (w : W) (lo hi : Nat) : (w.lose lo hi).evt = w.evt := rfl
@[simp] theorem lose_recd (w : W) (lo hi : Nat) : (w.lose lo hi).recd = w.recd := rfl
@[simp] theorem lose_hif (w : W) (lo hi : Nat) : (w.lose lo hi).hif = w.hif := rfl
@[simp] theorem lose_rtc (w : W) (lo hi : Nat) : (w.lose lo hi).rtc = w.rtc := rfl
@[simp] theorem lose_ax (w : W) (lo hi : Nat) : (w.lose lo hi).ax = w.ax := rfl
@[simp] theorem lose_mot (w : W) (lo hi : Nat) : (w.lose lo hi).mot = w.mot := rfl
@[simp] theorem lose_tw (w : W) (lo hi : Nat) : (w.lose lo hi).tw = w.tw := rfl
@[simp] theorem lose_saf (w : W) (lo hi : Nat) : (w.lose lo hi).saf = w.saf := rfl
@[simp] theorem lose_age (w : W) (lo hi : Nat) : (w.lose lo hi).age = w.age := rfl
@[simp] theorem lose_mtr (w : W) (lo hi : Nat) : (w.lose lo hi).mtr = w.mtr := rfl
@[simp] theorem lose_qty (w : W) (lo hi : Nat) : (w.lose lo hi).qty = w.qty := rfl
@[simp] theorem lose_slv (w : W) (lo hi : Nat) : (w.lose lo hi).slv = w.slv := rfl
@[simp] theorem lose_key (w : W) (lo hi : Nat) : (w.lose lo hi).key = w.key := rfl
@[simp] theorem lose_tmp (w : W) (lo hi : Nat) : (w.lose lo hi).tmp = w.tmp := rfl
@[simp] theorem lose_scan (w : W) (lo hi : Nat) : (w.lose lo hi).scan = w.scan := rfl
@[simp] theorem lose_can (w : W) (lo hi : Nat) : (w.lose lo hi).can = w.can := rfl
@[simp] theorem lose_jtag (w : W) (lo hi : Nat) : (w.lose lo hi).jtag = w.jtag := rfl
@[simp] theorem lose_freeCtr (w : W) (lo hi : Nat) : (w.lose lo hi).freeCtr = w.freeCtr := rfl

end W

/-! ### The working record at a command's begin, and the state at its end -/

@[simp] theorem begin_regs (s : State) : (begin_ s).regs = s.regs := rfl
@[simp] theorem begin_tsc (s : State) : (begin_ s).tsc = s.tsc := rfl
@[simp] theorem begin_pwr (s : State) : (begin_ s).pwr = s.pwr := rfl
@[simp] theorem begin_evt (s : State) : (begin_ s).evt = s.evt := rfl
@[simp] theorem begin_recd (s : State) : (begin_ s).recd = s.recd := rfl
@[simp] theorem begin_hif (s : State) : (begin_ s).hif = s.hif := rfl
@[simp] theorem begin_rtc (s : State) : (begin_ s).rtc = s.rtc := rfl
@[simp] theorem begin_ax (s : State) : (begin_ s).ax = s.ax := rfl
@[simp] theorem begin_mot (s : State) : (begin_ s).mot = s.mot := rfl
@[simp] theorem begin_tw (s : State) : (begin_ s).tw = s.tw := rfl
@[simp] theorem begin_saf (s : State) : (begin_ s).saf = s.saf := rfl
@[simp] theorem begin_age (s : State) : (begin_ s).age = s.age := rfl
@[simp] theorem begin_mtr (s : State) : (begin_ s).mtr = s.mtr := rfl
@[simp] theorem begin_qty (s : State) : (begin_ s).qty = s.qty := rfl
@[simp] theorem begin_slv (s : State) : (begin_ s).slv = s.slv := rfl
@[simp] theorem begin_key (s : State) : (begin_ s).key = s.key := rfl
@[simp] theorem begin_tmp (s : State) : (begin_ s).tmp = s.tmp := rfl
@[simp] theorem begin_scan (s : State) : (begin_ s).scan = s.scan := rfl
@[simp] theorem begin_can (s : State) : (begin_ s).can = s.can := rfl
@[simp] theorem begin_jtag (s : State) : (begin_ s).jtag = s.jtag := rfl
@[simp] theorem begin_freeCtr (s : State) : (begin_ s).freeCtr = s.freeCtr := rfl
@[simp] theorem begin_wq (s : State) : (begin_ s).wq = [] := rfl
@[simp] theorem commit_regs (s : State) (w : W) : (commit s w).regs = w.regs := rfl
@[simp] theorem commit_tsc (s : State) (w : W) : (commit s w).tsc = w.tsc := rfl
@[simp] theorem commit_pwr (s : State) (w : W) : (commit s w).pwr = w.pwr := rfl
@[simp] theorem commit_evt (s : State) (w : W) : (commit s w).evt = w.evt := rfl
@[simp] theorem commit_recd (s : State) (w : W) : (commit s w).recd = w.recd := rfl
@[simp] theorem commit_hif (s : State) (w : W) : (commit s w).hif = w.hif := rfl
@[simp] theorem commit_rtc (s : State) (w : W) : (commit s w).rtc = w.rtc := rfl
@[simp] theorem commit_ax (s : State) (w : W) : (commit s w).ax = w.ax := rfl
@[simp] theorem commit_mot (s : State) (w : W) : (commit s w).mot = w.mot := rfl
@[simp] theorem commit_tw (s : State) (w : W) : (commit s w).tw = w.tw := rfl
@[simp] theorem commit_saf (s : State) (w : W) : (commit s w).saf = w.saf := rfl
@[simp] theorem commit_age (s : State) (w : W) : (commit s w).age = w.age := rfl
@[simp] theorem commit_mtr (s : State) (w : W) : (commit s w).mtr = w.mtr := rfl
@[simp] theorem commit_qty (s : State) (w : W) : (commit s w).qty = w.qty := rfl
@[simp] theorem commit_slv (s : State) (w : W) : (commit s w).slv = w.slv := rfl
@[simp] theorem commit_key (s : State) (w : W) : (commit s w).key = w.key := rfl
@[simp] theorem commit_tmp (s : State) (w : W) : (commit s w).tmp = w.tmp := rfl
@[simp] theorem commit_scan (s : State) (w : W) : (commit s w).scan = w.scan := rfl
@[simp] theorem commit_can (s : State) (w : W) : (commit s w).can = w.can := rfl
@[simp] theorem commit_jtag (s : State) (w : W) : (commit s w).jtag = w.jtag := rfl
@[simp] theorem commit_freeCtr (s : State) (w : W) : (commit s w).freeCtr = w.freeCtr := rfl

end Sys2Proof.Machine
end

