-- ==== Sys2Proof/Laws/Settle.lean ====
section
/-!
SUPPORT. The evaluation at a command's end changes nothing in a record that agrees with a steady one on everything that it
watches.
-/
namespace Sys2Proof.Machine

/-- The registers that the evaluation looks at. -/
def watched (off : Nat) : Bool :=
  off % 0x1000 == 0x008 || [R.PWR_STATE, R.PWR_STATE_REQ, R.PWR_DOM_STAT, R.SYS_BOOT_STAT, R.SYS_STRAP, R.HIF_CFG,
    R.SLV_QSTAT, R.QP_SPLIT_STAT].contains off
  || (decide (R.LNK_Pp_CTRL 0 ≤ off ∧ off ≤ R.LNK_Pp_CTRL 3) && off % 64 == 0)
  || (off % 0x1000 == 0x044 && decide (0x0B ≤ off / 0x1000 ∧ off / 0x1000 ≤ 0x0E))
  || decide (R.SLV_ARM 0 ≤ off ∧ off ≤ R.SLV_ARM 7)

/-- Two records agree on everything that the evaluation watches. -/
structure SameWatch (w u : W) : Prop where
  regs : ∀ a, watched a = true → u.rd a = w.rd a
  held : u.pwr.held = w.pwr.held
  entry : u.pwr.lullEntry = w.pwr.lullEntry
  wakeHold : u.pwr.wakeHold = w.pwr.wakeHold
  array : u.pwr.slvArray = w.pwr.slvArray
  wait : u.pwr.pd4OffWait = w.pwr.pd4OffWait
  retry : u.pwr.ckptRetry = w.pwr.ckptRetry
  slv : u.slv = w.slv
  jobs : u.key.jobs = w.key.jobs
  slots : u.key.slots = w.key.slots
  perst : u.hif.perstN = w.hif.perstN
  l2 : u.hif.l2 = w.hif.l2
  hold : u.hif.qsHold = w.hif.qsHold
  hits : u.evt.armHits = w.evt.armHits
  ue : u.tw.sysUe = w.tw.sysUe
  deferred : u.age.deferred = w.age.deferred

theorem any_range {p q : Nat → Bool} {k : Nat} (h : ∀ n < k, p n = q n) : (List.range k).any p = (List.range k).any q := by
  rw [Bool.eq_iff_iff, List.any_eq_true, List.any_eq_true]
  constructor
  · rintro ⟨n, hn, hp⟩; exact ⟨n, hn, by rw [← h n (List.mem_range.mp hn)]; exact hp⟩
  · rintro ⟨n, hn, hp⟩; exact ⟨n, hn, by rw [h n (List.mem_range.mp hn)]; exact hp⟩

namespace SameWatch

theorem refl (w : W) : SameWatch w w := ⟨fun _ _ => rfl, rfl, rfl, rfl, rfl, rfl, rfl, rfl, rfl, rfl, rfl, rfl, rfl, rfl, rfl, rfl⟩

theorem wr {w u : W} (h : SameWatch w u) {a : Nat} {v : Word} (ha : watched a = false) : SameWatch w (u.wr a v) :=
  ⟨fun b hb => by rw [W.rd_wr_ne _ _ _ _ (by rintro rfl; simp [ha] at hb)]; exact h.regs b hb,
    h.held, h.entry, h.wakeHold, h.array, h.wait, h.retry, h.slv, h.jobs, h.slots, h.perst, h.l2, h.hold, h.hits, h.ue, h.deferred⟩

theorem wrN {w u : W} (h : SameWatch w u) {a v : Nat} (ha : watched a = false) : SameWatch w (u.wrN a v) := h.wr ha

theorem wrF {w u : W} (h : SameWatch w u) {a lo n x : Nat} (ha : watched a = false) : SameWatch w (u.wrF a lo n x) :=
  h.wr ha

theorem wrB {w u : W} (h : SameWatch w u) {a i : Nat} {b : Bool} (ha : watched a = false) : SameWatch w (u.wrB a i b) :=
  h.wr ha

theorem inc {w u : W} (h : SameWatch w u) {a : Nat} (ha : watched a = false) : SameWatch w (u.inc a) := h.wr ha

theorem incSat {w u : W} (h : SameWatch w u) {a : Nat} (ha : watched a = false) : SameWatch w (u.incSat a) := h.wr ha

theorem incSatF {w u : W} (h : SameWatch w u) {a lo n : Nat} (ha : watched a = false) : SameWatch w (u.incSatF a lo n) :=
  h.wr ha

theorem wr64 {w u : W} (h : SameWatch w u) {a v : Nat} (ha : watched a = false) (hb : watched (a + 4) = false) :
    SameWatch w (u.wr64 a v) := (h.wr ha).wr hb

theorem err {w u : W} (h : SameWatch w u) {p c : Nat} (ha : watched (R.H_ERR p) = false) : SameWatch w (u.err p c) := by
  unfold W.err; split
  · exact h
  · exact h.wr ha

theorem trans {w u v : W} (h : SameWatch w u) (k : SameWatch u v) : SameWatch w v :=
  ⟨fun a ha => (k.regs a ha).trans (h.regs a ha), k.held.trans h.held, k.entry.trans h.entry,
    k.wakeHold.trans h.wakeHold, k.array.trans h.array, k.wait.trans h.wait, k.retry.trans h.retry, k.slv.trans h.slv, k.jobs.trans h.jobs,
    k.slots.trans h.slots, k.perst.trans h.perst, k.l2.trans h.l2, k.hold.trans h.hold, k.hits.trans h.hits,
    k.ue.trans h.ue, k.deferred.trans h.deferred⟩

/-- Changes outside the watched fields: the bytes written, and every field that is not listed. -/
theorem of_eq {w u v : W} (h : SameWatch w u) (hr : v.regs = u.regs) (hp : v.pwr = u.pwr) (hs : v.slv = u.slv)
    (hj : v.key.jobs = u.key.jobs) (hk : v.key.slots = u.key.slots) (h1 : v.hif.perstN = u.hif.perstN)
    (h2 : v.hif.l2 = u.hif.l2) (h3 : v.hif.qsHold = u.hif.qsHold) (h4 : v.evt.armHits = u.evt.armHits)
    (h5 : v.tw.sysUe = u.tw.sysUe) (h6 : v.age.deferred = u.age.deferred) : SameWatch w v :=
  h.trans ⟨fun a _ => by unfold W.rd; rw [hr], by rw [hp], by rw [hp], by rw [hp], by rw [hp], by rw [hp], by rw [hp], hs, hj, hk, h1, h2, h3, h4, h5, h6⟩

/-- The hold-off of PD5 is not watched. -/
theorem holdoff {w u : W} (h : SameWatch w u) (b : Bool) : SameWatch w { u with pwr.holdoff := b } :=
  h.trans ⟨fun _ _ => rfl, rfl, rfl, rfl, rfl, rfl, rfl, rfl, rfl, rfl, rfl, rfl, rfl, rfl, rfl, rfl⟩

theorem rdB {w u : W} (h : SameWatch w u) {a i : Nat} (ha : watched a = true) : u.rdB a i = w.rdB a i := by
  unfold W.rdB; rw [h.regs a ha]

theorem rdF {w u : W} (h : SameWatch w u) {a lo n : Nat} (ha : watched a = true) : u.rdF a lo n = w.rdF a lo n := by
  unfold W.rdF; rw [h.regs a ha]

theorem dom {w u : W} (h : SameWatch w u) (d : Nat) : u.dom d = w.dom d := h.rdF (by decide)

theorem anyEn {w u : W} (h : SameWatch w u) (d : Nat) : u.anyEn d = w.anyEn d := by
  unfold W.anyEn
  congr 1
  funext p
  exact h.rdB (by simp [watched, R.H_CTRL])

theorem anyTask {w u : W} (h : SameWatch w u) : u.anyTask = w.anyTask := by
  unfold W.anyTask
  apply any_range
  intro n hn
  have : u.tstate n = w.tstate n := h.rdF (by
    simp only [watched, R.TASK_STATE]
    interval_cases n <;> decide)
  rw [this]

theorem portOn {w u : W} (h : SameWatch w u) : u.portOn = w.portOn := by
  unfold W.portOn
  apply any_range
  intro n hn
  exact h.rdB (by interval_cases n <;> decide)

theorem linkUp {w u : W} (h : SameWatch w u) : u.linkUp = w.linkUp := by
  unfold W.linkUp W.qspiSel
  rw [h.rdB (a := R.SYS_STRAP) (by decide), h.rdB (a := R.HIF_CFG) (by decide), h.perst, h.l2, h.hold]

theorem hasUser {w u : W} (h : SameWatch w u) (l : Bool) (d : Nat) : u.hasUser l d = w.hasUser l d := by
  unfold W.hasUser W.slvInFlight
  rw [h.anyTask, h.anyEn, h.anyEn, h.anyEn, h.anyEn, h.slv, h.jobs, h.slots, h.linkUp, h.portOn, h.wakeHold]

theorem released {w u : W} (h : SameWatch w u) : u.released = w.released := h.rdB (by decide)

theorem serving {w u : W} (h : SameWatch w u) : u.serving = w.serving := h.rdB (by decide)

theorem qstat {w u : W} (h : SameWatch w u) : Sys2Proof.qstat u = Sys2Proof.qstat w := by
  unfold Sys2Proof.qstat; simp only [h.slv, h.dom, h.array]

end SameWatch

end Sys2Proof.Machine

namespace Sys2Proof
open Machine

/-- A steady record stays steady when nothing that the evaluation watches changes. -/
theorem Steady.same {w u : W} (hs : Steady w) (h : SameWatch w u) : Steady u where
  held := by rw [h.held]; exact hs.held
  run := by unfold W.pstate; rw [h.rdF (by decide)]; exact hs.run
  noReq := by rw [h.rdF (by decide)]; exact hs.noReq
  noEntry := by rw [h.entry]; exact hs.noEntry
  noArm := fun a ha => by
    rw [h.rdB (by interval_cases a <;> decide)]
    exact hs.noArm a ha
  noHit := by rw [h.hits]; exact hs.noHit
  noUe := by rw [h.ue]; exact hs.noUe
  planner := by rw [h.deferred]; exact hs.planner
  queue := by rw [h.slv, h.serving]; exact hs.queue
  qstat := by rw [h.regs _ (by decide), h.qstat]; exact hs.qstat
  moving := by
    rw [h.rdB (by decide), hs.moving]
    congr 1
    funext d
    rw [h.dom]
  array := by rw [h.slv, h.dom, h.array]; exact hs.array
  domains := fun d hd => by
    have := hs.domains d hd
    unfold domainSettled at this ⊢
    rw [h.hasUser, h.dom, h.wait, h.retry, h.released]
    exact this

/-- The registers beside those that make a user which the evaluation looks at. -/
def watchedRest (off : Nat) : Bool :=
  [R.PWR_STATE, R.PWR_STATE_REQ, R.PWR_DOM_STAT, R.SYS_BOOT_STAT, R.SLV_QSTAT, R.QP_SPLIT_STAT].contains off
  || decide (R.SLV_ARM 0 ≤ off ∧ off ≤ R.SLV_ARM 7)

/-- Two records agree on who uses which domain, and on what else the evaluation watches. -/
structure SameUsers (w u : W) : Prop where
  regs : ∀ a, watchedRest a = true → u.rd a = w.rd a
  held : u.pwr.held = w.pwr.held
  entry : u.pwr.lullEntry = w.pwr.lullEntry
  array : u.pwr.slvArray = w.pwr.slvArray
  wait : u.pwr.pd4OffWait = w.pwr.pd4OffWait
  retry : u.pwr.ckptRetry = w.pwr.ckptRetry
  slv : u.slv = w.slv
  hits : u.evt.armHits = w.evt.armHits
  ue : u.tw.sysUe = w.tw.sysUe
  deferred : u.age.deferred = w.age.deferred
  users : ∀ d ∈ [4, 6, 7, 8, 9], u.hasUser true d = w.hasUser true d

/-- A steady record stays steady when the users of the domains stay. -/
theorem Steady.users {w u : W} (hs : Steady w) (h : SameUsers w u) : Steady u := by
  have rB : ∀ {a i}, watchedRest a = true → u.rdB a i = w.rdB a i := fun ha => by unfold W.rdB; rw [h.regs _ ha]
  have rF : ∀ {a lo n}, watchedRest a = true → u.rdF a lo n = w.rdF a lo n := fun ha => by unfold W.rdF; rw [h.regs _ ha]
  have hd : ∀ d, u.dom d = w.dom d := fun d => rF (by decide)
  exact {
    held := by rw [h.held]; exact hs.held
    run := by unfold W.pstate; rw [rF (by decide)]; exact hs.run
    noReq := by rw [rF (by decide)]; exact hs.noReq
    noEntry := by rw [h.entry]; exact hs.noEntry
    noArm := fun a ha => by
      rw [rB (by interval_cases a <;> decide)]
      exact hs.noArm a ha
    noHit := by rw [h.hits]; exact hs.noHit
    noUe := by rw [h.ue]; exact hs.noUe
    planner := by rw [h.deferred]; exact hs.planner
    queue := by
      have : u.serving = w.serving := rB (by decide)
      rw [h.slv, this]; exact hs.queue
    qstat := by
      have : Sys2Proof.qstat u = Sys2Proof.qstat w := by unfold Sys2Proof.qstat; simp only [h.slv, hd, h.array]
      rw [h.regs _ (by decide), this]; exact hs.qstat
    moving := by
      rw [rB (by decide), hs.moving]
      congr 1
      funext d
      rw [hd]
    array := by rw [h.slv, hd, h.array]; exact hs.array
    domains := fun d hm => by
      have := hs.domains d hm
      have hr : u.released = w.released := rB (by decide)
      unfold domainSettled at this ⊢
      rw [h.users d hm, hd, h.wait, h.retry, hr]
      exact this }

theorem Steady.kick {u : W} (h : Steady u) : u.slvKick = u := by
  have hq : u.slvSync = u := W.upd_self _ _ _ h.qstat
  unfold W.slvKick
  cases he : u.slv.exec with
  | some j => simpa [he] using hq
  | none =>
    cases hqu : u.slv.queue with
    | nil => simpa [he, hqu] using hq
    | cons j js =>
      have := h.queue
      simp [he, hqu] at this
      simpa [he, hqu, this] using hq

theorem Steady.demand5 {u : W} (h : Steady u) (he : u.slv.exec.isSome = true) : u.demand 5 = u := by
  unfold W.demand
  rcases h.array he with ⟨a, b⟩ | a
  · rw [if_pos (Or.inl ⟨a, Or.inr b⟩)]
  · rw [if_pos (Or.inr (Or.inl a))]

theorem Steady.domain {u : W} (h : Steady u) (m : Memory) (d : Nat) (hd : d ∈ [4, 6, 7, 8, 9]) :
    (if u.hasUser true d then
        let w := if d = 4 then { u with pwr.pd4OffWait := false, pwr.ckptRetry := false } else u
        if w.dom d = 0 then w.demand d else w
      else if u.dom d = 1 ∧ u.released = true ∧ (d = 6 → u.canClosing = false) then
        if d = 4 then (if u.pwr.pd4OffWait then u else ({ u with pwr.pd4OffWait := true }).ckptRequest false m)
        else u.pdOff d
      else u) = u := by
  have hh := h.domains d hd
  unfold domainSettled at hh
  split
  · rename_i hu
    rw [if_pos hu] at hh
    have e : (if d = 4 then { u with pwr.pd4OffWait := false, pwr.ckptRetry := false } else u) = u := by
      split
      · rename_i hd4
        obtain ⟨a, b⟩ := hh.2 hd4
        cases u with | mk dev wq => cases dev with | mk r t p => cases p; simp_all
      · rfl
    simp only [e, if_neg hh.1]
  · rename_i hu
    rw [if_neg hu] at hh
    split
    · rename_i hd1
      rcases hh hd1.1 with a | ⟨a, b⟩
      · simp [a] at hd1
      · simp [a, b]
    · rfl

theorem Steady.power {u : W} (h : Steady u) (m : Memory) : u.powerEval m = u := by
  unfold W.powerEval
  split
  · rfl
  · have e : (if (u.rdF R.PWR_STATE_REQ 0 2 != 0 && u.anyUser false) || (u.pwr.lullEntry && u.anyUser true) then u.abortEntry else u) = u := by
      rw [h.noReq, h.noEntry]; rfl
    have f : ∀ l : List Nat, (∀ d ∈ l, d ∈ [4, 6, 7, 8, 9]) → l.foldl (fun w d =>
        if w.hasUser true d then
          let w := if d = 4 then { w with pwr.pd4OffWait := false, pwr.ckptRetry := false } else w
          if w.dom d = 0 then w.demand d else w
        else if w.dom d = 1 ∧ w.released = true ∧ (d = 6 → w.canClosing = false) then
          if d = 4 then (if w.pwr.pd4OffWait then w else ({ w with pwr.pd4OffWait := true }).ckptRequest false m)
          else w.pdOff d
        else w) u = u := by
      intro l
      induction l with
      | nil => intro _; rfl
      | cons d t ih =>
        intro hl
        rw [List.foldl_cons, h.domain m d (hl d (by simp))]
        exact ih fun x hx => hl x (List.mem_cons_of_mem _ hx)
    simp only [e, f [4, 6, 7, 8, 9] (fun _ hd => hd)]
    split
    · rename_i he; exact h.demand5 he
    · rfl

/-- No task halts for a lost word when no word is lost (R459). -/
theorem taskUe_none {w u : W} (h : u.tw.sysUe = []) : W.taskUe w u = u := by
  unfold W.taskUe
  split
  · rfl
  · have f : ∀ l : List Nat, l.foldl (fun u n =>
        if u.tstate n == 2 && u.tw.sysUe.any (fun k => !w.tw.sysUe.contains k && (u.ownAreas n).any (overlaps (8 * k, 8)))
        then u.taskHalt n 3 5 else u) u = u := by
      intro l
      induction l with
      | nil => rfl
      | cons n t ih => simpa [h] using ih
    exact f _

/-- The evaluation changes nothing in a steady record. -/
theorem Steady.settle {u : W} (h : Steady u) (m : Memory) (w : W) : W.settle m w u = u := by
  unfold W.settle
  rw [taskUe_none h.noUe]
  dsimp only
  split
  · rfl
  · have e1 : u.sramSettle = u := by unfold W.sramSettle; rw [if_pos h.noUe]
    have e2 : W.settleRound m 3 u = u := by
      have : u.armSettle 4 = u := by unfold W.armSettle; rw [h.noHit]
      unfold W.settleRound
      rw [this, h.kick, h.power, if_pos h.noHit]
    have e3 : u.plannerDeferred = u := by unfold W.plannerDeferred; rw [h.planner]; rfl
    simp only [e1, e2, e3, ite_self]
    apply W.upd_self
    exact (setFld_self _ _ _ _ (by decide) (by
      have := h.moving
      unfold W.rdB at this
      rw [← this]
      unfold fld bit
      rw [Nat.testBit_eq_decide_div_mod_eq, Nat.shiftRight_eq_div_pow]
      have hlt : (u.rd R.PWR_STATE).toNat / 2 ^ 3 % 2 < 2 := Nat.mod_lt _ (by decide)
      generalize (u.rd R.PWR_STATE).toNat / 2 ^ 3 % 2 = k at *
      interval_cases k <;> simp)).symm

end Sys2Proof

namespace Sys2Proof.Machine

/-- A command whose effect `u` leaves alone what the evaluation watches ends in exactly that effect. -/
theorem run_steady {s : State} {f : Memory → W → W} {u : W} (hs : Steady (begin_ s)) (hf : f s.mem (begin_ s) = u)
    (h : SameWatch (begin_ s) u) : run f s = .next (commit s u) := by
  unfold run
  rw [hf, (hs.same h).settle]

/-- A command whose effect is a steady record ends in exactly that effect. -/
theorem run_settled {s : State} {f : Memory → W → W} {u : W} (hf : f s.mem (begin_ s) = u) (h : Steady u) :
    run f s = .next (commit s u) := by
  unfold run
  rw [hf, h.settle]

end Sys2Proof.Machine
end

