-- ==== Sys2Proof/Laws/Event.lean ====
section
/-!
SUPPORT. What raising an event can change: pending bits, EVTLAT, the latches and the recorder's queue, the messages and pins
of the host; in a device that is awake nothing of the power manager.
-/
namespace Sys2Proof
open Machine

namespace SameBlocks

theorem refl (w : W) : SameBlocks w w := ⟨rfl, rfl, rfl, rfl, rfl, rfl, rfl, rfl, rfl, rfl, rfl, rfl, rfl, rfl, rfl, rfl⟩

/-- A record whose register file, time-stamp counter, power manager, host interface, event latches and recorder may differ. -/
theorem shell {w u v : W} (h : SameBlocks w u) (k : { v with regs := u.regs, tsc := u.tsc, pwr := u.pwr, hif := u.hif, evt := u.evt, recd := u.recd } = u) :
    SameBlocks w v := by
  obtain ⟨h1, h2, h3, h4, h5, h6, h7, h8, h9, h10, h11, h12, h13, h14, h15, h16⟩ := h
  rw [← k] at h1 h2 h3 h4 h5 h6 h7 h8 h9 h10 h11 h12 h13 h14 h15 h16
  exact ⟨h1, h2, h3, h4, h5, h6, h7, h8, h9, h10, h11, h12, h13, h14, h15, h16⟩

theorem trans {w u v : W} (h : SameBlocks w u) (k : SameBlocks u v) : SameBlocks w v :=
  ⟨k.rtc.trans h.rtc, k.ax.trans h.ax, k.mot.trans h.mot, k.tw.trans h.tw, k.saf.trans h.saf, k.age.trans h.age, k.mtr.trans h.mtr,
    k.qty.trans h.qty, k.slv.trans h.slv, k.key.trans h.key, k.tmp.trans h.tmp, k.scan.trans h.scan, k.can.trans h.can,
    k.jtag.trans h.jtag, k.ctr.trans h.ctr, k.wq.trans h.wq⟩

theorem ite {w u v : W} {c : Prop} [Decidable c] (h : SameBlocks w u) (k : SameBlocks w v) :
    SameBlocks w (if c then u else v) := by split <;> assumption

theorem foldl {α : Type} {f : W → α → W} (hf : ∀ u x, SameBlocks u (f u x)) :
    ∀ (l : List α) (w : W), SameBlocks w (l.foldl f w)
  | [], w => refl w
  | x :: t, w => (hf w x).trans (foldl hf t (f w x))

theorem wr (w : W) (a : Nat) (v : Word) : SameBlocks w (w.wr a v) :=
  ⟨rfl, rfl, rfl, rfl, rfl, rfl, rfl, rfl, rfl, rfl, rfl, rfl, rfl, rfl, rfl, rfl⟩
theorem wrB (w : W) (a i : Nat) (b : Bool) : SameBlocks w (w.wrB a i b) := wr ..
theorem wrF (w : W) (a lo n x : Nat) : SameBlocks w (w.wrF a lo n x) := wr ..
theorem incSat (w : W) (a : Nat) : SameBlocks w (w.incSat a) := wr ..

theorem msixSend (w : W) (v : Nat) : SameBlocks w (w.msixSend v) := by
  unfold W.msixSend
  dsimp only
  repeat' split
  all_goals exact shell (refl w) rfl

theorem recClaim (w : W) (it : RecItem) : SameBlocks w (w.recClaim it).1 := by
  unfold W.recClaim
  dsimp only
  split
  · exact shell (refl w) rfl
  · refine trans ?_ (wrB _ _ _ _)
    exact shell (incSat w R.REC_LOST) rfl

theorem route {again : W → W} (ha : ∀ u, SameBlocks u (again u)) (w : W) (n : Nat) : SameBlocks w (W.route again w n) := by
  unfold W.route
  dsimp only
  refine trans ?_ (foldl (fun u t => ?_) _ _)
  · refine trans ?_ (foldl (fun u e => ?_) _ _)
    · exact trans (wrB w _ _ true) (ite (refl _) (foldl (fun u v => ite (msixSend u v) (refl u)) _ _))
    · exact ite (shell (refl u) rfl) (refl u)
  · refine ite ?_ (refl u)
    exact ite ((recClaim u _).trans (ha _)) (recClaim u _)

theorem armWatch (w : W) (n : Nat) : SameBlocks w (w.armWatch n) := by
  unfold W.armWatch; exact ite (shell (refl w) rfl) (refl w)

theorem occurN : ∀ (k : Nat) (e : Nat × Nat) (w : W), SameBlocks w (W.occurN k e w)
  | 0, _, w => refl w
  | k + 1, e, w => by
    unfold W.occurN
    dsimp only
    refine ite ((wrB w _ _ true).trans (ite (refl _) ?_)) (refl w)
    split
    · exact (armWatch _ _).trans (route (occurN k _) _ _)
    · exact refl _

theorem occur (w : W) (e : Nat × Nat) : SameBlocks w (w.occur e) := occurN 3 e w

theorem setPstate (w : W) (v : Nat) : SameBlocks w (w.setPstate v) := by
  unfold W.setPstate; exact ite (refl w) ((wrF w _ _ _ _).trans (occur _ _))

theorem startPllSys (w : W) : SameBlocks w w.startPllSys := by
  unfold W.startPllSys; exact ite (refl w) (shell (refl w) rfl)

theorem abortEntry (w : W) : SameBlocks w w.abortEntry := by
  unfold W.abortEntry
  refine ite (refl w) (trans ?_ ((incSat _ _).trans (occur _ _)))
  exact shell (wr w R.PWR_STATE_REQ 0) rfl

theorem setDom (w : W) (d v : Nat) : SameBlocks w (w.setDom d v) := wrF ..

theorem demand (w : W) (d : Nat) : SameBlocks w (w.demand d) := by
  unfold W.demand
  refine ite (refl w) ?_
  dsimp only
  refine trans ((abortEntry w).trans ((setPstate _ 0).trans (startPllSys _))) ?_
  refine trans ?_ ((setDom _ _ _).trans (wrB _ _ _ _))
  generalize ((w.abortEntry).setPstate 0).startPllSys = u
  exact ite (shell (refl u) rfl) (refl u)

theorem wakeHold (w : W) : SameBlocks w { w with pwr.wakeHold := true } := shell (refl w) rfl

theorem wake (w : W) : SameBlocks w w.wake := by
  unfold W.wake
  dsimp only
  refine trans (abortEntry w) ?_
  generalize w.abortEntry = w
  refine ite (refl _) ?_
  have hk : SameBlocks w (if (!w.qspiSel && w.rdB R.HIF_CFG 1 && !w.linkUp) = true then { w with hif.peWakeLow := true } else w) :=
    ite (shell (refl w) rfl) (refl w)
  refine trans hk ?_
  generalize (if (!w.qspiSel && w.rdB R.HIF_CFG 1 && !w.linkUp) = true then { w with hif.peWakeLow := true } else w) = u
  refine trans ?_ (demand _ 9)
  refine trans ?_ (wakeHold _)
  refine trans ?_ ((setPstate _ 0).trans (startPllSys _))
  split
  · refine trans ?_ ((wrB _ _ _ _).trans (setPstate _ 1))
    have h2 : SameBlocks u (if u.buckFaulted 2 = true then u else u.setDom 2 3) := ite (refl u) (setDom u 2 3)
    exact h2.trans (ite (refl _) (setDom _ 3 3))
  · exact refl _

theorem raise (w : W) (e : Nat × Nat) : SameBlocks w (w.raise e) := by
  unfold W.raise
  dsimp only
  split
  · exact (occur w e).trans (wake _)
  · exact occur w e

end SameBlocks

end Sys2Proof

namespace Sys2Proof.Machine

/-! ## Events in a device that is awake -/

/-- A record in which no wake has anything to do and no arm slot is enabled. -/
structure Awake (w : W) : Prop where
  run : w.pstate = 0
  noReq : w.rdF R.PWR_STATE_REQ 0 2 = 0
  noEntry : w.pwr.lullEntry = false
  noArm : ∀ a < 8, w.rdB (R.SLV_ARM a) 31 = false

theorem Awake.of_steady {w : W} (h : Steady w) : Awake w := ⟨h.run, h.noReq, h.noEntry, h.noArm⟩

theorem Awake.same {w u : W} (hs : Awake w) (h : SameWatch w u) : Awake u where
  run := by unfold W.pstate; rw [h.rdF (by decide)]; exact hs.run
  noReq := by rw [h.rdF (by decide)]; exact hs.noReq
  noEntry := by rw [h.entry]; exact hs.noEntry
  noArm := fun a ha => by rw [h.rdB (by interval_cases a <;> decide)]; exact hs.noArm a ha

namespace SameWatch

theorem ite {w u v : W} {c : Prop} [Decidable c] (h : SameWatch w u) (k : SameWatch w v) :
    SameWatch w (if c then u else v) := by split <;> assumption

theorem foldl {α : Type} {f : W → α → W} (hf : ∀ u x, SameWatch u (f u x)) :
    ∀ (l : List α) (w : W), SameWatch w (l.foldl f w)
  | [], w => refl w
  | x :: t, w => (hf w x).trans (foldl hf t (f w x))

/-- A record whose event latches beside the arm hits, recorder and messages may differ. -/
theorem shell (w : W) (h : HifSt) (e : EvtSt) (c : RecSt) (h1 : h.perstN = w.hif.perstN) (h2 : h.l2 = w.hif.l2)
    (h3 : h.qsHold = w.hif.qsHold) (h4 : e.armHits = w.evt.armHits) :
    SameWatch w { w with hif := h, evt := e, recd := c } :=
  (refl w).of_eq rfl rfl rfl rfl rfl h1 h2 h3 h4 rfl rfl

theorem msixSend (w : W) (v : Nat) : SameWatch w (w.msixSend v) := by
  unfold W.msixSend
  dsimp only
  repeat' split
  all_goals exact (refl w).of_eq rfl rfl rfl rfl rfl rfl rfl rfl rfl rfl rfl

theorem recClaim (w : W) (it : RecItem) : SameWatch w (w.recClaim it).1 := by
  unfold W.recClaim
  dsimp only
  split
  · exact (refl w).of_eq rfl rfl rfl rfl rfl rfl rfl rfl rfl rfl rfl
  · refine wrB (a := R.REC_STAT) ?_ (by decide)
    exact ((refl w).incSat (a := R.REC_LOST) (by decide)).of_eq rfl rfl rfl rfl rfl rfl rfl rfl rfl rfl rfl

theorem route {again : W → W} (ha : ∀ u, Awake u → SameWatch u (again u)) (w : W) (hw : Awake w) (n : Nat) (hn : n < 256) :
    SameWatch w (W.route again w n) := by
  unfold W.route
  dsimp only
  have h1 : SameWatch w (w.wrB (R.EVT_EVTLAT (n / 32)) (n % 32) true) := (refl w).wrB (by
    have : n / 32 < 8 := by omega
    generalize n / 32 = k at *
    interval_cases k <;> decide)
  have h2 := h1.trans (ite (refl _) (foldl (fun u v => ite (msixSend u v) (refl u)) (List.range 32) _)
    (c := w.rdB (R.EVT_EVTLAT (n / 32)) (n % 32) = true)
    (v := (List.range 32).foldl (fun u v => if u.rdB (R.EVT_VEC_MASK (8 * v + n / 32)) (n % 32) && !w.vecAsserted v then u.msixSend v else u) _))
  have h3 := h2.trans (foldl (f := fun w e =>
    if w.rdB (R.EVT_SE_MASK (8 * e + n / 32)) (n % 32) then
      { w with evt.seLatch := w.evt.seLatch.setIfInBounds e (w.evt.seLatch.getD e 0 ||| BitVec.ofNat 256 (2 ^ n)) }
    else w) (fun u e => ite (shell u _ _ _ rfl rfl rfl rfl) (refl u)) (List.range 4) _)
  refine h3.trans ?_
  generalize List.foldl _ _ (List.range 4) = u at h3
  have hu : Awake u := hw.same h3
  clear h1 h2 h3
  generalize List.range 64 = l
  induction l generalizing u with
  | nil => exact refl u
  | cons t l ih =>
    rw [List.foldl_cons]
    have hs : SameWatch u (if bit (u.rd (R.EVT_REC_SEL t)) 31 && fld (u.rd (R.EVT_REC_SEL t)) 0 8 == n && bit ((u.recd.trig.getD t {}).cfg) 0 then
        if (u.recClaim ⟨t, 0, [], none⟩).2 then again (u.recClaim ⟨t, 0, [], none⟩).1 else (u.recClaim ⟨t, 0, [], none⟩).1
      else u) :=
      ite (ite ((recClaim u _).trans (ha _ (hu.same (recClaim u _)))) (recClaim u _)) (refl u)
    exact hs.trans (ih _ (hu.same hs))

theorem armWatch {w : W} (h : Awake w) (n : Nat) : w.armWatch n = w := by
  unfold W.armWatch
  rw [if_neg]
  rw [List.any_eq_true]
  rintro ⟨a, ha, hb⟩
  simp [h.noArm a (List.mem_range.mp ha)] at hb

theorem watched_common {a : Nat} (h : 0xC ≤ a % 0x1000 ∧ a % 0x1000 < 0x40) : watched a = false := by
  unfold watched
  simp only [R.PWR_STATE, R.PWR_STATE_REQ, R.PWR_DOM_STAT, R.SYS_BOOT_STAT, R.SYS_STRAP, R.HIF_CFG, R.SLV_QSTAT,
    R.QP_SPLIT_STAT, R.LNK_Pp_CTRL, R.SLV_ARM, Bool.or_eq_false_iff, Bool.and_eq_false_iff, beq_eq_false_iff_ne, decide_eq_false_iff_not, ne_eq]
  refine ⟨⟨⟨⟨by omega, ?_⟩, ?_⟩, ?_⟩, ?_⟩
  · simp only [List.contains_eq_mem, decide_eq_false_iff_not, List.mem_cons, List.not_mem_nil, or_false]
    omega
  all_goals omega

theorem pend (w : W) (p i : Nat) (b : Bool) : SameWatch w (w.wrB (R.H_EVT_PEND p) i b) :=
  (refl w).wrB (watched_common (by unfold R.H_EVT_PEND; omega))

theorem globalEvent_lt {p b n : Nat} (h : globalEvent p b = some n) : n < 256 := by
  unfold globalEvent at h
  repeat' split at h
  all_goals first
    | cases h; done
    | (cases h; omega)

theorem occurN : ∀ (k : Nat) (e : Nat × Nat) (w : W), Awake w → SameWatch w (W.occurN k e w)
  | 0, _, w, _ => refl w
  | k + 1, e, w, hw => by
    unfold W.occurN
    dsimp only
    refine ite ((pend w e.1 e.2 true).trans ?_) (refl w)
    have hp := hw.same (pend w e.1 e.2 true)
    generalize w.wrB (R.H_EVT_PEND e.1) e.2 true = u at *
    refine ite (refl u) ?_
    split
    · rename_i n hn
      rw [armWatch hp]
      exact route (fun v hv => occurN k _ v hv) u hp n (globalEvent_lt hn)
    · exact refl u

/-- Raising an event in a device that is awake changes nothing that the evaluation watches. -/
theorem raise {w u : W} (h : SameWatch w u) (hw : Steady w) (e : Nat × Nat) : SameWatch w (u.raise e) := by
  refine h.trans ?_
  have hu := (Awake.of_steady hw).same h
  have ho := occurN 3 e u hu
  have hk : (u.occur e).wake = u.occur e := by
    have := hu.same ho
    unfold W.wake W.abortEntry
    simp [W.occur, this.noReq, this.noEntry, this.run]
  unfold W.raise
  dsimp only
  split
  · rw [hk]; exact ho
  · exact ho

end SameWatch

end Sys2Proof.Machine
end

