-- ==== Sys2Proof/Laws/Exec.lean ====
section
/-!
SUPPORT. Every command is one change of the working record, evaluated and committed.
-/
namespace Sys2Proof.Machine

/-- What every command does: a function of the memories and the working record, run to a next state. -/
theorem exec_runs (c : Instr) (s : State) : ∃ f, exec c s = run f s :=
  match c with
  | .registerWrite off len v x => ⟨_, (rfl : execRegisterWrite off len v x s = _)⟩
  | .registerPairRead off e => ⟨_, (rfl : execRegisterPairRead off e s = _)⟩
  | .registerPairWrite off v x => ⟨_, (rfl : execRegisterPairWrite off v x s = _)⟩
  | .hostBar2Write off d => ⟨_, (rfl : execHostBar2Write off d s = _)⟩
  | .hostBar4Write off d => ⟨_, (rfl : execHostBar4Write off d s = _)⟩
  | .hostMemRead bar off len e => ⟨_, (rfl : execHostMemRead bar off len e s = _)⟩
  | .domainRetentionExit => ⟨_, (rfl : execDomainRetentionExit s = _)⟩
  | .blockEnable pg x => ⟨_, (rfl : execBlockEnable pg x s = _)⟩
  | .blockDisable pg x => ⟨_, (rfl : execBlockDisable pg x s = _)⟩
  | .softReset pg en x => ⟨_, (rfl : execSoftReset pg en x s = _)⟩
  | .softResetDone pg => ⟨_, (rfl : execSoftResetDone pg s = _)⟩
  | .evtEnWrite pg v => ⟨_, (rfl : execEvtEnWrite pg v s = _)⟩
  | .evtPendClear pg v arriving => ⟨_, (rfl : execEvtPendClear pg v arriving s = _)⟩
  | .evtSet pg v => ⟨_, (rfl : execEvtSet pg v s = _)⟩
  | .evtlatClear k v arriving => ⟨_, (rfl : execEvtlatClear k v arriving s = _)⟩
  | .evtMaskWrite off v => ⟨_, (rfl : execEvtMaskWrite off v s = _)⟩
  | .lockKeyFirst pg => ⟨_, (rfl : execLockKeyFirst pg s = _)⟩
  | .lockKeySecond pg => ⟨_, (rfl : execLockKeySecond pg s = _)⟩
  | .lockOtherWrite pg v => ⟨_, (rfl : execLockOtherWrite pg v s = _)⟩
  | .unlockBudgetExpiry pg => ⟨_, (rfl : execUnlockBudgetExpiry pg s = _)⟩
  | .powerOnReset => ⟨_, (rfl : execPowerOnReset s = _)⟩
  | .brownOutReset => ⟨_, (rfl : execBrownOutReset s = _)⟩
  | .brownOutRelease => ⟨_, (rfl : execBrownOutRelease s = _)⟩
  | .externalReset => ⟨_, (rfl : execExternalReset s = _)⟩
  | .watchdogReset => ⟨_, (rfl : execWatchdogReset s = _)⟩
  | .wdtWarn => ⟨_, (rfl : execWdtWarn s = _)⟩
  | .softwareReset => ⟨_, (rfl : execSoftwareReset s = _)⟩
  | .startup x => ⟨_, (rfl : execStartup x s = _)⟩
  | .bootGo persist x => ⟨_, (rfl : execBootGo persist x s = _)⟩
  | .regFault b => ⟨_, (rfl : execRegFault b s = _)⟩
  | .xtmFail => ⟨_, (rfl : execXtmFail s = _)⟩
  | .lullEntry last => ⟨_, (rfl : execLullEntry last s = _)⟩
  | .stateReqNone => ⟨_, (rfl : execStateReqNone s = _)⟩
  | .stateReqReserved => ⟨_, (rfl : execStateReqReserved s = _)⟩
  | .deepLullRequest => ⟨_, (rfl : execDeepLullRequest s = _)⟩
  | .offRequest => ⟨_, (rfl : execOffRequest s = _)⟩
  | .offEntryComplete => ⟨_, (rfl : execOffEntryComplete s = _)⟩
  | .deepLullEntryComplete => ⟨_, (rfl : execDeepLullEntryComplete s = _)⟩
  | .wakeNLow => ⟨_, (rfl : execWakeNLow s = _)⟩
  | .wakeHoldExpiry => ⟨_, (rfl : execWakeHoldExpiry s = _)⟩
  | .gustComplete d rngOk siA siB x => ⟨_, (rfl : execGustComplete d rngOk siA siB x s = _)⟩
  | .pd5HoldoffExpiry => ⟨_, (rfl : execPd5HoldoffExpiry s = _)⟩
  | .earlyWarningAssert => ⟨_, (rfl : execEarlyWarningAssert s = _)⟩
  | .earlyWarningDeassert => ⟨_, (rfl : execEarlyWarningDeassert s = _)⟩
  | .ckptPeriodic => ⟨_, (rfl : execCkptPeriodic s = _)⟩
  | .ckptNow => ⟨_, (rfl : execCkptNow s = _)⟩
  | .ckptPeriodWrite v => ⟨_, (rfl : execCkptPeriodWrite v s = _)⟩
  | .ckptRetry => ⟨_, (rfl : execCkptRetry s = _)⟩
  | .ckptComplete ok => ⟨_, (rfl : execCkptComplete ok s = _)⟩
  | .roSample site nStressed nReference => ⟨_, (rfl : execRoSample site nStressed nReference s = _)⟩
  | .xtalMeasure dev => ⟨_, (rfl : execXtalMeasure dev s = _)⟩
  | .plannerRunScheduled c steps bySet => ⟨_, (rfl : execPlannerRunScheduled c steps bySet s = _)⟩
  | .plannerRunTsc c steps => ⟨_, (rfl : execPlannerRunTsc c steps s = _)⟩
  | .plannerRunNow c steps => ⟨_, (rfl : execPlannerRunNow c steps s = _)⟩
  | .remapComplete ces ues => ⟨_, (rfl : execRemapComplete ces ues s = _)⟩
  | .wcntFlush => ⟨_, (rfl : execWcntFlush s = _)⟩
  | .sramScrubPass ces ues => ⟨_, (rfl : execSramScrubPass ces ues s = _)⟩
  | .mramScrubPass ces ues => ⟨_, (rfl : execMramScrubPass ces ues s = _)⟩
  | .selfTest => ⟨_, (rfl : execSelfTest s = _)⟩
  | .meterOutputPeriod vin ext slice => ⟨_, (rfl : execMeterOutputPeriod vin ext slice s = _)⟩
  | .correctionBlockEnd ch => ⟨_, (rfl : execCorrectionBlockEnd ch s = _)⟩
  | .corrCommit v => ⟨_, (rfl : execCorrCommit v s = _)⟩
  | .trackerWindowEnd t => ⟨_, (rfl : execTrackerWindowEnd t s = _)⟩
  | .captBlock => ⟨_, (rfl : execCaptBlock s = _)⟩
  | .rtdSlotEnd k vs vr vref compliance => ⟨_, (rfl : execRtdSlotEnd k vs vr vref compliance s = _)⟩
  | .rtdDone za zb zref => ⟨_, (rfl : execRtdDone za zb zref s = _)⟩
  | .pulseEdgeAccepted n level accepted sample => ⟨_, (rfl : execPulseEdgeAccepted n level accepted sample s = _)⟩
  | .electricalStepEnd => ⟨_, (rfl : execElectricalStepEnd s = _)⟩
  | .hostFlowInWrite h v => ⟨_, (rfl : execHostFlowInWrite h v s = _)⟩
  | .preset slot => ⟨_, (rfl : execPreset slot s = _)⟩
  | .freezeNow => ⟨_, (rfl : execFreezeNow s = _)⟩
  | .freezePeriodic => ⟨_, (rfl : execFreezePeriodic s = _)⟩
  | .freezeDone => ⟨_, (rfl : execFreezeDone s = _)⟩
  | .intvEnd => ⟨_, (rfl : execIntvEnd s = _)⟩
  | .rollClear slot => ⟨_, (rfl : execRollClear slot s = _)⟩
  | .maxdemReset v => ⟨_, (rfl : execMaxdemReset v s = _)⟩
  | .storePeriodic => ⟨_, (rfl : execStorePeriodic s = _)⟩
  | .storeNow => ⟨_, (rfl : execStoreNow s = _)⟩
  | .storeComplete ok => ⟨_, (rfl : execStoreComplete ok s = _)⟩
  | .harmonicWindowEnd => ⟨_, (rfl : execHarmonicWindowEnd s = _)⟩
  | .hrmDone => ⟨_, (rfl : execHrmDone s = _)⟩
  | .slvRingDoorbell k x => ⟨_, (rfl : execSlvRingDoorbell k x s = _)⟩
  | .armEvent n => ⟨_, (rfl : execArmEvent n s = _)⟩
  | .armSlotEnable a v => ⟨_, (rfl : execArmSlotEnable a v s = _)⟩
  | .jobStart partners waited ces ues time => ⟨_, (rfl : execJobStart partners waited ces ues time s = _)⟩
  | .jobComplete coupling creg => ⟨_, (rfl : execJobComplete coupling creg s = _)⟩
  | .jobTimeout iter => ⟨_, (rfl : execJobTimeout iter s = _)⟩
  | .splitServeRequest x => ⟨_, (rfl : execSplitServeRequest x s = _)⟩
  | .splitMessage off data => ⟨_, (rfl : execSplitMessage off data s = _)⟩
  | .splitTimeout dropped => ⟨_, (rfl : execSplitTimeout dropped s = _)⟩
  | .splitServeEnd => ⟨_, (rfl : execSplitServeEnd s = _)⟩
  | .cycleLatch n c1 c2 ces ues => ⟨_, (rfl : execCycleLatch n c1 c2 ces ues s = _)⟩
  | .triadWaitExpiry n => ⟨_, (rfl : execTriadWaitExpiry n s = _)⟩
  | .taskWatchdog n => ⟨_, (rfl : execTaskWatchdog n s = _)⟩
  | .startWarm n edge sub => ⟨_, (rfl : execStartWarm n edge sub s = _)⟩
  | .startCold n edge sub => ⟨_, (rfl : execStartCold n edge sub s = _)⟩
  | .taskStop n => ⟨_, (rfl : execTaskStop n s = _)⟩
  | .clearFault n => ⟨_, (rfl : execClearFault n s = _)⟩
  | .gpioInputAccept ix level => ⟨_, (rfl : execGpioInputAccept ix level s = _)⟩
  | .gpioOutWrite v => ⟨_, (rfl : execGpioOutWrite v s = _)⟩
  | .gpioOutSet v => ⟨_, (rfl : execGpioOutSet v s = _)⟩
  | .gpioOutClr v => ⟨_, (rfl : execGpioOutClr v s = _)⟩
  | .stationUpdate ix => ⟨_, (rfl : execStationUpdate ix s = _)⟩
  | .stationWindowTimeout ix => ⟨_, (rfl : execStationWindowTimeout ix s = _)⟩
  | .forceEntryWrite ix v => ⟨_, (rfl : execForceEntryWrite ix v s = _)⟩
  | .forceClearAll => ⟨_, (rfl : execForceClearAll s = _)⟩
  | .forceClearOrphans => ⟨_, (rfl : execForceClearOrphans s = _)⟩
  | .onlineChange bank x => ⟨_, (rfl : execOnlineChange bank x s = _)⟩
  | .bzNop e => ⟨_, (rfl : execBzNop e s = _)⟩
  | .bzCend e d3 d4 current c1 c2 => ⟨_, (rfl : execBzCend e d3 d4 current c1 c2 s = _)⟩
  | .bzRet e => ⟨_, (rfl : execBzRet e s = _)⟩
  | .bzMff e d => ⟨_, (rfl : execBzMff e d s = _)⟩
  | .bzMtf e a => ⟨_, (rfl : execBzMtf e a s = _)⟩
  | .bzSel e d a b c => ⟨_, (rfl : execBzSel e d a b c s = _)⟩
  | .bzSetc e d c => ⟨_, (rfl : execBzSetc e d c s = _)⟩
  | .bzAdd e d a b => ⟨_, (rfl : execBzAdd e d a b s = _)⟩
  | .bzSub e d a b => ⟨_, (rfl : execBzSub e d a b s = _)⟩
  | .bzMul e d a b => ⟨_, (rfl : execBzMul e d a b s = _)⟩
  | .bzMulh e d a b => ⟨_, (rfl : execBzMulh e d a b s = _)⟩
  | .bzDiv e d a b => ⟨_, (rfl : execBzDiv e d a b s = _)⟩
  | .bzDivu e d a b => ⟨_, (rfl : execBzDivu e d a b s = _)⟩
  | .bzRem e d a b => ⟨_, (rfl : execBzRem e d a b s = _)⟩
  | .bzCmp e a b => ⟨_, (rfl : execBzCmp e a b s = _)⟩
  | .bzAnd e d a b => ⟨_, (rfl : execBzAnd e d a b s = _)⟩
  | .bzOr e d a b => ⟨_, (rfl : execBzOr e d a b s = _)⟩
  | .bzXor e d a b => ⟨_, (rfl : execBzXor e d a b s = _)⟩
  | .bzShl e d a b => ⟨_, (rfl : execBzShl e d a b s = _)⟩
  | .bzShr e d a b => ⟨_, (rfl : execBzShr e d a b s = _)⟩
  | .bzSar e d a b => ⟨_, (rfl : execBzSar e d a b s = _)⟩
  | .bzMin e d a b => ⟨_, (rfl : execBzMin e d a b s = _)⟩
  | .bzMax e d a b => ⟨_, (rfl : execBzMax e d a b s = _)⟩
  | .bzAbs e d a => ⟨_, (rfl : execBzAbs e d a s = _)⟩
  | .bzNeg e d a => ⟨_, (rfl : execBzNeg e d a s = _)⟩
  | .bzMadd e d a b x => ⟨_, (rfl : execBzMadd e d a b x s = _)⟩
  | .bzTst e a b => ⟨_, (rfl : execBzTst e a b s = _)⟩
  | .bzMovi e d imm => ⟨_, (rfl : execBzMovi e d imm s = _)⟩
  | .bzIns e d a imm => ⟨_, (rfl : execBzIns e d a imm s = _)⟩
  | .bzAddi e d a imm => ⟨_, (rfl : execBzAddi e d a imm s = _)⟩
  | .bzCmpi e a imm => ⟨_, (rfl : execBzCmpi e a imm s = _)⟩
  | .bzAndi e d a imm => ⟨_, (rfl : execBzAndi e d a imm s = _)⟩
  | .bzOri e d a imm => ⟨_, (rfl : execBzOri e d a imm s = _)⟩
  | .bzXori e d a imm => ⟨_, (rfl : execBzXori e d a imm s = _)⟩
  | .bzShli e d a imm => ⟨_, (rfl : execBzShli e d a imm s = _)⟩
  | .bzShri e d a imm => ⟨_, (rfl : execBzShri e d a imm s = _)⟩
  | .bzSari e d a imm => ⟨_, (rfl : execBzSari e d a imm s = _)⟩
  | .bzExtu e d a imm => ⟨_, (rfl : execBzExtu e d a imm s = _)⟩
  | .bzExts e d a imm => ⟨_, (rfl : execBzExts e d a imm s = _)⟩
  | .bzDep e d a imm => ⟨_, (rfl : execBzDep e d a imm s = _)⟩
  | .bzFadd e d a b => ⟨_, (rfl : execBzFadd e d a b s = _)⟩
  | .bzFsub e d a b => ⟨_, (rfl : execBzFsub e d a b s = _)⟩
  | .bzFmul e d a b => ⟨_, (rfl : execBzFmul e d a b s = _)⟩
  | .bzFdiv e d a b => ⟨_, (rfl : execBzFdiv e d a b s = _)⟩
  | .bzFma e d a b x => ⟨_, (rfl : execBzFma e d a b x s = _)⟩
  | .bzFsqrt e d a => ⟨_, (rfl : execBzFsqrt e d a s = _)⟩
  | .bzFmin e d a b => ⟨_, (rfl : execBzFmin e d a b s = _)⟩
  | .bzFmax e d a b => ⟨_, (rfl : execBzFmax e d a b s = _)⟩
  | .bzFabs e d a => ⟨_, (rfl : execBzFabs e d a s = _)⟩
  | .bzFneg e d a => ⟨_, (rfl : execBzFneg e d a s = _)⟩
  | .bzFcmp e a b => ⟨_, (rfl : execBzFcmp e a b s = _)⟩
  | .bzItof e d a => ⟨_, (rfl : execBzItof e d a s = _)⟩
  | .bzFtoi e d a => ⟨_, (rfl : execBzFtoi e d a s = _)⟩
  | .bzFtoit e d a => ⟨_, (rfl : execBzFtoit e d a s = _)⟩
  | .bzFclamp e d a b x => ⟨_, (rfl : execBzFclamp e d a b x s = _)⟩
  | .bzLd e sp ty d base off ev => ⟨_, (rfl : execBzLd e sp ty d base off ev s = _)⟩
  | .bzLdx e sp d base off ev => ⟨_, (rfl : execBzLdx e sp d base off ev s = _)⟩
  | .bzSt e sp ty d base off ev => ⟨_, (rfl : execBzSt e sp ty d base off ev s = _)⟩
  | .bzB e c off => ⟨_, (rfl : execBzB e c off s = _)⟩
  | .bzCall e off => ⟨_, (rfl : execBzCall e off s = _)⟩
  | .fbTon e r d a b x ev => ⟨_, (rfl : execFbTon e r d a b x ev s = _)⟩
  | .fbTof e r d a b x ev => ⟨_, (rfl : execFbTof e r d a b x ev s = _)⟩
  | .fbTp e r d a b x ev => ⟨_, (rfl : execFbTp e r d a b x ev s = _)⟩
  | .fbCtu e r d a b x ev => ⟨_, (rfl : execFbCtu e r d a b x ev s = _)⟩
  | .fbCtd e r d a b x ev => ⟨_, (rfl : execFbCtd e r d a b x ev s = _)⟩
  | .fbCtud e r d a b x ev => ⟨_, (rfl : execFbCtud e r d a b x ev s = _)⟩
  | .fbRTrig e r d a b x ev => ⟨_, (rfl : execFbRTrig e r d a b x ev s = _)⟩
  | .fbFTrig e r d a b x ev => ⟨_, (rfl : execFbFTrig e r d a b x ev s = _)⟩
  | .fbPid e r d a b x ev => ⟨_, (rfl : execFbPid e r d a b x ev s = _)⟩
  | .fbLim e r d a b x ev => ⟨_, (rfl : execFbLim e r d a b x ev s = _)⟩
  | .sysTscNow e d a => ⟨_, (rfl : execSysTscNow e d a s = _)⟩
  | .sysRtcRead e d a sub => ⟨_, (rfl : execSysRtcRead e d a sub s = _)⟩
  | .sysRegRead e d a => ⟨_, (rfl : execSysRegRead e d a s = _)⟩
  | .sysSlvSubmit e d a => ⟨_, (rfl : execSysSlvSubmit e d a s = _)⟩
  | .sysSlvStatus e d a x => ⟨_, (rfl : execSysSlvStatus e d a x s = _)⟩
  | .sysSlvRead e d a x => ⟨_, (rfl : execSysSlvRead e d a x s = _)⟩
  | .sysSlvWrite e d a ev => ⟨_, (rfl : execSysSlvWrite e d a ev s = _)⟩
  | .sysCanSend e d a ev => ⟨_, (rfl : execSysCanSend e d a ev s = _)⟩
  | .sysCanRecv e d a => ⟨_, (rfl : execSysCanRecv e d a s = _)⟩
  | .sysCanStat e d a => ⟨_, (rfl : execSysCanStat e d a s = _)⟩
  | .sysAxCmd e d a => ⟨_, (rfl : execSysAxCmd e d a s = _)⟩
  | .sysAxStat e d a => ⟨_, (rfl : execSysAxStat e d a s = _)⟩
  | .sysQtyRead e d a => ⟨_, (rfl : execSysQtyRead e d a s = _)⟩
  | .sysQtyFreeze e d a => ⟨_, (rfl : execSysQtyFreeze e d a s = _)⟩
  | .sysFlowIn e d a => ⟨_, (rfl : execSysFlowIn e d a s = _)⟩
  | .sysRecTrig e d a => ⟨_, (rfl : execSysRecTrig e d a s = _)⟩
  | .sysSafReq e d a => ⟨_, (rfl : execSysSafReq e d a s = _)⟩
  | .sysSafStat e d a => ⟨_, (rfl : execSysSafStat e d a s = _)⟩
  | .sysKeySubmit e d a ev => ⟨_, (rfl : execSysKeySubmit e d a ev s = _)⟩
  | .sysKeyPoll e d a => ⟨_, (rfl : execSysKeyPoll e d a s = _)⟩
  | .sysKeyRandom e d a => ⟨_, (rfl : execSysKeyRandom e d a s = _)⟩
  | .canIntegrationDone n => ⟨_, (rfl : execCanIntegrationDone n s = _)⟩
  | .canDisableDone n => ⟨_, (rfl : execCanDisableDone n s = _)⟩
  | .canTxRequest n b => ⟨_, (rfl : execCanTxRequest n b s = _)⟩
  | .canTxAbort n b => ⟨_, (rfl : execCanTxAbort n b s = _)⟩
  | .canMailboxWrite n k v => ⟨_, (rfl : execCanMailboxWrite n k v s = _)⟩
  | .canArbitrationStart n dly ues => ⟨_, (rfl : execCanArbitrationStart n dly ues s = _)⟩
  | .canFrameTransmitted n tdcv => ⟨_, (rfl : execCanFrameTransmitted n tdcv s = _)⟩
  | .canFrameError n e tdcv => ⟨_, (rfl : execCanFrameError n e tdcv s = _)⟩
  | .alone n => ⟨_, (rfl : execAlone n s = _)⟩
  | .canFrameReceived n f sof => ⟨_, (rfl : execCanFrameReceived n f sof s = _)⟩
  | .claimWaitExpiry n slot => ⟨_, (rfl : execClaimWaitExpiry n slot s = _)⟩
  | .canRecover n => ⟨_, (rfl : execCanRecover n s = _)⟩
  | .canRecoveryDone n => ⟨_, (rfl : execCanRecoveryDone n s = _)⟩
  | .canRxLock n b => ⟨_, (rfl : execCanRxLock n b s = _)⟩
  | .canRxRelease n b => ⟨_, (rfl : execCanRxRelease n b s = _)⟩
  | .hpLock n => ⟨_, (rfl : execHpLock n s = _)⟩
  | .hpRel n => ⟨_, (rfl : execHpRel n s = _)⟩
  | .axCmdDoorbell n k => ⟨_, (rfl : execAxCmdDoorbell n k s = _)⟩
  | .axMoveAbs n now tag a0 a1 => ⟨_, (rfl : execAxMoveAbs n now tag a0 a1 s = _)⟩
  | .axMoveRel n now tag a0 a1 => ⟨_, (rfl : execAxMoveRel n now tag a0 a1 s = _)⟩
  | .axJog n now tag a0 => ⟨_, (rfl : execAxJog n now tag a0 s = _)⟩
  | .axStop n now tag a0 => ⟨_, (rfl : execAxStop n now tag a0 s = _)⟩
  | .axHome n now tag a0 a1 a2 => ⟨_, (rfl : execAxHome n now tag a0 a1 a2 s = _)⟩
  | .axSetPos n now tag a0 => ⟨_, (rfl : execAxSetPos n now tag a0 s = _)⟩
  | .axDwell n now tag a0 => ⟨_, (rfl : execAxDwell n now tag a0 s = _)⟩
  | .axisUpdate n vA vB diag clocks => ⟨_, (rfl : execAxisUpdate n vA vB diag clocks s = _)⟩
  | .dwellElapsed n => ⟨_, (rfl : execDwellElapsed n s = _)⟩
  | .holdCurrentExpiry d => ⟨_, (rfl : execHoldCurrentExpiry d s = _)⟩
  | .chopComparatorTrip d coilB v => ⟨_, (rfl : execChopComparatorTrip d coilB v s = _)⟩
  | .chopOffExpiry d coilB => ⟨_, (rfl : execChopOffExpiry d coilB s = _)⟩
  | .overcurrentTrip d coilB v => ⟨_, (rfl : execOvercurrentTrip d coilB v s = _)⟩
  | .axisDiagActive n level => ⟨_, (rfl : execAxisDiagActive n level s = _)⟩
  | .stallDetected n => ⟨_, (rfl : execStallDetected n s = _)⟩
  | .axisStopRamp n => ⟨_, (rfl : execAxisStopRamp n s = _)⟩
  | .axisStopImmediate n => ⟨_, (rfl : execAxisStopImmediate n s = _)⟩
  | .profileParamWrite n k v => ⟨_, (rfl : execProfileParamWrite n k v s = _)⟩
  | .papplyNow n => ⟨_, (rfl : execPapplyNow n s = _)⟩
  | .axisFaultClear n vA vB diag => ⟨_, (rfl : execAxisFaultClear n vA vB diag s = _)⟩
  | .safetyInputFiltered chanB ix pinB level => ⟨_, (rfl : execSafetyInputFiltered chanB ix pinB level s = _)⟩
  | .sfsPeriod smA edmA smB edmB dev => ⟨_, (rfl : execSfsPeriod smA edmA smB edmB dev s = _)⟩
  | .discrepancy ix => ⟨_, (rfl : execDiscrepancy ix s = _)⟩
  | .testPulseStart k => ⟨_, (rfl : execTestPulseStart k s = _)⟩
  | .testPulseCheck k aA aB bA bB => ⟨_, (rfl : execTestPulseCheck k aA aB bA bB s = _)⟩
  | .outputTestStart n => ⟨_, (rfl : execOutputTestStart n s = _)⟩
  | .outputTestEnd lowA lowB => ⟨_, (rfl : execOutputTestEnd lowA lowB s = _)⟩
  | .outputMonitorFault n chanB => ⟨_, (rfl : execOutputMonitorFault n chanB s = _)⟩
  | .edmFault n chanB => ⟨_, (rfl : execEdmFault n chanB s = _)⟩
  | .stopDelayExpiry f => ⟨_, (rfl : execStopDelayExpiry f s = _)⟩
  | .claimRoundTimer okIn => ⟨_, (rfl : execClaimRoundTimer okIn s = _)⟩
  | .clmFall => ⟨_, (rfl : execClmFall s = _)⟩
  | .claimRoundEnd line endLow => ⟨_, (rfl : execClaimRoundEnd line endLow s = _)⟩
  | .twinOkInFall => ⟨_, (rfl : execTwinOkInFall s = _)⟩
  | .relinquish => ⟨_, (rfl : execRelinquish s = _)⟩
  | .resume => ⟨_, (rfl : execResume s = _)⟩
  | .unlatch => ⟨_, (rfl : execUnlatch s = _)⟩
  | .resync => ⟨_, (rfl : execResync s = _)⟩
  | .reclaimHoldoffExpiry => ⟨_, (rfl : execReclaimHoldoffExpiry s = _)⟩
  | .reclaimWindowExpiry => ⟨_, (rfl : execReclaimWindowExpiry s = _)⟩
  | .claimListenExpiry okIn => ⟨_, (rfl : execClaimListenExpiry okIn s = _)⟩
  | .pairingTimeout => ⟨_, (rfl : execPairingTimeout s = _)⟩
  | .crosswindCopyReceive n c good errs => ⟨_, (rfl : execCrosswindCopyReceive n c good errs s = _)⟩
  | .linkTrained j rpos rport inv third peer => ⟨_, (rfl : execLinkTrained j rpos rport inv third peer s = _)⟩
  | .linkError j laneLost third => ⟨_, (rfl : execLinkError j laneLost third s = _)⟩
  | .linkMsgDoorbell j k x => ⟨_, (rfl : execLinkMsgDoorbell j k x s = _)⟩
  | .msgRx p rx errs => ⟨_, (rfl : execMsgRx p rx errs s = _)⟩
  | .linkRxSlotClear j v => ⟨_, (rfl : execLinkRxSlotClear j v s = _)⟩
  | .timeSyncExchange p t1 t2 t3 t4 claim retries errs => ⟨_, (rfl : execTimeSyncExchange p t1 t2 t3 t4 claim retries errs s = _)⟩
  | .keyRingDoorbell k x => ⟨_, (rfl : execKeyRingDoorbell k x s = _)⟩
  | .keyJobStart => ⟨_, (rfl : execKeyJobStart s = _)⟩
  | .keyJobComplete => ⟨_, (rfl : execKeyJobComplete s = _)⟩
  | .secGenSym => ⟨_, (rfl : execSecGenSym s = _)⟩
  | .secGenEc => ⟨_, (rfl : execSecGenEc s = _)⟩
  | .secImportPub => ⟨_, (rfl : execSecImportPub s = _)⟩
  | .secWrap => ⟨_, (rfl : execSecWrap s = _)⟩
  | .secUnwrap => ⟨_, (rfl : execSecUnwrap s = _)⟩
  | .secPersist => ⟨_, (rfl : execSecPersist s = _)⟩
  | .secErase => ⟨_, (rfl : execSecErase s = _)⟩
  | .secDerive => ⟨_, (rfl : execSecDerive s = _)⟩
  | .secGcmEnc => ⟨_, (rfl : execSecGcmEnc s = _)⟩
  | .secGcmDec => ⟨_, (rfl : execSecGcmDec s = _)⟩
  | .secCmacGen => ⟨_, (rfl : execSecCmacGen s = _)⟩
  | .secCmacVer => ⟨_, (rfl : execSecCmacVer s = _)⟩
  | .secKwWrap => ⟨_, (rfl : execSecKwWrap s = _)⟩
  | .secKwUnwrap => ⟨_, (rfl : execSecKwUnwrap s = _)⟩
  | .secSha256 => ⟨_, (rfl : execSecSha256 s = _)⟩
  | .secSha384 => ⟨_, (rfl : execSecSha384 s = _)⟩
  | .secSign => ⟨_, (rfl : execSecSign s = _)⟩
  | .secVerify => ⟨_, (rfl : execSecVerify s = _)⟩
  | .secEcdh => ⟨_, (rfl : execSecEcdh s = _)⟩
  | .secStatement => ⟨_, (rfl : execSecStatement s = _)⟩
  | .secRandom => ⟨_, (rfl : execSecRandom s = _)⟩
  | .secProvision => ⟨_, (rfl : execSecProvision s = _)⟩
  | .secLcAdvance => ⟨_, (rfl : execSecLcAdvance s = _)⟩
  | .secReprovision => ⟨_, (rfl : execSecReprovision s = _)⟩
  | .keyBankWriteComplete ok => ⟨_, (rfl : execKeyBankWriteComplete ok s = _)⟩
  | .rngReseed ok => ⟨_, (rfl : execRngReseed ok s = _)⟩
  | .tamperInput ix active sub => ⟨_, (rfl : execTamperInput ix active sub s = _)⟩
  | .meshMismatch sub => ⟨_, (rfl : execMeshMismatch sub s = _)⟩
  | .tamperCmd => ⟨_, (rfl : execTamperCmd s = _)⟩
  | .tamperLogClear => ⟨_, (rfl : execTamperLogClear s = _)⟩
  | .supplySwitchToVbat sub => ⟨_, (rfl : execSupplySwitchToVbat sub s = _)⟩
  | .supplySwitchToVin => ⟨_, (rfl : execSupplySwitchToVin s = _)⟩
  | .backupBrownout => ⟨_, (rfl : execBackupBrownout s = _)⟩
  | .bkpBorClear => ⟨_, (rfl : execBkpBorClear s = _)⟩
  | .swoClear => ⟨_, (rfl : execSwoClear s = _)⟩
  | .vbatMeasure mv => ⟨_, (rfl : execVbatMeasure mv s = _)⟩
  | .bkpRegisterWrite ix v => ⟨_, (rfl : execBkpRegisterWrite ix v s = _)⟩
  | .bkpCrcCheck => ⟨_, (rfl : execBkpCrcCheck s = _)⟩
  | .rtcSecond => ⟨_, (rfl : execRtcSecond s = _)⟩
  | .rtcShadowRead k sub => ⟨_, (rfl : execRtcShadowRead k sub s = _)⟩
  | .rtcYearRead sub => ⟨_, (rfl : execRtcYearRead sub s = _)⟩
  | .shadowTimeout => ⟨_, (rfl : execShadowTimeout s = _)⟩
  | .rtcFieldWrite k v => ⟨_, (rfl : execRtcFieldWrite k v s = _)⟩
  | .rtcSecCommit v => ⟨_, (rfl : execRtcSecCommit v s = _)⟩
  | .rtcSetSCommit v => ⟨_, (rfl : execRtcSetSCommit v s = _)⟩
  | .rtcCommitApply => ⟨_, (rfl : execRtcCommitApply s = _)⟩
  | .xt32Stop => ⟨_, (rfl : execXt32Stop s = _)⟩
  | .osfClear => ⟨_, (rfl : execOsfClear s = _)⟩
  | .alarmEnable n v => ⟨_, (rfl : execAlarmEnable n v s = _)⟩
  | .recTrigHost t => ⟨_, (rfl : execRecTrigHost t s = _)⟩
  | .capture => ⟨_, (rfl : execCapture s = _)⟩
  | .recordWrite => ⟨_, (rfl : execRecordWrite s = _)⟩
  | .recTrgSel t => ⟨_, (rfl : execRecTrgSel t s = _)⟩
  | .recTrgCfg v => ⟨_, (rfl : execRecTrgCfg v s = _)⟩
  | .recClearEddy => ⟨_, (rfl : execRecClearEddy s = _)⟩
  | .recClearCalm => ⟨_, (rfl : execRecClearCalm s = _)⟩
  | .cleared => ⟨_, (rfl : execCleared s = _)⟩
  | .recScan => ⟨_, (rfl : execRecScan s = _)⟩
  | .recScanDone ces ues => ⟨_, (rfl : execRecScanDone ces ues s = _)⟩
  | .dmaDoorbell c k => ⟨_, (rfl : execDmaDoorbell c k s = _)⟩
  | .dmaDescriptorStart c ces ues => ⟨_, (rfl : execDmaDescriptorStart c ces ues s = _)⟩
  | .dmaDone c data e => ⟨_, (rfl : execDmaDone c data e s = _)⟩
  | .dmaHalt c poisoned data => ⟨_, (rfl : execDmaHalt c poisoned data s = _)⟩
  | .dmaCompletionTimeout c data => ⟨_, (rfl : execDmaCompletionTimeout c data s = _)⟩
  | .dmaResume c => ⟨_, (rfl : execDmaResume c s = _)⟩
  | .dmaAbort c => ⟨_, (rfl : execDmaAbort c s = _)⟩
  | .pePerstNLow => ⟨_, (rfl : execPePerstNLow s = _)⟩
  | .pePerstNRise => ⟨_, (rfl : execPePerstNRise s = _)⟩
  | .pmeTurnOff => ⟨_, (rfl : execPmeTurnOff s = _)⟩
  | .hostLink speed width lstate d3 laneRev => ⟨_, (rfl : execHostLink speed width lstate d3 laneRev s = _)⟩
  | .msixUnblock v => ⟨_, (rfl : execMsixUnblock v s = _)⟩
  | .qspiRead addr n e => ⟨_, (rfl : execQspiRead addr n e s = _)⟩
  | .qspiQread addr n e => ⟨_, (rfl : execQspiQread addr n e s = _)⟩
  | .qspiWrite addr d => ⟨_, (rfl : execQspiWrite addr d s = _)⟩
  | .qspiQwrite addr d => ⟨_, (rfl : execQspiQwrite addr d s = _)⟩
  | .qspiStatus n => ⟨_, (rfl : execQspiStatus n s = _)⟩
  | .enterQpi => ⟨_, (rfl : execEnterQpi s = _)⟩
  | .exitQpi => ⟨_, (rfl : execExitQpi s = _)⟩
  | .tgtReset => ⟨_, (rfl : execTgtReset s = _)⟩
  | .qspiUnknownOpcode => ⟨_, (rfl : execQspiUnknownOpcode s = _)⟩
  | .qspiBufferDrain x => ⟨_, (rfl : execQspiBufferDrain x s = _)⟩
  | .qspiLinkHoldExpiry => ⟨_, (rfl : execQspiLinkHoldExpiry s = _)⟩
  | .jtagBypass tdi => ⟨_, (rfl : execJtagBypass tdi s = _)⟩
  | .jtagSamplePreload pins tdi => ⟨_, (rfl : execJtagSamplePreload pins tdi s = _)⟩
  | .jtagExtest pins tdi => ⟨_, (rfl : execJtagExtest pins tdi s = _)⟩
  | .jtagIdcode tdi => ⟨_, (rfl : execJtagIdcode tdi s = _)⟩
  | .jtagClamp tdi => ⟨_, (rfl : execJtagClamp tdi s = _)⟩
  | .jtagHighz tdi => ⟨_, (rfl : execJtagHighz tdi s = _)⟩
  | .registerRead off len e => ⟨_, (rfl : execRegisterRead off len e s = _)⟩
  | .claimBitLost ix => ⟨_, (rfl : execClaimBitLost ix s = _)⟩
  | .testPulseEnd k => ⟨_, (rfl : execTestPulseEnd k s = _)⟩
  | .meshInactive => ⟨_, (rfl : execMeshInactive s = _)⟩
  | .xt32Restart => ⟨_, (rfl : execXt32Restart s = _)⟩
  | .rtcCalWindow => ⟨_, (rfl : execRtcCalWindow s = _)⟩
  | .olcLoadDone => ⟨_, (rfl : execOlcLoadDone s = _)⟩
  | .buckCurrentLimit b => ⟨_, (rfl : execBuckCurrentLimit b s = _)⟩
  | .vinMonUpdate mv served => ⟨_, (rfl : execVinMonUpdate mv served s = _)⟩
  | .backupPowerUp => ⟨_, (rfl : execBackupPowerUp s = _)⟩
  | .vinBelow1v => ⟨_, (rfl : execVinBelow1v s = _)⟩
  | .configSpaceWrite bme funcMask pmeEn => ⟨_, (rfl : execConfigSpaceWrite bme funcMask pmeEn s = _)⟩

/-- Every command completes, leaves the queue alone and keeps the memories in canonical form. -/
theorem exec_keeps (c : Instr) (s : State) : ∃ t, exec c s = .next t ∧ t.pending = s.pending ∧
    (Memory.wf s.mem → Memory.wf t.mem) := by
  obtain ⟨f, h⟩ := exec_runs c s
  rw [h]
  exact run_keeps f s

end Sys2Proof.Machine
end

