-- ==== Sys2Proof/Laws/Host.lean ====
section
/-!
SUPPORT. What a host write of one word does when the page accepts it: the bookkeeping of the lock, the block's own effect,
one access of the budget.
-/
namespace Sys2Proof.Machine

namespace SameWatch

theorem arm {w u : W} (h : SameWatch w u) (p : Nat) (b : Bool) : SameWatch w (u.arm p b) :=
  h.of_eq rfl rfl rfl rfl rfl rfl rfl rfl rfl rfl rfl

theorem relock {w u : W} (h : SameWatch w u) (p : Nat) : SameWatch w (u.relock p) := by
  unfold W.relock
  exact ite (h.wr (watched_common (by unfold R.H_LOCK; omega))) h

theorem spend {w u : W} (h : SameWatch w u) (p o : Nat) : SameWatch w (u.spend p o) := by
  unfold W.spend
  exact ite h (h.wrF (watched_common (by unfold R.H_LOCK; omega)))

theorem start (w : W) (p : Nat) : SameWatch w (hostEnter w p) := ((refl w).relock p).arm p false

theorem countSeq {w u : W} (h : SameWatch w u) (b : Bool) (off : Nat) : SameWatch w (u.countSeq b off) := by
  unfold W.countSeq
  split
  · exact ite (h.inc (watched_common (by unfold R.H_SEQ; omega))) h
  · exact h

theorem retWake {w u : W} (h : SameWatch w u) (d : Nat) (hd : w.dom 5 = 1) : SameWatch w (u.retWake d) := by
  unfold W.retWake
  split
  · exact h
  · dsimp only
    have : W.dom { u with pwr.holdoff := true } 5 = 1 := (h.dom 5).trans hd
    rw [if_neg (by rw [this]; decide)]
    exact h.holdoff true

theorem accessWake {w u : W} (h : SameWatch w u) (off : Nat)
    (hd : pageDomain (off / 0x1000) = some 5 → inPd1 off = false → w.dom 5 = 1) : SameWatch w (u.accessWake off) := by
  unfold W.accessWake
  split
  · rename_i d hp
    split
    · exact h
    · rename_i hi
      by_cases h5 : d = 5
      · subst h5; exact h.retWake 5 (hd hp (by simpa using hi))
      · unfold W.retWake; rw [if_pos h5]; exact h
  · exact h

theorem storeWord {w u : W} (h : SameWatch w u) {off : Nat} {v : Word} (ha : watched off = false) :
    SameWatch w (u.storeWord off v) := by
  unfold W.storeWord
  split
  · exact h
  · dsimp only
    split <;> first | exact h.wr ha | exact h

theorem answer {w u : W} (h : SameWatch w u) (d : List Byte) : SameWatch w (u.answer d) :=
  h.of_eq rfl rfl rfl rfl rfl rfl rfl rfl rfl rfl rfl

end SameWatch

namespace W

theorem relock_rdB (w : W) (p a i : Nat) (h : a % 0x1000 ≠ 0x024) : (w.relock p).rdB a i = w.rdB a i := by
  unfold relock rdB
  split
  · rw [rd_wr_ne _ _ _ _ (by unfold R.H_LOCK; omega)]
  · rfl

theorem relock_rdF (w : W) (p a lo n : Nat) (h : a % 0x1000 ≠ 0x024) : (w.relock p).rdF a lo n = w.rdF a lo n := by
  unfold relock rdF
  split
  · rw [rd_wr_ne _ _ _ _ (by unfold R.H_LOCK; omega)]
  · rfl

theorem relock_unlocked (w : W) (p : Nat) : (w.relock p).unlocked p = w.unlocked p := by
  unfold relock unlocked rdB rdF
  split
  · rename_i h
    rw [rd_wr_same]
    simp only [Bool.and_eq_true, beq_iff_eq] at h
    rw [h.2]
    simp [bit]
  · rfl

theorem start_rd (w : W) (p a : Nat) (h : a % 0x1000 ≠ 0x024) : (hostEnter w p).rd a = w.rd a := by
  show (w.relock p).rd a = w.rd a
  unfold relock
  split
  · rw [rd_wr_ne _ _ _ _ (by unfold R.H_LOCK; omega)]
  · rfl

theorem start_pageUp (w : W) (p q : Nat) : (hostEnter w p).pageUp q = w.pageUp q := by
  unfold pageUp domUp dom
  split
  · show (decide _ || (w.relock p).rdF _ _ _ == 1 || (w.relock p).rdF _ _ _ == 2 || (_ && (w.relock p).rdF _ _ _ == 3 && (w.relock p).pwr.pd5Kept)) = _
    rw [relock_rdF _ _ _ _ _ (by decide), relock_rdF _ _ _ _ _ (by decide)]
    have : (w.relock p).pwr = w.pwr := by unfold relock; split <;> rfl
    rw [this]
  · rfl

theorem start_inSrst (w : W) (p q : Nat) : (hostEnter w p).inSrst q = w.inSrst q :=
  relock_rdB w p (R.H_CTRL q) 1 (by unfold R.H_CTRL; omega)

theorem start_unlocked (w : W) (p : Nat) : (hostEnter w p).unlocked p = w.unlocked p := relock_unlocked w p

theorem start_key (w : W) (p : Nat) : (hostEnter w p).key = w.key := by unfold hostEnter relock; split <;> rfl

/-- A host write of a word other than LOCK and BOOT_CTRL: the page's bookkeeping around the write itself. -/
theorem hostWord_enter {w : W} {off : Nat} {v : Word} {x : Ext} {m : Memory} (h : w.hostOk = true)
    (hp : (pageDomain (off / 0x1000)).isNone = false) (hl : off % 0x1000 ≠ 0x024) (hb : off ≠ R.HIF_BOOT_CTRL) :
    w.hostWord x m off v =
      (W.wordWrite true (.host (hostEnter w (off / 0x1000)).port) x m off v (hostEnter w (off / 0x1000))).spend (off / 0x1000)
        (off % 0x1000) := by
  have hgo : (off == R.HIF_BOOT_CTRL) = false := by simpa using hb
  have hh : (w.hostOk = false ∨ (pageDomain (off / 0x1000)).isNone = true) ↔ False := by simp [h, hp]
  unfold hostWord
  simp only [hh, if_false, if_neg hl, hgo, Bool.false_and]
  rw [if_neg (by decide)]
  rfl

/-- A write that starts no read of memory meets none of its errors. -/
theorem accessMeets_other (w : W) (m : Memory) (off : Nat) (v : Word) (x : Ext) (h1 : off ≠ R.SCAN_OLC_CTRL) (h2 : off ≠ R.SLV_RING_DB)
    (h3 : off ≠ R.KEY_RING_DB) (h4 : off / 0x1000 ≠ 0x40 ∨ isDoorbell off = false) : w.accessMeets m off v x = (w, m) := by
  unfold accessMeets
  rw [if_neg h1, if_neg (by rintro (h | h | ⟨a, b⟩) <;> simp_all)]

/-- A read of any other register than STAT and BSTAT takes no free value. -/
theorem freeRead_other (w : W) (off : Nat) (h1 : off % 0x1000 ≠ 0x00C) (h2 : off % 0x1000 ≠ 0x04C) : w.freeRead off = w := by
  unfold freeRead
  rw [if_neg (by rintro (h | ⟨-, -, h⟩) <;> contradiction)]

/-- A host write that the page and the block accept. -/
theorem hostWord_accept {w : W} {off : Nat} {v : Word} {x : Ext} {m : Memory} {d : RegDef} (h : HostReady w off)
    (hp : (pageDomain (off / 0x1000)).isNone = false) (ho : 0x040 ≤ off % 0x1000) (hd : regDef off = some d)
    (ha : d.acc ≠ .ro) (hl : d.acc = .rwl → w.unlocked (off / 0x1000) = true) (h42 : off / 0x1000 = 0x42 → w.key.lc ≠ 2)
    (h1 : isPairW off = false) (h2 : (decide (4 ≤ off) && isPairW (off - 4)) = false) (hb : off ≠ R.HIF_BOOT_CTRL)
    (hm : ∀ u : W, u.accessMeets m off v x = (u, m))
    (hc : W.blockCheck ((hostEnter w (off / 0x1000)).accessWake off) m off v x = 0) :
    w.hostWord x m off v =
      ((((hostEnter w (off / 0x1000)).accessWake off).countSeq true off).blockWrite m off v x).spend (off / 0x1000)
        (off % 0x1000) := by
  have hgo : (off == R.HIF_BOOT_CTRL) = false := by simpa using hb
  have hpc : (hostEnter w (off / 0x1000)).pageCode true off true = 0 := by
    unfold pageCode offCode; dsimp only
    rw [start_pageUp, h.up, start_inSrst, h.noSrst, start_unlocked, start_key, hd]
    have : ((d.acc == .rwl) && !w.unlocked (off / 0x1000)) = false := by
      by_cases e : d.acc = .rwl
      · simp [hl e]
      · simp [e]
    by_cases e : off / 0x1000 = 0x42
    · have := h42 e
      simp_all [firstCode]
    · simp_all [firstCode]
  have hh : (w.hostOk = false ∨ (pageDomain (off / 0x1000)).isNone = true) ↔ False := by simp [h.link, hp]
  unfold hostWord
  simp only [hh, if_false, if_neg (show ¬ off % 0x1000 = 0x024 by omega), hgo, Bool.false_and]
  rw [if_neg (by decide)]
  show (W.wordWrite true _ x m off v (hostEnter w (off / 0x1000))).spend _ _ = _
  congr 1
  unfold wordWrite
  simp only [hp, hpc, hd, h1]
  rw [if_neg (by decide), if_neg (by omega), if_neg (by rintro ⟨h, -⟩; exact absurd h (by decide)), if_neg (by decide),
    if_neg (by simpa using ha), if_neg (by decide), if_neg (by simpa using h2)]
  simp only [hm]
  rw [hc, if_neg (by decide)]

/-- A host write to a register of the common header other than LOCK: no domain, unlock or block check (R22, R72). -/
theorem hostWord_header {w : W} {off : Nat} {v : Word} {x : Ext} {m : Memory} (h : w.hostOk = true)
    (hp : (pageDomain (off / 0x1000)).isNone = false) (ho : off % 0x1000 < 0x040) (hl : off % 0x1000 ≠ 0x024) :
    w.hostWord x m off v =
      (W.headerWrite true (hostEnter w (off / 0x1000)) (off / 0x1000) (off % 0x1000) v).spend (off / 0x1000) (off % 0x1000) := by
  have hgo : (off == R.HIF_BOOT_CTRL) = false := by
    simp only [beq_eq_false_iff_ne, R.HIF_BOOT_CTRL]; rintro rfl; omega
  have hh : (w.hostOk = false ∨ (pageDomain (off / 0x1000)).isNone = true) ↔ False := by simp [h, hp]
  unfold hostWord
  simp only [hh, if_false, if_neg hl, hgo, Bool.false_and]
  rw [if_neg (by decide)]
  show (W.wordWrite true _ x m off v (hostEnter w (off / 0x1000))).spend _ _ = _
  congr 1
  unfold wordWrite
  simp only [hp]
  rw [if_neg (by decide), if_pos ho]

/-- A host write of LOCK (R68 to R70). -/
theorem hostWord_lock {w : W} {p : Nat} {v : Word} {x : Ext} {m : Memory} (h : w.hostOk = true)
    (hp : (pageDomain p).isNone = false) : w.hostWord x m (R.H_LOCK p) v = (w.relock p).lockWrite p v := by
  have e1 : R.H_LOCK p / 0x1000 = p := by unfold R.H_LOCK; omega
  have e2 : R.H_LOCK p % 0x1000 = 0x024 := by unfold R.H_LOCK; omega
  have hgo : (R.H_LOCK p == R.HIF_BOOT_CTRL) = false := by
    simp only [beq_eq_false_iff_ne, R.HIF_BOOT_CTRL, R.H_LOCK]; omega
  have hh : (w.hostOk = false ∨ (pageDomain p).isNone = true) ↔ False := by simp [h, hp]
  unfold hostWord
  simp only [e1, e2, hh, if_false, if_true, hgo, Bool.false_and]
  rw [if_neg (by decide)]
  unfold spend wordWrite
  simp only [e1, e2, hp, true_or, if_true]
  rw [if_neg (by decide)]
  rfl

/-- A host write to a register at 0x040 or above that the page refuses: the code goes to its ERR, nothing else happens; while
SRST is in progress the block's own code comes first. -/
theorem hostWord_refused {w : W} {off : Nat} {v : Word} {x : Ext} {m : Memory} (h : w.hostOk = true)
    (hp : (pageDomain (off / 0x1000)).isNone = false) (ho : 0x040 ≤ off % 0x1000)
    {c : Nat} (he : (hostEnter w (off / 0x1000)).pageCode true off true = c) (hc : c ≠ 0) (hb : off ≠ R.HIF_BOOT_CTRL)
    (hg : c = eDomainOff → W.gusting (hostEnter w (off / 0x1000)) (off / 0x1000) = true → isDoorbell off = false) :
    w.hostWord x m off v =
      ((hostEnter w (off / 0x1000)).err (off / 0x1000)
        (if c = eBusy then (hostEnter w (off / 0x1000)).srstCode m off v x else c)).spend (off / 0x1000) (off % 0x1000) := by
  have hgo : (off == R.HIF_BOOT_CTRL) = false := by simpa using hb
  have hh : (w.hostOk = false ∨ (pageDomain (off / 0x1000)).isNone = true) ↔ False := by simp [h, hp]
  unfold hostWord
  simp only [hh, if_false, if_neg (show ¬ off % 0x1000 = 0x024 by omega), hgo, Bool.false_and]
  rw [if_neg (by decide)]
  show (W.wordWrite true _ x m off v (hostEnter w (off / 0x1000))).spend _ _ = _
  congr 1
  unfold wordWrite
  simp only [hp]
  rw [if_neg (by decide), if_neg (by omega), he, if_neg (by rintro ⟨a, b, d⟩; rw [hg a b] at d; exact absurd d (by decide)), if_pos hc]

/-- A read of one word at 0x040 or above that the page does not carry out: it returns zero. -/
theorem hostReadWord_refused {w : W} {e : Ecc} {off : Nat} (hp : (pageDomain (off / 0x1000)).isNone = false)
    (ho : 0x040 ≤ off % 0x1000) (hc : (w.relock (off / 0x1000)).pageCode true off false ≠ 0) :
    w.hostReadWord e off =
      ((((w.relock (off / 0x1000)).err (off / 0x1000) ((w.relock (off / 0x1000)).pageCode true off false)).spend
        (off / 0x1000) (off % 0x1000)), 0) := by
  unfold hostReadWord
  dsimp only
  rw [if_neg (by simp [hp]), if_neg (by omega), if_pos hc]

/-- A read of one word of a register that the device stores or computes, outside the RTC page. -/
theorem hostReadWord_ok {w : W} {off : Nat} {d : RegDef} (hp : (pageDomain (off / 0x1000)).isNone = false)
    (ho : 0x040 ≤ off % 0x1000) (hc : (w.relock (off / 0x1000)).pageCode true off false = 0) (hd : regDef off = some d)
    (h5 : off / 0x1000 ≠ 0x05) :
    w.hostReadWord .ok off =
      (let u := ((w.relock (off / 0x1000)).accessWake off).freeRead off
       ((u.pairRead (.host u.port) off hostView).1.spend (off / 0x1000) (off % 0x1000), (u.pairRead (.host u.port) off hostView).2)) := by
  have hy : off ≠ R.RTC_YEAR := by unfold R.RTC_YEAR; omega
  unfold hostReadWord
  dsimp only
  rw [if_neg (by simp [hp]), if_neg (by omega), if_neg (by simpa using hc)]
  simp only [hd, h5, false_and, if_false, hy]
  unfold regEcc
  rfl

theorem accessWake_other (w : W) (off : Nat) (h : pageDomain (off / 0x1000) ≠ some 5) : w.accessWake off = w := by
  unfold accessWake
  split
  · rename_i d hd
    split
    · rfl
    · unfold retWake; rw [if_pos (by rintro rfl; exact h hd)]
  · rfl

theorem arm_blocks (w : W) (p : Nat) (b : Bool) : SameBlocks w (w.arm p b) :=
  ⟨rfl, rfl, rfl, rfl, rfl, rfl, rfl, rfl, rfl, rfl, rfl, rfl, rfl, rfl, rfl, rfl⟩

theorem relock_blocks (w : W) (p : Nat) : SameBlocks w (w.relock p) := SameBlocks.ite (SameBlocks.wr w _ _) (SameBlocks.refl w)

theorem start_blocks (w : W) (p : Nat) : SameBlocks w (hostEnter w p) := (relock_blocks w p).trans (arm_blocks _ p false)

end W

/-- The register at `off` is one that a host write stores or acts on, word by word: it is listed, not read-only, not half
of a pair, not BOOT_CTRL, and its page is neither in PD5 nor the DBG page. -/
def hostReg (off : Nat) : Bool :=
  !(pageDomain (off / 0x1000)).isNone && decide (pageDomain (off / 0x1000) ≠ some 5) && decide (0x040 ≤ off % 0x1000) &&
    !isPairW off && !(decide (4 ≤ off) && isPairW (off - 4)) && decide (off ≠ R.HIF_BOOT_CTRL) && decide (off / 0x1000 ≠ 0x42) &&
    (match regDef off with | some d => decide (d.acc ≠ .ro) | none => false)

/-- The same, for a page of PD5. -/
def hostReg5 (off : Nat) : Bool :=
  decide (pageDomain (off / 0x1000) = some 5) && decide (0x040 ≤ off % 0x1000) &&
    (match regDef off with | some d => decide (d.acc ≠ .ro) | none => false)

/-- A host write that the page and the block accept, in a device at rest. -/
theorem HostWrites.of {c : Instr} {s : State} {off : Nat} {v : Word} {x : Ext} {eff : W → W}
    (hc : exec c s = run (fun m w => w.hostWord x m off v) s) (h : Ready s off) (hr : hostReg off = true)
    (hm : ∀ u : W, u.accessMeets s.mem off v x = (u, s.mem))
    (hk : W.blockCheck (hostEnter (begin_ s) (off / 0x1000)) s.mem off v x = 0)
    (he : W.blockWrite ((hostEnter (begin_ s) (off / 0x1000)).countSeq true off) s.mem off v x =
      eff ((hostEnter (begin_ s) (off / 0x1000)).countSeq true off))
    (hs : ∀ u, SameWatch (begin_ s) u → SameWatch (begin_ s) (eff u)) : HostWrites c s off eff := by
  unfold hostReg at hr
  simp only [Bool.and_eq_true, Bool.not_eq_true', decide_eq_true_eq] at hr
  obtain ⟨⟨⟨⟨⟨⟨⟨hp, h5⟩, ho⟩, h1⟩, h2⟩, hb⟩, h42⟩, hd⟩ := hr
  split at hd
  · rename_i d hd'
    simp only [decide_eq_true_eq] at hd
    unfold HostWrites
    rw [hc]
    have ha := W.accessWake_other (hostEnter (begin_ s) (off / 0x1000)) off h5
    refine run_steady h.rest ?_ ?_
    · show W.hostWord x s.mem off v (begin_ s) = _
      rw [W.hostWord_accept h.host hp ho hd' hd (h.lock.2 d hd') (fun e => absurd e h42) h1 h2 hb hm (by rw [ha]; exact hk)]
      unfold accepted
      rw [ha, he]
    · unfold accepted
      rw [ha]
      exact (hs _ ((SameWatch.start _ _).countSeq _ _)).spend _ _
  · simp at hd

/-- The same for a page of PD5, while PD5 is on. -/
theorem HostWrites.of5 {c : Instr} {s : State} {off : Nat} {v : Word} {x : Ext} {eff : W → W}
    (hc : exec c s = run (fun m w => w.hostWord x m off v) s) (h : Ready s off) (hr : hostReg5 off = true)
    (hon : (begin_ s).dom 5 = 1) (hm : ∀ u : W, u.accessMeets s.mem off v x = (u, s.mem))
    (hk : W.blockCheck ((hostEnter (begin_ s) (off / 0x1000)).accessWake off) s.mem off v x = 0)
    (he : W.blockWrite (((hostEnter (begin_ s) (off / 0x1000)).accessWake off).countSeq true off) s.mem off v x =
      eff (((hostEnter (begin_ s) (off / 0x1000)).accessWake off).countSeq true off))
    (hs : ∀ u, SameWatch (begin_ s) u → SameWatch (begin_ s) (eff u)) : HostWrites c s off eff := by
  unfold hostReg5 at hr
  simp only [Bool.and_eq_true, decide_eq_true_eq] at hr
  obtain ⟨⟨h5, ho⟩, hd⟩ := hr
  have hq : 0x15 ≤ off / 0x1000 ∧ off / 0x1000 ≤ 0x18 := by
    unfold pageDomain at h5
    repeat' split at h5
    all_goals first
      | omega
      | simp at h5
  split at hd
  · rename_i d hd'
    simp only [decide_eq_true_eq] at hd
    unfold HostWrites
    rw [hc]
    refine run_steady h.rest ?_ ?_
    · show W.hostWord x s.mem off v (begin_ s) = _
      have e1 : isPairW off = false := by
        unfold isPairW R.RTC_SET_S R.QTY_PRESET_VAL; simp only [Bool.or_eq_false_iff, beq_eq_false_iff_ne]; omega
      have e2 : (decide (4 ≤ off) && isPairW (off - 4)) = false := by
        unfold isPairW R.RTC_SET_S R.QTY_PRESET_VAL
        simp only [Bool.and_eq_false_iff, Bool.or_eq_false_iff, beq_eq_false_iff_ne, decide_eq_false_iff_not]; omega
      rw [W.hostWord_accept h.host (by rw [h5]; rfl) ho hd' hd (h.lock.2 d hd') (fun e => by omega) e1 e2
        (by unfold R.HIF_BOOT_CTRL; omega) hm hk]
      unfold accepted
      rw [he]
    · unfold accepted
      exact (hs _ (((SameWatch.start _ _).accessWake off fun _ _ => hon).countSeq _ _)).spend _ _
  · simp at hd

end Sys2Proof.Machine
end

