-- ==== Sys2Proof/Laws/Frame.lean ====
section
/-!
SUPPORT. Which registers the shared operations can change: an event in a device that is awake, a change of health in a unit
without a claim, the key store's displays, the end of a task's run.
-/
namespace Sys2Proof.Machine

/-- Outside the offsets for which `p` holds, every register is as before. -/
def Only (p : Nat → Bool) (w u : W) : Prop := ∀ a, p a = false → u.rd a = w.rd a

namespace Only

theorem refl (p : Nat → Bool) (w : W) : Only p w w := fun _ _ => rfl
theorem of_regs {p : Nat → Bool} {w u v : W} (h : Only p w u) (k : v.regs = u.regs) : Only p w v := fun a ha => by
  rw [← h a ha]; unfold W.rd; rw [k]
theorem trans {p : Nat → Bool} {w u v : W} (h : Only p w u) (k : Only p u v) : Only p w v := fun a ha => (k a ha).trans (h a ha)
theorem weaken {p q : Nat → Bool} {w u : W} (h : Only p w u) (k : ∀ a, q a = false → p a = false) : Only q w u := fun a ha => h a (k a ha)
theorem wr {p : Nat → Bool} {w u : W} (h : Only p w u) {a : Nat} {v : Word} (ha : p a = true) : Only p w (u.wr a v) := fun b hb => by
  rw [W.rd_wr_ne _ _ _ _ (by rintro rfl; simp [ha] at hb)]; exact h b hb
theorem wrN {p : Nat → Bool} {w u : W} (h : Only p w u) {a v : Nat} (ha : p a = true) : Only p w (u.wrN a v) := h.wr ha
theorem wrF {p : Nat → Bool} {w u : W} (h : Only p w u) {a lo n x : Nat} (ha : p a = true) : Only p w (u.wrF a lo n x) := h.wr ha
theorem wrB {p : Nat → Bool} {w u : W} (h : Only p w u) {a i : Nat} {b : Bool} (ha : p a = true) : Only p w (u.wrB a i b) := h.wr ha
theorem incSat {p : Nat → Bool} {w u : W} (h : Only p w u) {a : Nat} (ha : p a = true) : Only p w (u.incSat a) := h.wr ha
theorem inc {p : Nat → Bool} {w u : W} (h : Only p w u) {a : Nat} (ha : p a = true) : Only p w (u.inc a) := h.wr ha
theorem ite {p : Nat → Bool} {w u v : W} {c : Prop} [Decidable c] (h : Only p w u) (k : Only p w v) : Only p w (if c then u else v) := by
  split <;> assumption
theorem foldl {p : Nat → Bool} {α : Type} {f : W → α → W} (hf : ∀ u x, Only p u (f u x)) : ∀ (l : List α) (w : W), Only p w (l.foldl f w)
  | [], w => refl p w
  | x :: t, w => (hf w x).trans (foldl hf t (f w x))
theorem rdF {p : Nat → Bool} {w u : W} (h : Only p w u) {a lo n : Nat} (ha : p a = false) : u.rdF a lo n = w.rdF a lo n := by
  unfold W.rdF; rw [h a ha]
theorem rdB {p : Nat → Bool} {w u : W} (h : Only p w u) {a i : Nat} (ha : p a = false) : u.rdB a i = w.rdB a i := by
  unfold W.rdB; rw [h a ha]
theorem rdN {p : Nat → Bool} {w u : W} (h : Only p w u) {a : Nat} (ha : p a = false) : u.rdN a = w.rdN a := by
  unfold W.rdN; rw [h a ha]

theorem msixSend (w : W) (v : Nat) : Only evtReg w (w.msixSend v) := by
  unfold W.msixSend
  dsimp only
  repeat' split
  all_goals exact of_regs (refl _ w) rfl

theorem recClaim (w : W) (it : RecItem) : Only evtReg w (w.recClaim it).1 := by
  unfold W.recClaim
  dsimp only
  split
  · exact of_regs (refl _ w) rfl
  · refine wrB (a := R.REC_STAT) ?_ (by decide)
    exact of_regs ((refl evtReg w).incSat (a := R.REC_LOST) (by decide)) rfl

theorem route {again : W → W} (ha : ∀ u, Only evtReg u (again u)) (w : W) (n : Nat) (hn : n < 256) :
    Only evtReg w (W.route again w n) := by
  unfold W.route
  dsimp only
  refine trans ?_ (foldl (fun u t => ?_) _ _)
  · refine trans ?_ (foldl (fun u e => ?_) _ _)
    · exact trans ((refl evtReg w).wrB (b := true) (by
        have : n / 32 < 8 := by omega
        generalize n / 32 = k at *
        interval_cases k <;> decide)) (ite (refl _ _) (foldl (fun u v => ite (msixSend u v) (refl _ u)) _ _))
    · exact ite (of_regs (refl _ u) rfl) (refl _ u)
  · refine ite ?_ (refl _ u)
    exact ite ((recClaim u _).trans (ha _)) (recClaim u _)

theorem armWatch (w : W) (n : Nat) : Only evtReg w (w.armWatch n) := by
  unfold W.armWatch; exact ite (of_regs (refl _ w) rfl) (refl _ w)

theorem occurN : ∀ (k : Nat) (e : Nat × Nat) (w : W), Only evtReg w (W.occurN k e w)
  | 0, _, w => refl _ w
  | k + 1, e, w => by
    unfold W.occurN
    dsimp only
    refine ite (trans ((refl evtReg w).wrB (a := R.H_EVT_PEND e.1) (i := e.2) (b := true) ?_) (ite (refl _ _) ?_)) (refl _ w)
    · unfold evtReg R.H_EVT_PEND; simp
    · split
      · rename_i n hn
        exact (armWatch _ _).trans (route (occurN k _) _ _ (SameWatch.globalEvent_lt hn))
      · exact refl _ _

/-- An event in a device that is awake changes the event registers alone. -/
theorem raise {w u : W} (hw : Steady w) (h : SameWatch w u) (e : Nat × Nat) : Only evtReg u (u.raise e) := by
  have hu := (Awake.of_steady hw).same h
  have ho := SameWatch.occurN 3 e u hu
  have hk : (u.occur e).wake = u.occur e := by
    have := hu.same ho
    unfold W.wake W.abortEntry
    simp [W.occur, this.noReq, this.noEntry, this.run]
  unfold W.raise
  dsimp only
  split
  · rw [hk]; exact occurN 3 e u
  · exact occurN 3 e u

end Only

/-! ## Health -/

/-- What a change of health does in a unit that neither holds nor gains a claim: DIAG and HEALTHY show it, and a unit that is
not healthy starts its hold-off anew (R674, R675, R677). -/
theorem health_noClaim {w : W} (h : NoClaim w) :
    w.health =
      (let d := w.diagRaw &&& (w.rdF R.RED_DIAG_MASK 0 6 ||| 0x1C0)
       let u := (w.wrF R.RED_STAT 16 9 d).wrB R.RED_STAT 5 (d == 0)
       if d = 0 then u else { u with tw.heldOff := false }) := by
  unfold W.health
  dsimp only
  generalize w.diagRaw &&& (w.rdF R.RED_DIAG_MASK 0 6 ||| 0x1C0) = d
  have hc : ((w.wrF R.RED_STAT 16 9 d).wrB R.RED_STAT 5 (d == 0)).rdF R.RED_CLAIM 0 16 = 0 := by
    unfold W.rdF; rw [W.rd_wrB, if_neg (by decide), W.rd_wrF, if_neg (by decide)]; exact h.1
  have hm : ((w.wrF R.RED_STAT 16 9 d).wrB R.RED_STAT 5 (d == 0)).redMode = w.redMode := by
    unfold W.redMode W.rdF; rw [W.rd_wrB, if_neg (by decide), W.rd_wrF, if_neg (by decide)]
  have hr : ((w.wrF R.RED_STAT 16 9 d).wrB R.RED_STAT 5 (d == 0)).redRank = w.redRank := by
    unfold W.redRank W.rdF; rw [W.rd_wrB, if_neg (by decide), W.rd_wrF, if_neg (by decide)]
  generalize (w.wrF R.RED_STAT 16 9 d).wrB R.RED_STAT 5 (d == 0) = u at *
  split
  · unfold W.soloEval
    rw [hm]
    by_cases hm0 : w.redMode = 0
    · rw [if_neg (by simp [hm0])]
      simp only [hc, hr, h.2 hm0]
      simp
    · rw [if_pos hm0]
  · rw [if_neg]
    have hc' : W.hasClaim { u with tw.heldOff := false } = false := by
      have : W.hasClaim { u with tw.heldOff := false } = u.hasClaim := rfl
      rw [this]; unfold W.hasClaim; rw [hc]; rfl
    rw [hc']; simp

end Sys2Proof.Machine
end

