-- ==== Sys2Proof/Laws/Masks.lean ====
section
/-!
SUPPORT. The bits of a number that is made of a predicate.
-/
namespace Sys2Proof.Machine

theorem bitsOf_succ (k : Nat) (p : Nat → Bool) : bitsOf (k + 1) p = if p k then bitsOf k p + 2 ^ k else bitsOf k p := by
  unfold bitsOf
  rw [List.range_succ, List.foldl_append]
  rfl

theorem bitsOf_lt (k : Nat) (p : Nat → Bool) : bitsOf k p < 2 ^ k := by
  induction k with
  | zero => simp [bitsOf]
  | succ k ih => rw [bitsOf_succ, Nat.pow_succ]; split <;> omega

/-- Bit i of the number is the predicate at i. -/
theorem testBit_bitsOf (k : Nat) (p : Nat → Bool) (i : Nat) : (bitsOf k p).testBit i = (decide (i < k) && p i) := by
  induction k with
  | zero => simp [bitsOf]
  | succ k ih =>
    rw [bitsOf_succ]
    have hl := bitsOf_lt k p
    by_cases h : i = k
    · subst h
      have h0 : (bitsOf i p).testBit i = false := Nat.testBit_lt_two_pow hl
      split
      · rename_i hp; rw [Nat.add_comm, Nat.testBit_two_pow_add_eq, h0]; simp [hp]
      · rename_i hp; rw [h0]; simp [hp]
    · have hd : decide (i < k + 1) = decide (i < k) := by apply decide_eq_decide.mpr; omega
      rw [hd, ← ih]
      split
      · by_cases hik : i < k
        · rw [Nat.add_comm, Nat.testBit_two_pow_add_gt hik]
        · have h1 : bitsOf k p + 2 ^ k < 2 ^ i := by
            have : 2 ^ (k + 1) ≤ 2 ^ i := Nat.pow_le_pow_right (by decide) (by omega)
            rw [Nat.pow_succ] at this; omega
          rw [Nat.testBit_lt_two_pow h1, Nat.testBit_lt_two_pow (Nat.lt_of_lt_of_le hl (Nat.pow_le_pow_right (by decide) (by omega)))]
      · rfl

end Sys2Proof.Machine
end

