-- ==== Sys2Proof/Laws/Occur.lean ====
section
/-!
SUPPORT. What an occurrence of an event sets: its pending bit, its bit of EVTLAT, its bit in the latches of the engines that
select it; nothing that stood there is cleared.
-/
namespace Sys2Proof.Machine

/-- The registers whose bits an event only sets: EVT_PEND of a page, EVTLAT. -/
def latchReg (a : Nat) : Bool := a % 0x1000 == 0x018 || decide (R.EVT_EVTLAT 0 ≤ a ∧ a ≤ R.EVT_EVTLAT 7)

/-- Every bit of the event latches that stands in `w` stands in `u`; the masks of the event matrix are the same. -/
structure Sets (w u : W) : Prop where
  latch : ∀ a i, latchReg a = true → w.rdB a i = true → u.rdB a i = true
  se : ∀ (e : Nat) (i : Nat), (w.evt.seLatch.getD e 0).getLsbD i = true → (u.evt.seLatch.getD e 0).getLsbD i = true
  mask : ∀ a, R.EVT_SE_MASK 0 ≤ a → a < R.EVT_REC_SEL 0 → u.rd a = w.rd a

namespace Sets

theorem refl (w : W) : Sets w w := ⟨fun _ _ _ h => h, fun _ _ h => h, fun _ _ _ => rfl⟩
theorem trans {w u v : W} (h : Sets w u) (k : Sets u v) : Sets w v :=
  ⟨fun a i ha hb => k.latch a i ha (h.latch a i ha hb), fun e i he => k.se e i (h.se e i he),
    fun a h1 h2 => (k.mask a h1 h2).trans (h.mask a h1 h2)⟩
theorem ite {w u v : W} {c : Prop} [Decidable c] (h : Sets w u) (k : Sets w v) : Sets w (if c then u else v) := by
  split <;> assumption
theorem foldl {α : Type} {f : W → α → W} (hf : ∀ u x, Sets u (f u x)) : ∀ (l : List α) (w : W), Sets w (l.foldl f w)
  | [], w => refl w
  | x :: t, w => (hf w x).trans (foldl hf t (f w x))
theorem of_regs {w u : W} (h : u.regs = w.regs) (k : u.evt.seLatch = w.evt.seLatch) : Sets w u :=
  ⟨fun a i _ hb => by unfold W.rdB W.rd at *; rw [h]; exact hb, fun e i he => by rw [k]; exact he,
    fun a _ _ => by unfold W.rd; rw [h]⟩
theorem wr (w : W) (a : Nat) (v : Word) (ha : latchReg a = false) (hm : ¬ (R.EVT_SE_MASK 0 ≤ a ∧ a < R.EVT_REC_SEL 0)) :
    Sets w (w.wr a v) :=
  ⟨fun b i hb h => by
      unfold W.rdB at *; rw [W.rd_wr_ne _ _ _ _ (by rintro rfl; simp [ha] at hb)]; exact h,
    fun _ _ h => h, fun b h1 h2 => W.rd_wr_ne _ _ _ _ (by rintro rfl; exact hm ⟨h1, h2⟩)⟩

/-- A bit of a latch set. -/
theorem set (w : W) (a i : Nat) (hi : i < 32) (hm : ¬ (R.EVT_SE_MASK 0 ≤ a ∧ a < R.EVT_REC_SEL 0)) : Sets w (w.wrB a i true) :=
  ⟨fun b j _ h => by
      by_cases hb : b = a
      · subst hb
        by_cases hj : j = i
        · subst hj; exact W.rdB_wrB_same _ _ _ _ hi
        · rw [W.rdB_wrB_apart _ _ _ _ _ hi hj]; exact h
      · unfold W.rdB at *; rw [W.rd_wrB, if_neg hb]; exact h,
    fun _ _ h => h, fun b h1 h2 => by rw [W.rd_wrB, if_neg (by rintro rfl; exact hm ⟨h1, h2⟩)]⟩

theorem msixSend (w : W) (v : Nat) : Sets w (w.msixSend v) := by
  unfold W.msixSend
  dsimp only
  repeat' split
  all_goals exact of_regs rfl rfl

theorem wrB {w u : W} (h : Sets w u) {a i : Nat} {c : Bool} (ha : latchReg a = false)
    (hm : ¬ (R.EVT_SE_MASK 0 ≤ a ∧ a < R.EVT_REC_SEL 0)) : Sets w (u.wrB a i c) := h.trans (wr u a _ ha hm)
theorem incSat {w u : W} (h : Sets w u) {a : Nat} (ha : latchReg a = false)
    (hm : ¬ (R.EVT_SE_MASK 0 ≤ a ∧ a < R.EVT_REC_SEL 0)) : Sets w (u.incSat a) := h.trans (wr u a _ ha hm)

theorem recClaim (w : W) (it : RecItem) : Sets w (w.recClaim it).1 := by
  unfold W.recClaim
  dsimp only
  split
  · exact of_regs rfl rfl
  · refine wrB (a := R.REC_STAT) ?_ (by decide) (by decide)
    exact ((refl w).incSat (a := R.REC_LOST) (by decide) (by decide)).trans (of_regs rfl rfl)

/-- Engine e's latch takes event n. -/
def take (w : W) (e n : Nat) : W :=
  { w with evt.seLatch := w.evt.seLatch.setIfInBounds e (w.evt.seLatch.getD e 0 ||| BitVec.ofNat 256 (2 ^ n)) }

theorem take_latch (w : W) (e n d : Nat) (hd : d < 4) :
    (take w e n).evt.seLatch.getD d 0 = if e = d then w.evt.seLatch.getD d 0 ||| BitVec.ofNat 256 (2 ^ n) else w.evt.seLatch.getD d 0 := by
  have : (take w e n).evt.seLatch = w.evt.seLatch.setIfInBounds e (w.evt.seLatch.getD e 0 ||| BitVec.ofNat 256 (2 ^ n)) := rfl
  rw [this]
  split
  · rename_i h; subst h
    rw [vector_getD _ _ _ hd, Vector.getElem_setIfInBounds_self]
  · rename_i h
    rw [vector_getD _ _ _ hd, vector_getD _ _ _ hd, Vector.getElem_setIfInBounds_ne (h := h)]

theorem take_sets (w : W) (e n : Nat) : Sets w (take w e n) where
  latch := fun _ _ _ h => h
  se := fun d i h => by
    by_cases hd : d < 4
    · rw [take_latch _ _ _ _ hd]
      split
      · rw [BitVec.getLsbD_or, h]; rfl
      · exact h
    · rw [show w.evt.seLatch.getD d 0 = 0 from by unfold Vector.getD Array.getD; simp [hd]] at h; simp at h
  mask := fun _ _ _ => rfl

/-- The engines' latches take the bit of an event that they select. -/
def takes (k b n : Nat) (l : List Nat) (w : W) : W :=
  l.foldl (fun w e => if w.rdB (R.EVT_SE_MASK (8 * e + k)) b then take w e n else w) w

theorem takes_sets (k b n : Nat) (l : List Nat) (w : W) : Sets w (takes k b n l w) :=
  foldl (fun u e => ite (take_sets u e n) (refl u)) l w

theorem takes_set (k b n : Nat) (hn : n < 256) (e : Nat) (he : e < 4) (l : List Nat) : ∀ w : W, e ∈ l →
    w.rdB (R.EVT_SE_MASK (8 * e + k)) b = true → ((takes k b n l w).evt.seLatch.getD e 0).getLsbD n = true := by
  induction l with
  | nil => intro w hm; simp at hm
  | cons d l ih =>
    intro w hm hb
    have hc : takes k b n (d :: l) w = takes k b n l (if w.rdB (R.EVT_SE_MASK (8 * d + k)) b then take w d n else w) := rfl
    rw [hc]
    by_cases hd : e = d
    · subst hd
      refine (takes_sets k b n l _).se e n ?_
      rw [if_pos hb, take_latch _ _ _ _ he, if_pos rfl, BitVec.getLsbD_or]
      have : (BitVec.ofNat 256 (2 ^ n)).getLsbD n = true := by
        rw [BitVec.getLsbD_ofNat]; simp [hn, Nat.testBit_two_pow_self]
      rw [this]; simp
    · refine ih _ ((List.mem_cons.mp hm).resolve_left hd) ?_
      split
      · have : (take w d n).rdB (R.EVT_SE_MASK (8 * e + k)) b = w.rdB (R.EVT_SE_MASK (8 * e + k)) b := rfl
        rw [this]; exact hb
      · exact hb

/-- EVTLAT takes the event, and the vectors that it asserts send their messages. -/
def latched (w : W) (k b : Nat) : W :=
  if w.rdB (R.EVT_EVTLAT k) b then w.wrB (R.EVT_EVTLAT k) b true
  else (List.range 32).foldl (fun u v => if u.rdB (R.EVT_VEC_MASK (8 * v + k)) b && !w.vecAsserted v then u.msixSend v else u)
    (w.wrB (R.EVT_EVTLAT k) b true)

theorem latched_sets (w : W) (k b : Nat) (hk : k < 8) (hb : b < 32) :
    Sets w (latched w k b) ∧ (latched w k b).rdB (R.EVT_EVTLAT k) b = true := by
  have h1 : Sets w (w.wrB (R.EVT_EVTLAT k) b true) := set _ _ _ hb (by
    simp only [R.EVT_SE_MASK, R.EVT_EVTLAT, R.EVT_REC_SEL]; omega)
  have b1 : (w.wrB (R.EVT_EVTLAT k) b true).rdB (R.EVT_EVTLAT k) b = true := W.rdB_wrB_same _ _ _ _ hb
  have hl : latchReg (R.EVT_EVTLAT k) = true := by
    unfold latchReg; simp only [R.EVT_EVTLAT]; simp; omega
  have h2 : Sets (w.wrB (R.EVT_EVTLAT k) b true) (latched w k b) := by
    unfold latched
    exact ite (refl _) (foldl (fun u v => ite (msixSend u v) (refl u)) _ _)
  exact ⟨h1.trans h2, h2.latch _ _ hl b1⟩

/-- The recorder's triggers that select event n claim their places. -/
def claims (again : W → W) (n : Nat) (w : W) : W :=
  (List.range 64).foldl (fun w t =>
    if bit (w.rd (R.EVT_REC_SEL t)) 31 && fld (w.rd (R.EVT_REC_SEL t)) 0 8 == n && bit ((w.recd.trig.getD t {}).cfg) 0 then
      if (w.recClaim ⟨t, 0, [], none⟩).2 then again (w.recClaim ⟨t, 0, [], none⟩).1 else (w.recClaim ⟨t, 0, [], none⟩).1
    else w) w

theorem claims_sets {again : W → W} (ha : ∀ u, Sets u (again u)) (n : Nat) (w : W) : Sets w (claims again n w) :=
  foldl (fun u _ => ite (ite ((recClaim u _).trans (ha _)) (recClaim u _)) (refl u)) _ w

theorem route_eq (again : W → W) (w : W) (n : Nat) :
    W.route again w n = claims again n (takes (n / 32) (n % 32) n (List.range 4) (latched w (n / 32) (n % 32))) := rfl

theorem route {again : W → W} (ha : ∀ u, Sets u (again u)) (w : W) (n : Nat) (hn : n < 256) :
    Sets w (W.route again w n) ∧ (W.route again w n).rdB (R.EVT_EVTLAT (n / 32)) (n % 32) = true ∧
      ∀ e < 4, w.rdB (R.EVT_SE_MASK (8 * e + n / 32)) (n % 32) = true →
        ((W.route again w n).evt.seLatch.getD e 0).getLsbD n = true := by
  rw [route_eq]
  have hk : n / 32 < 8 := by omega
  have hl : latchReg (R.EVT_EVTLAT (n / 32)) = true := by
    unfold latchReg; simp only [R.EVT_EVTLAT]; simp; omega
  obtain ⟨h1, b1⟩ := latched_sets w (n / 32) (n % 32) hk (by omega)
  generalize latched w (n / 32) (n % 32) = u at *
  have h3 := takes_sets (n / 32) (n % 32) n (List.range 4) u
  have s3 := fun e he => takes_set (n / 32) (n % 32) n hn e he (List.range 4) u (List.mem_range.mpr he)
  generalize takes (n / 32) (n % 32) n (List.range 4) u = v at *
  have h4 := claims_sets ha n v
  refine ⟨(h1.trans h3).trans h4, h4.latch _ _ hl (h3.latch _ _ hl b1), fun e he hb => h4.se _ _ (s3 e he ?_)⟩
  unfold W.rdB at *
  rw [h1.mask _ (by simp only [R.EVT_SE_MASK]; omega) (by simp only [R.EVT_SE_MASK, R.EVT_REC_SEL]; omega)]
  exact hb

theorem armWatch (w : W) (n : Nat) : Sets w (w.armWatch n) := by
  unfold W.armWatch; exact ite (of_regs rfl rfl) (refl w)

theorem lt_32 {p b n : Nat} (h : globalEvent p b = some n) : b < 32 := by
  unfold globalEvent at h
  repeat' split at h
  all_goals first
    | (cases h; done)
    | omega

theorem pend_mask (p : Nat) : ¬ (R.EVT_SE_MASK 0 ≤ R.H_EVT_PEND p ∧ R.H_EVT_PEND p < R.EVT_REC_SEL 0) := by
  unfold R.H_EVT_PEND R.EVT_SE_MASK R.EVT_REC_SEL; omega

theorem occurN : ∀ (k : Nat) (e : Nat × Nat) (w : W), e.2 < 32 → Sets w (W.occurN k e w)
  | 0, _, w, _ => refl w
  | k + 1, e, w, h => by
    unfold W.occurN
    dsimp only
    refine ite ((set w _ _ h (pend_mask e.1)).trans (ite (refl _) ?_)) (refl w)
    split
    · rename_i n hn
      exact (armWatch _ n).trans (route (fun u => occurN k E.REC_LOST u (by decide)) _ n (SameWatch.globalEvent_lt hn)).1
    · exact refl _

/-- What an occurrence of an enabled event sets (R64, R81, R85). -/
theorem occur {w : W} {p b n : Nat} (hg : globalEvent p b = some n) (he : w.rdB (R.H_EVT_EN p) b = true) (hh : w.pwr.held = false) :
    (w.occur (p, b)).rdB (R.H_EVT_PEND p) b = true ∧ (w.occur (p, b)).rdB (R.EVT_EVTLAT (n / 32)) (n % 32) = true ∧
      ∀ e < 4, w.rdB (R.EVT_SE_MASK (8 * e + n / 32)) (n % 32) = true →
        ((w.occur (p, b)).evt.seLatch.getD e 0).getLsbD n = true := by
  have hb := lt_32 hg
  have hn := SameWatch.globalEvent_lt hg
  unfold W.occur W.occurN
  dsimp only
  have h0 : (w.wrB (R.H_EVT_PEND p) b true).pwr.held = false := hh
  rw [if_pos he, if_neg (by rw [h0]; decide), hg]
  dsimp only
  have h1 := set w (R.H_EVT_PEND p) b hb (pend_mask p)
  have p1 : (w.wrB (R.H_EVT_PEND p) b true).rdB (R.H_EVT_PEND p) b = true := W.rdB_wrB_same _ _ _ _ hb
  generalize w.wrB (R.H_EVT_PEND p) b true = u at h1 p1
  have h2 := armWatch u n
  have h3 := route (again := W.occurN 2 E.REC_LOST) (fun u => occurN 2 E.REC_LOST u (by decide)) (u.armWatch n) n hn
  have hl : latchReg (R.H_EVT_PEND p) = true := by unfold latchReg; simp only [R.H_EVT_PEND]; simp
  refine ⟨h3.1.latch _ _ hl (h2.latch _ _ hl p1), h3.2.1, fun e he hb => h3.2.2 e he ?_⟩
  unfold W.rdB at *
  rw [(h1.trans h2).mask _ (by simp only [R.EVT_SE_MASK]; omega) (by simp only [R.EVT_SE_MASK, R.EVT_REC_SEL]; omega)]
  exact hb

/-- In a device at rest raising an event is its occurrence: nothing wakes. -/
theorem raise_eq {w : W} (h : Steady w) (e : Nat × Nat) : w.raise e = w.occur e := by
  have hu := Awake.of_steady h
  have ho := SameWatch.occurN 3 e w hu
  have hk : (w.occur e).wake = w.occur e := by
    have := hu.same ho
    unfold W.wake W.abortEntry
    simp [W.occur, this.noReq, this.noEntry, this.run]
  unfold W.raise
  dsimp only
  split
  · rw [hk]
  · rfl

end Sets

end Sys2Proof.Machine
end

