-- ==== Sys2Proof/Laws/Pages.lean ====
section
/-!
SUPPORT. The check and the effect of a write of a register, page by page.
-/
namespace Sys2Proof.Machine.W

variable {w : W} {m : Memory} {off : Nat} {v : Word} {x : Ext}

theorem check_01 (h : off / 0x1000 = 0x01) : w.blockCheck m off v x = w.pwrCheck (off % 0x1000) v := by
  have : off ≠ R.SYS_RST_CTRL := by unfold R.SYS_RST_CTRL; omega
  unfold blockCheck
  simp [h, this]

theorem check_02 (h : off / 0x1000 = 0x02) : w.blockCheck m off v x = w.ageCheck (off % 0x1000) v := by
  have : off ≠ R.SYS_RST_CTRL := by unfold R.SYS_RST_CTRL; omega
  unfold blockCheck
  simp [h, this]

theorem check_03 (h : off / 0x1000 = 0x03) : w.blockCheck m off v x = 0 := by
  have : off ≠ R.SYS_RST_CTRL := by unfold R.SYS_RST_CTRL; omega
  unfold blockCheck
  simp [h, this]

theorem check_04 (h : off / 0x1000 = 0x04) : w.blockCheck m off v x = w.hifCheck (off % 0x1000) v := by
  have : off ≠ R.SYS_RST_CTRL := by unfold R.SYS_RST_CTRL; omega
  unfold blockCheck
  simp [h, this]

theorem check_05 (h : off / 0x1000 = 0x05) : w.blockCheck m off v x = w.rtcCheck (off % 0x1000) v := by
  have : off ≠ R.SYS_RST_CTRL := by unfold R.SYS_RST_CTRL; omega
  unfold blockCheck
  simp [h, this]

theorem check_06 (h : off / 0x1000 = 0x06) : w.blockCheck m off v x = w.bkpCheck (off % 0x1000) v := by
  have : off ≠ R.SYS_RST_CTRL := by unfold R.SYS_RST_CTRL; omega
  unfold blockCheck
  simp [h, this]

theorem check_07 (h : off / 0x1000 = 0x07) : w.blockCheck m off v x = w.recCheck (off % 0x1000) v := by
  have : off ≠ R.SYS_RST_CTRL := by unfold R.SYS_RST_CTRL; omega
  unfold blockCheck
  simp [h, this]

theorem check_08 (h : off / 0x1000 = 0x08) : w.blockCheck m off v x = 0 := by
  have : off ≠ R.SYS_RST_CTRL := by unfold R.SYS_RST_CTRL; omega
  unfold blockCheck
  simp [h, this]

theorem check_09 (h : off / 0x1000 = 0x09) : w.blockCheck m off v x = 0 := by
  have : off ≠ R.SYS_RST_CTRL := by unfold R.SYS_RST_CTRL; omega
  unfold blockCheck
  simp [h, this]

theorem check_0a (h : off / 0x1000 = 0x0A) : w.blockCheck m off v x = w.scanCheck m (off % 0x1000) v := by
  have : off ≠ R.SYS_RST_CTRL := by unfold R.SYS_RST_CTRL; omega
  unfold blockCheck
  simp [h, this]

theorem check_0f (h : off / 0x1000 = 0x0F) : w.blockCheck m off v x = w.frcCheck (off % 0x1000) v := by
  have : off ≠ R.SYS_RST_CTRL := by unfold R.SYS_RST_CTRL; omega
  unfold blockCheck
  simp [h, this]

theorem check_10 (h : off / 0x1000 = 0x10) : w.blockCheck m off v x = w.mtrCheck (off % 0x1000) v := by
  have : off ≠ R.SYS_RST_CTRL := by unfold R.SYS_RST_CTRL; omega
  unfold blockCheck
  simp [h, this]

theorem check_11 (h : off / 0x1000 = 0x11) : w.blockCheck m off v x = w.afeCheck (off % 0x1000) v := by
  have : off ≠ R.SYS_RST_CTRL := by unfold R.SYS_RST_CTRL; omega
  unfold blockCheck
  simp [h, this]

theorem check_12 (h : off / 0x1000 = 0x12) : w.blockCheck m off v x = w.plsCheck (off % 0x1000) v := by
  have : off ≠ R.SYS_RST_CTRL := by unfold R.SYS_RST_CTRL; omega
  unfold blockCheck
  simp [h, this]

theorem check_13 (h : off / 0x1000 = 0x13) : w.blockCheck m off v x = w.qtyCheck (off % 0x1000) v := by
  have : off ≠ R.SYS_RST_CTRL := by unfold R.SYS_RST_CTRL; omega
  unfold blockCheck
  simp [h, this]

theorem check_14 (h : off / 0x1000 = 0x14) : w.blockCheck m off v x = w.hrmCheck (off % 0x1000) v := by
  have : off ≠ R.SYS_RST_CTRL := by unfold R.SYS_RST_CTRL; omega
  unfold blockCheck
  simp [h, this]

theorem check_15 (h : off / 0x1000 = 0x15) : w.blockCheck m off v x = w.slvCheck m (off % 0x1000) v := by
  have : off ≠ R.SYS_RST_CTRL := by unfold R.SYS_RST_CTRL; omega
  unfold blockCheck
  simp [h, this]

theorem check_16 (h : off / 0x1000 = 0x16) : w.blockCheck m off v x = 0 := by
  have : off ≠ R.SYS_RST_CTRL := by unfold R.SYS_RST_CTRL; omega
  unfold blockCheck
  simp [h, this]

theorem check_17 (h : off / 0x1000 = 0x17) : w.blockCheck m off v x = w.qpCheck (off % 0x1000) v := by
  have : off ≠ R.SYS_RST_CTRL := by unfold R.SYS_RST_CTRL; omega
  unfold blockCheck
  simp [h, this]

theorem check_18 (h : off / 0x1000 = 0x18) : w.blockCheck m off v x = 0 := by
  have : off ≠ R.SYS_RST_CTRL := by unfold R.SYS_RST_CTRL; omega
  unfold blockCheck
  simp [h, this]

theorem check_19 (h : off / 0x1000 = 0x19) : w.blockCheck m off v x = 0 := by
  have : off ≠ R.SYS_RST_CTRL := by unfold R.SYS_RST_CTRL; omega
  unfold blockCheck
  simp [h, this]

theorem check_2a (h : off / 0x1000 = 0x2A) : w.blockCheck m off v x = 0 := by
  have : off ≠ R.SYS_RST_CTRL := by unfold R.SYS_RST_CTRL; omega
  unfold blockCheck
  simp [h, this]

theorem check_3b (h : off / 0x1000 = 0x3B) : w.blockCheck m off v x = w.drvWriteCode (off % 0x1000) v := by
  have : off ≠ R.SYS_RST_CTRL := by unfold R.SYS_RST_CTRL; omega
  unfold blockCheck
  simp [h, this]

theorem check_3c (h : off / 0x1000 = 0x3C) : w.blockCheck m off v x = 0 := by
  have : off ≠ R.SYS_RST_CTRL := by unfold R.SYS_RST_CTRL; omega
  unfold blockCheck
  simp [h, this]

theorem check_3d (h : off / 0x1000 = 0x3D) : w.blockCheck m off v x = w.keyCheck (off % 0x1000) v := by
  have : off ≠ R.SYS_RST_CTRL := by unfold R.SYS_RST_CTRL; omega
  unfold blockCheck
  simp [h, this]

theorem check_3e (h : off / 0x1000 = 0x3E) : w.blockCheck m off v x = w.tmpCheck (off % 0x1000) v := by
  have : off ≠ R.SYS_RST_CTRL := by unfold R.SYS_RST_CTRL; omega
  unfold blockCheck
  simp [h, this]

theorem check_3f (h : off / 0x1000 = 0x3F) : w.blockCheck m off v x = w.redCheck (off % 0x1000) v := by
  have : off ≠ R.SYS_RST_CTRL := by unfold R.SYS_RST_CTRL; omega
  unfold blockCheck
  simp [h, this]

theorem check_40 (h : off / 0x1000 = 0x40) : w.blockCheck m off v x = w.lnkCheck m (off % 0x1000) v := by
  have : off ≠ R.SYS_RST_CTRL := by unfold R.SYS_RST_CTRL; omega
  unfold blockCheck
  simp [h, this]

theorem check_41 (h : off / 0x1000 = 0x41) : w.blockCheck m off v x = 0 := by
  have : off ≠ R.SYS_RST_CTRL := by unfold R.SYS_RST_CTRL; omega
  unfold blockCheck
  simp [h, this]

theorem write_01 (h : off / 0x1000 = 0x01) : w.blockWrite m off v x = (w.pwrWrite m (off % 0x1000) v).getD (w.storeWord off v) := by
  have : off ≠ R.SYS_RST_CTRL := by unfold R.SYS_RST_CTRL; omega
  unfold blockWrite
  simp [h, this]

theorem write_02 (h : off / 0x1000 = 0x02) : w.blockWrite m off v x = (w.ageWrite (off % 0x1000) v x.canary x.steps).getD (w.storeWord off v) := by
  have : off ≠ R.SYS_RST_CTRL := by unfold R.SYS_RST_CTRL; omega
  unfold blockWrite
  simp [h, this]

theorem write_04 (h : off / 0x1000 = 0x04) : w.blockWrite m off v x = (w.hifWrite m (off % 0x1000) v).getD (w.storeWord off v) := by
  have : off ≠ R.SYS_RST_CTRL := by unfold R.SYS_RST_CTRL; omega
  unfold blockWrite
  simp [h, this]

theorem write_05 (h : off / 0x1000 = 0x05) : w.blockWrite m off v x = (w.rtcWrite (off % 0x1000) v).getD (w.storeWord off v) := by
  have : off ≠ R.SYS_RST_CTRL := by unfold R.SYS_RST_CTRL; omega
  unfold blockWrite
  simp [h, this]

theorem write_06 (h : off / 0x1000 = 0x06) : w.blockWrite m off v x = (w.bkpWrite (off % 0x1000) v).getD (w.storeWord off v) := by
  have : off ≠ R.SYS_RST_CTRL := by unfold R.SYS_RST_CTRL; omega
  unfold blockWrite
  simp [h, this]

theorem write_07 (h : off / 0x1000 = 0x07) : w.blockWrite m off v x = (w.recWrite (off % 0x1000) v).getD (w.storeWord off v) := by
  have : off ≠ R.SYS_RST_CTRL := by unfold R.SYS_RST_CTRL; omega
  unfold blockWrite
  simp [h, this]

theorem write_08 (h : off / 0x1000 = 0x08) : w.blockWrite m off v x = (w.nvmWrite (off % 0x1000) v).getD (w.storeWord off v) := by
  have : off ≠ R.SYS_RST_CTRL := by unfold R.SYS_RST_CTRL; omega
  unfold blockWrite
  simp [h, this]

theorem write_09 (h : off / 0x1000 = 0x09) : w.blockWrite m off v x = w.storeWord off v := by
  have : off ≠ R.SYS_RST_CTRL := by unfold R.SYS_RST_CTRL; omega
  unfold blockWrite
  simp [h, this]

theorem write_0a (h : off / 0x1000 = 0x0A) : w.blockWrite m off v x = (w.scanWrite m (off % 0x1000) v).getD (w.storeWord off v) := by
  have : off ≠ R.SYS_RST_CTRL := by unfold R.SYS_RST_CTRL; omega
  unfold blockWrite
  simp [h, this]

theorem write_0f (h : off / 0x1000 = 0x0F) : w.blockWrite m off v x = (w.frcWrite (off % 0x1000) v).getD (w.storeWord off v) := by
  have : off ≠ R.SYS_RST_CTRL := by unfold R.SYS_RST_CTRL; omega
  unfold blockWrite
  simp [h, this]

theorem write_10 (h : off / 0x1000 = 0x10) : w.blockWrite m off v x = (w.mtrWrite (off % 0x1000) v).getD (w.storeWord off v) := by
  have : off ≠ R.SYS_RST_CTRL := by unfold R.SYS_RST_CTRL; omega
  unfold blockWrite
  simp [h, this]

theorem write_11 (h : off / 0x1000 = 0x11) : w.blockWrite m off v x = (w.afeWrite (off % 0x1000) v).getD (w.storeWord off v) := by
  have : off ≠ R.SYS_RST_CTRL := by unfold R.SYS_RST_CTRL; omega
  unfold blockWrite
  simp [h, this]

theorem write_12 (h : off / 0x1000 = 0x12) : w.blockWrite m off v x = w.storeWord off v := by
  have : off ≠ R.SYS_RST_CTRL := by unfold R.SYS_RST_CTRL; omega
  unfold blockWrite
  simp [h, this]

theorem write_13 (h : off / 0x1000 = 0x13) : w.blockWrite m off v x = (w.qtyWrite (off % 0x1000) v).getD (w.storeWord off v) := by
  have : off ≠ R.SYS_RST_CTRL := by unfold R.SYS_RST_CTRL; omega
  unfold blockWrite
  simp [h, this]

theorem write_14 (h : off / 0x1000 = 0x14) : w.blockWrite m off v x = (w.hrmWrite (off % 0x1000) v).getD (w.storeWord off v) := by
  have : off ≠ R.SYS_RST_CTRL := by unfold R.SYS_RST_CTRL; omega
  unfold blockWrite
  simp [h, this]

theorem write_15 (h : off / 0x1000 = 0x15) : w.blockWrite m off v x = (w.slvWrite m (off % 0x1000) v).getD (w.storeWord off v) := by
  have : off ≠ R.SYS_RST_CTRL := by unfold R.SYS_RST_CTRL; omega
  unfold blockWrite
  simp [h, this]

theorem write_16 (h : off / 0x1000 = 0x16) : w.blockWrite m off v x = w.storeWord off v := by
  have : off ≠ R.SYS_RST_CTRL := by unfold R.SYS_RST_CTRL; omega
  unfold blockWrite
  simp [h, this]

theorem write_17 (h : off / 0x1000 = 0x17) : w.blockWrite m off v x = w.storeWord off v := by
  have : off ≠ R.SYS_RST_CTRL := by unfold R.SYS_RST_CTRL; omega
  unfold blockWrite
  simp [h, this]

theorem write_18 (h : off / 0x1000 = 0x18) : w.blockWrite m off v x = w.storeWord off v := by
  have : off ≠ R.SYS_RST_CTRL := by unfold R.SYS_RST_CTRL; omega
  unfold blockWrite
  simp [h, this]

theorem write_19 (h : off / 0x1000 = 0x19) : w.blockWrite m off v x = w.storeWord off v := by
  have : off ≠ R.SYS_RST_CTRL := by unfold R.SYS_RST_CTRL; omega
  unfold blockWrite
  simp [h, this]

theorem write_2a (h : off / 0x1000 = 0x2A) : w.blockWrite m off v x = w.storeWord off v := by
  have : off ≠ R.SYS_RST_CTRL := by unfold R.SYS_RST_CTRL; omega
  unfold blockWrite
  simp [h, this]

theorem write_3b (h : off / 0x1000 = 0x3B) : w.blockWrite m off v x = w.storeWord off v := by
  have : off ≠ R.SYS_RST_CTRL := by unfold R.SYS_RST_CTRL; omega
  unfold blockWrite
  simp [h, this]

theorem write_3c (h : off / 0x1000 = 0x3C) : w.blockWrite m off v x = w.storeWord off v := by
  have : off ≠ R.SYS_RST_CTRL := by unfold R.SYS_RST_CTRL; omega
  unfold blockWrite
  simp [h, this]

theorem write_3d (h : off / 0x1000 = 0x3D) : w.blockWrite m off v x = (w.keyWrite m (off % 0x1000) v).getD (w.storeWord off v) := by
  have : off ≠ R.SYS_RST_CTRL := by unfold R.SYS_RST_CTRL; omega
  unfold blockWrite
  simp [h, this]

theorem write_3e (h : off / 0x1000 = 0x3E) : w.blockWrite m off v x = (w.tmpWrite (off % 0x1000) v).getD (w.storeWord off v) := by
  have : off ≠ R.SYS_RST_CTRL := by unfold R.SYS_RST_CTRL; omega
  unfold blockWrite
  simp [h, this]

theorem write_3f (h : off / 0x1000 = 0x3F) : w.blockWrite m off v x = (w.redWrite (off % 0x1000) v).getD (w.storeWord off v) := by
  have : off ≠ R.SYS_RST_CTRL := by unfold R.SYS_RST_CTRL; omega
  unfold blockWrite
  simp [h, this]

theorem write_40 (h : off / 0x1000 = 0x40) : w.blockWrite m off v x = (w.lnkWrite m (off % 0x1000) v).getD (w.storeWord off v) := by
  have : off ≠ R.SYS_RST_CTRL := by unfold R.SYS_RST_CTRL; omega
  unfold blockWrite
  simp [h, this]

theorem write_41 (h : off / 0x1000 = 0x41) : w.blockWrite m off v x = (w.gpioWrite (off % 0x1000) v).getD (w.storeWord off v) := by
  have : off ≠ R.SYS_RST_CTRL := by unfold R.SYS_RST_CTRL; omega
  unfold blockWrite
  simp [h, this]

theorem check_00 (h : off / 0x1000 = 0x00) (hn : off ≠ R.SYS_RST_CTRL) : w.blockCheck m off v x = 0 := by
  unfold blockCheck
  simp [h, hn]

theorem write_00 (h : off / 0x1000 = 0x00) (hn : off ≠ R.SYS_RST_CTRL) : w.blockWrite m off v x = w.storeWord off v := by
  unfold blockWrite
  simp [h, hn]

theorem check_task {n : Nat} (hn : n < 4) (h : off / 0x1000 = 0x0B + n) :
    w.blockCheck m off v x = w.taskCheck m n (off % 0x1000) v := by
  have : off ≠ R.SYS_RST_CTRL := by unfold R.SYS_RST_CTRL; omega
  unfold blockCheck
  interval_cases n <;> simp [h, this]

theorem write_task {n : Nat} (hn : n < 4) (h : off / 0x1000 = 0x0B + n) :
    w.blockWrite m off v x = (w.taskWrite m n (off % 0x1000) v x.edge x.sub).getD (w.storeWord off v) := by
  have : off ≠ R.SYS_RST_CTRL := by unfold R.SYS_RST_CTRL; omega
  unfold blockWrite
  interval_cases n <;> simp [h, this]

theorem check_can {n : Nat} (hn : n < 16) (h : off / 0x1000 = 0x1A + n) :
    w.blockCheck m off v x = w.canCheck n (off % 0x1000) v := by
  have : off ≠ R.SYS_RST_CTRL := by unfold R.SYS_RST_CTRL; omega
  unfold blockCheck
  interval_cases n <;> simp [h, this]

theorem write_can {n : Nat} (hn : n < 16) (h : off / 0x1000 = 0x1A + n) :
    w.blockWrite m off v x = (w.canWrite n (off % 0x1000) v).getD (w.storeWord off v) := by
  have : off ≠ R.SYS_RST_CTRL := by unfold R.SYS_RST_CTRL; omega
  unfold blockWrite
  interval_cases n <;> simp [h, this]

theorem check_ax {n : Nat} (hn : n < 16) (h : off / 0x1000 = 0x2B + n) (ho : off % 0x1000 ≠ 0x0C0) :
    w.blockCheck m off v x = w.axWriteCode n (off % 0x1000) v := by
  have : off ≠ R.SYS_RST_CTRL := by unfold R.SYS_RST_CTRL; omega
  unfold blockCheck
  interval_cases n <;> simp [h, this, ho]

theorem write_ax {n : Nat} (hn : n < 16) (h : off / 0x1000 = 0x2B + n) (ho : off % 0x1000 ≠ 0x0C0) :
    w.blockWrite m off v x = (w.axWrite n (off % 0x1000) v).getD (w.storeWord off v) := by
  have : off ≠ R.SYS_RST_CTRL := by unfold R.SYS_RST_CTRL; omega
  unfold blockWrite
  interval_cases n <;> simp [h, this, ho]

theorem check_clear {n : Nat} (hn : n < 16) (h : off / 0x1000 = 0x2B + n) (ho : off % 0x1000 = 0x0C0) :
    w.blockCheck m off v x = if bit v 0 && w.axState n == axFAULT && w.axCause n x.isa x.isb x.diag then eState else 0 := by
  have : off ≠ R.SYS_RST_CTRL := by unfold R.SYS_RST_CTRL; omega
  unfold blockCheck
  interval_cases n <;> simp [h, this, ho]

theorem write_clear {n : Nat} (hn : n < 16) (h : off / 0x1000 = 0x2B + n) (ho : off % 0x1000 = 0x0C0) :
    w.blockWrite m off v x = if bit v 0 && w.axState n == axFAULT then w.axClear n else w := by
  have : off ≠ R.SYS_RST_CTRL := by unfold R.SYS_RST_CTRL; omega
  unfold blockWrite
  interval_cases n <;> simp [h, this, ho]

theorem write_evtlat {k : Nat} (hk : k < 8) : w.blockWrite m (R.EVT_EVTLAT k) v x = w.evtlatClear k v := by
  have h1 : R.EVT_EVTLAT k ≠ R.SYS_RST_CTRL := by unfold R.SYS_RST_CTRL R.EVT_EVTLAT; omega
  have h2 : R.EVT_EVTLAT k / 0x1000 = 3 := by unfold R.EVT_EVTLAT; omega
  have h3 : R.EVT_EVTLAT k % 0x1000 = 0x700 + 4 * k := by unfold R.EVT_EVTLAT; omega
  have h4 : 0x700 + 4 * k < 0x720 := by omega
  unfold blockWrite
  simp [h1, h2, h3, h4]

theorem write_03 {d : RegDef} (h : off / 0x1000 = 0x03) (hd : regDef off = some d) (hm : off % 0x1000 < 0x700) :
    w.blockWrite m off v x = w.evtMask off (v &&& BitVec.ofNat 32 d.wmask) := by
  have h1 : off ≠ R.SYS_RST_CTRL := by unfold R.SYS_RST_CTRL; omega
  have h2 : ¬ 0x700 ≤ off % 0x1000 := by omega
  unfold blockWrite
  simp [h, h1, h2, hd]

end Sys2Proof.Machine.W
end

