-- ==== Sys2Proof/Laws/Start.lean ====
section
/-!
SUPPORT. A command that gives one domain its first user, in a device at rest otherwise: the evaluation starts that domain.
-/
namespace Sys2Proof.Machine

/-- A record at rest but for domain d. -/
structure SteadyBut (d : Nat) (u : W) : Prop where
  held : u.pwr.held = false
  run : u.pstate = 0
  noReq : u.rdF R.PWR_STATE_REQ 0 2 = 0
  noEntry : u.pwr.lullEntry = false
  noHit : u.evt.armHits = []
  noUe : u.tw.sysUe = []
  planner : u.age.deferred = false
  queue : u.slv.exec.isSome = true ∨ u.slv.queue = [] ∨ u.serving = true
  qstat : u.rd R.SLV_QSTAT = Sys2Proof.qstat u
  array : u.slv.exec.isSome = true → u.dom 5 = 1 ∧ u.pwr.slvArray = true ∨ u.dom 5 = 3
  domains : ∀ e ∈ [4, 6, 7, 8, 9], e ≠ d → domainSettled u e

/-- What one domain's turn of the evaluation does. -/
def domainTurn (m : Memory) (w : W) (d : Nat) : W :=
  if w.hasUser true d then
    let w := if d = 4 then { w with pwr.pd4OffWait := false, pwr.ckptRetry := false } else w
    if w.dom d = 0 then w.demand d else w
  else if w.dom d = 1 ∧ w.released = true ∧ (d = 6 → w.canClosing = false) then
    if d = 4 then (if w.pwr.pd4OffWait then w else ({ w with pwr.pd4OffWait := true }).ckptRequest false m)
    else w.pdOff d
  else w

theorem domainTurn_settled {u : W} {d : Nat} (m : Memory) (h : domainSettled u d) : domainTurn m u d = u := by
  unfold domainSettled at h
  unfold domainTurn
  split
  · rename_i hu
    rw [if_pos hu] at h
    have e : (if d = 4 then { u with pwr.pd4OffWait := false, pwr.ckptRetry := false } else u) = u := by
      split
      · rename_i hd4
        obtain ⟨a, b⟩ := h.2 hd4
        cases u with | mk dev wq => cases dev with | mk r t p => cases p; simp_all
      · rfl
    simp only [e, if_neg h.1]
  · rename_i hu
    rw [if_neg hu] at h
    split
    · rename_i hd1
      rcases h hd1.1 with a | ⟨a, b⟩
      · simp [a] at hd1
      · simp [a, b]
    · rfl

theorem SteadyBut.kick {u : W} {d : Nat} (h : SteadyBut d u) : u.slvKick = u := by
  have hq : u.slvSync = u := W.upd_self _ _ _ h.qstat
  unfold W.slvKick
  cases he : u.slv.exec with
  | some j => simpa [he] using hq
  | none =>
    cases hqu : u.slv.queue with
    | nil => simpa [he, hqu] using hq
    | cons j js =>
      have := h.queue
      simp [he, hqu] at this
      simpa [he, hqu, this] using hq

/-- The demand of an off domain that nothing forbids, in a device that runs. -/
theorem demand_started {u : W} {d : Nat} (h5 : d ≠ 5) (h0 : u.dom d = 0) (he : u.ew = false) (hx : u.pwr.xtmFail = false)
    (hb : u.buckFaulted d = false) (hr : u.pstate = 0) (hq : u.rdF R.PWR_STATE_REQ 0 2 = 0) (hl : u.pwr.lullEntry = false) :
    u.demand d = started u d := by
  unfold W.demand
  rw [if_neg (by simp [h0, he, hx, hb])]
  have ha : u.abortEntry = u := by unfold W.abortEntry; rw [if_pos ⟨hq, hl⟩]
  have hp : u.setPstate 0 = u := by unfold W.setPstate; rw [if_pos hr]
  dsimp only
  rw [ha, hp, if_neg h5]
  rfl

theorem started_rd (u : W) (d a : Nat) (h1 : a ≠ R.PWR_DOM_STAT) (h2 : a ≠ R.PWR_STATE) : (started u d).rd a = u.rd a := by
  unfold started W.setDom
  rw [W.rd_wrB, if_neg h2, W.rd_wrF, if_neg h1]
  unfold W.startPllSys; split <;> rfl

theorem started_dom (u : W) (d e : Nat) (hd : d < 10) (he : e < 10) :
    (started u d).dom e = if e = d then 3 else u.dom e := by
  have hs : ∀ a, (u.startPllSys).rd a = u.rd a := fun a => by unfold W.startPllSys; split <;> rfl
  unfold started W.dom W.setDom W.rdF
  rw [W.rd_wrB, if_neg (by decide), W.rd_wrF, if_pos rfl]
  split
  · rename_i h; subst h; exact fld_setFld _ _ _ _ (by omega)
  · rw [fld_setFld_ne _ _ _ _ _ _ (by omega) (by omega), hs]

theorem started_shell (u : W) (d : Nat) : (started u d).slv = u.slv ∧ (started u d).key = u.key ∧ (started u d).hif = u.hif ∧
    (started u d).evt = u.evt ∧ (started u d).tw = u.tw ∧ (started u d).age = u.age ∧ (started u d).wq = u.wq := by
  have hs : ∀ v : W, v = u.startPllSys → v.slv = u.slv ∧ v.key = u.key ∧ v.hif = u.hif ∧ v.evt = u.evt ∧ v.tw = u.tw ∧
      v.age = u.age ∧ v.wq = u.wq := by
    rintro v rfl; unfold W.startPllSys; split <;> exact ⟨rfl, rfl, rfl, rfl, rfl, rfl, rfl⟩
  exact hs u.startPllSys rfl

theorem started_pwr (u : W) (d : Nat) : (started u d).pwr.held = u.pwr.held ∧ (started u d).pwr.lullEntry = u.pwr.lullEntry ∧
    (started u d).pwr.wakeHold = u.pwr.wakeHold ∧ (started u d).pwr.slvArray = u.pwr.slvArray ∧
    (started u d).pwr.pd4OffWait = u.pwr.pd4OffWait ∧ (started u d).pwr.ckptRetry = u.pwr.ckptRetry ∧
    (started u d).pwr.xtmFail = u.pwr.xtmFail := by
  have hs : ∀ v : W, v = u.startPllSys → v.pwr.held = u.pwr.held ∧ v.pwr.lullEntry = u.pwr.lullEntry ∧
      v.pwr.wakeHold = u.pwr.wakeHold ∧ v.pwr.slvArray = u.pwr.slvArray ∧ v.pwr.pd4OffWait = u.pwr.pd4OffWait ∧
      v.pwr.ckptRetry = u.pwr.ckptRetry ∧ v.pwr.xtmFail = u.pwr.xtmFail := by
    rintro v rfl; unfold W.startPllSys; split <;> exact ⟨rfl, rfl, rfl, rfl, rfl, rfl, rfl⟩
  exact hs u.startPllSys rfl

theorem started_user (u : W) (d e : Nat) : (started u d).hasUser true e = u.hasUser true e := by
  obtain ⟨h1, h2, h3, h4, h5, h6, h7⟩ := started_shell u d
  obtain ⟨p1, p2, p3, p4, p5, p6, p7⟩ := started_pwr u d
  have hr := started_rd u d
  have hen : ∀ e, (started u d).anyEn e = u.anyEn e := fun e => by
    unfold W.anyEn W.rdB
    congr 1; funext q
    rw [hr _ (by unfold R.H_CTRL R.PWR_DOM_STAT; omega) (by unfold R.H_CTRL R.PWR_STATE; omega)]
  have ht : (started u d).anyTask = u.anyTask := by
    unfold W.anyTask W.tstate W.rdF
    apply any_range; intro n hn
    rw [hr _ (by simp only [R.TASK_STATE, R.PWR_DOM_STAT]; omega) (by simp only [R.TASK_STATE, R.PWR_STATE]; omega)]
  have hpo : (started u d).portOn = u.portOn := by
    unfold W.portOn W.rdB
    apply any_range; intro n hn
    rw [hr _ (by simp only [R.LNK_Pp_CTRL, R.PWR_DOM_STAT]; omega) (by simp only [R.LNK_Pp_CTRL, R.PWR_STATE]; omega)]
  have hlu : (started u d).linkUp = u.linkUp := by
    unfold W.linkUp W.qspiSel W.rdB
    rw [hr _ (by decide) (by decide), hr _ (by decide) (by decide), h3]
  unfold W.hasUser W.slvInFlight
  rw [ht, hpo, hlu, hen 4, hen e, hen 8, hen 9, h1, h2, p3]

/-- The evaluation starts an off domain that has its first user (R23). -/
theorem settle_start {w0 u : W} {d : Nat} (h : SteadyBut d u) (hd : d ∈ [4, 6, 7, 8, 9]) (h4 : d ≠ 4) (hu : u.hasUser true d = true)
    (h0 : u.dom d = 0) (he : u.ew = false) (hx : u.pwr.xtmFail = false) (hb : u.buckFaulted d = false) (hrel : u.released = true)
    (hq : W.quiet w0 u = false) (m : Memory) : W.settle m w0 u = started u d := by
  have hd10 : d < 10 := by simp only [List.mem_cons, List.not_mem_nil, or_false] at hd; omega
  have h5 : d ≠ 5 := by simp only [List.mem_cons, List.not_mem_nil, or_false] at hd; omega
  have hdem := demand_started h5 h0 he hx hb h.run h.noReq h.noEntry
  obtain ⟨s1, s2, s3, s4, s5, s6, s7⟩ := started_shell u d
  obtain ⟨p1, p2, p3, p4, p5, p6, p7⟩ := started_pwr u d
  have hsd : ∀ e ∈ [4, 6, 7, 8, 9], e ≠ d → domainSettled (started u d) e := fun e hm hne => by
    have hs := h.domains e hm hne
    have he10 : e < 10 := by simp only [List.mem_cons, List.not_mem_nil, or_false] at hm; omega
    have hrel' : (started u d).released = u.released := by
      unfold W.released W.rdB; rw [started_rd _ _ _ (by decide) (by decide)]
    unfold domainSettled at hs ⊢
    rw [started_user, started_dom _ _ _ hd10 he10, if_neg hne, p5, p6, hrel']
    exact hs
  have hturn : domainTurn m u d = started u d := by
    unfold domainTurn
    rw [if_pos hu, if_neg h4]
    dsimp only
    rw [if_pos h0, hdem]
  have hdone : ∀ e ∈ [4, 6, 7, 8, 9], domainTurn m (started u d) e = started u d := fun e hm => by
    by_cases hne : e = d
    · subst hne
      unfold domainTurn
      rw [started_user, if_pos hu, if_neg h4]
      dsimp only
      rw [if_neg (by rw [started_dom _ _ _ hd10 hd10, if_pos rfl]; decide)]
    · exact domainTurn_settled m (hsd e hm hne)
  have hbefore : ∀ e ∈ [4, 6, 7, 8, 9], e ≠ d → domainTurn m u e = u := fun e hm hne => domainTurn_settled m (h.domains e hm hne)
  have hfold : [4, 6, 7, 8, 9].foldl (domainTurn m) u = started u d := by
    have gen : ∀ l : List Nat, (∀ e ∈ l, e ∈ [4, 6, 7, 8, 9]) →
        l.foldl (domainTurn m) (started u d) = started u d ∧
        (d ∈ l → l.foldl (domainTurn m) u = started u d) := by
      intro l
      induction l with
      | nil => intro _; exact ⟨rfl, fun h => by simp at h⟩
      | cons e t ih =>
        intro hl
        obtain ⟨i1, i2⟩ := ih fun x hx => hl x (List.mem_cons_of_mem _ hx)
        refine ⟨by rw [List.foldl_cons, hdone e (hl e (by simp))]; exact i1, fun hm => ?_⟩
        rw [List.foldl_cons]
        by_cases hne : e = d
        · subst hne; rw [hturn]; exact i1
        · rw [hbefore e (hl e (by simp)) hne]
          exact i2 ((List.mem_cons.mp hm).resolve_left fun h => hne h.symm)
    exact (gen _ fun _ h => h).2 hd
  have hpow : u.powerEval m = started u d := by
    unfold W.powerEval
    rw [if_neg (by simp [h.held, hx, h.run, hrel])]
    have e : (if (u.rdF R.PWR_STATE_REQ 0 2 != 0 && u.anyUser false) || (u.pwr.lullEntry && u.anyUser true) then u.abortEntry else u) = u := by
      rw [h.noReq, h.noEntry]; rfl
    dsimp only
    rw [e]
    have hf : [4, 6, 7, 8, 9].foldl (fun w d => domainTurn m w d) u = started u d := hfold
    unfold domainTurn at hf
    rw [hf]
    split
    · rename_i hex
      rw [s1] at hex
      unfold W.demand
      have h5' : (started u d).dom 5 = u.dom 5 := by rw [started_dom _ _ _ hd10 (by decide), if_neg (Ne.symm h5)]
      rw [h5', p4]
      rcases h.array hex with ⟨a, b⟩ | a
      · rw [if_pos (Or.inl ⟨a, Or.inr b⟩)]
      · rw [if_pos (Or.inr (Or.inl a))]
    · rfl
  unfold W.settle
  rw [taskUe_none h.noUe]
  dsimp only
  rw [if_neg (by rw [hq]; decide)]
  have e1 : u.sramSettle = u := by unfold W.sramSettle; rw [if_pos h.noUe]
  have e2 : W.settleRound m 3 u = started u d := by
    have : u.armSettle 4 = u := by unfold W.armSettle; rw [h.noHit]
    unfold W.settleRound
    rw [this, h.kick, hpow, if_pos (by rw [s4]; exact h.noHit)]
  have e3 : (started u d).plannerDeferred = started u d := by unfold W.plannerDeferred; rw [s6, h.planner]; rfl
  rw [e1, e2, e3, ite_self]
  apply W.upd_self
  have hm : ((List.range 10).any fun e => (started u d).dom e == 3) = true := by
    rw [List.any_eq_true]
    exact ⟨d, List.mem_range.mpr hd10, by rw [started_dom _ _ _ hd10 hd10, if_pos rfl]; rfl⟩
  rw [hm]
  refine (setFld_self _ _ _ _ (by decide) ?_).symm
  have hb3 : (started u d).rdB R.PWR_STATE 3 = true := by
    unfold started; exact W.rdB_wrB_same _ _ _ _ (by decide)
  unfold W.rdB at hb3
  unfold fld bit at *
  rw [Nat.testBit_eq_decide_div_mod_eq] at hb3
  rw [Nat.shiftRight_eq_div_pow]
  simpa using hb3

end Sys2Proof.Machine
end

