-- ==== Sys2Proof/Laws/Task.lean ====
section
/-!
SUPPORT. The end of a task's run: what leaving RUN changes, and that the power manager stays at rest when the domains keep
their users.
-/
namespace Sys2Proof
open Machine

theorem SameUsers.of_watch {w u : W} (h : SameWatch w u) : SameUsers w u where
  regs := fun a ha => h.regs a (by
    unfold watchedRest at ha; unfold watched
    simp only [Bool.or_eq_true, List.contains_eq_mem, decide_eq_true_eq, List.mem_cons, List.not_mem_nil, or_false] at ha ⊢
    tauto)
  held := h.held
  entry := h.entry
  array := h.array
  wait := h.wait
  retry := h.retry
  slv := h.slv
  hits := h.hits
  ue := h.ue
  deferred := h.deferred
  users := fun d _ => h.hasUser true d

theorem SameUsers.trans {w u v : W} (h : SameUsers w u) (k : SameUsers u v) : SameUsers w v :=
  ⟨fun a ha => (k.regs a ha).trans (h.regs a ha), k.held.trans h.held, k.entry.trans h.entry, k.array.trans h.array,
    k.wait.trans h.wait, k.retry.trans h.retry, k.slv.trans h.slv, k.hits.trans h.hits, k.ue.trans h.ue,
    k.deferred.trans h.deferred, fun d hd => (k.users d hd).trans (h.users d hd)⟩

end Sys2Proof

namespace Sys2Proof.Machine

/-- The key store's displays change, while PD8 is on, and nothing else. -/
theorem keySync_eq (w : W) : ∃ a b c d e, w.keySync = if w.dom 8 ≠ 1 then w else
    ((((w.wrN R.KEY_OCC a).wrN R.KEY_OCC_HI b).wrN R.KEY_PSLOT c).wrN R.KEY_PLACES d).wrB R.KEY_STAT 12 e :=
  ⟨_, _, _, _, _, rfl⟩

theorem keySync_only {p : Nat → Bool} (hp : ∀ a, R.KEY_STAT ≤ a → a ≤ R.KEY_PSLOT → p a = true) (w : W) : Only p w w.keySync := by
  obtain ⟨a, b, c, d, e, h⟩ := keySync_eq w
  rw [h]
  refine Only.ite (Only.refl _ _) ?_
  exact ((((Only.refl p w).wrN (hp _ (by decide) (by decide))).wrN (hp _ (by decide) (by decide))).wrN
    (hp _ (by decide) (by decide))).wrN (hp _ (by decide) (by decide)) |>.wrB (hp _ (by decide) (by decide))

theorem keySync_watch {w u : W} (h : SameWatch w u) : SameWatch w u.keySync := by
  obtain ⟨a, b, c, d, e, k⟩ := keySync_eq u
  rw [k]
  exact SameWatch.ite h (((((h.wrN (by decide)).wrN (by decide)).wrN (by decide)).wrN (by decide)).wrB (by decide))

theorem keySync_key (w : W) : w.keySync.key = w.key := by
  obtain ⟨a, b, c, d, e, h⟩ := keySync_eq w
  rw [h]; split <;> rfl

theorem keySync_blocks (w : W) : SameBlocks w w.keySync := by
  obtain ⟨a, b, c, d, e, h⟩ := keySync_eq w
  rw [h]
  exact SameBlocks.ite (SameBlocks.refl w) (((((SameBlocks.wr w _ _).trans (SameBlocks.wr _ _ _)).trans
    (SameBlocks.wr _ _ _)).trans (SameBlocks.wr _ _ _)).trans (SameBlocks.wrB _ _ _ _))

end Sys2Proof.Machine
end

