-- ==== Sys2Proof/Tests/Slice0.lean ====
section
/-!
SUPPORT. Tests of the model: ill-formed commands are refused by the check, the queue is first in first out, and one small
state meets the hypotheses that the statements name. Every expected value is read from the rules.
-/
namespace Sys2Proof.Tests

open Sys2Proof Sys2Proof.Machine

/-! ## Well-formed and ill-formed commands: one ill-formed term for each check -/

theorem test_wf_accepts : (Instr.registerWrite 0x40 4 0 {}).wf = true := by decide
theorem test_wf_offset : (Instr.registerWrite 0x7FFFE 4 0 {}).wf = false := by decide
theorem test_wf_length : (Instr.registerRead 0x40 0 .ok).wf = false := by decide
theorem test_wf_pair : (Instr.registerPairRead 0x7FFFC .ok).wf = false := by decide
theorem test_wf_pair_write : (Instr.registerPairWrite 0x7FFFC 0 {}).wf = false := by decide
theorem test_wf_canary : (Instr.blockEnable 3 { canary := ⟨256, 0, 0, 0⟩ }).wf = false := by decide
theorem test_wf_straps : (Instr.startup { start := { straps := 16 } }).wf = false := by decide
theorem test_wf_steps : (Instr.softReset 3 true { steps := 7 }).wf = false := by decide
theorem test_wf_bar2 : (Instr.hostBar2Write 0x3FFFFFF [0, 0]).wf = false := by decide
theorem test_wf_bar4 : (Instr.hostBar4Write 0xFFFFFF [0, 0]).wf = false := by decide
theorem test_wf_mem_read : (Instr.hostMemRead .bar4 0xFFFFFF 2 .ok).wf = false := by decide
theorem test_wf_evt_page : (Instr.evtMaskWrite 0x4040 0).wf = false := by decide
theorem test_wf_planner : (Instr.plannerRunNow ⟨0, 0, 0, 8⟩ 0).wf = false := by decide
theorem test_wf_sram_scrub : (Instr.sramScrubPass [0x4000000] []).wf = false := by decide
theorem test_wf_ram : (Instr.cycleLatch 0 none none [] [0x3000000]).wf = false := by decide
theorem test_wf_ram_doorbell : (Instr.slvRingDoorbell 1 { ramCe := [0x3000000] }).wf = false := by decide
theorem test_wf_sense : (Instr.chopComparatorTrip 0 false 1800001).wf = false := by decide
theorem test_wf_remap : (Instr.remapComplete [] [0x1000000]).wf = false := by decide
theorem test_wf_mram_scrub : (Instr.mramScrubPass [0x1000000] []).wf = false := by decide
theorem test_wf_meter : (Instr.meterOutputPeriod [] 1200000000 0).wf = false := by decide
theorem test_wf_job_start : (Instr.jobStart [1, 1] false 0 [] 0).wf = false := by decide
theorem test_wf_split : (Instr.splitMessage 0x2800000 [0]).wf = false := by decide
theorem test_wf_arbitration : (Instr.canArbitrationStart 0 0 [65]).wf = false := by decide
theorem test_wf_frame_id : (Instr.canFrameReceived 0 { id := 2048 } 0).wf = false := by decide
theorem test_wf_frame_remote : (Instr.canFrameReceived 0 { id := 0, rtr := true, fd := true } 0).wf = false := by decide
theorem test_wf_slot : (Instr.claimWaitExpiry 0 (.station 1536)).wf = false := by decide
theorem test_wf_copy : (Instr.crosswindCopyReceive 0 { cycle := 0, cstamp := 0, whole := true, out := [], lines := [], crc := 0 } true 0).wf = false := by
  decide
theorem test_wf_peer : (Instr.linkTrained 0 0 0 0 false ⟨0, 4, 0, 0, [], [], []⟩).wf = false := by decide
theorem test_wf_message : (Instr.msgRx 0 (some ⟨65536, 0, []⟩) 0).wf = false := by decide
theorem test_wf_tamper : (Instr.tamperInput 0 true 32768).wf = false := by decide
theorem test_wf_mesh : (Instr.meshMismatch 32768).wf = false := by decide
theorem test_wf_scan_done : (Instr.recScanDone [] [0x1000000]).wf = false := by decide
theorem test_wf_qspi_status : (Instr.qspiStatus 0).wf = false := by decide

/-! ## The queue -/

theorem test_reset_queue : State.reset.pending = [] := rfl
theorem test_no_word : decodeTableWord 32 0 = none := rfl

/-- A step takes the front command and leaves the rest. -/
theorem test_fifo :
    step { State.reset with pending := [.hpRel 0, .swoClear] } = exec (.hpRel 0) { State.reset with pending := [.swoClear] } :=
  rfl

/-! ## States that meet the statements' hypotheses -/

/-- A device before host release with further register words: PLL_SYS runs, every domain is on, the PCI Express link is up. -/
def dev (l : List (Nat × Word)) : State := { State.reset with
  regs := l.foldl (fun r e => W.setReg r e.1 e.2 (regReset e.1)) [(R.PWR_DOM_STAT, 0x00055555#32)]
  pwr.pllSys := true, hif.perstN := true }

/-- No further words. -/
def awake : State := dev []

/-- `Steady` from conditions that are decided by evaluation. -/
theorem steady_of (w : W)
    (h : w.pwr.held = false ∧ w.pstate = 0 ∧ w.rdF R.PWR_STATE_REQ 0 2 = 0 ∧ w.pwr.lullEntry = false ∧
      (∀ a < 8, w.rdB (R.SLV_ARM a) 31 = false) ∧ w.evt.armHits = [] ∧ w.tw.sysUe = [] ∧ w.age.deferred = false ∧
      w.slv.queue = [] ∧ w.slv.exec = none ∧ w.rd R.SLV_QSTAT = qstat w ∧
      w.rdB R.PWR_STATE 3 = (List.range 10).any fun d => w.dom d == 3)
    (d : ∀ d ∈ [4, 6, 7, 8, 9],
      if w.hasUser true d = true then w.dom d ≠ 0 ∧ (d = 4 → w.pwr.pd4OffWait = false ∧ w.pwr.ckptRetry = false)
      else w.dom d = 1 → w.released = false ∨ (d = 4 ∧ w.pwr.pd4OffWait = true)) : Steady w := by
  obtain ⟨h1, h2, h3, h4, h5, h6, h7, h8, h9, h10, h11, h12⟩ := h
  exact ⟨h1, h2, h3, h4, h5, h6, h7, h8, .inr (.inl h9), h11, h12, by simp [h10], d⟩

/-- A register whose lock does not matter, or is open, makes a state ready. -/
theorem ready_of {s : State} {off : Nat} (rest : Steady (begin_ s)) (link : (begin_ s).hostOk = true)
    (up : ((begin_ s).pageUp (off / 0x1000) || inPd1 off) = true) (srst : (begin_ s).inSrst (off / 0x1000) = false)
    (h : ((regDef off).any fun d => d.acc != .rwl || (begin_ s).unlocked (off / 0x1000)) = true) : Ready s off := by
  refine ⟨rest, ⟨link, up, srst⟩, ?_, ?_⟩
  · intro n; simp [n] at h
  · intro d e a; simpa [e, a] using h

theorem meets_steady : Steady (begin_ awake) := steady_of _ (by decide) (by decide)

/-- O1. -/
theorem meets_StepRunsTheFrontCommand : ∃ (s : State) (c : Instr) (rest : List Instr), s.pending = c :: rest :=
  ⟨{ State.reset with pending := [.hpRel 0] }, .hpRel 0, [], rfl⟩

/-- O2, its three clauses. -/
theorem meets_EmptyQueueIdles :
    (awake.pending = [] ∧ awake.pwr.pllSys = true ∧ awake.tw.halfRate = false ∧ awake.tw.slew = 0) ∧
    (State.reset.pwr.pllSys = false ∧ State.reset.pwr.xtmFail = false ∧ State.reset.pwr.held = false) ∧
    (let s : State := { State.reset with pwr.held := true }; s.pwr.pllSys = false ∧ s.pwr.held = true) := by decide

/-- O4. -/
theorem meets_MemoryStaysCanonical : ∃ t, Memory.wf State.reset.mem ∧ step State.reset = .next t := ⟨_, by decide, rfl⟩

/-- O6: an event that is off, and the same event switched on. -/
theorem meets_EventReachesItsConsumers : globalEvent 0x3C 0 ≠ none ∧ (begin_ awake).rdB (R.H_EVT_EN 0x3C) 0 = false ∧
    (begin_ (dev [(R.H_EVT_EN 0x3C, 1#32)])).rdB (R.H_EVT_EN 0x3C) 0 = true := by decide

/-- O7, O8. -/
theorem meets_WritesOfTheEventRegisters : (begin_ awake).hostOk = true ∧ (pageDomain 0x3C).isSome = true ∧
    (pageDomain 0x03).isSome = true := by decide
theorem meets_evtlat_ready : Ready awake (R.EVT_EVTLAT 7) := ready_of meets_steady (by decide) (by decide) (by decide) (by decide)

/-- O9: RST_CTRL of a locked SYS page. -/
theorem meets_LockedRegisterRefusesTheWrite : (regDef R.SYS_RST_CTRL).any (fun d => d.acc == .rwl) = true ∧
    (begin_ awake).unlocked (R.SYS_RST_CTRL / 0x1000) = false ∧ (begin_ awake).pageUp (R.SYS_RST_CTRL / 0x1000) = true ∧
    (begin_ awake).inSrst (R.SYS_RST_CTRL / 0x1000) = false ∧ R.SYS_RST_CTRL % 4 = 0 ∧ 0x040 ≤ R.SYS_RST_CTRL % 0x1000 := by decide

/-- O10: the CAN pages with PD6 off, and with a block soft reset in progress. -/
theorem meets_OffDomainRefusesTheAccess :
    (let w := begin_ (dev [(R.PWR_DOM_STAT, 0x00054555#32)]); w.hostOk = true ∧ w.pageUp 0x1A = false ∧ inPd1 (R.CAN_MODE 0) = false ∧
      W.gusting w 0x1A = false) ∧
    (let w := begin_ (dev [(R.H_CTRL 0x1A, 2#32)]); w.hostOk = true ∧ w.pageUp 0x1A = true ∧ w.rdB (R.H_CTRL 0x1A) 1 = true) := by
  decide

/-- O11: a stored register at the end of its array, and a register pair. -/
theorem meets_RegisterWritesAndReads : awake.evt.pairRd = [] ∧ isPair (R.PLS_PIn_FWD 63) = true ∧
    R.DRV_DDd_HOLD 7 / 0x1000 = 0x3B ∧ ((regDef (R.DRV_DDd_HOLD 7)).any fun d => d.acc == .rw) = true ∧
    W.blockCheck (hostEnter (begin_ awake) 0x3B) awake.mem (R.DRV_DDd_HOLD 7) 0 {} = 0 := by decide
theorem meets_stored_ready : Ready awake (R.DRV_DDd_HOLD 7) := ready_of meets_steady (by decide) (by decide) (by decide) (by decide)

/-- O12. -/
theorem meets_MemoryWindows : (begin_ awake).hostOk = true ∧ (begin_ awake).domUp 4 = true ∧ Memory.wf awake.mem ∧
    (begin_ awake).rdB R.NVM_WR_EN 0 = false ∧ (begin_ (dev [(R.NVM_WR_EN, 1#32)])).rdB R.NVM_WR_EN 0 = true ∧
    (begin_ (dev [(R.NVM_WR_EN, 1#32)])).mramGuarded 0x4000 = false ∧ awake.age.ueWords = [] := by decide

/-- O13: PD6 off and without a user, in a released device. -/
theorem meets_BlockEnableAndSoftReset :
    let w := begin_ (dev [(R.PWR_DOM_STAT, 0x00040055#32), (R.SYS_BOOT_STAT, 0x10#32)])
    Steady w ∧ w.hasUser true 6 = false ∧ w.dom 6 = 0 ∧ w.ew = false ∧ w.pwr.xtmFail = false ∧ w.buckFaulted 6 = false ∧
      w.released = true := ⟨steady_of _ (by decide) (by decide), by decide⟩

/-- O14. -/
theorem meets_SoftResetIsRefusedOnProtectedPages : (begin_ awake).hostOk = true ∧
    (0x3F : Fin 128).val ∈ [0x00, 0x01, 0x05, 0x06, 0x08, 0x3C, 0x3D, 0x3E, 0x3F] := by
  decide

/-! ### Breeze code -/

/-- Engine 0 in phase 2 of a cycle, at a code word with two more behind it; 4 KiB for each data space. -/
def executing (v : Word) (g : Eng) : State := {
  dev [(R.TASK_STATE 0, 2#32), (R.TASK_IN_BASE 0, 0x2800000#32), (R.TASK_IN_SIZE 0, 0x1000#32),
    (R.TASK_OUT_BASE 0, 0x2801000#32), (R.TASK_OUT_SIZE 0, 0x1000#32), (R.TASK_RET_BASE 0, 0x2803000#32), (R.TASK_RET_SIZE 0, 0x1000#32),
    (R.TASK_LOC_BASE 0, 0x2805000#32), (R.TASK_LOC_SIZE 0, 0x1000#32), (R.TASK_SYSV_BASE 0, 0x2806000#32)] with
  scan.eng := (Vector.replicate 4 {}).set 0 g
  scan.task := (Vector.replicate 4 {}).set 0 { phase := 2, ent := some ⟨0, [v, 0, 0], 0, 0, 0, [], [], [], false⟩ } }

/-- O15 to O19, O20, O21, O22, O29: any code word executes there. -/
theorem meets_executes (v : Word) (g : Eng) (h : g.pc = 0) : Executes (executing v g) 0 v := by
  constructor
  · simp only [W.fetch]
    have up : (begin_ (executing v g)).dom 4 = (begin_ (executing 0 {})).dom 4 := rfl
    have run : (begin_ (executing v g)).tstate 0 = (begin_ (executing 0 {})).tstate 0 := rfl
    rw [if_pos ⟨up.trans (by decide), run.trans (by decide), rfl⟩]
    show ([v, 0#32, 0#32] : List Word)[g.pc / 4]? = some v
    rw [h]; rfl
  · intro e he
    have : e = ⟨0, [v, 0, 0], 0, 0, 0, [], [], [], false⟩ := (Option.some.inj he).symm
    subst this
    show g.pc + 4 < 12
    omega

/-- O19: a return address on the stack, inside the code. -/
theorem meets_ControlFlowOfBreezeCode : (executing 0 { stk := [4] }).scan.eng[0].stk = [] ++ [4] ∧
    (executing 0 { stk := [4] }).scan.eng[0].stk.length < 16 := by decide

/-- O20, O21: the last place of a space that a load, a store or an instance fits into. -/
theorem meets_LoadsAndStoresOfBreezeCode : (∀ sp < 4, (begin_ (executing 0 {})).spSize 0 sp = 0x1000) ∧
    (begin_ (executing 0 {})).spSize 0 4 = 2048 ∧ (executing 0 {}).tw.sysUe = [] ∧ Memory.wf (executing 0 {}).mem := by decide

/-- O22, O23: the services' domains are on, and no claim is held. -/
theorem meets_ServicesThatRead : ∀ d ∈ [2, 3, 5, 6, 7, 8, 9], (begin_ (executing 0 {})).dom d = 1 := by decide
theorem meets_services_steady : Steady (begin_ (executing 0 {})) := steady_of _ (by decide) (by decide)
theorem meets_no_claim : NoClaim (begin_ awake) := by constructor <;> decide

/-- O23: PD4 has a user, an empty and a full return stack. -/
theorem meets_TrapsStopsAndWatchdogOfTasks : (begin_ (dev [(R.H_CTRL 0x0A, 1#32)])).anyEn 4 = true ∧ ({} : Eng).stk = [] ∧
    16 ≤ ({ stk := List.replicate 16 0 } : Eng).stk.length := by decide

/-! ### Pins, tasks, buses, the host's side -/

theorem meets_gpio_ready : Ready awake R.GPIO_OUT := ready_of meets_steady (by decide) (by decide) (by decide) (by decide)
theorem meets_can_ready : Ready awake (R.CAN_RECOVER 15) := ready_of meets_steady (by decide) (by decide) (by decide) (by decide)
theorem meets_task_ready : Ready awake (R.TASK_CMD 3) := ready_of meets_steady (by decide) (by decide) (by decide) (by decide)
theorem meets_dma_ready : Ready awake (R.HIF_CHc_DB 3) := ready_of meets_steady (by decide) (by decide) (by decide) (by decide)

/-- O25: a task in RUN between cycles, no stations, forces or links. -/
theorem meets_CyclesOfATask :
    let s := dev [(R.TASK_STATE 0, 2#32)]
    (begin_ s).dom 4 = 1 ∧ (begin_ s).tstate 0 = 2 ∧ s.scan.stn = [] ∧ (begin_ s).frcSet = [] ∧ s.scan.task[0].phase = 0 ∧
      (begin_ s).triad = false ∧ s.scan.upd = [] ∧ (begin_ s).xlinks 0 = [] ∧ s.tw.cw[0] = none := by decide

/-- O26: no on-line change has reached its step 5; no MRAM word is lost, and a read meets none. -/
theorem meets_StartsAndOnLineChange : (begin_ awake).olcStep ≠ 5 ∧ awake.age.ueWords = [] ∧ ({} : Ext).start.mramCe = [] ∧
    ({} : Ext).start.mramUe = [] := by decide

/-- O28: a live channel, and one that disables. -/
theorem meets_TrafficOnABus : (begin_ awake).dom 6 = 1 ∧ (begin_ (dev [(R.H_CTRL 0x1A, 1#32)])).rdB (R.H_CTRL 0x1A) 0 = true ∧
    ((begin_ awake).canCh 0).live = false ∧ ((begin_ awake).canCh 0).closing = false := by decide

/-- O30: a channel with a descriptor waiting, none executing. -/
theorem meets_DescriptorsOfADmaChannel :
    let s : State := { dev [(R.HIF_CHc_CTRL 0, 1#32), (R.HIF_CHc_STAT 0, 0x100#32)] with hif.bme := true }
    (begin_ s).rdB R.SYS_STRAP 0 = false ∧ (begin_ s).rdB (R.HIF_CHc_CTRL 0) 0 = true ∧ (begin_ s).rdB (R.HIF_CHc_STAT 0) 1 = false ∧
      s.hif.dma[0] = none ∧ (begin_ s).rdF (R.HIF_CHc_STAT 0) 8 9 = 1 ∧ s.hif.bme = true ∧ (begin_ s).rdF R.HIF_LINK_STAT 8 2 = 0 ∧
      (begin_ s).dom 4 = 1 := by
  decide
theorem meets_off_transfer :
    let s : State := { dev [(R.PWR_DOM_STAT, 0x00055155#32)] with hif.dma := State.reset.hif.dma.set 3 (some ⟨0x2800000, 1, 4, 0, 0⟩) }
    s.hif.dma[3] = some ⟨0x2800000, 1, 4, 0, 0⟩ ∧ (begin_ s).dom 4 = 1 ∧ (begin_ s).dom 5 = 0 := by decide

/-- O31: the strap selects PCI Express; the link is up. -/
theorem meets_HostLinkAndItsMessages :
    let s := dev [(R.SYS_BOOT_STAT, 9#32)]
    (begin_ s).rdB R.SYS_STRAP 0 = false ∧ (begin_ s).dom 9 = 1 ∧ (begin_ s).rdF R.SYS_BOOT_STAT 0 4 = 9 ∧
      s.hif.perstN = true ∧ (begin_ s).linkUp = true ∧ ({ begin_ s with hif.l2 := true } : W).hasUser true 9 = false ∧
      (let u := dev [(R.SYS_BOOT_STAT, 9#32), (R.H_CTRL 0x04, 1#32), (R.H_CTRL 0x40, 1#32)]
       ({ begin_ u with hif.l2 := true } : W).hasUser true 9 = true ∧ ({ begin_ u with hif.perstN := false } : W).hasUser true 9 = true) :=
  by decide
theorem meets_link_steady : Steady (begin_ (dev [(R.SYS_BOOT_STAT, 9#32), (R.H_CTRL 0x40, 1#32)])) := steady_of _ (by decide) (by decide)

/-- O32: the strap selects the Quad-SPI target. -/
theorem meets_qspi_steady : Steady (begin_ (dev [(R.SYS_STRAP, 1#32)])) := steady_of _ (by decide) (by decide)
theorem meets_QuadSpiTransactions : (begin_ (dev [(R.SYS_STRAP, 1#32)])).rdB R.SYS_STRAP 0 = true ∧
    (begin_ (dev [(R.SYS_STRAP, 1#32)])).dom 9 = 1 := by decide

/-- O33: both life-cycle cases, with VBAT and VIN there. -/
theorem meets_BoundaryScan : awake.pwr.below1V = false ∧ (begin_ awake).rdB R.BKP_STAT 1 = false ∧ awake.key.lc ≠ 2 ∧
    ({ awake with key.lc := 2 } : State).key.lc = 2 := by decide

/-! ### Commands in any device -/

/-- A register whose lock does not matter, or is open. -/
theorem open_of {s : State} {off : Nat} (link : (begin_ s).hostOk = true)
    (up : ((begin_ s).pageUp (off / 0x1000) || inPd1 off) = true) (srst : (begin_ s).inSrst (off / 0x1000) = false)
    (h : ((regDef off).any fun d => d.acc != .rwl || (begin_ s).unlocked (off / 0x1000)) = true) : Open s off := by
  refine ⟨⟨link, up, srst⟩, ?_, ?_⟩
  · intro n; simp [n] at h
  · intro d e a; simpa [e, a] using h

/-- A device after host release, every domain on, with further register words; page p unlocked for 255 accesses by `lk p`. -/
def up (l : List (Nat × Word)) : State := dev ((R.SYS_BOOT_STAT, 0x19#32) :: l)
def lk (p : Nat) : Nat × Word := (R.H_LOCK p, 0xFF01#32)

/-- O34: no link, an unimplemented page, a register that is stored, one that its block refuses, the pairs. -/
theorem meets_FormsOfRegisterAccess : (begin_ State.reset).hostOk = false ∧ (begin_ awake).hostOk = true ∧
    (pageDomain 0x80).isNone = true ∧ (pageDomain 0x13).isSome = true ∧
    W.blockCheck (hostEnter (begin_ (up [lk 0x13])) 0x13) [] R.QTY_PRESET_IDX 0x800000A8 {} ≠ 0 ∧
    isPairW R.QTY_PRESET_IDX = false ∧ isPair (R.PLS_PIn_FWD 63) = true ∧ regDef (R.PLS_PIn_FWD 63) ≠ none ∧
    isPairW R.QTY_PRESET_VAL = true ∧ awake.evt.pairRd = [] := by decide
theorem meets_preset_open : Open (up [lk 0x13]) R.QTY_PRESET_IDX := open_of (by decide) (by decide) (by decide) (by decide)

/-- O35: a device in reset, one below 1 V, one that runs, and a backup domain that has lost its supply. -/
theorem meets_ResetsAndSupplies :
    (let s : State := { up [] with pwr.held := true, pwr.below1V := true }
     Memory.wf s.mem ∧ s.pwr.ckptImg = none ∧ s.qty.store = none ∧ s.key.bank = none ∧ s.recd.queue = [] ∧ (begin_ s).inOff = false) ∧
    (up []).pwr.held = false ∧ ({ up [] with rtc.vselLow := true } : State).rtc.vselLow = true := by decide
theorem meets_reset_open : Open (up [lk 0]) R.SYS_RST_CTRL := open_of (by decide) (by decide) (by decide) (by decide)

/-- O36: a device that may sleep, the last steps of its entries, Off, Lull, retention of PD5, and a domain in transition. -/
theorem meets_LowPowerStatesAndGusts :
    (let w := begin_ (up [(R.SYS_STRAP, 1#32), (R.PWR_AUTO, 1#32), (R.PWR_DOM_STAT, 0x00000055#32)])
     w.released = true ∧ w.pwr.held = false ∧ w.pwr.xtmFail = false ∧ w.pstate = 0 ∧ w.rdB R.PWR_AUTO 0 = true ∧
      w.anyUser true = false ∧ w.dom 5 = 0 ∧ w.rdF R.PWR_STATE_REQ 0 2 = 0 ∧ (∀ d ∈ [6, 7, 8, 9], w.dom d ≠ 3) ∧ w.dom 4 = 0) ∧
    (let w := begin_ (up [(R.PWR_STATE_REQ, 2#32), (R.PWR_DOM_STAT, 0x00000055#32)])
     w.rdF R.PWR_STATE_REQ 0 2 = 2 ∧ w.anyUser false = false ∧ w.dom 4 = 0 ∧ w.pwr.ckptImg = none ∧ w.qty.store = none ∧
      w.qty.storeNext = none ∧ w.recd.queue = []) ∧
    (begin_ (up [(R.SAF_STAT, 4#32)])).rdB R.SAF_STAT 2 = true ∧
    (begin_ (up [(R.BKP_STAT, 2#32)])).inOff = true ∧
    (let w := begin_ (up [(R.PWR_STATE, 1#32), (R.PWR_DOM_STAT, 0x00000855#32)])
     w.pstate = 1 ∧ w.rdB R.HIF_CFG 1 = false ∧ w.dom 9 = 0 ∧ w.ew = false ∧ w.buckFaulted 9 = false ∧ w.dom 5 = 2) ∧
    (begin_ (up [(R.PWR_DOM_STAT, 0x000D5555#32)])).dom 9 = 3 ∧ (up []).pwr.bootRecs = [] ∧ (up []).pwr.heldOps = [] := by decide
theorem meets_state_req_open : Open (up [lk 1]) R.PWR_STATE_REQ := open_of (by decide) (by decide) (by decide) (by decide)

/-- O37: a checkpoint that is due and fits its area, one that ends, a retry, and both sides of early warning. -/
theorem meets_CheckpointsAndEarlyWarning :
    (let s : State := { up [(R.PWR_CKPT_PERIOD, 0#32)] with pwr.ckptNext := some 0, pwr.ckptRetry := true, pwr.pd4OffWait := true }
     (begin_ s).ckptAreas ≠ 0 ∧ ((begin_ s).ckptImage s.mem).length ≤ 0x100000 ∧ 0 ≤ (begin_ s).tscTime ∧ (begin_ s).dom 4 = 1 ∧
      s.pwr.ckptImg = none ∧ (begin_ s).rd R.PWR_CKPT_PERIOD = 0 ∧ (begin_ s).released = true ∧ (begin_ s).ew = false) ∧
    ({ up [] with pwr.ckptImg := some (3, [0]) } : State).pwr.ckptImg = some (3, [0]) ∧
    (begin_ (up [(R.PWR_STATE, 4#32)])).ew = true := by decide
theorem meets_ckpt_open : Open (up [lk 1]) R.PWR_CKPT_PERIOD ∧ Open (up [lk 1]) R.PWR_CKPT_STAT :=
  ⟨open_of (by decide) (by decide) (by decide) (by decide), open_of (by decide) (by decide) (by decide) (by decide)⟩

/-- O38: bucks that run and that have faulted, XTM after phase 3, a sector to remap, and none left for it. -/
theorem meets_FaultsAndMonitors :
    (∀ b < 4, (begin_ (up [])).buckRuns b = true ∧ (begin_ (up [])).rdB R.PWR_REG_STAT (4 + b) = false) ∧
    (begin_ (up [(R.PWR_REG_STAT, 0xF0#32)])).rdB R.PWR_REG_STAT 7 = true ∧ (up []).pwr.held = false ∧ (up []).pwr.xtmFail = false ∧
    3 ≤ (begin_ (up [])).rdF R.SYS_BOOT_STAT 0 4 ∧
    (let s : State := { up [] with age.remapQ := [7, 9] }
     s.age.remapQ = 7 :: [9] ∧ (begin_ s).spareUsed < (begin_ s).spareTotal ∧ s.age.ueWords = []) ∧
    (let s : State := { up [] with age.remapQ := [7], age.log.remap := List.replicate 96 (0, 0) }
     (begin_ s).spareTotal ≤ (begin_ s).spareUsed) ∧
    (begin_ (up [(R.PWR_DOM_STAT, 0#32)])).dom (W.siteDomain 7) ≠ 1 := by decide

/-- O39: a valid time on a day without a run, and an invalid one a day after the last. -/
theorem meets_RunsOfThePlanner :
    (let s := up [(R.RTC_STAT, 2#32), (R.RTC_EPOCH_S, 2000000#32), (R.AGE_RUN_TIME, 0#32)]
     (begin_ s).tinv = false ∧ (begin_ s).rdN R.AGE_RUN_TIME ≤ (begin_ s).rd64 R.RTC_EPOCH_S % 86400 ∧ s.age.log.lastRtc = none ∧
      s.age.log.schedDay = none ∧ s.pwr.held = false) ∧
    (let s : State := { up [(R.RTC_STAT, 1#32)] with tsc := 8640000000000#64 }
     (begin_ s).tinv = true ∧ s.age.lastTsc + 8640000000000 ≤ (begin_ s).tscTime) := by decide
theorem meets_run_open : Open (up [lk 9]) R.AGE_RUN := open_of (by decide) (by decide) (by decide) (by decide)

/-- O40: enabled channels, one at the end of its block, trackers with a strong locked signal and with none, a capture block, RTD
slots, a counting input. -/
theorem meets_MeteringInputs :
    (let w := begin_ (up [(R.AFE_CHn_CFG 23, 1#32), (R.AFE_RTP_CFG 7, 1#32), (R.MTR_TRK_SRC, 0x80000000#32), (R.MTR_CAPT_CTRL, 0x80000000#32),
        (R.PLS_PIn_CFG 63, 1#32)])
     w.dom 2 = 1 ∧ w.chEn 23 = true ∧ w.chEn 22 = false ∧ w.trkEn 3 = true ∧ w.trkEn 2 = false ∧ w.rdB (R.AFE_RTP_CFG 7) 0 = true ∧
      w.rdB (R.AFE_RTP_CFG 6) 0 = false ∧ w.rdB R.MTR_CAPT_CTRL 31 = true ∧ w.rdB (R.PLS_PIn_STAT 63) 0 = false ∧
      w.isCounting 63 true = true ∧ w.isCounting 62 true = false) ∧
    (begin_ (up [(R.PWR_DOM_STAT, 0x00055545#32)])).dom 2 ≠ 1 := by decide
theorem meets_trackers : W.trkMeasure { n := 5000 } = none ∧ W.trkStrong { n := 3200, sum2 := 2 ^ 60 } = true ∧
    W.trkStrong { n := 3200, sum2 := 1 } = false := by decide
theorem meets_corr_open : Open (up [lk 0x11]) R.AFE_CORR_COMMIT := open_of (by decide) (by decide) (by decide) (by decide)

/-- O41: a point that is on and one that is off, a freeze and a store in progress, a further store that waits. -/
theorem meets_QuantitiesAndTheirStore :
    (let w := begin_ (up [(R.QTY_Ee_CFG 7, 1#32), (R.QTY_Hh_CFG 7, 1#32)])
     w.dom 2 = 1 ∧ w.pointEn (.e 7) = true ∧ w.pointEn (.h 7) = true ∧ w.pointEn (w.slotPoint 0) = false ∧
      w.pointEn (w.slotPoint 55) = true ∧ w.qty.frz = none ∧ w.qty.store = none) ∧
    (let s : State := { up [] with qty.frz := some (1, 2, []), qty.store := some ⟨0, 1, []⟩, qty.storeNext := some 4 }
     s.qty.frz = some (1, 2, []) ∧ s.qty.store = some ⟨0, 1, []⟩ ∧ s.qty.storeNext = some 4) := by decide
theorem meets_quantities_open : Open (up [lk 0x13]) (R.QTY_Hh_FLOW_IN 7) ∧ Open (up [lk 0x13]) R.QTY_PRESET_IDX ∧
    Open (up [lk 0x13]) (R.QTY_Qs_VIEW_HI 167) ∧ Open (up [lk 0x14]) R.HRM_MD_RESET ∧ Open (up [lk 0x13]) R.QTY_FREEZE ∧
    Open (up [lk 0x13]) R.QTY_STORE_STAT := by
  refine ⟨?_, ?_, ?_, ?_, ?_, ?_⟩ <;> exact open_of (by decide) (by decide) (by decide) (by decide)

/-- O42: a window that its samples fill, one that they do not, and results that wait. -/
theorem meets_HarmonicWindows :
    (let s : State := { up [(R.HRM_CTRL, 0x80#32)] with qty.winPoint := some 7, qty.winF := 2000000000, qty.winBuf := [[]] }
     (begin_ s).dom 2 = 1 ∧ 160000000 * (begin_ s).nc ≤ s.qty.winBuf.length * s.qty.winF ∧ (begin_ s).rdF R.HRM_CTRL 0 8 = 2 ^ 7) ∧
    (let s : State := { up [] with qty.winPoint := some 0, qty.winF := 500000 }
     ¬ 160000000 * (begin_ s).nc ≤ s.qty.winBuf.length * s.qty.winF ∧ (begin_ s).rdF R.HRM_CTRL 0 8 = 0 ∧ s.qty.hrm = none) ∧
    ({ up [] with qty.hrm := some ⟨0, 0, 0, []⟩ } : State).qty.hrm = some ⟨0, 0, 0, []⟩ := by decide

/-- O43: an empty and a full queue, an arm slot that is taken, a job that waits for its start, and jobs in progress. -/
theorem meets_QueueAndJobsOfTheSolver :
    (let s := up [(R.SLV_ARM 7, 0x80000905#32)]
     s.slv.queue = [] ∧ s.slv.exec = none ∧ (begin_ s).rdB (R.SLV_ARM 7) 31 = true ∧ (begin_ s).rdF (R.SLV_ARM 7) 0 6 = fld 0x00000305#32 0 6 ∧
      (begin_ s).rdF R.SLV_JOB_TMO 0 16 = 0) ∧
    (let s : State := { up [] with slv.exec := some ⟨63, 0, 0, 1⟩, slv.queue := List.replicate 8 ⟨5, 0, 0, 1⟩, pwr.slvArray := true }
     s.slv.exec = some ⟨63, 0, 0, 1⟩ ∧ s.slv.run = none ∧ (begin_ s).dom 5 = 1 ∧ s.pwr.slvArray = true ∧ (begin_ s).ew = false ∧
      (begin_ s).serving = false ∧ 9 < s.slv.queue.length + b2n s.slv.exec.isSome + 1) ∧
    (let s : State := { up [(R.SLV_JOB_TMO, 5#32)] with slv.exec := some ⟨63, 0, 0, 1⟩, slv.run := some { desc := [], code := 0x1601 } }
     s.slv.run = some { desc := [], code := 0x1601 } ∧ (begin_ s).rdF R.SLV_JOB_TMO 0 16 ≠ 0) := by decide
theorem meets_solver_open : Open (up [lk 0x15]) R.SLV_RING_DB ∧ Open (up [lk 0x15]) (R.SLV_ARM 7) :=
  ⟨open_of (by decide) (by decide) (by decide) (by decide), open_of (by decide) (by decide) (by decide) (by decide)⟩

/-- O44: a partner that is fit, one that hears the lead and refuses, one that serves, a lead with a split job, and one with a whole job. -/
theorem meets_SplitHorizon :
    (let s := up [(R.SYS_STRAP, 2#32), (R.RED_CLAIM, 5#32), (R.QP_SPLIT_CFG, 1#32), (R.QP_SPLIT_LEN, 0x40000#32), (R.LNK_Pp_STAT 2, 1#32)]
     let w := begin_ s
     w.hasClaim = true ∧ w.rdB R.QP_SPLIT_CFG 0 = true ∧ s.slv.queue = [] ∧ s.slv.exec = none ∧
      splitNeed ⟨0, 4, 2, 0, 0, 10, [], 0, 3, 100, 100, 100, 100⟩ w.qid ≤ w.rdN R.QP_SPLIT_LEN ∧ w.leadUp = true ∧ w.ew = false ∧ w.serving = false ∧
      w.domUp 5 = true) ∧
    (let w := begin_ (up [(R.SYS_STRAP, 2#32), (R.LNK_Pp_STAT 2, 1#32)])
     w.leadUp = true ∧ w.ew = false ∧ w.serving = false ∧ w.hasClaim = false) ∧
    (begin_ (up [(R.QP_SPLIT_STAT, 16#32)])).serving = true ∧
    ({ up [] with slv.run := some { desc := [], split := true } } : State).slv.run = some { desc := [], split := true } ∧
    ({ up [] with slv.run := some { desc := [] } } : State).slv.run = some { desc := [], split := false } := by decide

/-- O45: axes that are disabled, at rest, moving and in FAULT. -/
theorem meets_CommandsToAnAxis :
    (begin_ (up [])).rdB (R.H_CTRL (0x2B + 15)) 0 = false ∧
    (let w := begin_ (up [(R.H_CTRL (0x2B + 15), 1#32), (R.AX_ASTAT 15, 6#32), (R.AX_ASTAT 7, 1#32)])
     w.rdB (R.H_CTRL (0x2B + 15)) 0 = true ∧ w.axState 15 = 6 ∧ w.axDirect 15 = false ∧ w.axState 7 = 1) ∧
    ((up []).ax[15]).v = 0 := by decide
theorem meets_axis_open : Open (up []) (R.AX_CMD_DB 15) ∧ Open (up []) (R.AX_STOP 15) ∧ Open (up []) (R.AX_VMAX 15 + 4 * 3) ∧
    Open (up []) (R.AX_PAPPLY 15) ∧ Open (up []) (R.AX_FAULT_CLR 15) := by
  refine ⟨?_, ?_, ?_, ?_, ?_⟩ <;> exact open_of (by decide) (by decide) (by decide) (by decide)

/-- O59: axes in FAULT and HELD, both enabled; a coil input above OC_TH and one below it; an axis with a speed. -/
theorem meets_StopsAndProfileOfAnAxis :
    (let w := begin_ (up [(R.H_CTRL (0x2B + 7), 1#32), (R.AX_CFG 7, 1#32), (R.DRV_DDd_CFG 7, 10#32), (R.AX_ASTAT 7, 6#32),
        (R.H_CTRL (0x2B + 15), 1#32), (R.AX_ASTAT 15, 7#32)])
     w.rdB (R.H_CTRL (0x2B + 7)) 0 = true ∧ w.axState 7 = 6 ∧ w.rdB (R.H_CTRL (0x2B + 15)) 0 = true ∧ w.axState 15 = 7 ∧ w.axDirect 7 = true ∧
      w.rdF (R.DRV_DDd_CFG 7) 0 8 * 3515625 ≤ ((1800000 : Int) - 900000).natAbs * 1000 ∧
      ¬ w.rdF (R.DRV_DDd_CFG 7) 0 8 * 3515625 ≤ ((900000 : Int) - 900000).natAbs * 1000) ∧
    ({ up [] with ax := (up []).ax.set 15 { v := 1 } } : State).ax[15].v ≠ 0 := by decide

/-- O46: an axis that moves, one with a position to take over, one that dwells, one that is homing on a stall. -/
theorem meets_EventsOfAnAxis :
    (let s : State := { up [(R.AX_ASTAT 15, 2#32)] with ax := (up []).ax.set 15 { active := some ⟨1, false, 0, 0, 0, 0⟩ } }
     (begin_ s).dom 7 = 1 ∧ (begin_ s).axState 15 = 2 ∧ (s.ax[15]).active = some ⟨1, false, 0, 0, 0, 0⟩ ∧ (s.ax[15]).ramp = false ∧
      (s.ax[15]).homeStep = 0 ∧ (s.ax[15]).applyNow = false) ∧
    (let s : State := { up [(R.AX_ASTAT 15, 1#32)] with ax := (up []).ax.set 15 { queue := [⟨6, false, 0, 9, 0, 0⟩] } }
     (begin_ s).axState 15 = 1 ∧ (s.ax[15]).active = none ∧ (s.ax[15]).queue = ⟨6, false, 0, 9, 0, 0⟩ :: [] ∧ (begin_ s).rd (R.AX_VEL 15) = 0 ∧
      (s.ax[15]).v = 0 ∧ (s.ax[15]).ended = []) ∧
    (begin_ (up [(R.AX_ASTAT 15, 4#32)])).axState 15 = 4 ∧ (begin_ (up [])).axState 15 = 0 ∧
    (let s : State := { up [] with ax := (up []).ax.set 15 { active := some ⟨5, false, 0, 0, 1, 2⟩, homeStep := 1, armed := true } }
     (s.ax[15]).active = some ⟨5, false, 0, 0, 1, 2⟩ ∧ (s.ax[15]).homeStep = 1 ∧ (s.ax[15]).armed = true) ∧
    (begin_ (up [(R.AX_CFG 7, 1#32), (R.AX_ASTAT 7, 1#32)])).axDirect 7 = true := by decide

/-- O47: a device after reset with each place where XTM may fail, one that waits for an image, and one that does not. -/
theorem meets_StartUpAndBootImages :
    State.reset.pwr.held = false ∧ (begin_ State.reset).rdF R.SYS_BOOT_STAT 0 4 = 0 ∧ ({} : StartInfo).xtmFailPhase ∉ [3, 4, 5] ∧
    (∀ p ∈ [3, 4, 5], ({ xtmFailPhase := p } : StartInfo).xtmFailPhase = p) ∧ (up []).pwr.xtmFail = false ∧
    (begin_ (up [])).rdF R.SYS_BOOT_STAT 0 4 ≠ 0 ∧ (begin_ (up [])).rdB R.SYS_BOOT_STAT 9 = false ∧
    (begin_ (dev [(R.SYS_BOOT_STAT, 0x209#32)])).rdB R.SYS_BOOT_STAT 9 = true ∧ bootCode 0 [] ≠ 0 := by decide
/-- An image without records. -/
def bootImage : List Byte := toLe 4 0xB0C7 ++ toLe 4 1 ++ toLe 4 68 ++ List.replicate 52 0
theorem meets_valid_image : bootCode 68 (bootImage ++ toLe 4 (crc32c bootImage)) = 0 := by decide +kernel
theorem meets_go_open : Open (dev [(R.SYS_BOOT_STAT, 0x209#32)]) R.HIF_BOOT_CTRL := open_of (by decide) (by decide) (by decide) (by decide)

/-- O48: PD3 on and off, a fault of the sequencer, a source in its off-pulse, an output test in progress. -/
theorem meets_PeriodsAndTestsOfTheSafetySequencer :
    (begin_ (up [])).dom 3 = 1 ∧ (begin_ (up [])).rdB R.SAF_STAT 3 = false ∧ (begin_ (up [])).pstate = 0 ∧
    (begin_ (up [(R.SAF_STAT, 8#32)])).rdB R.SAF_STAT 3 = true ∧ (begin_ (up [(R.PWR_DOM_STAT, 0x00055515#32)])).dom 3 ≠ 1 ∧
    (let s : State := { up [] with saf.tpOff := 8, saf.test := some (7, true) }
     s.saf.tpOff.getLsbD 3 = true ∧ s.saf.tpOff.getLsbD 2 = false ∧ s.saf.test = some (7, true)) ∧ (up []).saf.test = none := by decide

/-- O49: a unit that would take the claim, one in a round that it can lose, one that listens, one whose reset is held off. -/
theorem meets_ClaimRoundsAndTimers :
    (let w := (((begin_ (up [(R.RED_CFG, 0x501#32), (R.RED_STAT, 0x20#32)])).wrB R.RED_STAT 4 false).raise E.RED_PARTNER_DOWN)
     w.redMode = 1 ∧ w.healthy = true ∧ w.hasClaim = false ∧ w.tw.latched = false ∧ w.rdB R.RED_CFG 8 = true ∧ w.tw.inRound = false) ∧
    (let s : State := { up [(R.RED_CFG, 0x501#32), (R.RED_OFFER, 0x7FFF#32)] with tw.inRound := true }
     s.tw.inRound = true ∧ s.tw.lost = none ∧ (begin_ s).rdF R.RED_OFFER 0 16 ≠ 0 ∧
      ((begin_ s).rdF R.RED_OFFER 0 16).testBit 15 = false ∧ (begin_ s).redMode = 1 ∧ s.tw.fast = false) ∧
    (up []).tw.inRound = false := by decide
theorem meets_red_open : Open (up [lk 0x3F]) R.RED_CMD := open_of (by decide) (by decide) (by decide) (by decide)

/-- O50: a port that may train, one that is trained with a message queued and its last slot free, a standby. -/
theorem meets_LinkPortsMessagesAndTime :
    (let s := up [(R.LNK_Pp_CTRL 3, 1#32)]; s.pwr.held = false ∧ (begin_ s).linkReady 3 = true ∧ (begin_ s).trained 3 = false) ∧
    (let s : State := { up [(R.LNK_Pp_STAT 3, 1#32), (R.LNK_Pp_RX_STAT 3, 0x7F#32)] with tw.msgs := (up []).tw.msgs.set 3 [⟨0, 0, 0⟩] }
     (begin_ s).trained 3 = true ∧ (s.tw.msgs[3]) = ⟨0, 0, 0⟩ :: [] ∧ (begin_ s).dom 4 = 1 ∧ (begin_ s).rdB (R.LNK_Pp_RX_STAT 3) 7 = false ∧
      (∀ i : Fin 8, i < 7 → (begin_ s).rdB (R.LNK_Pp_RX_STAT 3) i = true)) ∧
    (let s : State := { up [(R.LNK_Pp_STAT 3, 1#32)] with tw.prevWin := 2 }
     ((begin_ s).timeSync).rdF R.LNK_TIME_SRC 0 3 = 4) ∧
    (let s := up [(R.RED_STAT, 8#32)]
     (begin_ s).paired = true ∧ (begin_ s).hasClaim = false ∧ s.tw.nocopy.getLsbD 3 = false ∧ s.tw.cw[3] = none ∧
      s.tw.cwCycle[3] = none ∧ s.tw.cwGap.getLsbD 3 = false ∧ ({ s with tw.cur := 8, tw.cwGap := 8 } : State).tw.cur.getLsbD 3 = true ∧
      ({ s with tw.cwGap := 8 } : State).tw.cwGap.getLsbD 3 = true ∧
      ({ s with tw.cwCycle := s.tw.cwCycle.set 3 (some 6) } : State).tw.cwCycle[3] = some 6) := by decide
theorem meets_link_open : Open (up [lk 0x40]) (R.LNK_Pp_MSG_DB 3) ∧ Open (up [lk 0x40]) (R.LNK_Pp_RX_STAT 3) :=
  ⟨open_of (by decide) (by decide) (by decide) (by decide), open_of (by decide) (by decide) (by decide) (by decide)⟩

/-- A queued security job. -/
def secJob : SecJob := { place := 0, host := true, op := 0x01, slot := 0, slot2 := 0, attr := 1, input := [], cap := 0, out := 0x2800000 }

/-- O51: a job that waits, one that has run, one whose bank write is in progress. -/
theorem meets_LifeOfASecurityJob :
    (let s : State := { up [] with key.jobs := [secJob] }
     s.pwr.held = false ∧ (begin_ s).dom 8 = 1 ∧ (s.key.jobs.find? fun y => y.state == 2) = none ∧
      (s.key.jobs.find? fun y => y.state == 1) = some secJob) ∧
    (let j := { secJob with state := 2, ran := true }
     let s : State := { up [] with key.jobs := [j] }
     (s.key.jobs.find? fun y => y.state == 2) = some j ∧ j.ran = true ∧ j.writing = false) ∧
    (let b : BankJob := ⟨0, 1, [], some [], some ([], [])⟩
     let s : State := { up [] with key.jobs := [{ secJob with state := 2, writing := true }], key.bank := some b }
     s.key.bank = some b ∧ b.kek = some ([], []) ∧ b.owner = some []) ∧ (begin_ (up [])).rdB R.KEY_STAT 8 = false := by decide
theorem meets_key_open : Open (up [lk 0x3D]) R.KEY_RING_DB := open_of (by decide) (by decide) (by decide) (by decide)

/-- O52: the executing job, before and after its operation; early warning for the writes into the banks. -/
theorem meets_SecurityOperations :
    (let j := { secJob with state := 2 }
     let s : State := { up [] with key.jobs := [j] }
     s.pwr.held = false ∧ (s.key.jobs.find? fun y => y.state == 2) = some j ∧ j.ran = false ∧ j.op = 0x01) ∧
    (begin_ (up [(R.PWR_STATE, 4#32)])).ew = true ∧ (begin_ (up [])).ew = false := by decide

/-- O53: an input that is watched and changes, a mesh one mismatch before and at its limit, both supplies. -/
theorem meets_TamperAndBackupSupply :
    (let s := up [(R.TMP_CFG, 0x0007FFFF#32)]
     s.rtc.vselLow = false ∧ (begin_ s).rdB R.TMP_CFG (4 * 3) = true ∧ (begin_ s).rdB R.TMP_STAT (1 + 3) ≠ true ∧
      (begin_ s).rdB R.TMP_CFG 16 = true ∧ ¬ (begin_ s).rdF R.TMP_CFG 17 3 ≤ satInc 3 s.tmp.mesh) ∧
    (let s : State := { up [(R.TMP_CFG, 0x0007FFFF#32)] with tmp.mesh := 2 }
     (begin_ s).rdF R.TMP_CFG 17 3 ≤ satInc 3 s.tmp.mesh ∧ (begin_ s).rdB R.TMP_STAT 5 = false) ∧
    (begin_ (up [])).rdB R.BKP_STAT 0 = false ∧ (begin_ (up [(R.BKP_STAT, 1#32)])).rdB R.BKP_STAT 0 = true ∧ (up []).key.lc ≠ 2 := by decide
theorem meets_tamper_open : Open (up [lk 0x3E]) R.TMP_CMD ∧ Open (up [lk 0x3E]) R.TMP_LOG_CLR ∧ Open (up [lk 0x06]) R.BKP_FLAGS ∧
    Open (up [lk 0x06]) (R.BKP_GPR 31) ∧ Open (up [lk 0x06]) R.BKP_CRC_CHK := by
  refine ⟨?_, ?_, ?_, ?_, ?_⟩ <;> exact open_of (by decide) (by decide) (by decide) (by decide)

/-- O54: the oscillator runs, no commit waits; a commit that does; times that SEC can commit and cannot; an alarm out of range. -/
theorem meets_CalendarClockAndAlarms :
    (let s := up [(R.RTC_STAT, 2#32)]
     (begin_ s).rdB R.RTC_STAT 1 = true ∧ s.rtc.commit = none ∧ s.evt.pairRd = [] ∧ s.evt.pairWr = [] ∧
      (begin_ s).bufTime (fld 59#32 0 6) = some 59 ∧ 59 ≤ rtcLast ∧ (begin_ s).bufTime (fld 60#32 0 6) = none) ∧
    (begin_ (up [])).rdB R.RTC_STAT 1 = false ∧ ({ up [] with rtc.commit := some 9 } : State).rtc.commit = some 9 ∧
    W.alarmInRange ((begin_ (up [(R.RTC_ALMn_MATCH 1, 60#32), (R.RTC_ALMn_MATCH2 1, 0x3E0000#32)])).alarmMatch 1) = false ∧
    W.alarmInRange ((begin_ (up [(R.RTC_ALMn_MATCH2 1, 0x3F0000#32)])).alarmMatch 1) = true := by decide
theorem meets_rtc_open : HostReady (begin_ (up [])) R.RTC_SUBSEC ∧ Open (up [lk 5]) (R.RTC_MIN + 4 * 4) ∧ Open (up [lk 5]) R.RTC_SEC ∧
    Open (up [lk 5]) R.RTC_SET_S ∧ 2 ≤ (begin_ (up [lk 5])).rdF (R.H_LOCK 0x05) 8 9 ∧ Open (up [lk 5]) R.RTC_FLAGS ∧
    Open (up [lk 5]) (R.RTC_ALMn_CFG 1) := by
  refine ⟨⟨by decide, by decide, by decide⟩, ?_, ?_, ?_, by decide, ?_, ?_⟩ <;>
    exact open_of (by decide) (by decide) (by decide) (by decide)

/-- O55: a trigger that is enabled, with a full and an empty queue; a record without and with its capture; a scan; a clear. -/
theorem meets_TriggersAndRecords :
    (let s : State := { up [(R.REC_STAT, 0#32)] with recd.trig := (up []).recd.trig.set 63 { cfg := 1 }, recd.queue := [⟨63, 2, [], none⟩] }
     bit (s.recd.trig[63]).cfg 0 = true ∧ s.recd.queue.length < 32 ∧ (begin_ s).rdB R.REC_STAT 2 = false ∧
      s.recd.queue.findIdx? (fun i => i.cap.isNone) = some 0 ∧ s.recd.queue[0]? = some ⟨63, 2, [], none⟩) ∧
    (let c : RecCap := ⟨0, 0, true, false, false, [], some 0⟩
     let s : State := { up [(R.REC_STAT, 0#32)] with recd.queue := List.replicate 32 ⟨63, 2, [], some c⟩, recd.lostSince := 1, recd.eddy := 16 }
     32 ≤ s.recd.queue.length ∧ s.recd.lostSince ≠ 0 ∧ (begin_ s).rdB R.REC_STAT 0 = false ∧ (begin_ s).rdB R.REC_STAT 3 = false ∧
      s.recd.queue = ⟨63, 2, [], some c⟩ :: List.replicate 31 ⟨63, 2, [], some c⟩ ∧ c.seq = some 0) ∧
    (let s : State := { up [] with recd.scanOn := true, recd.clearing := 3 }
     s.recd.scanOn = true ∧ s.recd.clearing ≠ 0 ∧ s.age.ueWords = []) ∧ (begin_ (up [])).rdF R.KEY_STAT 0 3 ≠ 2 := by decide
theorem meets_rec_open : Open (up [lk 7]) R.REC_TRIG ∧ Open (up [lk 7]) R.REC_TRG_SEL ∧ Open (up [lk 7]) R.REC_TRG_CFG ∧
    Open (up [lk 7]) R.REC_CLEAR := by
  refine ⟨?_, ?_, ?_, ?_⟩ <;> exact open_of (by decide) (by decide) (by decide) (by decide)

/-- O15 to O21, O56: a lone task, whose engine (`meets_executes`) has none to differ from, and an active pair, whose engines differ or not
as the free value has it. -/
theorem meets_differs : ¬ Differs (executing 0 {}) 0 ∧
    (Differs { executing 0 {} with regs := W.setReg (executing 0 {}).regs R.SCAN_LOCKSTEP 1 0 } 0 ↔
      Config.lsDiffers (executing 0 {}).freeCtr = true) := by
  constructor
  · intro h; have := h.1; revert this; decide
  · exact ⟨fun h => h.2, fun h => ⟨by decide, h⟩⟩

/-- O56: what a read of W meets, with and without a pair. -/
theorem meets_EveryServiceAnswers : (begin_ (executing 0 {})).pairActive 0 = false ∧
    (begin_ { executing 0 {} with regs := W.setReg (executing 0 {}).regs R.SCAN_LOCKSTEP 1 0 }).pairActive 0 = true := by decide

/-- O57: both kinds of host, a powered and an unpowered test port, a buffered write, a descriptor that starts and one in progress. -/
theorem meets_HostPortsInAnyState :
    (begin_ (up [(R.SYS_STRAP, 1#32)])).qspiSel = true ∧ (begin_ (up [(R.SYS_STRAP, 1#32)])).hostOk = true ∧
    (begin_ (up [])).linkOk = true ∧ (begin_ State.reset).linkOk = false ∧ State.reset.pwr.below1V = false ∧
    (begin_ State.reset).inOff = false ∧ ({ up [] with hif.qsBuf := [(0x20000000, [0])] } : State).hif.qsBuf = (0x20000000, [0]) :: [] ∧
    (let s : State := { up [(R.HIF_CHc_CTRL 3, 1#32), (R.HIF_CHc_STAT 3, 0x100#32), (R.HIF_CHc_BASE 3, 0x2800000#32)] with hif.bme := true }
     let w := begin_ s
     w.qspiSel = false ∧ w.rdB (R.HIF_CHc_CTRL 3) 0 = true ∧ w.rdB (R.HIF_CHc_STAT 3) 1 = false ∧ s.hif.dma[3] = none ∧
      w.rdF (R.HIF_CHc_STAT 3) 8 9 ≠ 0 ∧ s.hif.bme = true ∧ w.rdF R.HIF_LINK_STAT 8 2 = 0 ∧ w.dom 4 = 1 ∧ w.dmaCheck 0 0 0 0x2800000 = 0 ∧
      w.dmaCheck 3 0 0 0x2800000 ≠ 0) ∧
    (let s : State := { up [] with hif.dma := (up []).hif.dma.set 3 (some ⟨0x2800000, 1, 4, 0, 0⟩) }
     s.hif.dma[3] = some ⟨0x2800000, 1, 4, 0, 0⟩ ∧ (begin_ s).domUp (W.bar2Domain 0) = true ∧ fld 1#32 0 2 ≠ 0) := by decide
theorem meets_channel_open : Open (up []) (R.HIF_CHc_DB 3) ∧ Open (up []) (R.HIF_CHc_CMD 3) :=
  ⟨open_of (by decide) (by decide) (by decide) (by decide), open_of (by decide) (by decide) (by decide) (by decide)⟩

/-- O60: rings that are open; the other bank, no change in progress; a solver word and a system word, both powered; a descriptor and
none. -/
theorem meets_ErrorsThatReadsOfMemoryMeet :
    Open (up [lk 0x15]) R.SLV_RING_DB ∧ Open (up [lk 0x3D]) R.KEY_RING_DB ∧ Open (up [lk 0x40]) (R.LNK_Pp_MSG_DB 3) ∧
    Open (up [lk 0x0A]) R.SCAN_OLC_CTRL ∧ (1 : Nat) ≠ (begin_ (up [])).rdF R.SCAN_BOOT_BANK 0 1 ∧ (begin_ (up [])).olcBusy = false := by
  refine ⟨?_, ?_, ?_, ?_, by decide, by decide⟩ <;> exact open_of (by decide) (by decide) (by decide) (by decide)
theorem meets_words_read : (0 < solverEnd ∧ (begin_ (up [])).domUp (W.bar2Domain 0) = true ∧ (begin_ (up [])).domUp 5 = true) ∧
    (solverEnd ≤ systemEnd - 1 ∧ (begin_ (up [])).domUp (W.bar2Domain (systemEnd - 1)) = true) ∧
    (up []).hif.dma[3] = none ∧ (begin_ (up [])).rdF (R.HIF_CHc_STAT 3) 8 9 = 0 ∧
    (begin_ (up [])).inPart 2 ((begin_ (up [])).partBase 2) = true := by decide

/-- O58: the states of power, SRAM in use and idle, a live channel, a direct-drive axis in FAULT. -/
theorem meets_SuppliesAndPins :
    (up []).pwr.held = false ∧ (begin_ (up [])).pstate = 0 ∧ (begin_ (up [(R.PWR_STATE, 1#32)])).pstate = 1 ∧
    (begin_ (up [(R.PWR_STATE, 2#32)])).pstate = 2 ∧ (∀ d ∈ [4, 5, 6], (begin_ (up [(R.PWR_DOM_STAT, 0x00000855#32)])).dom d = 0 ∨
      (begin_ (up [(R.PWR_DOM_STAT, 0x00000855#32)])).dom d = 2) ∧ (begin_ (up [])).dom 6 = 1 ∧
    (begin_ (up [(R.H_CTRL (0x1A + 15), 1#32)])).rdB (R.H_CTRL (0x1A + 15)) 0 = true ∧
    (begin_ (up [(R.CAN_MODE 15, 0x40#32)])).rdB (R.CAN_MODE 15) 6 = true ∧
    (let w := begin_ (up [(R.RED_CLAIM, 1#32), (R.AX_CFG 7, 1#32), (R.AX_ASTAT 7, 6#32)])
     w.dom 7 = 1 ∧ w.padsOn = true ∧ w.axDirect 7 = true ∧ w.axState 7 = 6) := by decide

end Sys2Proof.Tests
end

section
/-!
PROOF. Stored registers and register pairs, written and read by the host (R13, R15, R49, R52, R69): what the page's bookkeeping
leaves alone, one word written and read, the two words of a pair.
-/
namespace Sys2Proof.Machine

/-! ## What the page's bookkeeping leaves alone -/

namespace W

theorem relock_evt (w : W) (p : Nat) : (w.relock p).evt = w.evt := by unfold relock; split <;> rfl
theorem relock_wq (w : W) (p : Nat) : (w.relock p).wq = w.wq := by unfold relock; split <;> rfl
theorem spend_evt (w : W) (p o : Nat) : (w.spend p o).evt = w.evt := by unfold spend; split <;> rfl
theorem spend_wq (w : W) (p o : Nat) : (w.spend p o).wq = w.wq := by unfold spend; split <;> rfl
theorem countSeq_evt (w : W) (b : Bool) (off : Nat) : (w.countSeq b off).evt = w.evt := by
  unfold countSeq; repeat' split
  all_goals rfl
theorem countSeq_wq (w : W) (b : Bool) (off : Nat) : (w.countSeq b off).wq = w.wq := by
  unfold countSeq; repeat' split
  all_goals rfl

theorem relock_rd (w : W) (p a : Nat) (h : a % 0x1000 ≠ 0x024) : (w.relock p).rd a = w.rd a := start_rd w p a h
theorem relock_pageUp (w : W) (p q : Nat) : (w.relock p).pageUp q = w.pageUp q := start_pageUp w p q
theorem relock_inSrst (w : W) (p q : Nat) : (w.relock p).inSrst q = w.inSrst q := start_inSrst w p q
theorem relock_port (w : W) (p : Nat) : (w.relock p).port = w.port := by
  unfold port qspiSel; rw [relock_rdB _ _ _ _ (by decide)]

/-- A budget that has not run out leaves the page as it is (R69). -/
theorem relock_budget {w : W} {p : Nat} (h : w.rdF (R.H_LOCK p) 8 9 ≠ 0) : w.relock p = w := by
  unfold relock; rw [if_neg (by simp [h])]

theorem spend_rd (w : W) (p o a : Nat) (h : a % 0x1000 ≠ 0x024) : (w.spend p o).rd a = w.rd a := by
  unfold spend
  split
  · rfl
  · rw [rd_wrF, if_neg (by unfold R.H_LOCK; omega)]

theorem countSeq_rd (w : W) (b : Bool) (off a : Nat) (h : a ≠ R.H_SEQ (off / 0x1000)) : (w.countSeq b off).rd a = w.rd a := by
  unfold countSeq
  split
  · split
    · exact rd_wr_ne _ _ _ _ h
    · rfl
  · rfl

/-- An access that leaves some of the budget leaves the page unlocked (R69). -/
theorem spend_unlocked {w : W} {p : Nat} (o : Nat) (hu : w.unlocked p = true) (hb : 2 ≤ w.rdF (R.H_LOCK p) 8 9) :
    (w.spend p o).unlocked p = true := by
  have hlt : w.rdF (R.H_LOCK p) 8 9 < 2 ^ 9 := Nat.mod_lt _ (by decide)
  unfold spend
  split
  · exact hu
  · unfold unlocked at hu ⊢
    have bit0 : (w.wrF (R.H_LOCK p) 8 9 (w.rdF (R.H_LOCK p) 8 9 - 1)).rdB (R.H_LOCK p) 0 = w.rdB (R.H_LOCK p) 0 := by
      unfold rdB wrF; rw [rd_wr_same, bit_setFld_ne _ _ _ _ _ (by decide) (by decide)]
    rw [bit0, rdF_wrF_same _ _ _ _ _ (by decide)]
    simp only [Bool.and_eq_true, bne_iff_ne] at hu ⊢
    exact ⟨hu.1, by omega⟩

/-! ## One word -/

/-- The page carries out an access to a register that answers, is not locked for it, and lies outside the DBG page. -/
theorem pageCode_zero {u : W} {off : Nat} {write : Bool} (up : (u.pageUp (off / 0x1000) || inPd1 off) = true)
    (noSrst : u.inSrst (off / 0x1000) = false) (h42 : off / 0x1000 ≠ 0x42)
    (lock : write = true → ∀ d, regDef off = some d → d.acc = .rwl → u.unlocked (off / 0x1000) = true) :
    u.pageCode true off write = 0 := by
  unfold pageCode offCode
  cases hd : regDef off with
  | none => simp only [up, noSrst]; simp [firstCode]
  | some d =>
    have locked : (write && (d.acc == .rwl) && !u.unlocked (off / 0x1000)) = false := by
      rw [Bool.eq_false_iff]
      intro h
      simp only [Bool.and_eq_true, beq_iff_eq, Bool.not_eq_true'] at h
      obtain ⟨⟨hw, ha⟩, hl⟩ := h
      rw [lock hw d hd ha] at hl
      exact absurd hl (by decide)
    simp only [up, noSrst, Bool.true_and, locked]
    simp [firstCode, h42]

/-- A host write of an aligned word is the write of that word (R49). -/
theorem hostWrite_word {w : W} {off : Nat} (v : BitVec 64) (x : Ext) (m : Memory) (h : w.hostOk = true) (ho : off % 4 = 0) :
    w.hostWrite x m off 4 v = w.hostWord x m off (v.truncate 32) := by
  unfold hostWrite
  rw [if_neg (by simp [h]), if_pos ⟨rfl, ho⟩, BitVec.ofNat_toNat]

theorem toLe_length (n v : Nat) : (toLe n v).length = n := by
  induction n generalizing v with
  | zero => rfl
  | succ n ih => simp [toLe, ih]

/-- A host read of an aligned word answers its four bytes (R49). -/
theorem hostRead_word {w : W} {off : Nat} (h : w.hostOk = true) (ho : off % 4 = 0) :
    w.hostRead .ok off 4 = (w.hostReadWord .ok off).1.answer (toLe 4 (w.hostReadWord .ok off).2.toNat) := by
  have e : off / 4 * 4 = off := by omega
  unfold hostRead
  rw [if_neg (by simp [h]), if_neg (by simp), if_pos (.inl ⟨rfl, ho⟩)]
  simp only [e, ho, List.drop_zero]
  rw [List.take_of_length_le (by rw [toLe_length])]

/-! ## Registers that are stored -/

/-- The pages whose writable registers a host write stores (R13): SYS, TSC, PLS, CANC, MOT, DRV, SAF. -/
def storedPages : List Nat := [0x00, 0x09, 0x12, 0x19, 0x2A, 0x3B, 0x3C]

/-- The pages of the statement whose registers a read returns as they are stored. -/
def shownPages : List Nat := [0x00, 0x09, 0x12, 0x13, 0x14, 0x3B, 0x3C]

theorem ne_of_page {off a : Nat} (h : off / 0x1000 ≠ a / 0x1000) : off ≠ a := fun e => h (congrArg (· / 0x1000) e)

theorem blockWrite_stored {w : W} {m : Memory} {off : Nat} {v : Word} {x : Ext} (hp : off / 0x1000 ∈ storedPages)
    (hr : off ≠ R.SYS_RST_CTRL) : w.blockWrite m off v x = w.storeWord off v := by
  simp only [storedPages, List.mem_cons, List.not_mem_nil, or_false] at hp
  rcases hp with h | h | h | h | h | h | h
  · exact write_00 h hr
  · exact write_09 h
  · exact write_12 h
  · exact write_19 h
  · exact write_2a h
  · exact write_3b h
  · exact write_3c h

/-- A stored register takes the writable bits of its mask and keeps its reserved bits (R13, R15). -/
theorem storeWord_writable {w : W} {off : Nat} {v : Word} {d : RegDef} (hd : regDef off = some d) (ha : d.acc = .rw ∨ d.acc = .rwl) :
    w.storeWord off v = w.wr off ((v &&& BitVec.ofNat 32 d.wmask) ||| (w.rd off &&& ~~~BitVec.ofNat 32 d.wmask)) := by
  unfold storeWord
  rcases ha with h | h <;> simp only [hd, h]

theorem blockWord_shown {w : W} {off : Nat} (hp : off / 0x1000 ∈ shownPages) : w.blockWord off = w.rd off := by
  have other : ∀ a, a / 0x1000 ∈ [0x01, 0x02, 0x03, 0x04, 0x08, 0x0F, 0x19, 0x3D, 0x3E, 0x41] → off ≠ a := fun a ha => ne_of_page (by
    simp only [shownPages, List.mem_cons, List.not_mem_nil, or_false] at hp ha
    omega)
  have sys : w.sysWord off = w.rd off := by
    unfold sysWord
    rw [if_neg (other _ (by decide)), if_neg (other _ (by decide)), if_neg (other _ (by decide)), if_neg (other _ (by decide)),
      if_neg (other _ (by decide)), if_neg (other _ (by decide)), if_neg (other _ (by decide)), if_neg (other _ (by decide))]
  simp only [shownPages, List.mem_cons, List.not_mem_nil, or_false] at hp
  unfold blockWord
  dsimp only
  rw [if_neg (by omega), if_neg (by omega), if_neg (by omega), if_neg (other _ (by decide)), if_neg (other _ (by decide)),
    if_neg (other _ (by decide)), if_neg (by omega), if_neg (by omega), if_neg (by omega), if_neg (other _ (by decide)),
    if_neg (other _ (by decide)), if_neg (other _ (by decide)), if_neg (other _ (by decide)), if_neg (other _ (by decide)),
    if_neg (by omega), sys, ite_self]

end W

/-- The evaluation watches no writable register of the stored pages. -/
theorem watched_stored {off : Nat} {d : RegDef} (hp : off / 0x1000 ∈ W.storedPages) (ho : 0x040 ≤ off % 0x1000)
    (hd : regDef off = some d) (ha : d.acc ≠ .ro) : watched off = false := by
  have notRo : ∀ a, (regDef a).map (·.acc) = some .ro → off ≠ a := by
    rintro a h rfl
    rw [hd] at h
    exact ha (Option.some.inj h)
  have strap : off ≠ R.SYS_STRAP := notRo _ (by decide)
  have boot : off ≠ R.SYS_BOOT_STAT := notRo _ (by decide)
  have other : ∀ a, a / 0x1000 ∈ [0x01, 0x04, 0x15, 0x17] → off ≠ a := fun a h => W.ne_of_page (by
    simp only [W.storedPages, List.mem_cons, List.not_mem_nil, or_false] at hp h
    omega)
  unfold watched
  simp only [W.storedPages, List.mem_cons, List.not_mem_nil, or_false, R.LNK_Pp_CTRL, R.SLV_ARM, Bool.or_eq_false_iff,
    Bool.and_eq_false_iff, beq_eq_false_iff_ne, decide_eq_false_iff_not, List.contains_eq_mem] at hp ⊢
  refine ⟨⟨⟨⟨by omega, ?_⟩, by omega⟩, by omega⟩, by omega⟩
  exact fun h => by
    rcases h with h | h | h | h | h | h | h | h
    exacts [other _ (by decide) h, other _ (by decide) h, other _ (by decide) h, boot h, strap h, other _ (by decide) h,
      other _ (by decide) h, other _ (by decide) h]

/-- The register pairs that are written lie in the RTC and QTY pages (R52). -/
theorem isPairW_page {off : Nat} (h : isPairW off = true) : off / 0x1000 = 0x05 ∨ off / 0x1000 = 0x13 := by
  simp only [isPairW, Bool.or_eq_true, beq_iff_eq] at h
  rcases h with rfl | rfl <;> decide

theorem hostReg_stored {off : Nat} {d : RegDef} (hp : off / 0x1000 ∈ W.storedPages) (ho : 0x040 ≤ off % 0x1000)
    (hd : regDef off = some d) (ha : d.acc ≠ .ro) : hostReg off = true := by
  have page : ∀ p ∈ W.storedPages, (pageDomain p).isNone = false ∧ pageDomain p ≠ some 5 ∧ p ≠ 0x42 ∧
      p ≠ 0x04 ∧ p ≠ 0x05 ∧ p ≠ 0x13 := by decide
  obtain ⟨some_, not5, not42, notHif, notRtc, notQty⟩ := page _ hp
  have noPair : ∀ a, a / 0x1000 = off / 0x1000 → isPairW a = false := fun a h => by
    rw [Bool.eq_false_iff]
    intro k
    have := isPairW_page k
    omega
  have boot : off ≠ R.HIF_BOOT_CTRL := W.ne_of_page notHif
  unfold hostReg
  simp [some_, not5, ho, noPair off rfl, noPair (off - 4) (by omega), boot, not42, hd, ha]

/-- A host write of one word to a stored register, in a device at rest. -/
theorem stored_write {s : State} {off : Nat} {v : BitVec 64} {x : Ext} {d : RegDef} (h : Ready s off) (hd : regDef off = some d)
    (hw : off % 4 = 0) (ho : 0x040 ≤ off % 0x1000) (hp : off / 0x1000 ∈ W.storedPages) (hr : off ≠ R.SYS_RST_CTRL)
    (ha : d.acc = .rw ∨ d.acc = .rwl)
    (hk : W.blockCheck (hostEnter (begin_ s) (off / 0x1000)) s.mem off (v.truncate 32) x = 0) :
    HostWrites (.registerWrite off 4 v x) s off fun w =>
      w.wr off ((v.truncate 32 &&& BitVec.ofNat 32 d.wmask) ||| (w.rd off &&& ~~~BitVec.ofNat 32 d.wmask)) := by
  have notRo : d.acc ≠ .ro := by rcases ha with h | h <;> simp [h]
  have word : exec (.registerWrite off 4 v x) s = run (fun m w => w.hostWord x m off (v.truncate 32)) s := by
    show run (fun m w => w.hostWrite x m off 4 v) s = _
    unfold run
    dsimp only
    rw [W.hostWrite_word v x s.mem h.host.link hw]
  have other : ∀ a, a / 0x1000 ∈ [0x04, 0x05, 0x0A, 0x13, 0x15, 0x3D] → off ≠ a := fun a k => W.ne_of_page (by
    simp only [W.storedPages, List.mem_cons, List.not_mem_nil, or_false] at hp k
    omega)
  have meets : ∀ u : W, u.accessMeets s.mem off (v.truncate 32) x = (u, s.mem) := fun u =>
    W.accessMeets_other u _ _ _ _ (other _ (by decide)) (other _ (by decide)) (other _ (by decide)) (.inl (by
      simp only [W.storedPages, List.mem_cons, List.not_mem_nil, or_false] at hp; omega))
  refine HostWrites.of word h (hostReg_stored hp ho hd notRo) meets hk ?_ fun u hu => hu.wr (watched_stored hp ho hd notRo)
  rw [W.blockWrite_stored hp hr, W.storeWord_writable hd ha]

/-! ## Reads -/

/-- The latched upper words of the pairs are not watched. -/
theorem SameWatch.latched {w u : W} (h : SameWatch w u) (l : List (Master × Nat × Word)) :
    SameWatch w { u with evt.pairRd := l } :=
  h.of_eq rfl rfl rfl rfl rfl rfl rfl rfl rfl rfl rfl

/-- The page of a register that the host reaches carries out a read of it. -/
theorem pageCode_read {w : W} {off : Nat} (h : HostReady w off) (h42 : off / 0x1000 ≠ 0x42) :
    (w.relock (off / 0x1000)).pageCode true off false = 0 :=
  W.pageCode_zero (by rw [W.relock_pageUp]; exact h.up) (by rw [W.relock_inSrst]; exact h.noSrst) h42 (by simp)

/-- A host read of a word of the pages that show their registers as stored: the page's bookkeeping, and the latch of R52. -/
theorem hostReadWord_shown {w : W} {off : Nat} {d : RegDef} (h : HostReady w off) (hd : regDef off = some d) (hw : off % 4 = 0)
    (ho : 0x040 ≤ off % 0x1000) (hp : off / 0x1000 ∈ W.shownPages) :
    w.hostReadWord .ok off =
      (((w.relock (off / 0x1000)).pairRead (.host w.port) off W.hostView).1.spend (off / 0x1000) (off % 0x1000),
        ((w.relock (off / 0x1000)).pairRead (.host w.port) off W.hostView).2) := by
  have page : ∀ p ∈ W.shownPages, (pageDomain p).isNone = false ∧ pageDomain p ≠ some 5 ∧ p ≠ 0x42 ∧ p ≠ 0x05 ∧
      ¬ (0x1A ≤ p ∧ p ≤ 0x29) := by decide
  obtain ⟨some_, not5, not42, notRtc, notCan⟩ := page _ hp
  rw [W.hostReadWord_ok some_ ho (pageCode_read h not42) hd notRtc]
  have free : ∀ u : W, u.freeRead off = u := fun u => by
    unfold W.freeRead
    rw [if_neg (by rintro (k | ⟨k1, k2, -⟩) <;> omega)]
  dsimp only
  rw [W.accessWake_other _ _ not5, free, W.relock_port]

theorem hostView_shown {w : W} {off : Nat} (hp : off / 0x1000 ∈ W.shownPages) : w.hostView off = w.rd off := by
  have notRtc : off / 0x1000 ≠ 0x05 := by rintro h; rw [h] at hp; exact absurd hp (by decide)
  unfold W.hostView
  split
  · rw [if_neg (fun h => notRtc h.1), W.blockWord_shown hp]
  · exact W.blockWord_shown hp

/-- A register that is no pair is read as it stands while no upper word is latched. -/
theorem pairRead_single {w : W} {ma : Master} {off : Nat} {word : W → Nat → Word} (hl : w.evt.pairRd = []) (hp : isPair off = false) :
    w.pairRead ma off word = (w, word w off) := by
  unfold W.pairRead
  simp [hl, hp]

/-- A read of the lower word of a pair latches the upper word for the same master (R52). -/
theorem pairRead_lower {w : W} {ma : Master} {off : Nat} {word : W → Nat → Word} (hl : w.evt.pairRd = []) (hp : isPair off = true) :
    w.pairRead ma off word = ({ w with evt.pairRd := [(ma, off + 4, word w (off + 4))] }, word w off) := by
  unfold W.pairRead
  simp [hl, hp]

theorem isPair_page {off : Nat} (hp : off / 0x1000 ∈ [0x00, 0x09, 0x3B, 0x3C]) : isPair off = false := by
  simp only [List.mem_cons, List.not_mem_nil, or_false] at hp
  unfold isPair
  dsimp only
  rw [if_neg (by omega), if_neg (by omega), if_neg (by omega), if_neg (by omega), if_neg (by omega), if_neg (by omega),
    if_neg (by omega), if_neg (by omega)]

/-- The upper word of an aligned pair lies in the page of its lower word. -/
theorem isPair_upper_page {off : Nat} (h : isPair off = true) (hp : off / 0x1000 ∈ [0x12, 0x13, 0x14]) (hw : off % 4 = 0) :
    (off + 4) / 0x1000 = off / 0x1000 := by
  have last : off % 0x1000 ≠ 0xFFC := fun k => by
    simp only [List.mem_cons, List.not_mem_nil, or_false] at hp
    rcases hp with e | e | e <;> simp [isPair, e, k] at h
  omega

/-- A host read of one word of a register that is stored and no pair, in a device at rest. -/
theorem stored_read {s : State} {off : Nat} {d : RegDef} (h : Ready s off) (hd : regDef off = some d) (hw : off % 4 = 0)
    (ho : 0x040 ≤ off % 0x1000) (hp : off / 0x1000 ∈ [0x00, 0x09, 0x3B, 0x3C]) (hl : (begin_ s).evt.pairRd = []) :
    Yields (.registerRead off 4 .ok) s
      ((((begin_ s).relock (off / 0x1000)).spend (off / 0x1000) (off % 0x1000)).answer (toLe 4 ((begin_ s).rd off).toNat)) := by
  have sub : ∀ p ∈ [0x00, 0x09, 0x3B, 0x3C], p ∈ W.shownPages := by decide
  have word : exec (.registerRead off 4 .ok) s = run (fun _ w => w.hostRead .ok off 4) s := rfl
  unfold Yields
  rw [word]
  refine run_steady h.rest ?_ ((((SameWatch.refl _).relock _).spend _ _).answer _)
  rw [W.hostRead_word h.host.link hw, hostReadWord_shown h.host hd hw ho (sub _ hp),
    pairRead_single (by rw [W.relock_evt]; exact hl) (isPair_page hp), hostView_shown (sub _ hp), W.relock_rd _ _ _ (by omega)]

/-- A host read of the lower word of a register pair, in a device at rest. -/
theorem pair_read {s : State} {off : Nat} {d : RegDef} (h : Ready s off) (hd : regDef off = some d) (hw : off % 4 = 0)
    (ho : 0x040 ≤ off % 0x1000) (hi : isPair off = true) (hp : off / 0x1000 ∈ [0x12, 0x13, 0x14]) (hl : (begin_ s).evt.pairRd = []) :
    Yields (.registerPairRead off .ok) s
      (({ (begin_ s).relock (off / 0x1000) with
            evt.pairRd := [(Master.host (begin_ s).port, off + 4, (begin_ s).rd (off + 4))] }.spend (off / 0x1000)
          (off % 0x1000)).answer (toLe 4 ((begin_ s).rd off).toNat)) := by
  have sub : ∀ p ∈ [0x12, 0x13, 0x14], p ∈ W.shownPages := by decide
  have upper : (off + 4) / 0x1000 = off / 0x1000 := isPair_upper_page hi hp hw
  have word : exec (.registerPairRead off .ok) s = run (fun _ w => if isPair off then w.hostRead .ok off 4 else w) s := rfl
  unfold Yields
  rw [word]
  refine run_steady h.rest ?_ (((((SameWatch.refl _).relock _).latched _).spend _ _).answer _)
  dsimp only
  rw [if_pos hi, W.hostRead_word h.host.link hw, hostReadWord_shown h.host hd hw ho (sub _ hp),
    pairRead_lower (by rw [W.relock_evt]; exact hl) hi, hostView_shown (sub _ hp), hostView_shown (by rw [upper]; exact sub _ hp),
    W.relock_rd _ _ _ (by omega), W.relock_rd _ _ _ (by omega)]

/-! ## The two writes of a register pair -/

namespace SameWatch

theorem hostOk {w u : W} (h : SameWatch w u) : u.hostOk = w.hostOk := by
  unfold W.hostOk W.qspiSel
  rw [h.held, h.dom, h.rdB (by decide), h.linkUp]

theorem inSrst {w u : W} (h : SameWatch w u) (p : Nat) : u.inSrst p = w.inSrst p := h.rdB (by simp [watched, R.H_CTRL])

/-- Outside PD5, whose memories may be kept while it starts, a page answers by what the evaluation watches. -/
theorem pageUp {w u : W} (h : SameWatch w u) {p : Nat} (h5 : pageDomain p ≠ some 5) : u.pageUp p = w.pageUp p := by
  unfold W.pageUp W.domUp
  cases hd : pageDomain p with
  | none => rfl
  | some d =>
    have : (d == 5) = false := by rw [beq_eq_false_iff_ne]; rintro rfl; exact h5 hd
    simp only [h.dom, this, Bool.false_and]

/-- The held lower words of the pairs are not watched. -/
theorem holding {w u : W} (h : SameWatch w u) (l : List (Master × Nat × Word)) : SameWatch w { u with evt.pairWr := l } :=
  h.of_eq rfl rfl rfl rfl rfl rfl rfl rfl rfl rfl rfl

end SameWatch

/-- The host that reaches a register reaches any other of its page that lies in the same domain. -/
theorem hostReady_same {w u : W} {off a : Nat} (h : HostReady w off) (k : SameWatch w u) (h5 : pageDomain (off / 0x1000) ≠ some 5)
    (page : a / 0x1000 = off / 0x1000) (pd1 : inPd1 a = inPd1 off) : HostReady u a where
  link := by rw [k.hostOk]; exact h.link
  up := by rw [page, pd1, k.pageUp h5]; exact h.up
  noSrst := by rw [page, k.inSrst]; exact h.noSrst

/-- The page of an unlocked register outside the DBG page carries out a host write of it. -/
theorem pageCode_write {w : W} {off : Nat} (h : HostReady w off) (h42 : off / 0x1000 ≠ 0x42) (hl : w.unlocked (off / 0x1000) = true) :
    (hostEnter w (off / 0x1000)).pageCode true off true = 0 :=
  W.pageCode_zero (by rw [W.start_pageUp]; exact h.up) (by rw [W.start_inSrst]; exact h.noSrst) h42
    fun _ _ _ _ => by rw [W.start_unlocked]; exact hl

/-- The record in which a master's write of the lower word of a pair is held (R52). -/
def pairHold (u : W) (ma : Master) (off : Nat) (v : Word) : W :=
  { u with evt.pairWr := (ma, off, v) :: (u.pairDrop ma off).evt.pairWr }

/-- The upper word of a pair arrives: both words take effect, or the page's ERR takes the block's code (R52). -/
def pairTake (u : W) (ma : Master) (off : Nat) (v : Word) : W :=
  let r := u.pairWrite ma (off - 4) v
  if r.2 ≠ 0 then u.err (off / 0x1000) r.2 else r.1.countSeq true off

/-- A host write of either word of a pair, past the page's checks. -/
theorem hostWord_pair {w : W} {off : Nat} {v : Word} {x : Ext} {m : Memory} {d : RegDef} (h : HostReady w off)
    (hl : w.unlocked (off / 0x1000) = true) (hd : regDef off = some d) (ha : d.acc ≠ .ro) (ho : 0x040 ≤ off % 0x1000)
    (half : isPairW off = true ∨ 4 ≤ off ∧ isPairW (off - 4) = true) :
    w.hostWord x m off v =
      (if isPairW off then (pairHold (hostEnter w (off / 0x1000)) (.host w.port) off v).countSeq true off
       else pairTake (hostEnter w (off / 0x1000)) (.host w.port) off v).spend (off / 0x1000) (off % 0x1000) := by
  have page : off / 0x1000 = 0x05 ∨ off / 0x1000 = 0x13 := by
    rcases half with k | ⟨-, k⟩ <;> have := isPairW_page k <;> omega
  have domain : (pageDomain (off / 0x1000)).isNone = false := by rcases page with k | k <;> rw [k] <;> decide
  have not5 : pageDomain (off / 0x1000) ≠ some 5 := by rcases page with k | k <;> rw [k] <;> decide
  have notBoot : off ≠ R.HIF_BOOT_CTRL := W.ne_of_page (show off / 0x1000 ≠ 0x04 by omega)
  have port : (hostEnter w (off / 0x1000)).port = w.port := W.relock_port w _
  rw [W.hostWord_enter h.link domain (by omega) notBoot, port]
  congr 1
  unfold W.wordWrite
  simp only [domain, pageCode_write h (by omega) hl, W.accessWake_other _ _ not5, hd, beq_eq_false_iff_ne.mpr ha]
  rw [if_neg (by decide), if_neg (by omega), if_neg (fun k => absurd k.1 (by decide)), if_neg (by decide), if_neg (by decide)]
  split
  · rfl
  · rename_i hi
    rw [if_pos (half.resolve_left hi)]
    rfl

/-! ## QTY.PRESET_VAL -/

namespace W

/-- A register pair reads as the value stored in it. -/
theorem rd64_wr64 (w : W) (a v : Nat) (h : v < 2 ^ 64) : (w.wr64 a v).rd64 a = v := by
  unfold rd64 wr64
  rw [rdN_wrN_ne _ _ _ _ (by omega), rdN_wrN_same, rdN_wrN_same]
  omega

theorem rd_wr64_ne (w : W) (a b v : Nat) (h1 : b ≠ a) (h2 : b ≠ a + 4) : (w.wr64 a v).rd b = w.rd b := by
  unfold wr64 wrN
  rw [rd_wr_ne _ _ _ _ h2, rd_wr_ne _ _ _ _ h1]

/-- The upper word of PRESET_VAL stores the pair and ends the hold of its lower word (R52). -/
theorem pairWrite_preset {u : W} {ma : Master} {lo v : Word} (h : u.evt.pairWr = [(ma, R.QTY_PRESET_VAL, lo)]) :
    u.pairWrite ma R.QTY_PRESET_VAL v =
      ({ u.wr64 R.QTY_PRESET_VAL (lo.toNat + 2 ^ 32 * v.toNat) with evt.pairWr := [] }, 0) := by
  have held : u.pairHeld ma R.QTY_PRESET_VAL = lo := by unfold pairHeld; simp [h]
  unfold pairWrite
  simp only [held]
  rw [if_neg (show ¬ R.QTY_PRESET_VAL = R.RTC_SET_S by decide), if_neg (by simp)]
  unfold pairDrop
  simp [h]

end W

/-- Both words of PRESET_VAL are registers that only an unlocked page takes (R275). -/
theorem presetLow_def : regDef R.QTY_PRESET_VAL = some ⟨"PRESET_VAL", 0x74, 4, 1, .rwl, 0xffffffff, 0⟩ := by decide
theorem presetHigh_def : regDef (R.QTY_PRESET_VAL + 4) = some ⟨"PRESET_VAL_HI", 0x78, 4, 1, .rwl, 0xffffffff, 0⟩ := by decide

/-- The record after the host's write of the lower word of PRESET_VAL. -/
def presetHeld (w : W) (lo : Word) : W :=
  ((pairHold (hostEnter w 0x13) (.host w.port) R.QTY_PRESET_VAL lo).countSeq true R.QTY_PRESET_VAL).spend 0x13 0x074

/-- The record after the host's write of the upper word, which brings the value `v` into PRESET_VAL. -/
def presetTaken (w : W) (v : Nat) : W :=
  ({ (hostEnter w 0x13).wr64 R.QTY_PRESET_VAL v with evt.pairWr := [] }.countSeq true (R.QTY_PRESET_VAL + 4)).spend 0x13 0x078

theorem presetHeld_watch {w u : W} (h : SameWatch w u) (lo : Word) : SameWatch w (presetHeld u lo) :=
  ((h.trans ((SameWatch.start u 0x13).holding _)).countSeq _ _).spend _ _

theorem presetTaken_watch {w u : W} (h : SameWatch w u) (v : Nat) : SameWatch w (presetTaken u v) :=
  ((((h.trans (SameWatch.start u 0x13)).wr64 (by decide) (by decide)).holding _).countSeq _ _).spend _ _

theorem presetHeld_pairWr {w : W} {lo : Word} (h : w.evt.pairWr = []) :
    (presetHeld w lo).evt.pairWr = [(.host w.port, R.QTY_PRESET_VAL, lo)] := by
  have enter : (hostEnter w 0x13).evt.pairWr = [] := by
    show (w.relock 0x13).evt.pairWr = []
    rw [W.relock_evt, h]
  unfold presetHeld
  rw [W.spend_evt, W.countSeq_evt]
  unfold pairHold W.pairDrop
  simp [enter]

theorem presetHeld_rd (w : W) (lo : Word) (a : Nat) (h1 : a % 0x1000 ≠ 0x024) (h2 : a ≠ R.H_SEQ 0x13) :
    (presetHeld w lo).rd a = w.rd a := by
  unfold presetHeld
  rw [W.spend_rd _ _ _ _ h1, W.countSeq_rd _ _ _ _ h2]
  exact W.start_rd w 0x13 a h1

theorem presetTaken_rd (w : W) (v a : Nat) (h1 : a % 0x1000 ≠ 0x024) (h2 : a ≠ R.H_SEQ 0x13) :
    (presetTaken w v).rd a = ((hostEnter w 0x13).wr64 R.QTY_PRESET_VAL v).rd a := by
  unfold presetTaken
  rw [W.spend_rd _ _ _ _ h1, W.countSeq_rd _ _ _ _ h2]
  rfl

theorem presetHeld_wq (w : W) (lo : Word) : (presetHeld w lo).wq = w.wq := by
  unfold presetHeld
  rw [W.spend_wq, W.countSeq_wq]
  exact W.relock_wq w 0x13

theorem presetTaken_wq (w : W) (v : Nat) : (presetTaken w v).wq = w.wq := by
  unfold presetTaken
  rw [W.spend_wq, W.countSeq_wq]
  exact W.relock_wq w 0x13

theorem presetHeld_port (w : W) (lo : Word) : (presetHeld w lo).port = w.port := by
  unfold W.port W.qspiSel W.rdB
  rw [presetHeld_rd _ _ _ (by decide) (by decide)]

/-- Two accesses of the budget are enough for both words (R69). -/
theorem presetHeld_unlocked {w : W} {lo : Word} (hu : w.unlocked 0x13 = true) (hb : 2 ≤ w.rdF (R.H_LOCK 0x13) 8 9) :
    (presetHeld w lo).unlocked 0x13 = true := by
  have lock : ((pairHold (hostEnter w 0x13) (.host w.port) R.QTY_PRESET_VAL lo).countSeq true R.QTY_PRESET_VAL).rd (R.H_LOCK 0x13) =
      w.rd (R.H_LOCK 0x13) := by
    rw [W.countSeq_rd _ _ _ _ (by decide)]
    show (w.relock 0x13).rd (R.H_LOCK 0x13) = _
    rw [W.relock_budget (by omega)]
  apply W.spend_unlocked
  · unfold W.unlocked W.rdB W.rdF at hu ⊢
    rw [lock]
    exact hu
  · unfold W.rdF at hb ⊢
    rw [lock]
    exact hb

/-- A value is made of its lower and its upper word. -/
theorem low_add_high (v : BitVec 64) :
    (BitVec.ofNat 32 v.toNat).toNat + 2 ^ 32 * (BitVec.ofNat 32 (v.toNat / 2 ^ 32)).toNat = v.toNat := by
  have := v.isLt
  simp only [BitVec.toNat_ofNat]
  omega

/-- The two words of PRESET_VAL written by the host: the first is held, the second brings both to take effect (R52). -/
theorem putPair_preset {w : W} {v : BitVec 64} {x : Ext} {m : Memory} (h : HostReady w R.QTY_PRESET_VAL)
    (hu : w.unlocked 0x13 = true) (hb : 2 ≤ w.rdF (R.H_LOCK 0x13) 8 9) (hp : w.evt.pairWr = []) :
    w.putPair m R.QTY_PRESET_VAL v.toNat x = presetTaken (presetHeld w (BitVec.ofNat 32 v.toNat)) v.toNat := by
  have lower : w.put32 m R.QTY_PRESET_VAL v.toNat x = presetHeld w (BitVec.ofNat 32 v.toNat) :=
    (hostWord_pair h hu presetLow_def (by decide) (by decide) (.inl (by decide))).trans (by rw [if_pos (by decide)]; rfl)
  unfold W.putPair
  rw [lower]
  have watch := presetHeld_watch (SameWatch.refl w) (BitVec.ofNat 32 v.toNat)
  have held := presetHeld_pairWr (lo := BitVec.ofNat 32 v.toNat) hp
  have port := presetHeld_port w (BitVec.ofNat 32 v.toNat)
  have unlocked := presetHeld_unlocked (lo := BitVec.ofNat 32 v.toNat) hu hb
  generalize presetHeld w (BitVec.ofNat 32 v.toNat) = u at *
  have ready : HostReady u (R.QTY_PRESET_VAL + 4) := hostReady_same h watch (by decide) (by decide) (by decide)
  have enter : (hostEnter u 0x13).evt.pairWr = [(.host u.port, R.QTY_PRESET_VAL, BitVec.ofNat 32 v.toNat)] := by
    show (u.relock 0x13).evt.pairWr = _
    rw [W.relock_evt, held, port]
  have taken := W.pairWrite_preset (v := BitVec.ofNat 32 (v.toNat / 2 ^ 32)) enter
  rw [low_add_high] at taken
  have upper : u.put32 m (R.QTY_PRESET_VAL + 4) (v.toNat / 2 ^ 32) x =
      (pairTake (hostEnter u 0x13) (.host u.port) (R.QTY_PRESET_VAL + 4) (BitVec.ofNat 32 (v.toNat / 2 ^ 32))).spend 0x13 0x078 :=
    (hostWord_pair ready unlocked presetHigh_def (by decide) (by decide) (.inr (by decide))).trans (by rw [if_neg (by decide)]; rfl)
  rw [upper]
  unfold pairTake
  rw [Nat.add_sub_cancel]
  simp only [taken]
  rfl

/-- The two writes of PRESET_VAL, in a device at rest. -/
theorem preset_write {s : State} {v : BitVec 64} {x : Ext} (h : Ready s R.QTY_PRESET_VAL) (hp : (begin_ s).evt.pairWr = [])
    (hb : 2 ≤ (begin_ s).rdF (R.H_LOCK 0x13) 8 9) :
    Yields (.registerPairWrite R.QTY_PRESET_VAL v x) s (presetTaken (presetHeld (begin_ s) (BitVec.ofNat 32 v.toNat)) v.toNat) := by
  have word : exec (.registerPairWrite R.QTY_PRESET_VAL v x) s =
      run (fun m w => if isPairW R.QTY_PRESET_VAL then w.putPair m R.QTY_PRESET_VAL v.toNat x else w) s := rfl
  unfold Yields
  rw [word]
  refine run_steady h.rest ?_ (presetTaken_watch (presetHeld_watch (SameWatch.refl _) _) _)
  rw [if_pos (by decide), putPair_preset h.host (h.lock.2 _ presetLow_def rfl) hb hp]

/-- Settles O11: stored registers by the law of an accepted host write, reads by the latch of R52, PRESET_VAL by its two words. -/
theorem registerWritesAndReads : Obligations.RegisterWritesAndReads := by
  unfold Obligations.RegisterWritesAndReads
  intro s off v x d h hd hw ho
  refine ⟨fun hp => ⟨fun hr ha hk => stored_write h hd hw ho hp hr ha hk, fun hq hl => stored_read h hd hw ho hq hl⟩,
    fun hi hp hl => pair_read h hd hw ho hi hp hl, ?_⟩
  rintro rfl hp hb
  refine ⟨_, preset_write h hp hb, ?_, ?_, ?_, fun a h1 h2 h3 h4 => ?_⟩
  · show (presetTaken _ _).rd64 R.QTY_PRESET_VAL = v.toNat
    unfold W.rd64 W.rdN
    rw [presetTaken_rd _ _ _ (by decide) (by decide), presetTaken_rd _ _ _ (by decide) (by decide)]
    exact W.rd64_wr64 _ _ _ v.isLt
  · show (presetTaken _ _).evt.pairWr = []
    unfold presetTaken
    rw [W.spend_evt, W.countSeq_evt]
  · rw [commit_mem, presetTaken_wq, presetHeld_wq]
    rfl
  · show (presetTaken _ _).rd a = (begin_ s).rd a
    rw [presetTaken_rd _ _ _ h1 h2, W.rd_wr64_ne _ _ _ _ h3 h4, W.start_rd _ _ _ h1, presetHeld_rd _ _ _ h1 h2]

end Sys2Proof.Machine
end

section
/-!
PROOF. The forms of a host access to a register: a word write of a doorbell also meets the errors of the memory that it reads
(R140), which the statement leaves out.
-/
namespace Sys2Proof.Machine

/-- A host write to BAR0 that completes with the effect `u` ends in the state that its own effect makes. -/
theorem commit_of_completes_write {s : State} {off len : Nat} {v : BitVec 64} {x : Ext} {u : W}
    (h : Completes (.registerWrite off len v x) s u) :
    commit s (W.settle s.mem (begin_ s) ((begin_ s).hostWrite x s.mem off len v)) = commit s (W.settle s.mem (begin_ s) u) :=
  Host.Outcome.next.inj h

/-- The doorbell of the security engine's ring: a write-only register, which no lock guards (R715, R741). -/
theorem regDef_keyRingDb : regDef R.KEY_RING_DB = some ⟨"RING_DB", 0x48, 4, 1, .wo, 0x1f, 0⟩ := by decide

/-- A device before host release: every domain is on, the PCI Express link is up, the key ring lies at the start of system SRAM. -/
def ringDevice : State := { State.reset with
  regs := [(R.PWR_DOM_STAT, 0x00055555#32), (R.KEY_RING_BASE, 0x2800000#32)]
  pwr.pllSys := true, hif.perstN := true }

/-- A read of the first word of the ring meets a corrected error. -/
def ringErrors : Ext := { ramCe := [0x2800000] }

/-- One entry rung: the command may be given, the doorbell answers, and its block accepts the write. -/
theorem ringDevice_ready : (Instr.registerWrite R.KEY_RING_DB 4 1 ringErrors).wf = true ∧
    HostReady (begin_ ringDevice) R.KEY_RING_DB ∧
    (((hostEnter (begin_ ringDevice) 0x3D).accessWake R.KEY_RING_DB).blockCheck ringDevice.mem R.KEY_RING_DB 1 ringErrors = 0) :=
  ⟨by decide, ⟨by decide, by decide, by decide⟩, by decide⟩

theorem ringDevice_open : Open ringDevice R.KEY_RING_DB := by
  refine ⟨ringDevice_ready.2.1, by simp [regDef_keyRingDb], fun d hd hl => ?_⟩
  rw [regDef_keyRingDb, Option.some.injEq] at hd
  subst hd
  exact absurd hl (by decide)

/-- The write counts the corrected word (R140). -/
theorem ringDevice_write_counts : (W.settle ringDevice.mem (begin_ ringDevice)
    ((begin_ ringDevice).hostWrite ringErrors ringDevice.mem R.KEY_RING_DB 4 1)).age.sramCe = [0] := by decide

/-- The accepted write, as the statement describes it, counts none. -/
theorem ringDevice_accepted_counts_none : (W.settle ringDevice.mem (begin_ ringDevice)
    (accepted (begin_ ringDevice) R.KEY_RING_DB fun u =>
      u.blockWrite ringDevice.mem R.KEY_RING_DB 1 ringErrors)).age.sramCe = [] := by decide

/-- Refutes O34: a word write of an open doorbell whose block's checks pass has a further effect where the ring entries that it
reads meet an error of the SRAM. `ringDevice` rings one entry of the key ring, whose first word is corrected: the word is counted
(R140), which the effect of the block's write alone leaves out. -/
theorem not_formsOfRegisterAccess : ¬ Obligations.FormsOfRegisterAccess := by
  unfold Obligations.FormsOfRegisterAccess
  intro h
  obtain ⟨-, -, -, -, -, -, openWord, -⟩ := h ringDevice R.KEY_RING_DB 4 1 ringErrors .ok
  obtain ⟨-, ready, check⟩ := ringDevice_ready
  have notRo : ∀ d, regDef R.KEY_RING_DB = some d → d.acc ≠ .ro := fun d hd => by
    rw [regDef_keyRingDb, Option.some.injEq] at hd
    subst hd
    decide
  have takes := (openWord ⟨ready, by decide, by decide, by decide, by decide⟩ ringDevice_open (by decide) (by decide) notRo).1 check
  have same := congrArg (fun t : State => t.age.sramCe) (commit_of_completes_write takes)
  have : ([0] : List Int) = [] :=
    ringDevice_write_counts.symm.trans (same.trans ringDevice_accepted_counts_none)
  exact absurd this (by decide)

end Sys2Proof.Machine
end

section
/-!
PROOF. The byte memories stay in canonical form (R20, R44): a step is one command, which commits its writes to them, or 10 ns of an
empty queue, which writes none.
-/
namespace Sys2Proof.Machine

/-- What passes while no command waits writes no memory (log entry 5). -/
@[simp] theorem idle_mem (s : State) : (idle s).mem = s.mem := by
  unfold idle
  split
  · rfl
  · split <;> rfl

theorem step_of_empty {s : State} (h : s.pending = []) : step s = .next (idle s) := by
  unfold step
  rw [h]

theorem step_of_cons {s : State} {c : Instr} {rest : List Instr} (h : s.pending = c :: rest) :
    step s = exec c { s with pending := rest } := by
  unfold step
  rw [h]

/-- Settles O4: a step writes memory only as a command commits its writes, and `exec_keeps` says that this keeps the form. -/
theorem memoryStaysCanonical : Obligations.MemoryStaysCanonical := by
  unfold Obligations.MemoryStaysCanonical
  intro s t wf next
  cases queue : s.pending with
  | nil =>
    obtain rfl := Host.Outcome.next.inj ((step_of_empty queue).symm.trans next)
    rw [idle_mem]
    exact wf
  | cons c rest =>
    obtain ⟨u, answers, -, keeps⟩ := exec_keeps c { s with pending := rest }
    obtain rfl := Host.Outcome.next.inj (answers.symm.trans ((step_of_cons queue).symm.trans next))
    exact keeps wf

end Sys2Proof.Machine
end

section
/-!
PROOF. Accesses that a page does not carry out (R22, R60, R75): its domain is off, or its block soft reset is in progress.
-/
namespace Sys2Proof.Machine

/-! ## The code of the page -/

namespace W

/-- The first of the page's checks is its domain (R22, R75). -/
theorem pageCode_off {u : W} {off : Nat} {write : Bool} (down : u.pageUp (off / 0x1000) = false) (pd1 : inPd1 off = false) :
    u.pageCode true off write = eDomainOff := by
  unfold pageCode offCode
  simp [down, pd1, firstCode]

/-- A page that is up, lets the access through its lock and is not the DBG page answers ERR_BUSY during its soft reset (R60). -/
theorem pageCode_busy {u : W} {off : Nat} {write : Bool} (up : u.pageUp (off / 0x1000) = true)
    (srst : u.inSrst (off / 0x1000) = true) (h42 : off / 0x1000 ≠ 0x42)
    (lock : write = true → ∀ d, regDef off = some d → d.acc = .rwl → u.unlocked (off / 0x1000) = true) :
    u.pageCode true off write = eBusy := by
  unfold pageCode offCode
  cases hd : regDef off with
  | none => simp [up, srst, firstCode]
  | some d =>
    have locked : write = true → d.acc = .rwl → u.unlocked (off / 0x1000) = true := fun hw => lock hw d hd
    simpa [up, srst, h42, firstCode] using locked

theorem start_gusting (w : W) (p q : Nat) : W.gusting (hostEnter w p) q = W.gusting w q := by
  have dom : ∀ d, (hostEnter w p).dom d = w.dom d := (SameWatch.start w p).dom
  have pwr : (hostEnter w p).pwr = w.pwr := by unfold hostEnter relock; split <;> rfl
  unfold gusting domUp
  simp only [dom, pwr]

end W

/-! ## A refused access in a device at rest -/

/-- A host write of one word that the page refuses ends with its code in ERR: ERR_BUSY gives way to the block's own code. -/
theorem refused_write {s : State} {off c : Nat} {v : BitVec 64} {x : Ext} (rest : Steady (begin_ s))
    (link : (begin_ s).hostOk = true) (word : off % 4 = 0) (ho : 0x040 ≤ off % 0x1000) (page : (pageDomain (off / 0x1000)).isSome = true)
    (boot : off ≠ R.HIF_BOOT_CTRL) (code : (hostEnter (begin_ s) (off / 0x1000)).pageCode true off true = c) (refuses : c ≠ 0)
    (held : c = eDomainOff → W.gusting (hostEnter (begin_ s) (off / 0x1000)) (off / 0x1000) = true → W.isDoorbell off = false)
    {shown : Nat} (records :
      (if c = eBusy then (hostEnter (begin_ s) (off / 0x1000)).srstCode s.mem off (v.truncate 32) x else c) = shown) :
    Yields (.registerWrite off 4 v x) s (refusedWith (begin_ s) off shown) := by
  have listed : (pageDomain (off / 0x1000)).isNone = false := by simpa using page
  have runs : exec (.registerWrite off 4 v x) s = run (fun m w => w.hostWrite x m off 4 v) s := rfl
  unfold Yields
  rw [runs]
  refine run_steady rest ?_ (((SameWatch.start _ _).err (SameWatch.watched_common (by unfold R.H_ERR; omega))).spend _ _)
  rw [W.hostWrite_word v x s.mem link word, W.hostWord_refused link listed ho code refuses boot held, records]
  rfl

/-- A host read of one word that the page refuses ends with its code in ERR and returns zero. -/
theorem refused_read {s : State} {off c : Nat} (rest : Steady (begin_ s)) (link : (begin_ s).hostOk = true) (word : off % 4 = 0)
    (ho : 0x040 ≤ off % 0x1000) (page : (pageDomain (off / 0x1000)).isSome = true)
    (code : ((begin_ s).relock (off / 0x1000)).pageCode true off false = c) (refuses : c ≠ 0) :
    Yields (.registerRead off 4 .ok) s
      (((((begin_ s).relock (off / 0x1000)).err (off / 0x1000) c).spend (off / 0x1000) (off % 0x1000)).answer [0, 0, 0, 0]) := by
  subst code
  have listed : (pageDomain (off / 0x1000)).isNone = false := by simpa using page
  have runs : exec (.registerRead off 4 .ok) s = run (fun _ w => w.hostRead .ok off 4) s := rfl
  unfold Yields
  rw [runs]
  refine run_steady rest ?_
    (((((SameWatch.refl _).relock _).err (SameWatch.watched_common (by unfold R.H_ERR; omega))).spend _ _).answer _)
  rw [W.hostRead_word link word, W.hostReadWord_refused listed ho refuses]
  simp [toLe]

/-- The code of a write during a soft reset, as the statement describes it: the block's own, else ERR_BUSY (R60, R75). -/
theorem srstCode_own (u : W) (m : Memory) (off : Nat) (v : Word) (x : Ext) :
    u.srstCode m off v x =
      (let own := match regDef off with
          | none => 0
          | some d => if d.acc = .ro ∨ isPairW off = true ∨ 4 ≤ off ∧ isPairW (off - 4) = true then 0 else u.blockCheck m off v x
       if own = 0 then eBusy else own) := by
  unfold W.srstCode
  cases regDef off with
  | none => rfl
  | some d => simp [or_assoc]

/-- Settles O10: the page's code is ERR_DOMAIN_OFF or ERR_BUSY, and a refused access has no effect but its record in ERR. -/
theorem offDomainRefusesTheAccess : Obligations.OffDomainRefusesTheAccess := by
  unfold Obligations.OffDomainRefusesTheAccess
  intro s off v x rest link word ho page boot
  refine ⟨fun down pd1 => ⟨fun notHeld => ?_, ?_⟩, fun up srst h42 lock => ⟨?_, ?_⟩⟩
  · have off6 : (hostEnter (begin_ s) (off / 0x1000)).pageCode true off true = eDomainOff :=
      W.pageCode_off (by rw [W.start_pageUp]; exact down) pd1
    refine refused_write rest link word ho page boot off6 (by decide) (fun _ gust => ?_) (if_neg (by decide))
    rw [W.start_gusting] at gust
    exact notHeld.resolve_left (by rw [gust]; decide)
  · exact refused_read rest link word ho page (W.pageCode_off (by rw [W.relock_pageUp]; exact down) pd1) (by decide)
  · have busy : (hostEnter (begin_ s) (off / 0x1000)).pageCode true off true = eBusy :=
      W.pageCode_busy (by rw [W.start_pageUp]; exact up) (by rw [W.start_inSrst]; exact srst) h42
        fun _ d hd ha => by rw [W.start_unlocked]; exact lock d hd ha
    exact refused_write rest link word ho page boot busy (by decide) (fun h => absurd h (by decide))
      ((if_pos rfl).trans (srstCode_own _ _ _ _ _))
  · exact refused_read rest link word ho page
      (W.pageCode_busy (by rw [W.relock_pageUp]; exact up) (by rw [W.relock_inSrst]; exact srst) h42 (by simp)) (by decide)

end Sys2Proof.Machine
end

section
/-!
PROOF. A time exchange that wakes the device (R102, R108, R693): its SYNC_LOST event may start PLL_SYS, and the TSC then takes up the XTM
time elapsed since it stopped, which the statement on the TSC leaves out.
-/
namespace Sys2Proof.Machine

/-! ## What an event and the wake that it brings can change -/

/-- The registers that a wake writes: the events, STATE, STATE_REQ, ENTRY_ABORT and DOM_STAT of the power manager. -/
def wakeReg (a : Nat) : Bool :=
  evtReg a || a == R.PWR_STATE || a == R.PWR_STATE_REQ || a == R.PWR_ENTRY_ABORT || a == R.PWR_DOM_STAT

theorem evtReg_of_wakeReg {a : Nat} (h : wakeReg a = false) : evtReg a = false := by
  unfold wakeReg at h
  simp only [Bool.or_eq_false_iff] at h
  exact h.1.1.1.1

namespace Only

theorem occur (w : W) (e : Nat × Nat) : Only evtReg w (w.occur e) := occurN 3 e w

theorem occur_wake (w : W) (e : Nat × Nat) : Only wakeReg w (w.occur e) := (occur w e).weaken fun _ => evtReg_of_wakeReg

theorem setPstate (w : W) (v : Nat) : Only wakeReg w (w.setPstate v) := by
  unfold W.setPstate
  exact ite (refl _ w) (trans ((refl _ w).wrF (by decide)) (occur_wake _ _))

theorem startPllSys (w : W) : Only wakeReg w w.startPllSys := by
  unfold W.startPllSys
  exact ite (refl _ w) (of_regs (refl _ w) rfl)

theorem setDom (w : W) (d v : Nat) : Only wakeReg w (w.setDom d v) := (refl _ w).wrF (by decide)

theorem abortEntry (w : W) : Only wakeReg w w.abortEntry := by
  unfold W.abortEntry
  have cleared : Only wakeReg w { w.wr R.PWR_STATE_REQ 0 with pwr.lullEntry := false } :=
    of_regs ((refl _ w).wr (a := R.PWR_STATE_REQ) (v := 0) (by decide)) rfl
  exact ite (refl _ w) (trans (cleared.incSat (by decide)) (occur_wake _ _))

theorem demand (w : W) (d : Nat) : Only wakeReg w (w.demand d) := by
  unfold W.demand
  refine ite (refl _ w) ?_
  dsimp only
  refine wrB (trans (trans ((abortEntry w).trans ((setPstate _ 0).trans (startPllSys _))) ?_) (setDom _ d 3)) (by decide)
  exact ite (of_regs (refl _ _) rfl) (refl _ _)

theorem wakeHold (w : W) : Only wakeReg w { w with pwr.wakeHold := true } := of_regs (refl _ w) rfl

theorem wake (w : W) : Only wakeReg w w.wake := by
  unfold W.wake
  dsimp only
  refine trans (abortEntry w) ?_
  generalize w.abortEntry = w
  refine ite (refl _ w) ?_
  have low : Only wakeReg w (if (!w.qspiSel && w.rdB R.HIF_CFG 1 && !w.linkUp) = true then { w with hif.peWakeLow := true } else w) :=
    ite (of_regs (refl _ w) rfl) (refl _ w)
  refine trans low ?_
  generalize (if (!w.qspiSel && w.rdB R.HIF_CFG 1 && !w.linkUp) = true then { w with hif.peWakeLow := true } else w) = u
  refine trans ?_ (demand _ 9)
  refine trans ?_ (wakeHold _)
  refine trans ?_ ((setPstate _ 0).trans (startPllSys _))
  split
  · have start : ∀ (x : W) (d : Nat), Only wakeReg x (if x.buckFaulted d = true then x else x.setDom d 3) :=
      fun x d => ite (refl _ x) (setDom x d 3)
    exact trans (wrB (trans (start u 2) (start _ 3)) (by decide)) (setPstate _ 1)
  · exact refl _ u

theorem raise_wake (w : W) (e : Nat × Nat) : Only wakeReg w (w.raise e) := by
  unfold W.raise
  exact ite ((occur_wake w e).trans (wake _)) (occur_wake w e)

end Only

/-! ### The time-stamp counter -/

namespace W

@[simp] theorem msixSend_tsc (w : W) (v : Nat) : (w.msixSend v).tsc = w.tsc := by
  unfold msixSend
  dsimp only
  repeat' split
  all_goals rfl

@[simp] theorem recClaim_tsc (w : W) (it : RecItem) : (w.recClaim it).1.tsc = w.tsc := by
  unfold recClaim
  dsimp only
  split
  · rfl
  · exact wrB_tsc ..

theorem foldl_tsc {α : Type} {f : W → α → W} (hf : ∀ u x, (f u x).tsc = u.tsc) : ∀ (l : List α) (w : W), (l.foldl f w).tsc = w.tsc
  | [], _ => rfl
  | x :: t, w => (foldl_tsc hf t (f w x)).trans (hf w x)

theorem route_tsc {again : W → W} (ha : ∀ u, (again u).tsc = u.tsc) (w : W) (n : Nat) : (W.route again w n).tsc = w.tsc := by
  unfold route
  dsimp only
  rw [foldl_tsc, foldl_tsc]
  · split
    · exact wrB_tsc ..
    · rw [foldl_tsc]
      · exact wrB_tsc ..
      · intro u v; split <;> simp
  · intro u e; split <;> rfl
  · intro u t
    split
    · split
      · rw [ha, recClaim_tsc]
      · exact recClaim_tsc u _
    · rfl

@[simp] theorem armWatch_tsc (w : W) (n : Nat) : (w.armWatch n).tsc = w.tsc := by
  unfold armWatch
  split <;> rfl

theorem occurN_tsc : ∀ (k : Nat) (e : Nat × Nat) (w : W), (W.occurN k e w).tsc = w.tsc
  | 0, _, _ => rfl
  | k + 1, e, w => by
    unfold occurN
    dsimp only
    split
    · split
      · exact wrB_tsc ..
      · split
        · rw [route_tsc (occurN_tsc k _), armWatch_tsc, wrB_tsc]
        · exact wrB_tsc ..
    · rfl

/-- An event alone, without a wake, leaves the TSC. -/
@[simp] theorem occur_tsc (w : W) (e : Nat × Nat) : (w.occur e).tsc = w.tsc := occurN_tsc 3 e w

@[simp] theorem raise_tw (w : W) (e : Nat × Nat) : (w.raise e).tw = w.tw := (SameBlocks.raise w e).tw

/-- An event that is no wake source, in a device whose recorder's LOST is none, is the occurrence alone. -/
theorem raise_deaf {w : W} {e : Nat × Nat} (h : w.wakes e = false) (l : (w.occur e).wakes E.REC_LOST = false) : w.raise e = w.occur e := by
  unfold raise lostWakes
  simp [h, l]

end W

/-! ## What the evaluation leaves of a record that is still

A command completes with an effect `u` when the evaluation turns `u` into the next state (`Completes`), so several records may be the
effect of one command. That the evaluation has not moved the TSC is read off its result: `Still` holds of no record in which it has
judged the health, run the planner or started a domain, and the events that it can raise besides wake nothing. -/

/-- The registers of which `Still` speaks. -/
def stillReg (a : Nat) : Bool :=
  [R.RED_STAT, R.RED_CLAIM, R.AGE_LAST_RUN, R.RTC_EPOCH_S, R.PWR_DOM_STAT, R.PWR_WAKE_MASK 0, R.PWR_WAKE_MASK 1,
    R.PWR_WAKE_MASK 3].contains a

/-- HEALTHY shows although DIAG names a cause, the planner's last run was not now, PD4 to PD9 are on, and no event of the power manager,
the recorder or the solver is a wake source. -/
structure Still (w : W) : Prop where
  healthy : w.rdB R.RED_STAT 5 = true
  diag : w.rdF R.RED_STAT 16 9 ≠ 0
  cur : w.tw.cur ≠ 0
  claim : w.rdF R.RED_CLAIM 0 16 = 0
  plan : w.rd R.AGE_LAST_RUN ≠ w.rd R.RTC_EPOCH_S
  on : ∀ d ∈ [4, 5, 6, 7, 8, 9], w.dom d = 1
  deaf : ∀ k ∈ [0, 1, 3], w.rd (R.PWR_WAKE_MASK k) = 0

namespace Still

theorem of_regs {w u : W} (h : Still u) (regs : ∀ a, stillReg a = true → u.rd a = w.rd a) (cur : u.tw.cur = w.tw.cur) : Still w where
  healthy := by unfold W.rdB; rw [← regs _ (by decide)]; exact h.healthy
  diag := by unfold W.rdF; rw [← regs _ (by decide)]; exact h.diag
  cur := by rw [← cur]; exact h.cur
  claim := by unfold W.rdF; rw [← regs _ (by decide)]; exact h.claim
  plan := by rw [← regs _ (by decide), ← regs _ (by decide)]; exact h.plan
  on := fun d hd => by unfold W.dom W.rdF; rw [← regs _ (by decide)]; exact h.on d hd
  deaf := fun k hk => by
    have : ∀ k ∈ [0, 1, 3], stillReg (R.PWR_WAKE_MASK k) = true := by decide
    rw [← regs _ (this k hk)]
    exact h.deaf k hk

/-- The memory writes do not matter. -/
theorem of_dev {w u : W} (h : Still u) (dev : w.toDev = u.toDev) : Still w :=
  h.of_regs (fun a _ => by unfold W.rd; rw [dev]) (by rw [dev])

/-- An event of the power manager, the recorder or the solver. -/
def quietEvent (e : Nat × Nat) : Bool := match globalEvent e.1 e.2 with | some n => [0, 1, 3].contains (n / 32) | none => true

theorem wakes {w : W} (deaf : ∀ k ∈ [0, 1, 3], w.rd (R.PWR_WAKE_MASK k) = 0) {e : Nat × Nat} (he : quietEvent e = true) :
    w.wakes e = false := by
  unfold quietEvent at he
  unfold W.wakes
  split
  · rename_i n hn
    rw [hn] at he
    have : w.rd (R.PWR_WAKE_MASK (n / 32)) = 0 := deaf _ (by simpa using he)
    unfold W.rdB
    rw [this]
    simp [bit]
  · rfl

end Still

/-- A step of the evaluation whose result is still came from a record that was, and left the TSC alone. -/
def KeepsTime (w u : W) : Prop := Still u → Still w ∧ u.tsc = w.tsc

namespace KeepsTime

theorem refl (w : W) : KeepsTime w w := fun h => ⟨h, rfl⟩

theorem trans {w u v : W} (h : KeepsTime w u) (k : KeepsTime u v) : KeepsTime w v := fun hv =>
  ⟨(h (k hv).1).1, (k hv).2.trans (h (k hv).1).2⟩

theorem ite {w u v : W} {c : Prop} [Decidable c] (h : KeepsTime w u) (k : KeepsTime w v) : KeepsTime w (if c then u else v) := by
  split <;> assumption

theorem foldl {α : Type} {f : W → α → W} : ∀ (l : List α) (w : W), (∀ x ∈ l, ∀ u, KeepsTime u (f u x)) → KeepsTime w (l.foldl f w)
  | [], w, _ => refl w
  | x :: t, w, hf => (hf x (by simp) w).trans (foldl t (f w x) fun y hy => hf y (by simp [hy]))

/-- Changes of other registers and fields. -/
theorem of_only {w u : W} (h : Only (fun a => !stillReg a) w u) (cur : u.tw.cur = w.tw.cur) (tsc : u.tsc = w.tsc) : KeepsTime w u :=
  fun hu => ⟨hu.of_regs (fun a ha => h a (by simp [ha])) cur, tsc⟩

theorem of_regs {w u : W} (regs : u.regs = w.regs) (cur : u.tw.cur = w.tw.cur) (tsc : u.tsc = w.tsc) : KeepsTime w u :=
  of_only ((Only.refl _ w).of_regs regs) cur tsc

theorem wr (w : W) {a : Nat} {v : Word} (ha : stillReg a = false) : KeepsTime w (w.wr a v) :=
  of_only ((Only.refl _ w).wr (by simp [ha])) rfl rfl

theorem wrB (w : W) {a i : Nat} {b : Bool} (ha : stillReg a = false) : KeepsTime w (w.wrB a i b) := wr w ha
theorem inc (w : W) {a : Nat} (ha : stillReg a = false) : KeepsTime w (w.inc a) := wr w ha
theorem incSat (w : W) {a : Nat} (ha : stillReg a = false) : KeepsTime w (w.incSat a) := wr w ha
theorem upd (w : W) {a : Nat} {v : Word} (ha : stillReg a = false) : KeepsTime w (w.upd a v) := ite (refl w) (wr w ha)

theorem putBytes (w : W) (a : Nat) (d : List Byte) : KeepsTime w (w.putBytes a d) := by
  unfold W.putBytes
  exact ite (refl w) (of_regs rfl rfl rfl)

theorem stillReg_of_evtReg {a : Nat} (h : stillReg a = true) : evtReg a = false ∧ (a ≠ R.PWR_DOM_STAT → wakeReg a = false) := by
  simp only [stillReg, List.contains_eq_mem, List.mem_cons, List.not_mem_nil, or_false, decide_eq_true_eq] at h
  rcases h with rfl | rfl | rfl | rfl | rfl | rfl | rfl | rfl <;> decide

theorem occur (w : W) (e : Nat × Nat) : KeepsTime w (w.occur e) :=
  of_only ((Only.occur w e).weaken fun a ha => (stillReg_of_evtReg (by simpa using ha)).1) (by rw [(SameBlocks.occur w e).tw])
    (W.occur_tsc w e)

/-- An event that is no wake source of a still record. -/
theorem raise (w : W) {e : Nat × Nat} (he : Still.quietEvent e = true) : KeepsTime w (w.raise e) := fun h => by
  have mask : ∀ k ∈ [0, 1, 3], wakeReg (R.PWR_WAKE_MASK k) = false := by decide
  have before : ∀ k ∈ [0, 1, 3], w.rd (R.PWR_WAKE_MASK k) = 0 := fun k hk => by
    rw [← Only.raise_wake w e _ (mask k hk)]
    exact h.deaf k hk
  have between : ∀ k ∈ [0, 1, 3], (w.occur e).rd (R.PWR_WAKE_MASK k) = 0 := fun k hk => by
    rw [Only.occur_wake w e _ (mask k hk)]
    exact before k hk
  rw [W.raise_deaf (Still.wakes before he) (Still.wakes between (by decide))] at h ⊢
  exact occur w e h

end KeepsTime

/-! ### What leaves its mark -/

namespace W

@[simp] theorem staleSync_tw (w : W) : w.staleSync.tw = w.tw := by
  have shown : ∀ (u : W) (b : Bool), (if u.rdB R.RED_STAT 2 = b then u else (u.wrB R.RED_STAT 2 b).raise E.RED_STALE_CHANGE).tw = u.tw :=
    fun u b => by
      split
      · rfl
      · rw [raise_tw, wrB_tw]
  exact (shown _ _).trans (wrF_tw ..)

@[simp] theorem timeSync_cur (w : W) : w.timeSync.tw.cur = w.tw.cur := by
  unfold timeSync
  dsimp only
  split
  · split
    · exact congrArg TwinSt.cur (wrN_tw ..)
    · rw [raise_tw, wrB_tw, wrN_tw]
  · exact congrArg TwinSt.cur (wrN_tw ..)

/-- A unit that drops its claim has no copy of any task that is current (R685). -/
theorem dropClaim_cur (w : W) (r : Bool) : (w.dropClaim r).tw.cur = 0 := by
  unfold dropClaim
  rw [timeSync_cur, staleSync_tw]

@[simp] theorem axesReleased_tw (w : W) : w.axesReleased.tw = w.tw := by
  have axis : ∀ (u : W) (n : Nat), (if u.axState n = axHELD then
      (((u.setAxState n axIDLE).wrB (R.AX_ASTAT n) 6 false).wr (R.AX_UNC n) 0xFFFFFFFF#32) else u).tw = u.tw := fun u n => by
    split <;> rfl
  unfold axesReleased
  generalize List.range 16 = l
  induction l generalizing w with
  | nil => rfl
  | cons n l ih => rw [List.foldl_cons, ih, axis]

theorem gainClaim_cur (w : W) (c : Nat) : (w.gainClaim c).tw.cur = w.tw.cur := by
  unfold gainClaim roleSync
  simp

end W

namespace Only

/-- Every register but CLAIM. -/
def otherClaim (a : Nat) : Bool := a != R.RED_CLAIM

theorem raise_claim (w : W) (e : Nat × Nat) : Only otherClaim w (w.raise e) := (raise_wake w e).weaken fun a ha => by
  obtain rfl : a = R.RED_CLAIM := by simpa [otherClaim] using ha
  decide

theorem staleSync (w : W) : Only otherClaim w w.staleSync := by
  have shown : ∀ (u : W) (b : Bool),
      Only otherClaim u (if u.rdB R.RED_STAT 2 = b then u else (u.wrB R.RED_STAT 2 b).raise E.RED_STALE_CHANGE) := fun u b =>
    ite (refl _ u) (trans ((refl _ u).wrB (by decide)) (raise_claim _ _))
  exact trans ((refl _ w).wrF (by decide)) (shown _ _)

theorem timeSync (w : W) : Only otherClaim w w.timeSync := by
  have source : Only otherClaim w (w.wrN R.LNK_TIME_SRC w.timeSrc) := (refl _ w).wrN (by decide)
  unfold W.timeSync
  dsimp only
  split
  · rename_i p _
    have port : otherClaim (R.LNK_Pp_STAT p) = true := by simp [otherClaim, R.LNK_Pp_STAT, R.RED_CLAIM]; omega
    exact ite source (trans (of_regs (source.wrB port) rfl) (raise_claim _ _))
  · exact source

theorem roleSync (w : W) : Only otherClaim w w.roleSync := (refl _ w).wrF (by decide)

theorem axesReleased (w : W) : Only otherClaim w w.axesReleased := by
  have axis : ∀ (n : Nat), otherClaim (R.AX_ASTAT n) = true ∧ otherClaim (R.AX_UNC n) = true := fun n => by
    simp [otherClaim, R.AX_ASTAT, R.AX_UNC, R.RED_CLAIM]; omega
  unfold W.axesReleased
  exact foldl (fun u n => ite ((((refl _ u).wrF (axis n).1).wrB (axis n).1).wr (axis n).2) (refl _ u)) _ _

end Only

namespace W

/-- A unit that gains a claim holds it. -/
theorem gainClaim_claim (w : W) (c : Nat) : (w.gainClaim c).rdF R.RED_CLAIM 0 16 = c % 2 ^ 16 := by
  unfold gainClaim
  rw [(Only.timeSync _).rdF (by decide), (Only.staleSync _).rdF (by decide), (Only.axesReleased _).rdF (by decide),
    (Only.raise_claim _ _).rdF (by decide), (Only.roleSync _).rdF (by decide), rdF_wrF_same _ _ _ _ _ (by decide)]

theorem redRank_lt (w : W) : w.redRank < 16 := Nat.mod_lt _ (by decide)

end W

namespace Still

theorem not_dropClaim (w : W) (r : Bool) : ¬ Still (w.dropClaim r) := fun h => h.cur (W.dropClaim_cur w r)

theorem not_gainClaim {w : W} {rank epoch : Nat} (h0 : rank ≠ 0) (h16 : rank < 16) (he : epoch < 4096) :
    ¬ Still (w.gainClaim (rank * 4096 + epoch)) := fun h => by
  have held := h.claim
  rw [W.gainClaim_claim] at held
  omega

/-- In SOLO mode a claim follows health; one that is gained or dropped shows (R661). -/
theorem not_soloEval {u : W} (diag : u.rdF R.RED_STAT 16 9 = 0) : ¬ Still u.soloEval := by
  have none : ¬ Still u := fun h => h.diag diag
  have claims : ∀ v : W, v = u ∨ v.tw.cur = 0 → ¬ Still (if (u.redRank != 0 && u.healthy && !v.hasClaim) = true then
      v.gainClaim (v.redRank * 4096 + v.rdF R.RED_EPOCH 0 12) else v) := fun v hv => by
    split
    · rename_i gains
      rcases hv with rfl | cur
      · simp only [Bool.and_eq_true, bne_iff_ne] at gains
        exact not_gainClaim gains.1.1 v.redRank_lt (Nat.mod_lt _ (by decide))
      · exact fun h => h.cur (by rw [W.gainClaim_cur, cur])
    · rcases hv with rfl | cur
      · exact none
      · exact fun h => h.cur cur
  unfold W.soloEval
  split
  · exact none
  · refine claims _ ?_
    split
    · exact .inr (W.dropClaim_cur _ _)
    · exact .inl rfl

/-- The health that is judged shows in HEALTHY and DIAG together (R674, R675). -/
theorem not_health (w : W) : ¬ Still w.health := by
  unfold W.health
  dsimp only
  generalize w.diagRaw &&& (w.rdF R.RED_DIAG_MASK 0 6 ||| 0x1C0) = d
  have healthy : ((w.wrF R.RED_STAT 16 9 d).wrB R.RED_STAT 5 (d == 0)).rdB R.RED_STAT 5 = (d == 0) :=
    W.rdB_wrB_same _ _ _ _ (by decide)
  have diag : ((w.wrF R.RED_STAT 16 9 d).wrB R.RED_STAT 5 (d == 0)).rdF R.RED_STAT 16 9 = d % 2 ^ 9 :=
    (W.rdF_wrF_apart _ _ _ _ _ _ _ (by decide) (by decide)).trans (W.rdF_wrF_same _ _ _ _ _ (by decide))
  generalize (w.wrF R.RED_STAT 16 9 d).wrB R.RED_STAT 5 (d == 0) = u at *
  split
  · rename_i none
    exact not_soloEval (by rw [diag, none]; rfl)
  · rename_i some
    split
    · exact not_dropClaim _ _
    · intro h
      have shown : u.rdB R.RED_STAT 5 = true := h.healthy
      rw [healthy] at shown
      exact some (by simpa using shown)

theorem not_taskHalt (w : W) (n st rsn : Nat) : ¬ Still (w.taskHalt n st rsn) := not_health _

theorem not_pdOff {w : W} {d : Nat} (m : w.dom d ≠ 0) : ¬ Still (w.pdOff d) := by
  unfold W.pdOff
  rw [if_neg m]
  exact not_health _

/-- A domain that starts is in transition (R111). -/
theorem not_demand {w : W} {d : Nat} (hd : d ∈ [4, 5, 6, 7, 8, 9]) (h : Still (w.demand d)) : w.demand d = w := by
  unfold W.demand at h ⊢
  split
  · rfl
  · rename_i starts
    rw [if_neg starts] at h
    have narrow : 2 * d + 2 ≤ 32 := by fin_cases hd <;> decide
    have on := h.on d hd
    unfold W.dom at on
    dsimp only at on
    rw [W.rdF, W.rd_wrB, if_neg (by decide), ← W.rdF, W.setDom, W.rdF_wrF_same _ _ _ _ _ narrow] at on
    cases on

/-- A run of the planner notes its time (R171). -/
theorem not_plannerRun (w : W) : ¬ Still (w.plannerRun none 6) := by
  intro h
  refine h.plan ?_
  unfold W.plannerRun
  dsimp only
  rw [if_neg (by decide)]
  generalize W.raiseIf _ _ _ = u
  rw [Only.raise_wake _ _ _ (by decide), Only.raise_wake _ _ _ (by decide), W.rd_wr, if_pos rfl, W.rd_wr, if_neg (by decide)]
  rfl

end Still

namespace KeepsTime

/-- What a still result cannot come from. -/
theorem of_not {w u : W} (h : ¬ Still u) : KeepsTime w u := fun hu => absurd hu h

theorem demand (w : W) {d : Nat} (hd : d ∈ [4, 5, 6, 7, 8, 9]) : KeepsTime w (w.demand d) := fun h => by
  have e := Still.not_demand hd h
  rw [e] at h ⊢
  exact refl w h

theorem taskUe (w0 w : W) : KeepsTime w (W.taskUe w0 w) := by
  unfold W.taskUe
  have halted : ∀ n ∈ List.range 4, ∀ u : W, KeepsTime u (if u.tstate n == 2 && u.tw.sysUe.any (fun k =>
      !w0.tw.sysUe.contains k && (u.ownAreas n).any (overlaps (8 * k, 8))) then u.taskHalt n 3 5 else u) :=
    fun n _ u => ite (of_not (Still.not_taskHalt u n 3 5)) (refl u)
  exact ite (refl w) (foldl _ w halted)

theorem sramWritten (w : W) (a n : Nat) : KeepsTime w (w.sramWritten a n) := by
  unfold W.sramWritten
  exact ite (of_not (Still.not_health _)) (refl w)

theorem sramSettle (w : W) : KeepsTime w w.sramSettle := by
  unfold W.sramSettle
  refine ite (refl w) (foldl _ _ fun x _ u => ?_)
  cases x with
  | bytes a d => exact sramWritten u a d.length
  | clear lo hi => exact sramWritten u lo (hi - lo)
  | free a n k => exact sramWritten u a n

theorem slvAccept (w : W) (d origin tag : Nat) : KeepsTime w (w.slvAccept d origin tag) := by
  unfold W.slvAccept
  dsimp only
  have stored : KeepsTime w (if w.domUp 5 then w.put (w.descAddr d + 132) 1 1 else w) := ite (putBytes w _ _) (refl w)
  refine trans stored ?_
  exact of_regs rfl rfl rfl

/-- Arm slots 0 to 7 count in registers of their own. -/
theorem stillReg_arm {a : Nat} (ha : a < 8) : stillReg (R.SLV_ARM_MISSED a) = false ∧ stillReg (R.SLV_ARM_COUNT a) = false := by
  revert a
  decide

theorem armHit (w : W) (x : Nat × Bool) : KeepsTime w (w.armHit x) := by
  unfold W.armHit
  refine foldl _ _ fun a ha u => ite (refl u) ?_
  obtain ⟨missed, count⟩ := stillReg_arm (List.mem_range.mp ha)
  exact ite (trans (incSat u missed) (raise _ (by decide))) (trans (inc u count) (slvAccept _ _ _ _))

theorem armSettle : ∀ (k : Nat) (w : W), KeepsTime w (w.armSettle k)
  | 0, w => of_regs rfl rfl rfl
  | k + 1, w => by
    unfold W.armSettle
    split
    · exact refl w
    · have emptied : KeepsTime w { w with evt.armHits := [] } := of_regs rfl rfl rfl
      exact trans (trans emptied (foldl _ _ fun x _ u => armHit u x)) (armSettle k _)

theorem slvKick (w : W) : KeepsTime w w.slvKick := by
  have sync : ∀ u : W, KeepsTime u u.slvSync := fun u => upd u (by decide)
  unfold W.slvKick
  dsimp only
  refine trans ?_ (sync _)
  split
  · exact ite (refl w) (of_regs rfl rfl rfl)
  · exact refl w

theorem abortEntry (w : W) : KeepsTime w w.abortEntry := by
  unfold W.abortEntry
  dsimp only
  refine ite (refl w) ?_
  refine trans ?_ (occur _ _)
  refine trans ?_ (incSat _ (by decide))
  exact trans (wr w (a := R.PWR_STATE_REQ) (v := 0) (by decide)) (of_regs rfl rfl rfl)

theorem ckptFail (w : W) : KeepsTime w w.ckptFail := by
  have cleared : ∀ (u : W) (i : Nat), KeepsTime u (u.wrB R.PWR_CKPT_STAT i false) := fun u i => wrB u (by decide)
  unfold W.ckptFail
  dsimp only
  refine trans ?_ (raise _ (by decide))
  exact trans (trans (trans (cleared w 2) (cleared _ 3)) (cleared _ 4)) (of_regs rfl rfl rfl)

theorem ckptStart (m : Memory) (w : W) : KeepsTime w (W.ckptStart m w) := by
  unfold W.ckptStart
  dsimp only
  generalize w.ckptImage m = img
  have noted : KeepsTime w { w with pwr.ckptRef := some w.tscTime, pwr.ckptNext := w.ckptDue w.tscTime, pwr.ckptRetry := false } :=
    of_regs rfl rfl rfl
  refine trans noted ?_
  generalize { w with pwr.ckptRef := some w.tscTime, pwr.ckptNext := w.ckptDue w.tscTime, pwr.ckptRetry := false } = u
  exact ite (ckptFail u) (trans (wrB u (a := R.PWR_CKPT_STAT) (i := 2) (b := true) (by decide)) (of_regs rfl rfl rfl))

theorem ckptRequest (now : Bool) (m : Memory) (w : W) : KeepsTime w (W.ckptRequest now m w) := by
  unfold W.ckptRequest
  exact ite (wrB w (by decide)) (ite (of_regs rfl rfl rfl) (ckptStart m w))

/-- A domain's turn of the evaluation starts it, switches it off, or keeps time. -/
theorem domainTurn (m : Memory) (w : W) {d : Nat} (hd : d ∈ [4, 5, 6, 7, 8, 9]) : KeepsTime w (Machine.domainTurn m w d) := by
  unfold Machine.domainTurn
  dsimp only
  split
  · have freed : KeepsTime w (if d = 4 then { w with pwr.pd4OffWait := false, pwr.ckptRetry := false } else w) :=
      ite (of_regs rfl rfl rfl) (refl w)
    refine trans freed ?_
    generalize (if d = 4 then { w with pwr.pd4OffWait := false, pwr.ckptRetry := false } else w) = u
    exact ite (demand u hd) (refl u)
  · split
    · rename_i on
      split
      · have waits : KeepsTime w { w with pwr.pd4OffWait := true } := of_regs rfl rfl rfl
        exact ite (refl w) (trans waits (ckptRequest false m _))
      · exact of_not (Still.not_pdOff (by rw [on.1]; decide))
    · exact refl w

theorem powerEval (m : Memory) (w : W) : KeepsTime w (W.powerEval m w) := by
  have turns : ∀ u : W, KeepsTime u ([4, 6, 7, 8, 9].foldl (Machine.domainTurn m) u) := fun u =>
    foldl _ u fun d hd v => domainTurn m v ((by decide : ∀ d ∈ [4, 6, 7, 8, 9], d ∈ [4, 5, 6, 7, 8, 9]) d hd)
  have last : ∀ u : W, KeepsTime u (if u.slv.exec.isSome then u.demand 5 else u) := fun u => ite (demand u (by decide)) (refl u)
  unfold W.powerEval
  split
  · exact refl w
  · refine trans ?_ (last _)
    refine trans ?_ (turns _)
    exact ite (abortEntry w) (refl w)

theorem settleRound (m : Memory) : ∀ (k : Nat) (w : W), KeepsTime w (W.settleRound m k w)
  | 0, w => of_regs rfl rfl rfl
  | k + 1, w => by
    unfold W.settleRound
    dsimp only
    have round : KeepsTime w (((w.armSettle 4).slvKick).powerEval m) := trans (trans (armSettle 4 w) (slvKick _)) (powerEval m _)
    exact ite round (trans round (settleRound m k _))

theorem plannerDeferred (w : W) : KeepsTime w w.plannerDeferred := by
  unfold W.plannerDeferred
  exact ite (of_not (Still.not_plannerRun w)) (refl w)

/-- The evaluation keeps time where its result is still. -/
theorem settle (m : Memory) (w0 w : W) : KeepsTime w (W.settle m w0 w) := by
  unfold W.settle
  dsimp only
  refine trans (taskUe w0 w) ?_
  generalize W.taskUe w0 w = w
  refine ite (refl w) ?_
  refine trans (trans (sramSettle w) (settleRound m 3 _)) ?_
  generalize W.settleRound m 3 w.sramSettle = w
  have planned : KeepsTime w (if w.pwr.held then w else w.plannerDeferred) := ite (refl w) (plannerDeferred w)
  exact trans planned (upd _ (by decide))

end KeepsTime

/-! ## The device that a time exchange wakes -/

/-- A standby in Lull, five counts of the TSC after PLL_SYS stopped, whose port 3 is trained and the source of time and whose wake source
is SYNC_LOST. Its AGE.LAST_RUN and RED.DIAG are such that an evaluation which judged health or ran the planner would show. -/
def lullDevice : State := { State.reset with
  regs := [(R.PWR_STATE, 1#32), (R.PWR_DOM_STAT, 0x00055555#32), (R.PWR_WAKE_MASK 7, 0x08000000#32), (R.AGE_LAST_RUN, 1#32),
    (R.RED_STAT, 0x00010020#32), (R.H_EVT_EN 0x40, 8#32), (R.LNK_Pp_STAT 3, 0x101#32), (R.LNK_TIME_SRC, 4#32)]
  pwr.xtmElapsed := 5, tw.prevWin := 2, tw.cur := 1 }

/-- The same device woken by an exchange that finds it 1000 ns behind: its TSC is 105, 100 for the step of R694 and 5 for the elapsed XTM
time. -/
def wokenDevice : State := { lullDevice with
  regs := [(R.PWR_DOM_STAT, 0x00055555#32), (R.PWR_WAKE_MASK 7, 0x08000000#32), (R.AGE_LAST_RUN, 1#32),
    (R.EVT_EVTLAT 7, 0x08000000#32), (R.RED_STAT, 0x00010020#32), (R.H_EVT_EN 0x40, 8#32), (R.H_EVT_PEND 0x40, 8#32),
    (R.LNK_Pp_STAT 3, 1#32), (R.LNK_Pp_OFFSET 3, 1000#32), (R.LNK_Pp_DELAY 3, 1000#32), (R.LNK_TIME_SRC, 4#32),
    (R.LNK_TIME_STEPS, 1#32)]
  tsc := 105, pwr.pllSys := true, pwr.xtmElapsed := 0, pwr.wakeHold := true }

theorem lullDevice_timeExchange : (begin_ lullDevice).timeExchange 3 0 2000 0 0 false 0 0 = begin_ wokenDevice := by decide +kernel

theorem steady_wokenDevice : Steady (begin_ wokenDevice) where
  held := rfl
  run := by decide
  noReq := by decide
  noEntry := rfl
  noArm := by decide
  noHit := rfl
  noUe := rfl
  planner := rfl
  queue := .inr (.inl rfl)
  qstat := by decide
  moving := by decide
  array := by decide
  domains := by unfold domainSettled; decide

theorem still_wokenDevice : Still (begin_ wokenDevice) where
  healthy := by decide
  diag := by decide
  cur := by decide
  claim := by decide
  plan := by decide
  on := by decide
  deaf := by decide

/-- The exchange of the counterexample: the source is 1000 ns ahead. -/
def exchange : Instr := .timeSyncExchange 3 0 2000 0 0 false 0 0

theorem lullDevice_exchange : Completes exchange lullDevice (begin_ wokenDevice) := by
  have ran : exec exchange lullDevice = run (fun _ w => w.timeExchange 3 0 2000 0 0 false 0 0) lullDevice := rfl
  unfold Completes
  rw [ran, ← lullDevice_timeExchange, run]

/-- Every effect with which the exchange completes has the woken device's TSC. -/
theorem exchange_tsc {u : W} (h : Completes exchange lullDevice u) : u.tsc = 105 := by
  have same := lullDevice_exchange
  unfold Completes at h same
  rw [h, steady_wokenDevice.settle] at same
  injection same with same
  have dev : (begin_ wokenDevice).toDev = (W.settle lullDevice.mem (begin_ lullDevice) u).toDev := congrArg State.toDev same.symm
  have kept := (KeepsTime.settle lullDevice.mem (begin_ lullDevice) u (still_wokenDevice.of_dev dev.symm)).2
  rw [← kept, ← dev]
  rfl

end Sys2Proof.Machine
end

section
/-! PROOF: the obligation on link ports, messages and time, refuted. -/
namespace Sys2Proof.Machine

/-- Refutes O50: `1000 ≤ off → u.tsc = s.tsc + BitVec.ofInt 64 counts` leaves out the wake. In a device in Lull whose PLL_SYS has stopped
and for which SYNC_LOST is a wake source, the exchange that raises it starts PLL_SYS, and the TSC takes up the elapsed XTM time besides the
step (R102, R108, R693): 105 counts in `wokenDevice`, not 100. A Lull entry waits until the domains are off, so `lullDevice`, with PD9 on and port
3 trained, is none that the power manager makes; the statement is about every state. -/
theorem not_linkPortsMessagesAndTime : ¬ Obligations.LinkPortsMessagesAndTime := by
  unfold Obligations.LinkPortsMessagesAndTime
  intro h
  obtain ⟨-, -, -, -, -, -, -, -, -, -, -, -, -, -, source, -⟩ :=
    h lullDevice 3 0 0 0 0 0 0 false false true false default 0 0 default default 0 default [] 0 2000 0 0 default
  obtain ⟨u, completes, -, -, -, ahead, -⟩ := source (by decide) (by decide)
  have stepped : u.tsc = 100 := (ahead (by decide)).1
  rw [exchange_tsc completes] at stepped
  revert stepped
  decide

end Sys2Proof.Machine
end

section
/-!
PROOF. Every command completes (R59, R76).
-/
namespace Sys2Proof.Machine

/-- Settles O3: every command is one run of a meaning, which ends in a next state and leaves the queue alone. -/
theorem everyCommandCompletes : Obligations.EveryCommandCompletes := by
  unfold Obligations.EveryCommandCompletes
  intro c s
  obtain ⟨t, next, queue, -⟩ := exec_keeps c s
  exact ⟨t, next, queue⟩

end Sys2Proof.Machine
end

section
/-!
PROOF. Host writes of the common header (R54 to R70): LOCK, CTRL and the event registers that stand there, in a device at rest.
-/
namespace Sys2Proof.Machine

/-! ## One write of the header -/

/-- A host write at an offset of the header other than LOCK: the page's bookkeeping around the header's own effect. -/
theorem W.put32_header {w : W} {p o n : Nat} {x : Ext} {m : Memory} (link : w.hostOk = true) (page : (pageDomain p).isSome = true)
    (header : o < 0x040) (notLock : o ≠ 0x024) :
    w.put32 m (0x1000 * p + o) n x = (W.headerWrite true (hostEnter w p) p o (BitVec.ofNat 32 n)).spend p o := by
  have hp : (0x1000 * p + o) / 0x1000 = p := by omega
  have ho : (0x1000 * p + o) % 0x1000 = o := by omega
  unfold W.put32
  rw [W.hostWord_header link (by rw [hp]; simpa using page) (by omega) (by omega), hp, ho]

/-- A command that is one host write of the header ends in that write's effect, where the effect leaves the device at rest. -/
theorem header_write {c : Instr} {s : State} {p o n : Nat} {x : Ext} {u : W}
    (runs : exec c s = run (fun m w => w.put32 m (0x1000 * p + o) n x) s) (link : (begin_ s).hostOk = true)
    (page : (pageDomain p).isSome = true) (header : o < 0x040) (notLock : o ≠ 0x024)
    (effect : W.headerWrite true (hostEnter (begin_ s) p) p o (BitVec.ofNat 32 n) = u) (rest : Steady (u.spend p o)) :
    Yields c s (u.spend p o) := by
  unfold Yields
  rw [runs]
  exact run_settled (by rw [W.put32_header link page header notLock, effect]) rest

/-- The evaluation watches no register of the header from EVT_RAW on. -/
theorem header_unwatched {p o : Nat} (lo : 0x00C ≤ o) (hi : o < 0x040) : watched (0x1000 * p + o) = false :=
  SameWatch.watched_common (by omega)

/-! ## LOCK (R68 to R70) -/

namespace W

theorem lockWrite_first (w : W) (p : Nat) : w.lockWrite p 0x5A17#32 = (w.wr (R.H_LOCK p) 0).arm p true := rfl

theorem lockWrite_second (w : W) (p : Nat) :
    w.lockWrite p 0xA5E8#32 = (if w.evt.lockArmed.getLsbD p then w.wr (R.H_LOCK p) 0x00010001#32 else w).arm p false := rfl

theorem lockWrite_other (w : W) (p : Nat) {v : Word} (h1 : v ≠ 0x5A17#32) (h2 : v ≠ 0xA5E8#32) :
    w.lockWrite p v = (w.wr (R.H_LOCK p) 0).arm p false := by
  unfold lockWrite
  rw [if_neg h1, if_neg h2]

end W

theorem SameWatch.lockWrite {w u : W} (h : SameWatch w u) (p : Nat) (v : Word) : SameWatch w (u.lockWrite p v) := by
  have lock : ∀ x : Word, SameWatch w (u.wr (R.H_LOCK p) x) := fun _ => h.wr (header_unwatched (by decide) (by decide))
  unfold W.lockWrite
  exact ite ((lock 0).arm p true) (ite ((ite (lock _) h).arm p false) ((lock 0).arm p false))

/-- A command that is one host write of LOCK, in a device at rest. -/
theorem lock_write {c : Instr} {s : State} {p n : Nat} (runs : exec c s = run (fun m w => w.put32 m (R.H_LOCK p) n) s)
    (rest : Steady (begin_ s)) (link : (begin_ s).hostOk = true) (page : (pageDomain p).isSome = true) :
    Yields c s (((begin_ s).relock p).lockWrite p (BitVec.ofNat 32 n)) := by
  unfold Yields
  rw [runs]
  exact run_steady rest (W.hostWord_lock link (by simpa using page)) (((SameWatch.refl _).relock p).lockWrite p _)

/-- Settles O8: a write of LOCK is the keys' own table, and the budget that ran out locks the page before any access. -/
theorem unlockSequenceAndBudget : Obligations.UnlockSequenceAndBudget := by
  unfold Obligations.UnlockSequenceAndBudget
  intro s pg v rest link page
  refine ⟨?_, ?_, fun h1 h2 => ?_, ?_⟩
  · rw [← W.lockWrite_first]
    exact lock_write rfl rest link page
  · have second := lock_write (c := .lockKeySecond pg) (n := 0xA5E8) rfl rest link page
    rw [W.lockWrite_second, W.relock_evt] at second
    exact second
  · rw [← W.lockWrite_other _ _ h1 h2]
    have runs : exec (.lockOtherWrite pg v) s = run (fun m w => w.put32 m (R.H_LOCK pg) v.toNat) s := by
      show run (fun m w => if v = 0x5A17 ∨ v = 0xA5E8 then w else w.put32 m (R.H_LOCK pg) v.toNat) s = _
      have notKey : ¬ (v = 0x5A17 ∨ v = 0xA5E8) := fun h => h.elim h1 h2
      simp only [notKey, if_false]
    simpa using lock_write runs rest link page
  · have spent : (begin_ s).relock pg =
        if (begin_ s).rdB (R.H_LOCK pg) 0 = true ∧ (begin_ s).rdF (R.H_LOCK pg) 8 9 = 0 then (begin_ s).wr (R.H_LOCK pg) 0 else begin_ s := by
      unfold W.relock
      simp
    unfold Yields
    rw [← spent]
    exact run_steady (f := fun _ w => w.relock pg) rest rfl ((SameWatch.refl _).relock pg)

end Sys2Proof.Machine
end

section
/-!
PROOF. CTRL of a page (R56, R58, R60, R62): enabling, disabling and resetting a block, the pages that no soft reset reaches, and the
domain that a first enabled block starts (R23).
-/
namespace Sys2Proof.Machine

/-! ## The protected pages -/

/-- A page whose SRST is refused takes nothing of the write (R62). -/
theorem W.ctrlWrite_protected {w : W} {p : Nat} {v : Word} (srst : bit v 1 = true) (page : noSrst p = true) :
    w.ctrlWrite p v = w.err p ePerm := by
  unfold W.ctrlWrite
  simp [srst, page, firstCode]

/-- The word with which SOFT_RESET writes CTRL: SRST and EN (R56, R60). -/
theorem softReset_word (en : Bool) :
    bit (BitVec.ofNat 32 (2 + b2n en)) 0 = en ∧ bit (BitVec.ofNat 32 (2 + b2n en)) 1 = true := by
  cases en <;> decide

/-- Settles O14: the write of CTRL is refused before it touches EN or SRST. -/
theorem softResetIsRefusedOnProtectedPages : Obligations.SoftResetIsRefusedOnProtectedPages := by
  unfold Obligations.SoftResetIsRefusedOnProtectedPages
  intro s pg x en rest link protect
  have page : (pageDomain pg).isSome = true ∧ noSrst pg = true :=
    (by decide : ∀ p : Nat, p ∈ [0x00, 0x01, 0x05, 0x06, 0x08, 0x3C, 0x3D, 0x3E, 0x3F] →
      (pageDomain p).isSome = true ∧ noSrst p = true) pg protect
  have refused : refusedWith (begin_ s) (R.H_CTRL pg) 0x0007 = ((hostEnter (begin_ s) pg).err pg ePerm).spend pg 0x008 := by
    have hp : R.H_CTRL pg / 0x1000 = pg := by unfold R.H_CTRL; omega
    have ho : R.H_CTRL pg % 0x1000 = 0x008 := by unfold R.H_CTRL; omega
    unfold refusedWith
    rw [hp, ho]
  rw [refused]
  refine header_write (x := x) rfl link page.1 (by decide) (by decide)
    (W.ctrlWrite_protected (softReset_word en).2 page.2) (rest.same ?_)
  exact ((SameWatch.start _ _).err (header_unwatched (by decide) (by decide))).spend _ _

/-! ## Users of the domains (R23) -/

/-- A write of CTRL leaves the users of every domain but the page's own, and of that too where EN stays. -/
theorem hasUser_wrCtrl {u : W} {p d : Nat} {v : Word} (l : Bool)
    (keeps : pageDomain p ≠ some d ∨ bit v 0 = u.rdB (R.H_CTRL p) 0) :
    (u.wr (R.H_CTRL p) v).hasUser l d = u.hasUser l d := by
  have other : ∀ a i, a % 0x1000 ≠ 0x008 → (u.wr (R.H_CTRL p) v).rdB a i = u.rdB a i := fun a i ha => by
    unfold W.rdB
    rw [W.rd_wr_ne _ _ _ _ (by unfold R.H_CTRL; omega)]
  have enabled : (u.wr (R.H_CTRL p) v).anyEn d = u.anyEn d := by
    unfold W.anyEn
    rw [Bool.eq_iff_iff, List.any_eq_true, List.any_eq_true]
    refine exists_congr fun q => and_congr_right fun hq => ?_
    have same : (u.wr (R.H_CTRL p) v).rdB (R.H_CTRL q) 0 = u.rdB (R.H_CTRL q) 0 := by
      by_cases hqp : q = p
      · subst hqp
        have own : pageDomain q = some d := by simpa [domainPages] using (List.mem_filter.mp hq).2
        rw [← keeps.resolve_left (fun h => h own)]
        unfold W.rdB
        rw [W.rd_wr_same]
      · unfold W.rdB
        rw [W.rd_wr_ne _ _ _ _ (by unfold R.H_CTRL; omega)]
    rw [same]
  have tasks : (u.wr (R.H_CTRL p) v).anyTask = u.anyTask := by
    unfold W.anyTask W.tstate W.rdF
    refine any_range fun n hn => ?_
    rw [W.rd_wr_ne _ _ _ _ (by simp only [R.TASK_STATE, R.H_CTRL]; omega)]
  have ports : (u.wr (R.H_CTRL p) v).portOn = u.portOn := by
    unfold W.portOn
    exact any_range fun n hn => other _ _ (by simp only [R.LNK_Pp_CTRL]; omega)
  have link : (u.wr (R.H_CTRL p) v).linkUp = u.linkUp := by
    unfold W.linkUp W.qspiSel
    rw [other _ _ (by decide), other _ _ (by decide)]
    rfl
  have jobs : (u.wr (R.H_CTRL p) v).slvInFlight = u.slvInFlight := rfl
  unfold W.hasUser
  rw [tasks, ports, link, jobs, W.wr_key, W.wr_pwr]
  by_cases h : d = 4 ∨ d = 5 ∨ d = 6 ∨ d = 7 ∨ d = 8 ∨ d = 9
  · rcases h with rfl | rfl | rfl | rfl | rfl | rfl <;> simp [enabled]
  · simp only [not_or] at h
    obtain ⟨h4, h5, h6, h7, h8, h9⟩ := h
    simp [h4, h5, h6, h7, h8, h9]

/-- The registers that the evaluation looks at beside the users are none of the header. -/
theorem watchedRest_block {a : Nat} (h : watchedRest a = true) : 0x040 ≤ a % 0x1000 := by
  simp only [watchedRest, List.contains_eq_mem, List.mem_cons, List.not_mem_nil, or_false, Bool.or_eq_true, decide_eq_true_eq,
    R.SLV_ARM, R.PWR_STATE, R.PWR_STATE_REQ, R.PWR_DOM_STAT, R.SYS_BOOT_STAT, R.SLV_QSTAT, R.QP_SPLIT_STAT] at h
  omega

/-- A write of CTRL of a page whose domain the evaluation neither starts nor stops, or of a bit other than EN. -/
theorem sameUsers_wrCtrl (u : W) {p : Nat} {v : Word}
    (keeps : (∀ d ∈ [4, 6, 7, 8, 9], pageDomain p ≠ some d) ∨ bit v 0 = u.rdB (R.H_CTRL p) 0) :
    SameUsers u (u.wr (R.H_CTRL p) v) where
  regs := fun a ha => W.rd_wr_ne _ _ _ _ (by have := watchedRest_block ha; unfold R.H_CTRL; omega)
  held := rfl
  entry := rfl
  array := rfl
  wait := rfl
  retry := rfl
  slv := rfl
  hits := rfl
  ue := rfl
  deferred := rfl
  users := fun d hd => hasUser_wrCtrl true (keeps.imp_left fun h => h d hd)

/-! ## EN (R56) -/

/-- The pages of the statement, whose EN no block of their own judges or follows. -/
theorem enable_plain {p : Nat} (h : (∃ d, pageDomain p = some d ∧ d ≤ 3) ∧ p ≠ 0x41 ∨ p ∈ [0x19, 0x2A, 0x3D, 0x40]) (u : W) (en : Bool) :
    u.enableCode p = 0 ∧ u.enableHook p en = u := by
  have page : ¬ (0x1A ≤ p ∧ p ≤ 0x29) ∧ ¬ (0x2B ≤ p ∧ p ≤ 0x3A) ∧ p ≠ 0x41 ∧ pageDomain p ≠ some 5 := by
    rcases h with ⟨⟨d, hd, h3⟩, h41⟩ | h
    · refine ⟨fun k => ?_, fun k => ?_, h41, fun k => by rw [hd] at k; cases k; omega⟩
      · have : pageDomain p = some 6 := (by decide : ∀ q < 0x2A, 0x1A ≤ q → pageDomain q = some 6) p (by omega) k.1
        rw [hd] at this; cases this; omega
      · have : pageDomain p = some 7 := (by decide : ∀ q < 0x3B, 0x2B ≤ q → pageDomain q = some 7) p (by omega) k.1
        rw [hd] at this; cases this; omega
    · exact (by decide : ∀ q ∈ [0x19, 0x2A, 0x3D, 0x40], ¬ (0x1A ≤ q ∧ q ≤ 0x29) ∧ ¬ (0x2B ≤ q ∧ q ≤ 0x3A) ∧ q ≠ 0x41 ∧
        pageDomain q ≠ some 5) p h
  obtain ⟨can, ax, gpio, solver⟩ := page
  unfold W.enableCode W.enableHook
  simp [can, ax, gpio, solver]

/-- A write of CTRL that neither the block nor R62 refuses: EN is taken, then SRST acts. -/
theorem W.ctrlWrite_accepted {w : W} {p : Nat} {v : Word} (plain : ∀ (u : W) (en : Bool), u.enableCode p = 0 ∧ u.enableHook p en = u)
    (srst : bit v 1 = true → noSrst p = false) :
    w.ctrlWrite p v = if bit v 1 then (w.wrB (R.H_CTRL p) 0 (bit v 0)).srst p else w.wrB (R.H_CTRL p) 0 (bit v 0) := by
  have allowed : (bit v 1 && noSrst p) = false := by
    rw [Bool.and_eq_false_imp]
    exact srst
  unfold W.ctrlWrite
  simp [(plain _ true).1, (plain _ _).2, allowed, firstCode]

theorem start_pwr (w : W) (p : Nat) : (hostEnter w p).pwr = w.pwr := by
  have locked : (w.relock p).pwr = w.pwr := by unfold W.relock; split <;> rfl
  exact locked

theorem spend_pwr (w : W) (p o : Nat) : (w.spend p o).pwr = w.pwr := by
  unfold W.spend; split <;> rfl

theorem sameUsers_wrCtrlBit (u : W) {p i : Nat} {b : Bool}
    (keeps : (∀ d ∈ [4, 6, 7, 8, 9], pageDomain p ≠ some d) ∨ 0 < i ∧ i < 32) : SameUsers u (u.wrB (R.H_CTRL p) i b) :=
  sameUsers_wrCtrl u (keeps.imp_right fun h => bit_setFld_ne _ _ _ _ _ (by omega) (.inl h.1))

/-- The pages of PD0 to PD3 make no user of a domain that the evaluation starts or stops. -/
theorem domain_unwatched {p d : Nat} (page : pageDomain p = some d) (low : d ≤ 3) : ∀ e ∈ [4, 6, 7, 8, 9], pageDomain p ≠ some e := by
  intro e he h
  rw [page] at h
  cases h
  exact absurd he ((by decide : ∀ e ≤ 3, e ∉ [4, 6, 7, 8, 9]) d low)

/-- A write of EN alone, in a device at rest, to a page of PD0 to PD3 other than GPIO. -/
theorem enable_write {c : Instr} {s : State} {p d n : Nat} {x : Ext} (runs : exec c s = run (fun m w => w.put32 m (R.H_CTRL p) n x) s)
    (rest : Steady (begin_ s)) (link : (begin_ s).hostOk = true) (page : pageDomain p = some d) (low : d ≤ 3) (notGpio : p ≠ 0x41)
    (noSrst : bit (BitVec.ofNat 32 n) 1 = false) :
    Yields c s (((hostEnter (begin_ s) p).wrB (R.H_CTRL p) 0 (bit (BitVec.ofNat 32 n) 0)).spend p 0x008) := by
  have plain := enable_plain (.inl ⟨⟨d, page, low⟩, notGpio⟩)
  refine header_write runs link (by rw [page]; rfl) (by decide) (by decide)
    ((W.ctrlWrite_accepted plain (fun h => absurd h (by rw [noSrst]; decide))).trans (if_neg (by rw [noSrst]; decide))) (rest.users ?_)
  exact ((SameUsers.of_watch (SameWatch.start _ p)).trans (sameUsers_wrCtrlBit _ (.inl (domain_unwatched page low)))).trans
    (.of_watch ((SameWatch.refl _).spend _ _))

/-! ## SRST (R58, R60) -/

/-- The record `w` after SRST of the EVT or the TSC page: the registers at 0x040 and above are reset, and of what `w0` holds the half-done
accesses to the page's pairs and the operations for the page are dropped. -/
def pageCleared (w0 w : W) (p : Nat) : W :=
  let u := w.resetRegs (0x1000 * p + 0x040) (0x1000 * (p + 1))
  { u with evt.pairRd := w0.evt.pairRd.filter fun (e : Master × Nat × Word) => e.2.1 / 0x1000 != p,
           evt.pairWr := w0.evt.pairWr.filter fun (e : Master × Nat × Word) => e.2.1 / 0x1000 != p,
           pwr.heldOps := w0.pwr.heldOps.filter fun (e : HeldOp) => e.off / 0x1000 != p }

theorem W.srst_page {w0 w : W} {p : Nat} (page : p = 0x03 ∨ p = 0x09) (rd : w.evt.pairRd = w0.evt.pairRd)
    (wr : w.evt.pairWr = w0.evt.pairWr) (held : w.pwr.heldOps = w0.pwr.heldOps) :
    w.srst p = ((pageCleared w0 w p).wr (R.H_ERR p) 0).wrB (R.H_CTRL p) 1 true := by
  have up : w.pageUp p = true := by
    rcases page with rfl | rfl <;> rfl
  have stays : ∀ q, (!List.contains [p] q) = (q != p) := fun q => by rw [Bool.eq_iff_iff]; simp
  have reset : w.blockReset p = w.resetPage p := by
    rcases page with rfl | rfl <;> rfl
  have notMot : p ≠ 0x2A := by omega
  unfold W.srst pageCleared
  rw [← rd, ← wr, ← held]
  simp only [up, Bool.true_or, if_true, reset, if_neg notMot, stays, List.foldl_cons, List.foldl_nil]
  rfl

/-- The evaluation watches no register at 0x040 or above of the EVT and the TSC page. -/
theorem watched_block {a : Nat} (page : a / 0x1000 = 0x03 ∨ a / 0x1000 = 0x09) (ho : 0x040 ≤ a % 0x1000) : watched a = false := by
  unfold watched
  simp only [R.PWR_STATE, R.PWR_STATE_REQ, R.PWR_DOM_STAT, R.SYS_BOOT_STAT, R.SYS_STRAP, R.HIF_CFG, R.SLV_QSTAT,
    R.QP_SPLIT_STAT, R.LNK_Pp_CTRL, R.SLV_ARM, List.contains_eq_mem, List.mem_cons, List.not_mem_nil, or_false,
    Bool.or_eq_false_iff, Bool.and_eq_false_iff, beq_eq_false_iff_ne, decide_eq_false_iff_not]
  omega

theorem pageCleared_watch (w0 w : W) {p : Nat} (page : p = 0x03 ∨ p = 0x09) : SameWatch w (pageCleared w0 w p) where
  regs := fun a ha => by
    have outside : ¬ (0x1000 * p + 0x040 ≤ a ∧ a < 0x1000 * (p + 1)) := fun h => by
      rw [watched_block (by omega) (by omega)] at ha
      cases ha
    show (w.resetRegs (0x1000 * p + 0x040) (0x1000 * (p + 1))).rd a = w.rd a
    rw [W.rd_resetRegs, if_neg outside]
  held := rfl
  entry := rfl
  wakeHold := rfl
  array := rfl
  wait := rfl
  retry := rfl
  slv := rfl
  jobs := rfl
  slots := rfl
  perst := rfl
  l2 := rfl
  hold := rfl
  hits := rfl
  ue := rfl
  deferred := rfl

/-- SRST of the EVT or the TSC page, in a device at rest. -/
theorem softReset_write {s : State} {pg : Fin 128} {en : Bool} (x : Ext) (rest : Steady (begin_ s)) (link : (begin_ s).hostOk = true)
    (page : pg.val = 0x03 ∨ pg.val = 0x09) :
    Yields (.softReset pg en x) s
      ((((pageCleared (begin_ s) ((hostEnter (begin_ s) pg).wrB (R.H_CTRL pg) 0 en) pg).wr (R.H_ERR pg) 0).wrB (R.H_CTRL pg) 1 true).spend pg 0x008) := by
  obtain ⟨p, hp⟩ := pg
  dsimp only at page ⊢
  have domain : pageDomain p = some 1 := by rcases page with rfl | rfl <;> decide
  have open_ : noSrst p = false := by rcases page with rfl | rfl <;> decide
  obtain ⟨enBit, srstBit⟩ := softReset_word en
  have plain := enable_plain (p := p) (.inl ⟨⟨1, domain, by decide⟩, by omega⟩)
  have rd : ((begin_ s).relock p).evt.pairRd = (begin_ s).evt.pairRd := congrArg EvtSt.pairRd (W.relock_evt _ p)
  have wr : ((begin_ s).relock p).evt.pairWr = (begin_ s).evt.pairWr := congrArg EvtSt.pairWr (W.relock_evt _ p)
  have effect : (hostEnter (begin_ s) p).ctrlWrite p (BitVec.ofNat 32 (2 + b2n en)) =
      ((pageCleared (begin_ s) ((hostEnter (begin_ s) p).wrB (R.H_CTRL p) 0 en) p).wr (R.H_ERR p) 0).wrB (R.H_CTRL p) 1 true := by
    rw [W.ctrlWrite_accepted plain (fun _ => open_), if_pos srstBit, enBit]
    exact W.srst_page page rd wr (congrArg PwrSt.heldOps (start_pwr _ p))
  refine header_write rfl link (by rw [domain]; rfl) (by decide) (by decide) effect (rest.users ?_)
  have begun := (SameUsers.of_watch (SameWatch.start (begin_ s) p)).trans
    (sameUsers_wrCtrlBit (i := 0) (b := en) _ (.inl (domain_unwatched domain (by decide))))
  have cleared := begun.trans
    (.of_watch ((pageCleared_watch (begin_ s) _ page).wr (a := R.H_ERR p) (v := 0) (header_unwatched (by decide) (by decide))))
  exact (cleared.trans (sameUsers_wrCtrlBit _ (.inr (by decide)))).trans (.of_watch ((SameWatch.refl _).spend _ _))

/-- The completion of a block soft reset clears SRST. -/
theorem softResetDone_write {s : State} (pg : Fin 128) (rest : Steady (begin_ s)) :
    Yields (.softResetDone pg) s ((begin_ s).wrB (R.H_CTRL pg) 1 false) := by
  have live : (begin_ s).live (fun w => w.wrB (R.H_CTRL pg) 1 false) = (begin_ s).wrB (R.H_CTRL pg) 1 false := by
    unfold W.live
    rw [if_neg (by rw [rest.held]; decide)]
  exact run_settled (f := fun _ w => w.live fun w => w.wrB (R.H_CTRL pg) 1 false) live (rest.users (sameUsers_wrCtrlBit _ (.inr (by decide))))

/-! ## The first enabled block of a domain (R23) -/

/-- A record at rest in which CTRL of a page has been written is at rest but for the page's domain. -/
theorem steadyBut_wrCtrl {x u : W} {p d : Nat} {v : Word} (rest : Steady x) (page : pageDomain p = some d)
    (after : SameWatch (x.wr (R.H_CTRL p) v) u) : SteadyBut d u := by
  have same := SameUsers.of_watch after
  have regs : ∀ a, watchedRest a = true → u.rd a = x.rd a := fun a ha =>
    (same.regs a ha).trans (W.rd_wr_ne _ _ _ _ (by have := watchedRest_block ha; unfold R.H_CTRL; omega))
  have field : ∀ {a lo n}, watchedRest a = true → u.rdF a lo n = x.rdF a lo n := fun ha => by unfold W.rdF; rw [regs _ ha]
  have bits : ∀ {a i}, watchedRest a = true → u.rdB a i = x.rdB a i := fun ha => by unfold W.rdB; rw [regs _ ha]
  have dom : ∀ e, u.dom e = x.dom e := fun e => field (by decide)
  have serving : u.serving = x.serving := bits (by decide)
  have released : u.released = x.released := bits (by decide)
  have slv : u.slv = x.slv := same.slv
  have array : u.pwr.slvArray = x.pwr.slvArray := same.array
  exact {
    held := same.held.trans rest.held
    run := (field (by decide)).trans rest.run
    noReq := (field (by decide)).trans rest.noReq
    noEntry := same.entry.trans rest.noEntry
    noHit := same.hits.trans rest.noHit
    noUe := same.ue.trans rest.noUe
    planner := same.deferred.trans rest.planner
    queue := by rw [slv, serving]; exact rest.queue
    qstat := by
      have shown : Sys2Proof.qstat u = Sys2Proof.qstat x := by unfold Sys2Proof.qstat; simp only [slv, dom, array]
      rw [regs _ (by decide), shown]
      exact rest.qstat
    array := by rw [slv, dom, array]; exact rest.array
    domains := fun e he other => by
      have settled := rest.domains e he
      have users : u.hasUser true e = x.hasUser true e :=
        (same.users e he).trans (hasUser_wrCtrl true (.inl (by rw [page]; rintro ⟨⟩; exact other rfl)))
      have wait : u.pwr.pd4OffWait = x.pwr.pd4OffWait := same.wait
      have retry : u.pwr.ckptRetry = x.pwr.ckptRetry := same.retry
      unfold domainSettled at settled ⊢
      rw [users, dom, wait, retry, released]
      exact settled }

/-- An enabled block of PD6 to PD9 is a user of its domain (R23). -/
theorem hasUser_of_enabled {u : W} {p d : Nat} (l : Bool) (page : pageDomain p = some d) (hp : p < 0x43) (hd : d ∈ [6, 7, 8, 9])
    (en : u.rdB (R.H_CTRL p) 0 = true) : u.hasUser l d = true := by
  have any : u.anyEn d = true :=
    List.any_eq_true.mpr ⟨p, List.mem_filter.mpr ⟨List.mem_range.mpr hp, by simp [page]⟩, en⟩
  unfold W.hasUser
  simp only [List.mem_cons, List.not_mem_nil, or_false] at hd
  rcases hd with rfl | rfl | rfl | rfl <;> simp [any]

/-- The record in which EN of a page has been set by the host. -/
def enabled (w : W) (p : Nat) : W := ((hostEnter w p).wrB (R.H_CTRL p) 0 true).spend p 0x008

theorem enabled_rd (w : W) (p a : Nat) (h : 0x040 ≤ a % 0x1000) : (enabled w p).rd a = w.rd a := by
  unfold enabled
  rw [W.spend_rd _ _ _ _ (by omega), W.rd_wrB, if_neg (by unfold R.H_CTRL; omega), W.start_rd _ _ _ (by omega)]

theorem enabled_ctrl (w : W) (p : Nat) : (enabled w p).rdB (R.H_CTRL p) 0 = true := by
  unfold enabled W.rdB
  rw [W.spend_rd _ _ _ _ (by unfold R.H_CTRL; omega)]
  exact W.rdB_wrB_same _ _ _ _ (by decide)

theorem enabled_pwr (w : W) (p : Nat) : (enabled w p).pwr = w.pwr := by
  unfold enabled
  rw [spend_pwr]
  exact start_pwr w p

/-- Setting EN of the page of an off domain without users, which nothing forbids to start, starts it (R23). -/
theorem enable_starts {s : State} {pg : Fin 128} {d : Nat} (x : Ext) (rest : Steady (begin_ s)) (link : (begin_ s).hostOk = true)
    (page : pageDomain pg = some d) (hp : pg.val ∈ [0x19, 0x2A, 0x3D, 0x40]) (idle : (begin_ s).hasUser true d = false)
    (off : (begin_ s).dom d = 0) (noEw : (begin_ s).ew = false) (xtm : (begin_ s).pwr.xtmFail = false)
    (buck : (begin_ s).buckFaulted d = false) (released : (begin_ s).released = true) :
    Yields (.blockEnable pg x) s (started (enabled (begin_ s) pg) d) := by
  have domain : d ∈ [6, 7, 8, 9] ∧ pg.val < 0x43 :=
    (by decide : ∀ q ∈ [0x19, 0x2A, 0x3D, 0x40], ∀ e ∈ pageDomain q, e ∈ [6, 7, 8, 9] ∧ q < 0x43) _ hp d page
  have wasOff : (begin_ s).rdB (R.H_CTRL pg) 0 = false := by
    rw [Bool.eq_false_iff]
    intro en
    rw [hasUser_of_enabled true page domain.2 domain.1 en] at idle
    cases idle
  have regs : ∀ a, 0x040 ≤ a % 0x1000 → (enabled (begin_ s) pg).rd a = (begin_ s).rd a := enabled_rd _ _
  have bits : ∀ {a i}, 0x040 ≤ a % 0x1000 → (enabled (begin_ s) pg).rdB a i = (begin_ s).rdB a i := fun h => by
    unfold W.rdB; rw [regs _ h]
  have field : ∀ {a lo n}, 0x040 ≤ a % 0x1000 → (enabled (begin_ s) pg).rdF a lo n = (begin_ s).rdF a lo n := fun h => by
    unfold W.rdF; rw [regs _ h]
  have loud : W.quiet (begin_ s) (enabled (begin_ s) pg) = false := by
    have differ : (enabled (begin_ s) pg).regs ≠ (begin_ s).regs := fun h => by
      have on := enabled_ctrl (begin_ s) pg
      unfold W.rdB W.rd at on wasOff
      rw [h, wasOff] at on
      cases on
    unfold W.quiet
    rw [decide_eq_false fun h => differ h.1, Bool.false_and]
  have sub : ∀ e ∈ [6, 7, 8, 9], e ∈ [4, 6, 7, 8, 9] ∧ e ≠ 4 := by decide
  have starts := settle_start (w0 := begin_ s) (u := enabled (begin_ s) pg)
    (steadyBut_wrCtrl (rest.same (SameWatch.start _ _)) page ((SameWatch.refl _).spend _ _))
    (sub d domain.1).1 (sub d domain.1).2 (hasUser_of_enabled true page domain.2 domain.1 (enabled_ctrl _ _))
    ((field (by decide)).trans off) ((bits (by decide)).trans noEw) (by rw [enabled_pwr]; exact xtm)
    (by unfold W.buckFaulted at buck ⊢; rw [field (by decide)]; exact buck) ((bits (by decide)).trans released) loud s.mem
  have effect : (begin_ s).put32 s.mem (R.H_CTRL pg) 1 x = enabled (begin_ s) pg := by
    rw [W.put32_header link (by rw [page]; rfl) (by decide) (by decide)]
    exact congrArg (W.spend · pg 0x008) ((W.ctrlWrite_accepted (enable_plain (.inr hp)) (fun h => absurd h (by decide))).trans rfl)
  have runs : exec (.blockEnable pg x) s = run (fun m w => w.put32 m (R.H_CTRL pg) 1 x) s := rfl
  unfold Yields
  rw [runs, run, effect, starts]

/-- Settles O13: the header's write of CTRL, the evaluation that finds no user changed, or the page's domain with its first. -/
theorem blockEnableAndSoftReset : Obligations.BlockEnableAndSoftReset := by
  unfold Obligations.BlockEnableAndSoftReset
  intro s pg x en d rest link page
  refine ⟨fun low gpio => ⟨?_, ?_⟩, fun h => softReset_write x rest link h, softResetDone_write pg rest, ?_⟩
  · exact enable_write (n := 1) rfl rest link page low gpio (by decide)
  · exact enable_write (n := 0) rfl rest link page low gpio (by decide)
  · exact fun hp idle off noEw xtm buck released => enable_starts x rest link page hp idle off noEw xtm buck released

end Sys2Proof.Machine
end

section
/-!
PROOF. Writes of the event registers (R65 to R67, R81 to R83, R87), in a device at rest.
-/
namespace Sys2Proof.Machine

/-! ## The registers of the header -/

/-- Events raised one after another leave alone what the evaluation watches. -/
theorem SameWatch.raises {w : W} (rest : Steady w) (p : Nat) (c : W → Nat → Bool) (l : List Nat) :
    ∀ u, SameWatch w u → SameWatch w (l.foldl (fun u i => if c u i then u.raise (p, i) else u) u) := by
  induction l with
  | nil => exact fun _ h => h
  | cons i l ih => exact fun u h => ih _ (ite (h.raise rest (p, i)) h)

/-- A write of EVT_SET, in a device at rest (R67). -/
theorem evtSet_write {s : State} (pg : Fin 128) (v : Word) (rest : Steady (begin_ s)) (link : (begin_ s).hostOk = true)
    (page : (pageDomain pg).isSome = true) :
    Yields (.evtSet pg v) s (((hostEnter (begin_ s) pg).evtSetWrite pg v).spend pg 0x01C) := by
  refine header_write (x := {}) rfl link page (by decide) (by decide) ?_ (rest.same (.spend ?_ _ _))
  · rw [BitVec.ofNat_toNat, BitVec.setWidth_eq]
    rfl
  · have enter := SameWatch.start (begin_ s) pg
    exact .ite (enter.err (header_unwatched (by decide) (by decide))) (SameWatch.raises rest pg (fun _ i => bit v i) _ _ enter)

/-- A write of EVT_EN, in a device at rest (R65). -/
theorem evtEn_write {s : State} (pg : Fin 128) (v : Word) (rest : Steady (begin_ s)) (link : (begin_ s).hostOk = true)
    (page : (pageDomain pg).isSome = true) :
    Yields (.evtEnWrite pg v) s (((hostEnter (begin_ s) pg).evtEnWrite pg v).spend pg 0x014) := by
  refine header_write (x := {}) rfl link page (by decide) (by decide) ?_ (rest.same (.spend ?_ _ _))
  · rw [BitVec.ofNat_toNat, BitVec.setWidth_eq]
    rfl
  · exact SameWatch.raises rest pg (fun w i => bit (v &&& evtBits pg) i && !bit ((hostEnter (begin_ s) pg).rd (R.H_EVT_EN pg)) i &&
      w.pageUp pg && w.rdB (R.H_EVT_RAW pg) i) _ _ ((SameWatch.start _ _).wr (header_unwatched (by decide) (by decide)))

/-- A write of EVT_PEND clears the bits written 1 that do not arrive in the same clock, in a device at rest (R66). -/
theorem evtPend_write {s : State} (pg : Fin 128) (v arriving : Word) (rest : Steady (begin_ s)) (link : (begin_ s).hostOk = true)
    (page : (pageDomain pg).isSome = true) :
    Yields (.evtPendClear pg v arriving) s (((hostEnter (begin_ s) pg).wr (R.H_EVT_PEND pg)
      ((begin_ s).rd (R.H_EVT_PEND pg) &&& ~~~(v &&& ~~~arriving))).spend pg 0x018) := by
  refine header_write (x := {}) rfl link page (by decide) (by decide) ?_ (rest.same (.spend ?_ _ _))
  · rw [BitVec.ofNat_toNat, BitVec.setWidth_eq, ← W.start_rd (begin_ s) pg _ (by unfold R.H_EVT_PEND; omega)]
    rfl
  · exact (SameWatch.start _ _).wr (header_unwatched (by decide) (by decide))

/-! ## The registers of the EVT page -/

/-- A writable register of the EVT page is one that a host write stores or acts on. -/
theorem hostReg_evt {off : Nat} {d : RegDef} (page : off / 0x1000 = 0x03) (ho : 0x040 ≤ off % 0x1000) (hd : regDef off = some d)
    (ha : d.acc ≠ .ro) : hostReg off = true := by
  have noPair : ∀ a, a / 0x1000 = 0x03 → isPairW a = false := fun a h => by
    rw [Bool.eq_false_iff]
    intro k
    have := isPairW_page k
    omega
  have boot : off ≠ R.HIF_BOOT_CTRL := W.ne_of_page (show off / 0x1000 ≠ 0x04 by omega)
  have domain : pageDomain 0x03 = some 1 := by decide
  unfold hostReg
  simp [page, domain, ho, noPair off page, noPair (off - 4) (by omega), boot, hd, ha]

/-- A host write of a register of the EVT page, in a device at rest. -/
theorem evt_write {c : Instr} {s : State} {off : Nat} {v : Word} {d : RegDef} {eff : W → W}
    (runs : exec c s = run (fun m w => w.hostWord {} m off v) s) (ready : Ready s off) (page : off / 0x1000 = 0x03)
    (ho : 0x040 ≤ off % 0x1000) (hd : regDef off = some d) (ha : d.acc ≠ .ro)
    (effect : ∀ u : W, u.blockWrite s.mem off v {} = eff u) (watch : ∀ u, SameWatch (begin_ s) u → SameWatch (begin_ s) (eff u)) :
    HostWrites c s off eff := by
  have other : ∀ a, a / 0x1000 ∈ [0x0A, 0x15, 0x3D] → off ≠ a := fun a h => W.ne_of_page (by
    rw [page]
    rintro k
    rw [← k] at h
    exact absurd h (by decide))
  have meets : ∀ u : W, u.accessMeets s.mem off v {} = (u, s.mem) := fun u =>
    W.accessMeets_other u _ _ _ _ (other _ (by decide)) (other _ (by decide)) (other _ (by decide)) (.inl (by omega))
  exact HostWrites.of runs ready (hostReg_evt page ho hd ha) meets (W.check_03 page) (effect _) watch

namespace SameWatch

/-- Messages are not watched. -/
theorem sends {w u : W} (h : SameWatch w u) (c : W → Nat → Bool) (l : List Nat) :
    SameWatch w (l.foldl (fun w i => if c w i then w.msixSend i else w) u) :=
  h.trans (foldl (fun u i => ite (msixSend u i) (refl u)) _ _)

theorem evtlatClear {w u : W} (h : SameWatch w u) (k : Fin 8) (v : Word) : SameWatch w (u.evtlatClear k v) := by
  have latch : watched (R.EVT_EVTLAT k) = false := (by decide : ∀ k : Fin 8, watched (R.EVT_EVTLAT k) = false) k
  unfold W.evtlatClear
  exact (h.wr latch).sends W.vecAsserted _

theorem evtMask {w u : W} (h : SameWatch w u) {off : Nat} (v : Word) (mask : watched off = false) : SameWatch w (u.evtMask off v) := by
  unfold W.evtMask W.msixEdges
  exact (h.wr mask).sends (fun x i => x.vecAsserted i && !u.vecAsserted i) _

end SameWatch

/-- A write of EVTLAT, in a device at rest (R81, R83). -/
theorem evtlat_write {s : State} (k : Fin 8) (v arriving : Word) (ready : Ready s (R.EVT_EVTLAT k)) :
    HostWrites (.evtlatClear k v arriving) s (R.EVT_EVTLAT k) fun w => w.evtlatClear k (v &&& ~~~arriving) := by
  have page : R.EVT_EVTLAT k / 0x1000 = 0x03 := by unfold R.EVT_EVTLAT; omega
  have block : 0x040 ≤ R.EVT_EVTLAT k % 0x1000 := by unfold R.EVT_EVTLAT; omega
  obtain ⟨d, hd, ha⟩ : ∃ d, regDef (R.EVT_EVTLAT k) = some d ∧ d.acc ≠ .ro :=
    (by decide : ∀ k : Fin 8, ∃ d ∈ regDef (R.EVT_EVTLAT k), d.acc ≠ .ro) k
  have runs : exec (.evtlatClear k v arriving) s = run (fun m w => w.hostWord {} m (R.EVT_EVTLAT k) (v &&& ~~~arriving)) s := by
    show run (fun m w => w.put32 m (R.EVT_EVTLAT k) (v &&& ~~~arriving).toNat) s = _
    unfold W.put32
    rw [BitVec.ofNat_toNat, BitVec.setWidth_eq]
  exact evt_write runs ready page block hd ha (fun _ => W.write_evtlat k.isLt)
    fun _ h => h.evtlatClear k _

/-- Where the mask and select registers stand, and which of their bits are writable (R80, R87). -/
theorem regDef_evtMask {off : Nat} {d : RegDef} (mask : isEvtMask off = true) (hd : regDef off = some d) :
    (off / 0x1000 = 0x03 ∧ 0x040 ≤ off % 0x1000 ∧ off % 0x1000 < 0x700) ∧ d.acc = .rwl ∧
      ∀ v : Word, v &&& BitVec.ofNat 32 d.wmask =
        if off = R.EVT_PIN_CFG then v &&& 0xF#32 else if R.EVT_REC_SEL 0 ≤ off then v &&& 0x800000FF#32 else v := by
  have all : ∀ v : Word, v &&& 0xffffffff#32 = v := fun v => BitVec.and_allOnes
  have place : off = 0x3048 ∨ 0x3100 ≤ off ∧ off < 0x3700 := by
    simp only [isEvtMask, R.EVT_PIN_CFG, R.EVT_VEC_MASK, R.EVT_EVTLAT, Bool.or_eq_true, beq_iff_eq, decide_eq_true_eq] at mask
    omega
  have page : off / 0x1000 = 0x03 := by omega
  have regs : pageRegs 0x03 = regsEVT := rfl
  unfold regDef at hd
  rw [page, regs] at hd
  have row := List.mem_of_find?_eq_some hd
  have covers := List.find?_some hd
  refine ⟨by omega, ?_⟩
  simp only [R.EVT_PIN_CFG, R.EVT_REC_SEL]
  simp only [RegDef.covers, Bool.and_eq_true, decide_eq_true_eq] at covers
  obtain ⟨⟨lo, -⟩, hi⟩ := covers
  simp only [regsEVT, List.mem_cons, List.not_mem_nil, or_false] at row
  rcases row with rfl | rfl | rfl | rfl | rfl | rfl | rfl | rfl <;> dsimp only at lo hi ⊢
  · omega
  · omega
  · exact ⟨rfl, fun v => by rw [if_pos (by omega)]⟩
  · exact ⟨rfl, fun v => by rw [if_neg (by omega), if_neg (by omega)]; exact all v⟩
  · exact ⟨rfl, fun v => by rw [if_neg (by omega), if_neg (by omega)]; exact all v⟩
  · exact ⟨rfl, fun v => by rw [if_neg (by omega), if_neg (by omega)]; exact all v⟩
  · exact ⟨rfl, fun v => by rw [if_neg (by omega), if_pos (by omega)]⟩
  · omega

/-- A write of a mask or select register, in a device at rest (R87). -/
theorem evtMask_write {s : State} {off : Nat} (v : Word) (mask : isEvtMask off = true) (ready : Ready s off) :
    HostWrites (.evtMaskWrite off v) s off fun w =>
      w.evtMask off (if off = R.EVT_PIN_CFG then v &&& 0xF#32 else if R.EVT_REC_SEL 0 ≤ off then v &&& 0x800000FF#32 else v) := by
  obtain ⟨d, hd⟩ := Option.ne_none_iff_exists'.mp ready.lock.1
  obtain ⟨⟨page, block, below⟩, rwl, bits⟩ := regDef_evtMask mask hd
  have runs : exec (.evtMaskWrite off v) s = run (fun m w => w.hostWord {} m off v) s := by
    show run (fun m w => if isEvtMask off then w.put32 m off v.toNat else w) s = _
    unfold W.put32
    simp only [mask, if_true]
    rw [BitVec.ofNat_toNat, BitVec.setWidth_eq]
  refine evt_write runs ready page block hd (by rw [rwl]; decide) (fun u => ?_)
    fun _ h => h.evtMask _ (watched_block (.inl page) block)
  rw [W.write_03 page hd below, bits]

/-- Settles O7: each register's own write, around which stands the page's bookkeeping. -/
theorem writesOfTheEventRegisters : Obligations.WritesOfTheEventRegisters := by
  unfold Obligations.WritesOfTheEventRegisters
  intro s pg v arriving k off rest link page
  have set := evtSet_write pg v rest link page
  have enable := evtEn_write pg v rest link page
  unfold W.evtSetWrite at set
  unfold W.evtEnWrite at enable
  rw [W.start_rd _ _ _ (by unfold R.H_EVT_EN; omega)] at enable
  refine ⟨fun saf tmp => ?_, fun refused => ?_, enable, evtPend_write pg v arriving rest link page,
    fun ready => evtlat_write k v arriving ready, fun mask ready => evtMask_write v mask ready⟩
  · rw [if_neg (by rintro (h | h) <;> contradiction)] at set
    exact set
  · rw [if_pos refused] at set
    exact set

end Sys2Proof.Machine
end

section
/-!
PROOF. Writes of a locked register (R72).
-/
namespace Sys2Proof.Machine

/-- A page that answers refuses a host write of an RWL register while it is locked (R72, R75). -/
theorem W.pageCode_locked {u : W} {off : Nat} {d : RegDef} (up : (u.pageUp (off / 0x1000) || inPd1 off) = true)
    (hd : regDef off = some d) (rwl : d.acc = .rwl) (locked : u.unlocked (off / 0x1000) = false) :
    u.pageCode true off true = eLocked := by
  unfold W.pageCode W.offCode
  simp only [up, hd, rwl, locked]
  simp [firstCode]

/-- Settles O9: the page answers, so the first check that the write fails is its lock. -/
theorem lockedRegisterRefusesTheWrite : Obligations.LockedRegisterRefusesTheWrite := by
  unfold Obligations.LockedRegisterRefusesTheWrite
  intro s off v x d rest ready word ho page hd rwl locked
  have boot : off ≠ R.HIF_BOOT_CTRL := by
    rintro rfl
    have : (regDef R.HIF_BOOT_CTRL).map (·.acc) = some .rw := by decide
    rw [hd, Option.map_some, rwl] at this
    cases this
  have code : (hostEnter (begin_ s) (off / 0x1000)).pageCode true off true = eLocked :=
    W.pageCode_locked (by rw [W.start_pageUp]; exact ready.up) hd rwl (by rw [W.start_unlocked]; exact locked)
  exact refused_write rest ready.link word ho page boot code (by decide) (fun h => absurd h (by decide)) (if_neg (by decide))

end Sys2Proof.Machine
end

section
/-!
PROOF. The memory windows (R44, R46, R47, R51, R158): a host access to BAR2 or BAR4 is carried out unit by unit, and the units cover
exactly its bytes.
-/
namespace Sys2Proof.Machine

/-! ## The units of an access (R51) -/

/-- The first unit of an access is within it, and the rest of the access follows. -/
theorem units_succ (k off : Nat) {len : Nat} (h : len ≠ 0) :
    ∃ n, 0 < n ∧ n ≤ len ∧ units (k + 1) off len = (off, n) :: units k (off + n) (len - n) := by
  rw [units, if_neg h]
  exact ⟨_, by split_ifs <;> omega, by split_ifs <;> omega, rfl⟩

/-- A naturally aligned access of 1, 2, 4 or 8 bytes is one unit. -/
theorem units_aligned {off n : Nat} (size : n ∈ [1, 2, 4, 8]) (aligned : off % n = 0) : units n off n = [(off, n)] := by
  simp only [List.mem_cons, List.not_mem_nil, or_false] at size
  rcases size with rfl | rfl | rfl | rfl <;> simp [units, aligned]

/-- A read whose units answer the bytes `g` and change nothing answers the bytes `g` of the whole access. -/
theorem foldl_units_read {f : W → Nat × Nat → W × List Byte} {w : W} {g : Nat → Byte} {lo hi : Nat}
    (unit : ∀ o n, lo ≤ o → 0 < n → o + n ≤ hi → f w (o, n) = (w, (List.range n).map fun i => g (o + i))) :
    ∀ (k off len : Nat) (acc : List Byte), len ≤ k → lo ≤ off → off + len ≤ hi →
      (units k off len).foldl (fun a u => ((f a.1 u).1, a.2 ++ (f a.1 u).2)) (w, acc) =
        (w, acc ++ (List.range len).map fun i => g (off + i)) := by
  intro k
  induction k with
  | zero =>
    intro off len acc hk _ _
    obtain rfl : len = 0 := by omega
    simp [units]
  | succ k ih =>
    intro off len acc hk hlo hhi
    by_cases h : len = 0
    · subst h
      simp [units]
    · obtain ⟨n, pos, le, first⟩ := units_succ k off h
      have split : List.range len = List.range n ++ (List.range (len - n)).map (n + ·) := by
        rw [← List.range_add, Nat.add_sub_cancel' le]
      have rest : ∀ i, off + (n + i) = off + n + i := fun i => (Nat.add_assoc ..).symm
      rw [first, List.foldl_cons, unit off n hlo pos (by omega), ih _ _ _ (by omega) (by omega) (by omega), split, List.map_append,
        List.map_map, List.append_assoc]
      simp only [Function.comp_def, rest]

/-! ## Bytes stored -/

/-- What the memory holds after a command that stores bytes from an address up. -/
theorem memGet_putBytes {m : Memory} (wf : Memory.wf m) (w : W) (a : Nat) (d : List Byte) (b : Nat) :
    memGet (applyWrites m (w.putBytes a d).wq) b =
      if a ≤ b ∧ b < a + d.length then d.getD (b - a) 0 else memGet (applyWrites m w.wq) b := by
  unfold W.putBytes
  split
  · rename_i none
    subst none
    rw [if_neg (by simp only [List.length_nil]; omega)]
  · exact memGet_memPut d _ a b (applyWrites_wf m wf w.wq)

theorem putBytes_toDev (w : W) (a : Nat) (d : List Byte) : (w.putBytes a d).toDev = w.toDev := by
  unfold W.putBytes
  split <;> rfl

/-- The units of a write that store their part of the bytes `d` from `base` up store, all together, exactly their range. -/
theorem foldl_units_write {f : W → Nat × Nat → W} {m : Memory} {d : List Byte} {base : Nat} {w0 : W} (wf : Memory.wf m)
    (unit : ∀ w : W, w.toDev = w0.toDev → ∀ o n, base ≤ o → 0 < n → o + n ≤ base + d.length →
      f w (o, n) = w.putBytes o ((d.drop (o - base)).take n)) :
    ∀ (k off len : Nat) (w : W), w.toDev = w0.toDev → len ≤ k → base ≤ off → off + len = base + d.length →
      ((units k off len).foldl f w).toDev = w0.toDev ∧
      ∀ a, memGet (applyWrites m ((units k off len).foldl f w).wq) a =
        if off ≤ a ∧ a < off + len then d.getD (a - base) 0 else memGet (applyWrites m w.wq) a := by
  intro k
  induction k with
  | zero =>
    intro off len w dev hk _ _
    obtain rfl : len = 0 := by omega
    exact ⟨dev, fun a => (if_neg (by omega)).symm⟩
  | succ k ih =>
    intro off len w dev hk hlo hhi
    by_cases h : len = 0
    · subst h
      exact ⟨dev, fun a => (if_neg (by omega)).symm⟩
    · obtain ⟨n, pos, le, first⟩ := units_succ k off h
      have stored := unit w dev off n hlo pos (by omega)
      have length : ((d.drop (off - base)).take n).length = n := by
        rw [List.length_take, List.length_drop]
        omega
      obtain ⟨devs, bytes⟩ := ih (off + n) (len - n) (f w (off, n)) (by rw [stored, putBytes_toDev, dev]) (by omega) (by omega) (by omega)
      rw [first, List.foldl_cons]
      refine ⟨devs, fun a => ?_⟩
      rw [bytes, stored, memGet_putBytes wf, length]
      by_cases later : off + n ≤ a ∧ a < off + n + (len - n)
      · rw [if_pos later, if_pos (by omega)]
      · rw [if_neg later]
        by_cases now : off ≤ a ∧ a < off + n
        · have place : off - base + (a - off) = a - base := by omega
          rw [if_pos now, if_pos (by omega), List.getD_eq_getElem?_getD, List.getElem?_take_of_lt (by omega), List.getElem?_drop, place,
            ← List.getD_eq_getElem?_getD]
        · rw [if_neg now, if_neg (by omega)]

/-- Bytes stored in the memories are not watched. -/
theorem SameWatch.of_dev {w u : W} (dev : u.toDev = w.toDev) : SameWatch w u := by
  obtain ⟨d, q⟩ := u
  obtain rfl : d = w.toDev := dev
  exact (refl w).of_eq rfl rfl rfl rfl rfl rfl rfl rfl rfl rfl rfl

/-! ## BAR2 -/

/-- A unit of system SRAM is in PD4. -/
theorem bar2Domain_system {off : Nat} (h : solverEnd ≤ off) : W.bar2Domain off = 4 := by
  unfold W.bar2Domain
  rw [if_neg (by omega)]

/-- A unit of a host write to system SRAM, with PD4 on. -/
theorem bar2Put_system {w : W} {off : Nat} {d : List Byte} (lo : solverEnd ≤ off) (hi : off < systemEnd) (up : w.domUp 4 = true) :
    w.bar2Put off d = w.putBytes off d := by
  unfold W.bar2Put
  rw [if_neg (by omega), bar2Domain_system lo, if_pos up]
  rfl

/-- A unit of a host read of system SRAM, with PD4 on. -/
theorem bar2Unit_system {w : W} {m : Memory} {off n : Nat} (lo : solverEnd ≤ off) (hi : off < systemEnd) (up : w.domUp 4 = true) :
    w.bar2Unit .ok off n m = (w, w.bytes m off n) := by
  unfold W.bar2Unit
  rw [if_neg (by omega), bar2Domain_system lo, if_neg (by rw [up]; decide)]
  rfl

/-- A host write inside system SRAM stores exactly its bytes and changes nothing else, in a device at rest. -/
theorem bar2Write_system {s : State} {off : Nat} {d : List Byte} (rest : Steady (begin_ s)) (link : (begin_ s).hostOk = true)
    (wf : Memory.wf s.mem) (lo : solverEnd ≤ off) (hi : off + d.length ≤ systemEnd) (up : (begin_ s).domUp 4 = true) :
    ∃ t, exec (.hostBar2Write off d) s = .next t ∧ t.toDev = s.toDev ∧
      ∀ a, memGet t.mem a = if off ≤ a ∧ a < off + d.length then d.getD (a - off) 0 else memGet s.mem a := by
  have unit : ∀ w : W, w.toDev = (begin_ s).toDev → ∀ o n, off ≤ o → 0 < n → o + n ≤ off + d.length →
      w.bar2Put o ((d.drop (o - off)).take n) = w.putBytes o ((d.drop (o - off)).take n) := fun w dev o n _ _ _ => by
    have same : w.domUp 4 = (begin_ s).domUp 4 := by unfold W.domUp W.dom W.rdF W.rd; rw [dev]
    exact bar2Put_system (by omega) (by omega) (same.trans up)
  obtain ⟨dev, bytes⟩ := foldl_units_write (f := fun w u => w.bar2Put u.1 ((d.drop (u.1 - off)).take u.2)) wf unit d.length off d.length (begin_ s) rfl (Nat.le_refl _) (Nat.le_refl _) rfl
  have written : (begin_ s).bar2Write off d =
      (units d.length off d.length).foldl (fun w u => w.bar2Put u.1 ((d.drop (u.1 - off)).take u.2)) (begin_ s) := by
    unfold W.bar2Write
    rw [if_pos link]
  exact ⟨_, run_steady (f := fun _ w => w.bar2Write off d) rest written (SameWatch.of_dev dev), dev, bytes⟩

/-! ## Reads -/

/-- A unit of a host read that meets no error. -/
def barUnit (m : Memory) (bar : Bar) (w : W) (u : Nat × Nat) : W × List Byte :=
  match bar with
  | .bar2 => w.bar2Unit .ok u.1 u.2 m
  | .bar4 => w.bar4Unit .ok u.1 u.2 m

theorem memRead_ok {w : W} {m : Memory} (link : w.hostOk = true) (bar : Bar) (off len : Nat) :
    w.memRead bar off len .ok m =
      (let r := (units len off len).foldl (fun (a : W × List Byte) u => ((barUnit m bar a.1 u).1, a.2 ++ (barUnit m bar a.1 u).2)) (w, [])
       r.1.answer r.2) := by
  unfold W.memRead
  rw [if_neg (by rw [link]; decide)]
  cases bar <;> rfl

/-- A host read whose units answer the bytes `g` and change nothing answers them all, in a device at rest. -/
theorem memRead_answers {s : State} {bar : Bar} {off len : Nat} {g : Nat → Byte} (rest : Steady (begin_ s)) (link : (begin_ s).hostOk = true)
    (unit : ∀ o n, off ≤ o → 0 < n → o + n ≤ off + len →
      barUnit s.mem bar (begin_ s) (o, n) = (begin_ s, (List.range n).map fun i => g (o + i))) :
    Yields (.hostMemRead bar off len .ok) s ((begin_ s).answer ((List.range len).map fun i => g (off + i))) := by
  refine run_steady (f := fun m w => w.memRead bar off len .ok m) rest ?_ ((SameWatch.refl _).answer _)
  rw [memRead_ok link, foldl_units_read unit len off len [] (Nat.le_refl _) (Nat.le_refl _) (Nat.le_refl _), List.nil_append]

/-- A unit of a host read in the reserved range of BAR2 (R46). -/
theorem bar2Unit_reserved {w : W} {m : Memory} {off : Nat} (n : Nat) (h : systemEnd ≤ off) :
    w.bar2Unit .ok off n m = (w, (List.range n).map fun _ => 0) := by
  unfold W.bar2Unit
  rw [if_pos h, List.map_const', List.length_range]

/-- A host write in the reserved range of BAR2 changes nothing (R46). -/
theorem bar2Write_reserved {w : W} {off : Nat} (d : List Byte) (h : systemEnd ≤ off) : w.bar2Write off d = w := by
  have skips : ∀ (k o len : Nat), off ≤ o →
      (units k o len).foldl (fun w u => w.bar2Put u.1 ((d.drop (u.1 - off)).take u.2)) w = w := by
    intro k
    induction k with
    | zero => exact fun _ _ _ => rfl
    | succ k ih =>
      intro o len ho
      by_cases none : len = 0
      · subst none
        rfl
      · obtain ⟨n, -, -, first⟩ := units_succ k o none
        have skip : ∀ b, w.bar2Put o b = w := fun b => by
          unfold W.bar2Put
          rw [if_pos (by omega)]
        rw [first, List.foldl_cons, skip]
        exact ih _ _ (by omega)
  unfold W.bar2Write
  split
  · exact skips _ _ _ (Nat.le_refl _)
  · rfl

/-! ## BAR4 -/

/-- A host write to BAR4 of one naturally aligned unit (R51). -/
theorem bar4Write_unit {w : W} {off : Nat} {d : List Byte} (link : w.hostOk = true) (size : d.length ∈ [1, 2, 4, 8])
    (aligned : off % d.length = 0) : w.bar4Write off d = w.bar4Put off d := by
  unfold W.bar4Write
  rw [if_pos link, units_aligned size aligned]
  simp

/-- A naturally aligned unit lies within one sector of MRAM, and its write ends no uncorrectable word where none stands (R154, R158). -/
theorem mramPut_unit {w : W} {off : Nat} {d : List Byte} (size : d.length ∈ [1, 2, 4, 8]) (aligned : off % d.length = 0)
    (sound : w.age.ueWords = []) : w.mramPut off d = (w.putBytes (mramBase + w.phys off) d).wear (w.phys off / 4096) := by
  have fits : 0 < d.length ∧ d.length ≤ 4096 - off % 4096 := by
    simp only [List.mem_cons, List.not_mem_nil, or_false] at size
    rcases size with h | h | h | h <;> rw [h] at aligned ⊢ <;> omega
  have some : d ≠ [] := List.ne_nil_of_length_pos fits.1
  have unmarked : ∀ n, (w.putBytes (mramBase + w.phys off) d).ueWritten (w.phys off) n = w.putBytes (mramBase + w.phys off) d := fun n => by
    unfold W.ueWritten
    rw [if_pos (by rw [putBytes_toDev]; exact sound)]
  have last : ∀ (k : Nat) (u : W) (o : Nat), W.mramPutN k u o [] = u := fun k u o => by cases k <;> rfl
  unfold W.mramPut
  rw [W.mramPutN, if_neg some]
  dsimp only
  rw [List.take_of_length_le fits.2, List.drop_eq_nil_of_le fits.2, unmarked, last]

/-- A write of MRAM is not watched. -/
theorem SameWatch.wear {w u : W} (h : SameWatch w u) (k : Nat) : SameWatch w (u.wear k) :=
  h.of_eq rfl rfl rfl rfl rfl rfl rfl rfl rfl rfl rfl

/-- A unit of a host read of MRAM while no word is known as uncorrectable (R156). -/
theorem bar4Unit_sound {s : State} {off : Nat} (n : Nat) (inside : off < mramSize) (sound : s.age.ueWords = []) :
    (begin_ s).bar4Unit .ok off n s.mem =
      (begin_ s, (List.range n).map fun i => memGet s.mem (mramBase + (begin_ s).phys (off + i))) := by
  have byte : ∀ o, (begin_ s).mramByte s.mem o = memGet s.mem (mramBase + (begin_ s).phys o) := fun o => by
    unfold W.mramByte
    rw [begin_age, sound]
    rfl
  unfold W.bar4Unit W.mram
  rw [if_neg (by omega)]
  simp [sound, byte]

/-- Settles O12: an access is its units in order, each of which reaches its bytes or leaves the device alone. -/
theorem memoryWindows : Obligations.MemoryWindows := by
  unfold Obligations.MemoryWindows
  intro s off len d rest link wf
  refine ⟨fun lo hi up => bar2Write_system rest link wf lo hi up, fun lo hi up => ?_, fun reserved => ⟨?_, ?_⟩,
    fun size aligned inside sound => ⟨fun en free => ?_, fun off_ => ?_, ?_⟩⟩
  · exact memRead_answers rest link fun o n _ _ _ => bar2Unit_system (by omega) (by omega) up
  · exact run_steady (f := fun _ w => w.bar2Write off d) rest (bar2Write_reserved d reserved) (SameWatch.refl _)
  · have zeros : List.replicate len (0 : Byte) = (List.range len).map fun _ => 0 := by rw [List.map_const', List.length_range]
    rw [zeros]
    exact memRead_answers (g := fun _ => 0) rest link fun o n _ _ _ => bar2Unit_reserved n (by omega)
  · refine run_steady (f := fun _ w => w.bar4Write off d) rest ?_ ((SameWatch.of_dev (putBytes_toDev _ _ _)).wear _)
    rw [bar4Write_unit link size aligned, W.bar4Put, if_neg (by omega), if_neg (by simp [en, free]), mramPut_unit size aligned sound]
  · refine run_steady (f := fun _ w => w.bar4Write off d) rest ?_ ((SameWatch.refl _).err (by decide))
    rw [bar4Write_unit link size aligned, W.bar4Put, if_neg (by omega), if_pos (by simp [off_])]
  · have within : off + d.length ≤ mramSize := by
      unfold mramSize at inside ⊢
      simp only [List.mem_cons, List.not_mem_nil, or_false] at size
      rcases size with h | h | h | h <;> rw [h] at aligned ⊢ <;> omega
    exact memRead_answers (g := fun o => memGet s.mem (mramBase + (begin_ s).phys o)) rest link
      fun o n _ _ _ => bar4Unit_sound n (by omega) sound

end Sys2Proof.Machine
end

section
/-!
PROOF. Host writes of the recorder's registers (R93, R776, R777, R787, R788), in a device in any state: the triggers, their lists, the
clears.
-/
namespace Sys2Proof.Machine

/-! ## A write that the page passes on to its block -/

/-- A command ends in what it makes of the working record, evaluated. -/
theorem completes_of_run {c : Instr} {s : State} {f : Memory → W → W} {u : W} (runs : exec c s = run f s)
    (effect : f s.mem (begin_ s) = u) : Completes c s u := by
  unfold Completes
  rw [runs, run, effect]

/-- A host write that the page accepts and the block refuses: the block's code goes to the page's ERR. -/
theorem W.hostWord_blockRefused {w : W} {off c : Nat} {v : Word} {x : Ext} {m : Memory} (ready : HostReady w off)
    (reg : hostReg off = true) (lock : ∀ d, regDef off = some d → d.acc = .rwl → w.unlocked (off / 0x1000) = true)
    (meets : ∀ u : W, u.accessMeets m off v x = (u, m)) (code : (hostEnter w (off / 0x1000)).blockCheck m off v x = c) (refused : c ≠ 0) :
    w.hostWord x m off v =
      (((hostEnter w (off / 0x1000)).err (off / 0x1000) c).blockRefused m off c v).spend (off / 0x1000) (off % 0x1000) := by
  unfold hostReg at reg
  simp only [Bool.and_eq_true, Bool.not_eq_true', decide_eq_true_eq] at reg
  obtain ⟨⟨⟨⟨⟨⟨⟨page, not5⟩, block⟩, notLow⟩, notHigh⟩, boot⟩, notDbg⟩, writable⟩ := reg
  have passes : (hostEnter w (off / 0x1000)).pageCode true off true = 0 :=
    W.pageCode_zero (by rw [W.start_pageUp]; exact ready.up) (by rw [W.start_inSrst]; exact ready.noSrst) notDbg
      fun _ d hd rwl => by rw [W.start_unlocked]; exact lock d hd rwl
  rw [W.hostWord_enter ready.link page (by omega) boot]
  congr 1
  split at writable
  · rename_i d hd
    have notRo : (d.acc == .ro) = false := by simpa using writable
    have notUpper : ¬ (4 ≤ off ∧ isPairW (off - 4) = true) := by simpa using notHigh
    unfold W.wordWrite
    simp only [page, passes, W.accessWake_other _ _ not5, hd, notRo, notLow, meets, code]
    rw [if_neg (by decide), if_neg (by omega), if_neg (fun h => absurd h.1 (by decide)), if_neg (by decide), if_neg (by decide),
      if_neg (by decide), if_neg notUpper, if_pos refused]
  · cases writable

/-! ## The REC page -/

section
variable {c : Instr} {s : State} {off : Nat} {v : Word}

/-- The recorder's own registers that the statement writes. -/
def recReg (off : Nat) : Bool := [R.REC_TRIG, R.REC_CLEAR, R.REC_TRG_SEL, R.REC_TRG_CFG].contains off

theorem recReg_spec (reg : recReg off = true) : off / 0x1000 = 0x07 ∧ hostReg off = true := by
  simp only [recReg, List.contains_eq_mem, List.mem_cons, List.not_mem_nil, or_false, decide_eq_true_eq] at reg
  rcases reg with rfl | rfl | rfl | rfl <;> decide

theorem recReg_meets (reg : recReg off = true) (u : W) (m : Memory) (v : Word) : u.accessMeets m off v {} = (u, m) := by
  have page := (recReg_spec reg).1
  have other : ∀ a, a / 0x1000 ∈ [0x0A, 0x15, 0x3D] → off ≠ a := fun a h => W.ne_of_page (by
    rw [page]
    rintro k
    rw [← k] at h
    exact absurd h (by decide))
  exact W.accessMeets_other u _ _ _ _ (other _ (by decide)) (other _ (by decide)) (other _ (by decide)) (.inl (by omega))

/-- The record on which a write of the REC page acts. -/
abbrev recEnter (s : State) (off : Nat) : W := (hostEnter (begin_ s) 0x07).countSeq true off

theorem recStart_recd (s : State) : (hostEnter (begin_ s) 0x07).recd = s.recd := by
  show ((begin_ s).relock 0x07).recd = s.recd
  unfold W.relock
  split <;> rfl

theorem recEnter_recd (s : State) (off : Nat) : (recEnter s off).recd = s.recd := by
  unfold recEnter W.countSeq
  repeat' split
  all_goals exact recStart_recd s

theorem spend_recd (w : W) (p o : Nat) : (w.spend p o).recd = w.recd := by
  unfold W.spend
  split <;> rfl

theorem recStart_rd (s : State) {a : Nat} (h : 0x040 ≤ a % 0x1000) : (hostEnter (begin_ s) 0x07).rd a = (begin_ s).rd a :=
  W.start_rd _ _ _ (by omega)

theorem recEnter_rd (s : State) {a : Nat} (page : off / 0x1000 = 0x07) (h : 0x040 ≤ a % 0x1000) : (recEnter s off).rd a = (begin_ s).rd a := by
  unfold recEnter
  rw [W.countSeq_rd _ _ _ _ (by rw [page]; unfold R.H_SEQ; omega), recStart_rd s h]

/-- A host write of a recorder register that its block accepts. -/
theorem rec_takes {eff : W → W} (runs : exec c s = run (fun m w => w.hostWord {} m off v) s) (reg : recReg off = true) (h : Open s off)
    (check : (hostEnter (begin_ s) 0x07).recCheck (off % 0x1000) v = 0)
    (effect : (recEnter s off).recWrite (off % 0x1000) v = some (eff (recEnter s off))) : Takes c s off eff := by
  obtain ⟨page, host⟩ := recReg_spec reg
  refine completes_of_run runs ?_
  have stored := host
  unfold hostReg at stored
  simp only [Bool.and_eq_true, Bool.not_eq_true', decide_eq_true_eq] at stored
  obtain ⟨⟨⟨⟨⟨⟨⟨listed, not5⟩, block⟩, notLow⟩, notHigh⟩, boot⟩, notDbg⟩, writable⟩ := stored
  obtain ⟨d, hd⟩ := Option.ne_none_iff_exists'.mp h.lock.1
  have notRo : d.acc ≠ .ro := by simpa [hd] using writable
  have wake := W.accessWake_other (hostEnter (begin_ s) (off / 0x1000)) off not5
  rw [W.hostWord_accept h.host listed block hd notRo (h.lock.2 d hd) (fun k => absurd k notDbg) notLow notHigh boot
    (fun u => recReg_meets reg u _ _) (by rw [wake, W.check_07 page, page]; exact check)]
  unfold accepted
  rw [wake, W.write_07 page, page, effect]
  rfl

/-- A host write of a recorder register that its block refuses. -/
theorem rec_blocked {code : Nat} (runs : exec c s = run (fun m w => w.hostWord {} m off v) s) (reg : recReg off = true) (h : Open s off)
    (check : (hostEnter (begin_ s) 0x07).recCheck (off % 0x1000) v = code) (refused : code ≠ 0) :
    Completes c s ((((hostEnter (begin_ s) 0x07).err 0x07 code).blockRefused s.mem off code v).spend 0x07 (off % 0x1000)) := by
  obtain ⟨page, host⟩ := recReg_spec reg
  have blocked := W.hostWord_blockRefused h.host host h.lock.2 (fun u => recReg_meets reg u s.mem v)
    (by rw [W.check_07 page, page]; exact check) refused
  rw [page] at blocked
  exact completes_of_run runs blocked

/-- The same, where the refusal leaves nothing but its code. -/
theorem rec_refuses {code : Nat} (runs : exec c s = run (fun m w => w.hostWord {} m off v) s) (reg : recReg off = true) (h : Open s off)
    (check : (hostEnter (begin_ s) 0x07).recCheck (off % 0x1000) v = code) (refused : code ≠ 0) (notFull : code ≠ eFull) :
    Refuses c s off code := by
  have blocked := rec_blocked runs reg h check refused
  obtain ⟨page, host⟩ := recReg_spec reg
  have plain : ∀ u : W, u.blockRefused s.mem off code v = u := fun u => by
    unfold W.blockRefused
    rw [if_neg (by omega), if_neg (fun k => notFull k.2), if_neg (W.ne_of_page (by rw [page]; decide))]
  have wake := W.accessWake_other (hostEnter (begin_ s) 0x07) off (by rw [page]; decide)
  unfold Refuses
  rw [page, wake]
  rw [plain] at blocked
  exact blocked

end

/-! ## Triggers (R93, R777) -/

/-- The word with which the host fires trigger t: GO and its number. -/
theorem trigWord (t : Fin 64) : bit (BitVec.ofNat 32 (2 ^ 31 + t.val)) 31 = true ∧ fld (BitVec.ofNat 32 (2 ^ 31 + t.val)) 0 6 = t.val := by
  revert t
  decide

namespace W

/-- The recorder's queue has no free place, or an OVERFLOW record is owed one (R781). -/
def recFull (w : W) : Prop := 32 ≤ w.recd.queue.length ∨ w.rdB R.REC_STAT 2 = true

/-- A trigger is refused while it is disabled, then where the queue is full. -/
theorem recTrigCode_disabled {w : W} {t : Fin 64} (off : bit (w.recd.trig[t]).cfg 0 = false) : w.recTrigCode t = eState := by
  unfold recTrigCode
  rw [vector_getD _ _ _ t.isLt]
  simp only [Fin.getElem_fin] at off
  simp [firstCode, off]

theorem recTrigCode_enabled {w : W} {t : Fin 64} (on : bit (w.recd.trig[t]).cfg 0 = true) :
    (¬ w.recFull → w.recTrigCode t = 0) ∧ (w.recFull → w.recTrigCode t = eFull) := by
  have below : ¬ 64 ≤ t.val := by omega
  simp only [Fin.getElem_fin] at on
  unfold recFull recTrigCode
  rw [vector_getD _ _ _ t.isLt]
  constructor
  · intro room
    simp only [not_or, Nat.not_le, Bool.not_eq_true] at room
    simp [firstCode, on, below, room]
  · intro full
    rcases full with h | h
    · have : ¬ w.recd.queue.length < 32 := by omega
      simp [firstCode, on, below, this]
    · simp [firstCode, on, below, h]

/-- An item claims a free place. -/
theorem recClaim_room {w : W} (it : RecItem) (room : ¬ w.recFull) : w.recClaim it = ({ w with recd.queue := w.recd.queue ++ [it] }, false) := by
  simp only [recFull, not_or, Nat.not_le, Bool.not_eq_true] at room
  unfold recClaim
  rw [if_pos room]

/-- A trigger that finds the queue full is counted as lost; after the first loss without an event (R93, R781). -/
theorem recTrig_lost {w : W} {t : Nat} (origin : Nat) (code : w.recTrigCode t = eFull) (full : w.recFull) (again : w.recd.lostSince ≠ 0) :
    (w.recTrig t origin).1.recd.queue = w.recd.queue ∧ (w.recTrig t origin).1.recd.lostSince = w.recd.lostSince + 1 ∧
      (w.recTrig t origin).1.rdN R.REC_LOST = satInc 32 (w.rdN R.REC_LOST) ∧
      ∀ a, a ≠ R.REC_LOST → a ≠ R.REC_STAT → (w.recTrig t origin).1.rd a = w.rd a := by
  have noRoom : ¬ (w.recd.queue.length < 32 ∧ w.rdB R.REC_STAT 2 = false) := by
    rintro ⟨h1, h2⟩
    rcases full with h | h
    · omega
    · rw [h2] at h; cases h
  have first : (w.recd.lostSince == 0) = false := by simpa using again
  have counts : satInc 32 (w.rdN R.REC_LOST) < 2 ^ 32 := by
    unfold satInc
    split <;> omega
  unfold recTrig recClaim
  dsimp only
  rw [if_pos (.inr code), if_neg noRoom]
  simp only [incSat_recd, first, raiseIf]
  refine ⟨rfl, rfl, ?_, fun a h1 h2 => ?_⟩
  · show ((w.incSat R.REC_LOST).wrB R.REC_STAT 2 true).rdN R.REC_LOST = _
    unfold rdN
    rw [rd_wrB, if_neg (by decide), incSat, wrN, rd_wr_same, BitVec.toNat_ofNat, Nat.mod_eq_of_lt counts]
    rfl
  · show ((w.incSat R.REC_LOST).wrB R.REC_STAT 2 true).rd a = _
    rw [rd_wrB, if_neg h2, incSat, rd_wrN, if_neg h1]

end W

section
variable {s : State} {t : Fin 64}

theorem recFull_start (s : State) : (hostEnter (begin_ s) 0x07).recFull ↔ 32 ≤ s.recd.queue.length ∨ (begin_ s).rdB R.REC_STAT 2 = true := by
  have recd : (hostEnter (begin_ s) 0x07).recd = s.recd := recStart_recd s
  unfold W.recFull W.rdB
  rw [recd, recStart_rd s (by decide)]

theorem recFull_enter (s : State) : (recEnter s R.REC_TRIG).recFull ↔ 32 ≤ s.recd.queue.length ∨ (begin_ s).rdB R.REC_STAT 2 = true := by
  unfold W.recFull W.rdB
  rw [recEnter_recd, recEnter_rd s (by decide) (by decide)]

/-- A write of TRIG with GO is judged as its trigger is. -/
theorem recCheck_trig (w : W) (t : Fin 64) : w.recCheck 0x060 (BitVec.ofNat 32 (2 ^ 31 + t.val)) = w.recTrigCode t := by
  obtain ⟨go, number⟩ := trigWord t
  unfold W.recCheck
  rw [if_pos rfl, if_pos go, number]

theorem trigHost_runs (s : State) (t : Fin 64) :
    exec (.recTrigHost t) s = run (fun m w => w.hostWord {} m R.REC_TRIG (BitVec.ofNat 32 (2 ^ 31 + t.val))) s := rfl

/-- The host's trigger is refused while it is disabled (R777). -/
theorem trigHost_disabled (h : Open s R.REC_TRIG) (off : bit (s.recd.trig[t]).cfg 0 = false) :
    Refuses (.recTrigHost t) s R.REC_TRIG eState := by
  refine rec_refuses (trigHost_runs s t) (by decide) h ?_ (by decide) (by decide)
  refine (recCheck_trig _ t).trans (W.recTrigCode_disabled ?_)
  rw [recStart_recd]
  exact off

/-- The host's trigger takes a free place of the queue (R777). -/
theorem trigHost_queued (h : Open s R.REC_TRIG) (on : bit (s.recd.trig[t]).cfg 0 = true)
    (room : ¬ (32 ≤ s.recd.queue.length ∨ (begin_ s).rdB R.REC_STAT 2 = true)) :
    Takes (.recTrigHost t) s R.REC_TRIG fun u => { u with recd.queue := s.recd.queue ++ [⟨t.val, 2, [], none⟩] } := by
  obtain ⟨go, number⟩ := trigWord t
  have code : (recEnter s R.REC_TRIG).recTrigCode t = 0 :=
    (W.recTrigCode_enabled (by rw [recEnter_recd]; exact on)).1 (mt (recFull_enter s).mp room)
  refine rec_takes (trigHost_runs s t) (by decide) h ?_ ?_
  · exact (recCheck_trig _ t).trans ((W.recTrigCode_enabled (by rw [recStart_recd]; exact on)).1 (mt (recFull_start s).mp room))
  · show (recEnter s R.REC_TRIG).recWrite 0x060 _ = _
    unfold W.recWrite W.recTrig
    rw [if_pos rfl, if_pos go, number, code, if_pos (.inl rfl), W.recClaim_room _ (mt (recFull_enter s).mp room), recEnter_recd]
    rfl

/-- The host's trigger that finds the queue full is refused and counted as lost (R93, R781). -/
theorem trigHost_lost (h : Open s R.REC_TRIG) (on : bit (s.recd.trig[t]).cfg 0 = true)
    (full : 32 ≤ s.recd.queue.length ∨ (begin_ s).rdB R.REC_STAT 2 = true) (again : s.recd.lostSince ≠ 0) :
    ∃ u, Completes (.recTrigHost t) s u ∧ u.recd.queue = s.recd.queue ∧ u.recd.lostSince = s.recd.lostSince + 1 ∧
      u.rdN R.REC_LOST = satInc 32 ((begin_ s).rdN R.REC_LOST) ∧ u.rdF (R.H_ERR 0x07) 0 16 = eFull := by
  obtain ⟨-, number⟩ := trigWord t
  have start := recStart_recd s
  have code : (hostEnter (begin_ s) 0x07).recTrigCode t = eFull :=
    (W.recTrigCode_enabled (by rw [start]; exact on)).2 ((recFull_start s).mpr full)
  have blocked := rec_blocked (trigHost_runs s t) (by decide) h ((recCheck_trig _ t).trans code) (by decide)
  refine ⟨_, blocked, ?_⟩
  have lost : W.blockRefused ((hostEnter (begin_ s) 0x07).err 0x07 eFull) s.mem R.REC_TRIG eFull (BitVec.ofNat 32 (2 ^ 31 + t.val)) =
      (((hostEnter (begin_ s) 0x07).err 0x07 eFull).recTrig t 2).1 := by
    unfold W.blockRefused
    rw [if_neg (by decide), if_pos ⟨rfl, rfl⟩, number]
  have recd : ((hostEnter (begin_ s) 0x07).err 0x07 eFull).recd = s.recd := (W.err_recd _ _ _).trans start
  have regs : ∀ a, a ≠ R.H_ERR 0x07 → ((hostEnter (begin_ s) 0x07).err 0x07 eFull).rd a = (hostEnter (begin_ s) 0x07).rd a :=
    fun a ha => W.rd_wr_ne _ _ _ _ ha
  have isFull : ((hostEnter (begin_ s) 0x07).err 0x07 eFull).recFull := by
    have := (recFull_start s).mpr full
    unfold W.recFull W.rdB at this ⊢
    rw [recd, regs _ (by decide), ← start]
    exact this
  obtain ⟨queue, since, count, others⟩ := W.recTrig_lost (t := t) 2
    ((W.recTrigCode_enabled (by rw [recd]; exact on)).2 isFull) isFull (by rw [recd]; exact again)
  have shown : ((hostEnter (begin_ s) 0x07).err 0x07 eFull).rdF (R.H_ERR 0x07) 0 16 = eFull := by
    unfold W.rdF W.err fld
    rw [if_neg (by decide), W.rd_wr_same, BitVec.toNat_ofNat, Nat.shiftRight_zero]
    generalize satInc 16 _ = n
    unfold eFull
    omega
  rw [lost]
  rw [recd] at queue since
  refine ⟨(congrArg RecSt.queue (spend_recd _ _ _)).trans queue, (congrArg RecSt.lostSince (spend_recd _ _ _)).trans since, ?_, ?_⟩
  · unfold W.rdN at count ⊢
    rw [W.spend_rd _ _ _ _ (by decide), count, regs _ (by decide), recStart_rd s (by decide)]
  · unfold W.rdF at shown ⊢
    rw [W.spend_rd _ _ _ _ (by decide), others _ (by decide) (by decide), shown]

end

/-! ## TRG_SEL and TRG_CFG (R776) -/

/-- A write of TRG_SEL shows the trigger's list. -/
theorem trgSel_takes {s : State} {t : Fin 64} (h : Open s R.REC_TRG_SEL) : Takes (.recTrgSel t) s R.REC_TRG_SEL fun u =>
    (List.range 56).foldl (fun u j => u.wr (R.REC_LIST j) ((s.recd.trig[t]).list.getD j 0)) (u.wrN R.REC_TRG_SEL t) := by
  have number : fld (BitVec.ofNat 32 t.val) 0 6 = t.val := (by decide : ∀ t : Fin 64, fld (BitVec.ofNat 32 t.val) 0 6 = t.val) t
  have runs : exec (.recTrgSel t) s = run (fun m w => w.hostWord {} m R.REC_TRG_SEL (BitVec.ofNat 32 t.val)) s := rfl
  refine rec_takes runs (by decide) h rfl ?_
  show (recEnter s R.REC_TRG_SEL).recWrite 0x068 _ = _
  unfold W.recWrite
  rw [if_neg (by decide), if_neg (by decide), if_pos rfl, number, recEnter_recd, vector_getD _ _ _ t.isLt]
  rfl

section
variable {s : State} {v : Word}

theorem trgCfg_runs (s : State) (v : Word) : exec (.recTrgCfg v) s = run (fun m w => w.hostWord {} m R.REC_TRG_CFG v) s := by
  show run (fun m w => w.put32 m R.REC_TRG_CFG v.toNat) s = _
  unfold W.put32
  rw [BitVec.ofNat_toNat, BitVec.setWidth_eq]

/-- The code of a write of TRG_CFG: a forbidden page, then the length, then an address that is no register (R776). -/
theorem recCheck_trgCfg (s : State) (v : Word) :
    (hostEnter (begin_ s) 0x07).recCheck 0x06C v =
      (let staged := (List.range (min (fld v 8 7) 56)).map fun j => (begin_ s).rdF (R.REC_LIST j) 0 19
       if staged.any (fun x => [0x05, 0x3D, 0x3E, 0x42].contains (x / 0x1000)) then ePerm
       else if 56 < fld v 8 7 then eLen
       else if staged.any (fun x => x % 4 != 0 || (pageDomain (x / 0x1000)).isNone) then eRange else 0) := by
  have staged : (hostEnter (begin_ s) 0x07).recStaged (fld v 8 7) =
      (List.range (min (fld v 8 7) 56)).map fun j => (begin_ s).rdF (R.REC_LIST j) 0 19 := by
    unfold W.recStaged W.rdF
    refine List.map_congr_left fun j hj => ?_
    rw [recStart_rd s (by rw [List.mem_range] at hj; simp only [R.REC_LIST]; omega)]
  have forbidden : W.recForbidden = fun p => [0x05, 0x3D, 0x3E, 0x42].contains p := by
    funext p
    unfold W.recForbidden
    rw [Bool.eq_iff_iff]
    simp [or_assoc]
  unfold W.recCheck
  rw [if_neg (by decide), if_neg (by decide), if_pos rfl]
  dsimp only
  rw [staged, forbidden]
  simp only [firstCode, decide_eq_true_eq]

/-- A write of TRG_CFG that its checks accept stores the staged list and the configuration. -/
theorem trgCfg_takes (h : Open s R.REC_TRG_CFG) (check : (hostEnter (begin_ s) 0x07).recCheck 0x06C v = 0) :
    Takes (.recTrgCfg v) s R.REC_TRG_CFG fun u =>
      let sel := (begin_ s).rdF R.REC_TRG_SEL 0 6
      let new : RecTrig := { (s.recd.trig.getD sel {}) with
        cfg := v &&& 0x7F03#32, list := (List.range 56).map fun j => (begin_ s).rd (R.REC_LIST j) }
      { u with recd.trig := s.recd.trig.setIfInBounds sel new } := by
  have selected : (recEnter s R.REC_TRG_CFG).rdF R.REC_TRG_SEL 0 6 = (begin_ s).rdF R.REC_TRG_SEL 0 6 := by
    unfold W.rdF
    rw [recEnter_rd s (by decide) (by decide)]
  have list : (List.range 56).map (fun j => (recEnter s R.REC_TRG_CFG).rd (R.REC_LIST j)) =
      (List.range 56).map fun j => (begin_ s).rd (R.REC_LIST j) := by
    refine List.map_congr_left fun j hj => ?_
    rw [recEnter_rd s (by decide) (by rw [List.mem_range] at hj; simp only [R.REC_LIST]; omega)]
  refine rec_takes (trgCfg_runs s v) (by decide) h check ?_
  show (recEnter s R.REC_TRG_CFG).recWrite 0x06C v = _
  unfold W.recWrite
  rw [if_neg (by decide), if_neg (by decide), if_neg (by decide), if_pos rfl]
  dsimp only
  rw [selected, list, recEnter_recd]

end

/-! ## CLEAR (R787, R788) -/

section
variable {s : State}

theorem clearEddy_runs (s : State) : exec .recClearEddy s = run (fun m w => w.hostWord {} m R.REC_CLEAR 1) s := rfl
theorem clearCalm_runs (s : State) : exec .recClearCalm s = run (fun m w => w.hostWord {} m R.REC_CLEAR 2) s := rfl

theorem recCheck_clearEddy (s : State) :
    (hostEnter (begin_ s) 0x07).recCheck 0x064 1 = if s.recd.clearing ≠ 0 then eBusy else 0 := by
  have calm : bit (1 : Word) 1 = false := by decide
  have named : (fld (1 : Word) 0 2 != 0) = true := by decide
  unfold W.recCheck
  rw [if_neg (by decide), if_pos rfl, recStart_recd, calm, named]
  simp [firstCode]

theorem recCheck_clearCalm (s : State) :
    (hostEnter (begin_ s) 0x07).recCheck 0x064 2 =
      if (begin_ s).rdF R.KEY_STAT 0 3 = 2 then ePerm else if s.recd.clearing ≠ 0 then eBusy else 0 := by
  have calm : bit (2 : Word) 1 = true := by decide
  have named : (fld (2 : Word) 0 2 != 0) = true := by decide
  have key : (hostEnter (begin_ s) 0x07).rdF R.KEY_STAT 0 3 = (begin_ s).rdF R.KEY_STAT 0 3 := by
    unfold W.rdF
    rw [recStart_rd s (by decide)]
  unfold W.recCheck
  rw [if_neg (by decide), if_pos rfl, recStart_recd, calm, named, key]
  simp [firstCode]

/-- An accepted write of CLEAR begins the clears that it names. -/
theorem clear_takes {c : Instr} {v : Word} {n : Nat} (runs : exec c s = run (fun m w => w.hostWord {} m R.REC_CLEAR v) s)
    (h : Open s R.REC_CLEAR) (check : (hostEnter (begin_ s) 0x07).recCheck 0x064 v = 0) (named : fld v 0 2 = n) (names : n ≠ 0) :
    Takes c s R.REC_CLEAR fun u => ({ u with recd.clearing := n } : W).wrB R.REC_STAT 3 true := by
  refine rec_takes runs (by decide) h check ?_
  show (recEnter s R.REC_CLEAR).recWrite 0x064 v = _
  unfold W.recWrite
  rw [if_neg (by decide), if_pos rfl, named, if_neg names]

end

end Sys2Proof.Machine
end

section
/-!
PROOF. What the recorder does of itself (R778, R779, R781, R783 to R788): captures, the record at the head of the queue, the start-up
scan, the end of a clear.
-/
namespace Sys2Proof.Machine

/-! ## A block that is not held in reset -/

section
variable {c : Instr} {s : State} {f : Memory → W → W}

/-- A command of a block that is not held in reset ends in the block's effect. -/
theorem completes_live {u : W} (runs : exec c s = run (fun m w => w.live (f m)) s) (live : s.pwr.held = false)
    (effect : f s.mem (begin_ s) = u) : Completes c s u :=
  completes_of_run runs ((if_neg (by rw [show (begin_ s).pwr.held = false from live]; decide)).trans effect)

/-- A command of a block that is held in reset, or has nothing to do, changes nothing. -/
theorem completes_idle (runs : exec c s = run (fun m w => w.live (f m)) s) (idle : s.pwr.held = true ∨ f s.mem (begin_ s) = begin_ s) :
    Completes c s (begin_ s) := by
  refine completes_of_run runs ?_
  show (if (begin_ s).pwr.held = true then begin_ s else f s.mem (begin_ s)) = begin_ s
  rcases idle with held | nothing
  · exact if_pos held
  · rw [nothing, ite_self]

end

namespace W

/-! ## Captures (R778, R779) -/

theorem capture_none {w : W} (read : W → Nat → RecRead) (captured : w.recd.queue.findIdx? (fun i => i.cap.isNone) = none) :
    w.capture read = w := by
  unfold capture
  rw [captured]

/-- The item that a capture takes. -/
theorem capture_item {w : W} {k : Nat} {it : RecItem} (read : W → Nat → RecRead)
    (first : w.recd.queue.findIdx? (fun i => i.cap.isNone) = some k) (item : w.recd.queue[k]? = some it) :
    w.capture read =
      (let got : W × List Word × Bool × Bool :=
        if it.trigger < 64 then recReadAll read (w.recList it.trigger) w else (w, it.internal, false, false)
       let scanning := got.1.rdB R.REC_STAT 0
       let captured : W := { (if scanning then got.1 else got.1.inc R.REC_SEQ_NEXT) with
        recd.queue := got.1.recd.queue.set k { it with
          cap := some ⟨w.tsc, w.rtcSec, w.tinv, got.2.2.1, got.2.2.2, got.2.1,
            if scanning then none else some (got.1.rd R.REC_SEQ_NEXT)⟩ } }
       if it.trigger < 64 then
         let old : RecTrig := captured.recd.trig.getD it.trigger {}
         { captured with recd.trig := captured.recd.trig.setIfInBounds it.trigger { old with cnt := old.cnt + 1#32 } }
       else captured) := by
  have head : w.recd.queue.getD k default = it := by rw [List.getD_eq_getElem?_getD, item]; rfl
  unfold capture
  simp only [first, head]
  generalize (if it.trigger < 64 then recReadAll read (w.recList it.trigger) w else (w, it.internal, false, false)) = got
  obtain ⟨u, payload, off, woke⟩ := got
  dsimp only
  cases u.rdB R.REC_STAT 0 <;> rfl

/-! ## Bytes put into MRAM -/

theorem mramPutN_shell : ∀ (fuel : Nat) (w : W) (off : Nat) (d : List Byte),
    (mramPutN fuel w off d).regs = w.regs ∧ (mramPutN fuel w off d).recd = w.recd
  | 0, _, _, _ => ⟨rfl, rfl⟩
  | k + 1, w, off, d => by
    unfold mramPutN
    split
    · exact ⟨rfl, rfl⟩
    · obtain ⟨regs, recd⟩ := mramPutN_shell k (((w.putBytes (mramBase + w.phys off) (d.take (4096 - off % 4096))).ueWritten (w.phys off)
        (min (4096 - off % 4096) d.length)).wear (w.phys off / 4096)) (off + (4096 - off % 4096)) (d.drop (4096 - off % 4096))
      have put : ∀ (u : W) (p n k : Nat), ((u.ueWritten p n).wear k).regs = u.regs ∧ ((u.ueWritten p n).wear k).recd = u.recd := by
        intro u p n k
        unfold ueWritten
        split <;> exact ⟨rfl, rfl⟩
      obtain ⟨putRegs, putRecd⟩ := put (w.putBytes (mramBase + w.phys off) (d.take (4096 - off % 4096))) (w.phys off)
        (min (4096 - off % 4096) d.length) (w.phys off / 4096)
      exact ⟨regs.trans (putRegs.trans (congrArg Dev.regs (putBytes_toDev ..))), recd.trans (putRecd.trans (putBytes_recd ..))⟩

/-- MRAM is written beside the registers and the recorder's state. -/
@[simp] theorem mramPut_rd (w : W) (off a : Nat) (d : List Byte) : (w.mramPut off d).rd a = w.rd a := by
  unfold rd mramPut
  rw [(mramPutN_shell _ w off d).1]

@[simp] theorem mramPut_recd (w : W) (off : Nat) (d : List Byte) : (w.mramPut off d).recd = w.recd := (mramPutN_shell _ w off d).2

/-! ## The record at the head of the queue (R784) -/

/-- Nothing is written during a scan and a clear, without a record, and before the record has its capture and SEQ. -/
theorem recordWrite_waits {w : W} {it : RecItem} {rest : List RecItem}
    (waits : ¬ (w.rdB R.REC_STAT 0 = false ∧ w.rdB R.REC_STAT 3 = false) ∨ w.recd.queue = [] ∨
      (w.recd.queue = it :: rest ∧ (it.cap.bind (·.seq)) = none)) : w.recordWrite = w := by
  unfold recordWrite
  split
  · rfl
  · rename_i idle
    rcases waits with busy | empty | ⟨head, noSeq⟩
    · simp at idle busy
      exact absurd idle.2 (by simp [busy idle.1])
    · rw [empty]
    · rw [head]
      cases cap : it.cap with
      | none => simp only [cap]
      | some c =>
        rw [cap] at noSeq
        have : c.seq = none := noSeq
        simp only [cap, this]

/-- The area of the record: Eddy for a trigger that names it, and where Calm is full. -/
def toEddy (w : W) (it : RecItem) : Bool :=
  decide ((it.trigger < 64 ∧ bit (w.recd.trig.getD it.trigger {}).cfg 1 = true) ∨ w.recd.calm ≤ w.rdN R.REC_CALM_NEXT)

/-- The record stored in the next slot of its area. -/
def stored (w : W) (it : RecItem) (cap : RecCap) (seq : Word) (rest : List RecItem) : W :=
  let popped : W := { w with recd.queue := rest }
  let slot := if w.toEddy it then w.recd.calm + w.rdN R.REC_EDDY_NEXT else w.rdN R.REC_CALM_NEXT
  (popped.mramPut (w.slotAt slot) (recordBytes it cap seq (w.toEddy it) ++ toLe 4 0xA5C33C5A)).inc R.REC_WRITTEN

section
variable {w : W} {it : RecItem} {cap : RecCap} {seq : Word} {rest : List RecItem}

theorem stored_rd {a : Nat} (h : a ≠ R.REC_WRITTEN) : (w.stored it cap seq rest).rd a = w.rd a := by
  unfold stored inc
  rw [rd_wrN, if_neg h, mramPut_rd]
  rfl

theorem stored_recd : (w.stored it cap seq rest).recd = { w.recd with queue := rest } := by
  unfold stored
  rw [inc_recd, mramPut_recd]

/-- What becomes of a record at the head of the queue that has its SEQ. -/
theorem recordWrite_head (idle : w.rdB R.REC_STAT 0 = false ∧ w.rdB R.REC_STAT 3 = false) (head : w.recd.queue = it :: rest)
    (captured : it.cap = some cap) (given : cap.seq = some seq) :
    (w.toEddy it = true → w.recd.eddy = 0 → w.recordWrite = ({ w with recd.queue := rest } : W).recMarker) ∧
    (w.toEddy it = true → w.recd.eddy ≠ 0 → w.recordWrite =
      ((w.stored it cap seq rest).wrN R.REC_EDDY_NEXT
        ((w.rdN R.REC_EDDY_NEXT + 1) % w.recd.eddy)).recMarker) ∧
    (w.toEddy it = false → w.recordWrite =
      (let u := (w.stored it cap seq rest).wrN R.REC_CALM_NEXT (w.rdN R.REC_CALM_NEXT + 1)
       if w.rdN R.REC_CALM_NEXT + 1 = w.recd.calm then ((u.wrB R.REC_STAT 1 true).raise E.REC_CALM_FULL).recMarker
       else u.recMarker)) := by
  have area : (decide (it.trigger < 64) && bit ((w.recd.trig.getD it.trigger {}).cfg) 1 ||
      decide (w.recd.calm ≤ w.rdN R.REC_CALM_NEXT)) = w.toEddy it := by
    unfold toEddy
    rw [Bool.decide_or, Bool.decide_and, Bool.decide_eq_true]
  have writes : w.recordWrite =
      ((if w.toEddy it = true ∧ w.recd.eddy = 0 then ({ w with recd.queue := rest } : W)
        else
          let u := w.stored it cap seq rest
          if w.toEddy it then u.wrN R.REC_EDDY_NEXT ((u.rdN R.REC_EDDY_NEXT + 1) % u.recd.eddy)
          else
            let u' := u.wrN R.REC_CALM_NEXT (w.rdN R.REC_CALM_NEXT + 1)
            if w.rdN R.REC_CALM_NEXT + 1 = u'.recd.calm then (u'.wrB R.REC_STAT 1 true).raise E.REC_CALM_FULL else u' : W)).recMarker := by
    unfold recordWrite
    rw [idle.1, idle.2, head]
    simp only [captured, given, area]
    rfl
  refine ⟨fun eddy noEddy => ?_, fun eddy slots => ?_, fun calm => ?_⟩
  · rw [writes, if_pos ⟨eddy, noEddy⟩]
  · rw [writes, if_neg fun h => slots h.2]
    simp only [eddy, if_true]
    rw [stored_recd]
    unfold rdN
    rw [stored_rd (by decide)]
  · rw [writes, if_neg fun h => absurd h.1 (by rw [calm]; decide)]
    simp only [calm, Bool.false_eq_true, if_false, wrN_recd, stored_recd]
    split <;> rfl

end

/-! ## The end of a clear (R788) -/

theorem recZero_recd (w : W) (lo n : Nat) : (w.recZero lo n).recd = w.recd := by
  unfold recZero
  generalize List.range n = l
  induction l generalizing w with
  | nil => rfl
  | cons i l ih => exact (ih _).trans (mramPut_recd ..)

/-- The clears in progress zero their slots. -/
theorem recCleared_zeroes {w : W} (clearing : w.recd.clearing ≠ 0) :
    w.recCleared =
      (let u := if w.recd.clearing.testBit 0 then (w.recZero w.recd.calm w.recd.eddy).wr R.REC_EDDY_NEXT 0 else w
       let u := if w.recd.clearing.testBit 1 then ((u.recZero 0 w.recd.calm).wr R.REC_CALM_NEXT 0).wrB R.REC_STAT 1 false else u
       (({ u with recd.clearing := 0 } : W).wrB R.REC_STAT 3 false).raise E.REC_CLEARED) := by
  have calm : (if w.recd.clearing.testBit 0 then (w.recZero w.recd.calm w.recd.eddy).wr R.REC_EDDY_NEXT 0 else w).recd.calm = w.recd.calm := by
    split
    · rw [wr_recd, recZero_recd]
    · rfl
  unfold recCleared
  simp only [if_neg clearing, calm]

/-! ## The start-up scan (R783, R785) -/

/-- The geometry with which the scan begins. -/
theorem recScan_eq (w : W) :
    w.recScan =
      (let area := w.partSize 6 / 256
       let bad := decide (w.rdN R.REC_CALM_SLOTS % 16 ≠ 0 ∨ area < w.rdN R.REC_CALM_SLOTS + 16)
       let got := if bad then 0 else w.rdN R.REC_CALM_SLOTS
       (({ w with recd.calm := got, recd.eddy := area - got, recd.scanOn := true } : W).wrB R.REC_STAT 0 true).wrB R.REC_STAT 4 bad) := by
  unfold recScan
  simp only [decide_eq_true_eq]

/-- The record after a scan: what it found, with the queue's SEQ values given. -/
def scanned (w : W) (queue : List RecItem) (calmNext eddyNext next torn : Nat) : W :=
  let u : W := { w with recd.queue := queue, recd.scanOn := false }
  let u := ((u.wrN R.REC_CALM_NEXT calmNext).wrN R.REC_EDDY_NEXT eddyNext).wrN R.REC_SEQ_NEXT next
  let u := (u.wrN R.REC_TORN torn).wrB R.REC_STAT 0 false
  u.wrB R.REC_STAT 1 (u.recd.calm != 0 && calmNext == u.recd.calm)

/-- Slots whose MAGIC is not correct are not torn, so the scan judges each slot as `slotState` does. -/
theorem slot_torn (w : W) (m : Memory) (o : Nat) :
    (if leNat ((w.mram m o 4).take 2) ≠ 0xEC5A then false else (slotState (w.mram m o 256)).2) = (slotState (w.mram m o 256)).2 := by
  have magic : (w.mram m o 4).take 2 = (w.mram m o 256).take 2 := rfl
  rw [magic]
  split
  · rename_i wrong
    unfold slotState
    rw [if_pos wrong]
  · rfl

/-- The slots that a scan without an uncorrectable word counts as torn. -/
def tornSlots (w : W) (m : Memory) : Nat :=
  ((List.range (w.recd.calm + w.recd.eddy)).filter fun i => (slotState (w.mram m (w.slotAt i) 256)).2).length

theorem mramMeets_nil {w : W} (sound : w.age.ueWords = []) : w.mramMeets [] [] = w := by
  have : (([] : List Nat).map fun o => w.phys o / 8 * 8) ++ w.age.ueWords = [] := by rw [sound]; rfl
  unfold mramMeets
  dsimp only [List.foldl_nil]
  rw [this, List.eraseDups_nil, ← sound]

/-- How a scan that meets no error ends. -/
theorem recScanDone_sound {w : W} (m : Memory) (scanning : w.recd.scanOn = true) (sound : w.age.ueWords = []) :
    ∃ queue calmNext eddyNext next payload, w.recScanDone m [] [] =
      (((w.scanned queue calmNext eddyNext next (w.tornSlots m)).raiseIf (w.tornSlots m != 0) E.REC_TORN).raise E.REC_READY).recInternal
        252 payload := by
  have lost : w.recLostSlots = [] := by unfold recLostSlots; rw [sound]; rfl
  have touch : ∀ o n, w.mramTouch o n = w := fun o n => by unfold mramTouch; rw [sound]; rfl
  have count : (((List.range (w.recd.calm + w.recd.eddy)).map fun s =>
      if leNat ((w.mram m (w.slotAt s) 4).take 2) ≠ 0xEC5A then (s, none, false)
      else (s, (slotState (w.mram m (w.slotAt s) 256)).1, (slotState (w.mram m (w.slotAt s) 256)).2)).filter
        fun e : Nat × Option Nat × Bool => e.2.2).length = w.tornSlots m := by
    unfold tornSlots
    rw [List.filter_map, List.length_map]
    congr 1
    refine List.filter_congr fun i _ => ?_
    rw [← slot_torn, Function.comp_apply]
    split <;> rfl
  unfold recScanDone
  rw [if_neg (by rw [scanning]; decide)]
  simp only [mramMeets_nil sound, lost, touch, List.contains_nil, Bool.false_eq_true, if_false]
  rw [count]
  exact ⟨_, _, _, _, _, rfl⟩

end W

end Sys2Proof.Machine
end

section
/-!
PROOF. The scan's end in any state of the device: what its events, the wake that they bring and its internal record leave of it (R108,
R780, R785).
-/
namespace Sys2Proof.Machine

/-- The scan's mark in the recorder and in STAT is as before, and a READY that is pending stays pending. -/
structure KeepsScan (w u : W) : Prop where
  scanOn : u.recd.scanOn = w.recd.scanOn
  scan : u.rdB R.REC_STAT 0 = w.rdB R.REC_STAT 0
  ready : w.rdB (R.H_EVT_PEND 0x07) E.REC_READY.2 = true → u.rdB (R.H_EVT_PEND 0x07) E.REC_READY.2 = true

namespace KeepsScan

theorem of_regs {w u : W} (recd : u.recd.scanOn = w.recd.scanOn) (regs : u.regs = w.regs) : KeepsScan w u := by
  have rd : ∀ a i, u.rdB a i = w.rdB a i := fun a i => by unfold W.rdB W.rd; rw [regs]
  exact ⟨recd, rd _ _, fun h => by rw [rd]; exact h⟩

theorem refl (w : W) : KeepsScan w w := of_regs rfl rfl

theorem trans {w u v : W} (h : KeepsScan w u) (k : KeepsScan u v) : KeepsScan w v :=
  ⟨k.scanOn.trans h.scanOn, k.scan.trans h.scan, fun r => k.ready (h.ready r)⟩

theorem ite {w u v : W} {c : Prop} [Decidable c] (h : KeepsScan w u) (k : KeepsScan w v) : KeepsScan w (if c then u else v) := by
  split <;> assumption

theorem foldl {α : Type} {f : W → α → W} (hf : ∀ u x, KeepsScan u (f u x)) : ∀ (l : List α) (w : W), KeepsScan w (l.foldl f w)
  | [], w => refl w
  | x :: t, w => (hf w x).trans (foldl hf t (f w x))

theorem wr (w : W) {a : Nat} (v : Word) (stat : a ≠ R.REC_STAT) (pend : a ≠ R.H_EVT_PEND 0x07) : KeepsScan w (w.wr a v) := by
  have rd : ∀ b i, b ≠ a → (w.wr a v).rdB b i = w.rdB b i := fun b i h => by unfold W.rdB; rw [W.rd_wr_ne _ _ _ _ h]
  exact ⟨rfl, rd _ _ stat.symm, fun h => by rw [rd _ _ pend.symm]; exact h⟩

/-- A bit set outside STAT. -/
theorem set (w : W) {a i : Nat} (stat : a ≠ R.REC_STAT) (hi : i < 32) : KeepsScan w (w.wrB a i true) := by
  refine ⟨rfl, ?_, fun h => ?_⟩
  · unfold W.rdB
    rw [W.rd_wrB, if_neg stat.symm]
  · by_cases pend : R.H_EVT_PEND 0x07 = a
    · subst pend
      by_cases same : E.REC_READY.2 = i
      · subst same
        exact W.rdB_wrB_same _ _ _ _ hi
      · rw [W.rdB_wrB_apart _ _ _ _ _ hi same]
        exact h
    · unfold W.rdB at h ⊢
      rw [W.rd_wrB, if_neg pend]
      exact h

/-- STAT.OVERFLOW shows a loss. -/
theorem overflow (w : W) : KeepsScan w (w.wrB R.REC_STAT 2 true) := by
  refine ⟨rfl, W.rdB_wrB_apart _ _ _ _ _ (by decide) (by decide), fun h => ?_⟩
  unfold W.rdB at h ⊢
  rw [W.rd_wrB, if_neg (by decide)]
  exact h

theorem msixSend (w : W) (v : Nat) : KeepsScan w (w.msixSend v) := by
  unfold W.msixSend
  dsimp only
  repeat' split
  all_goals exact of_regs rfl rfl

theorem recClaim (w : W) (it : RecItem) : KeepsScan w (w.recClaim it).1 := by
  unfold W.recClaim
  dsimp only
  split
  · exact of_regs rfl rfl
  · refine trans ?_ (overflow _)
    exact (wr w (a := R.REC_LOST) _ (by decide) (by decide)).trans (of_regs rfl rfl)

theorem route {again : W → W} (ha : ∀ u, KeepsScan u (again u)) (w : W) (n : Nat) (hn : n < 256) : KeepsScan w (W.route again w n) := by
  unfold W.route
  dsimp only
  refine trans ?_ (foldl (fun u t => ?_) _ _)
  · refine trans ?_ (foldl (fun u e => ?_) _ _)
    · have latch : R.EVT_EVTLAT (n / 32) ≠ R.REC_STAT := by simp only [R.EVT_EVTLAT, R.REC_STAT]; omega
      exact trans (set w latch (by omega)) (ite (refl _) (foldl (fun u v => ite (msixSend u v) (refl u)) _ _))
    · exact ite (of_regs rfl rfl) (refl u)
  · refine ite ?_ (refl u)
    exact ite ((recClaim u _).trans (ha _)) (recClaim u _)

theorem armWatch (w : W) (n : Nat) : KeepsScan w (w.armWatch n) := by
  unfold W.armWatch
  exact ite (of_regs rfl rfl) (refl w)

theorem occurN : ∀ (k : Nat) (e : Nat × Nat) (w : W), e.2 < 32 → KeepsScan w (W.occurN k e w)
  | 0, _, w, _ => refl w
  | k + 1, e, w, h => by
    have pend : R.H_EVT_PEND e.1 ≠ R.REC_STAT := by simp only [R.H_EVT_PEND, R.REC_STAT]; omega
    unfold W.occurN
    dsimp only
    refine ite ((set w pend h).trans (ite (refl _) ?_)) (refl w)
    split
    · rename_i n hn
      exact (armWatch _ n).trans (route (fun u => occurN k E.REC_LOST u (by decide)) _ n (SameWatch.globalEvent_lt hn))
    · exact refl _

theorem occur (w : W) {e : Nat × Nat} (h : e.2 < 32) : KeepsScan w (w.occur e) := occurN 3 e w h

theorem setPstate (w : W) (v : Nat) : KeepsScan w (w.setPstate v) := by
  unfold W.setPstate
  exact ite (refl w) ((wr w (a := R.PWR_STATE) _ (by decide) (by decide)).trans (occur _ (by decide)))

theorem startPllSys (w : W) : KeepsScan w w.startPllSys := by
  unfold W.startPllSys
  exact ite (refl w) (of_regs rfl rfl)

theorem setDom (w : W) (d v : Nat) : KeepsScan w (w.setDom d v) := wr w (a := R.PWR_DOM_STAT) _ (by decide) (by decide)

theorem moving (w : W) : KeepsScan w (w.wrB R.PWR_STATE 3 true) := set w (by decide) (by decide)

theorem abortEntry (w : W) : KeepsScan w w.abortEntry := by
  have cleared : KeepsScan w { w.wr R.PWR_STATE_REQ 0 with pwr.lullEntry := false } :=
    (wr w (a := R.PWR_STATE_REQ) 0 (by decide) (by decide)).trans (of_regs rfl rfl)
  unfold W.abortEntry
  exact ite (refl w) (trans (cleared.trans (wr _ (a := R.PWR_ENTRY_ABORT) _ (by decide) (by decide))) (occur _ (by decide)))

theorem demand (w : W) (d : Nat) : KeepsScan w (w.demand d) := by
  unfold W.demand
  refine ite (refl w) ?_
  dsimp only
  refine trans (trans ((abortEntry w).trans ((setPstate _ 0).trans (startPllSys _))) (trans ?_ (setDom _ d 3))) (moving _)
  exact ite (of_regs rfl rfl) (refl _)

theorem wakeHold (w : W) : KeepsScan w { w with pwr.wakeHold := true } := of_regs rfl rfl

theorem wake (w : W) : KeepsScan w w.wake := by
  unfold W.wake
  dsimp only
  refine trans (abortEntry w) ?_
  generalize w.abortEntry = w
  refine ite (refl w) ?_
  have low : KeepsScan w (if (!w.qspiSel && w.rdB R.HIF_CFG 1 && !w.linkUp) = true then { w with hif.peWakeLow := true } else w) :=
    ite (of_regs rfl rfl) (refl w)
  refine trans low ?_
  generalize (if (!w.qspiSel && w.rdB R.HIF_CFG 1 && !w.linkUp) = true then { w with hif.peWakeLow := true } else w) = u
  refine trans ?_ (demand _ 9)
  refine trans ?_ (wakeHold _)
  refine trans ?_ ((setPstate _ 0).trans (startPllSys _))
  split
  · have start : ∀ (x : W) (d : Nat), KeepsScan x (if x.buckFaulted d = true then x else x.setDom d 3) :=
      fun x d => ite (refl x) (setDom x d 3)
    exact ((start u 2).trans (start _ 3)).trans ((moving _).trans (setPstate _ 1))
  · exact refl u

theorem raise (w : W) {e : Nat × Nat} (h : e.2 < 32) : KeepsScan w (w.raise e) := by
  unfold W.raise
  exact ite ((occur w h).trans (wake _)) (occur w h)

theorem raiseIf (w : W) (c : Bool) {e : Nat × Nat} (h : e.2 < 32) : KeepsScan w (w.raiseIf c e) := by
  unfold W.raiseIf
  exact ite (raise w h) (refl w)

theorem recInternal (w : W) (kind : Nat) (payload : List Word) : KeepsScan w (w.recInternal kind payload) := by
  unfold W.recInternal
  exact ite (refl w) ((recClaim w _).trans (raiseIf _ _ (by decide)))

/-- An enabled READY becomes pending, in a device held in reset as well (R64, R769). -/
theorem raise_ready {w : W} (on : w.rdB (R.H_EVT_EN 0x07) E.REC_READY.2 = true) :
    (w.raise E.REC_READY).rdB (R.H_EVT_PEND 0x07) E.REC_READY.2 = true := by
  have pending : (w.occur E.REC_READY).rdB (R.H_EVT_PEND 0x07) E.REC_READY.2 = true := by
    have set : (w.wrB (R.H_EVT_PEND E.REC_READY.1) E.REC_READY.2 true).rdB (R.H_EVT_PEND 0x07) E.REC_READY.2 = true :=
      W.rdB_wrB_same _ _ _ _ (by decide)
    unfold W.occur W.occurN
    dsimp only
    rw [if_pos (show w.rdB (R.H_EVT_EN E.REC_READY.1) E.REC_READY.2 = true from on)]
    split
    · exact set
    · split
      · rename_i n hn
        exact ((armWatch _ n).trans (route (fun u => occurN 2 E.REC_LOST u (by decide)) _ n (SameWatch.globalEvent_lt hn))).ready set
      · exact set
  unfold W.raise
  dsimp only
  split
  · exact (wake _).ready pending
  · exact pending

end KeepsScan

namespace Only

theorem raiseIf_wake (w : W) (c : Bool) (e : Nat × Nat) : Only wakeReg w (w.raiseIf c e) := by
  unfold W.raiseIf
  exact ite (raise_wake w e) (refl _ w)

theorem recInternal_wake (w : W) (kind : Nat) (payload : List Word) : Only wakeReg w (w.recInternal kind payload) := by
  unfold W.recInternal
  exact ite (refl _ w) (((recClaim w _).weaken fun _ => evtReg_of_wakeReg).trans (raiseIf_wake _ _ _))

end Only

namespace W

section
variable (w : W) (queue : List RecItem) (calmNext eddyNext next torn : Nat)

theorem scanned_torn : (w.scanned queue calmNext eddyNext next torn).rdN R.REC_TORN = torn % 2 ^ 32 := by
  unfold scanned rdN
  dsimp only
  rw [rd_wrB, if_neg (by decide), rd_wrB, if_neg (by decide), rd_wrN, if_pos rfl, BitVec.toNat_ofNat]

theorem scanned_scan : (w.scanned queue calmNext eddyNext next torn).rdB R.REC_STAT 0 = false := by
  unfold scanned
  dsimp only
  rw [rdB_wrB_apart _ _ _ _ _ (by decide) (by decide), rdB_wrB_same _ _ _ _ (by decide)]

theorem scanned_enabled (i : Nat) : (w.scanned queue calmNext eddyNext next torn).rdB (R.H_EVT_EN 0x07) i = w.rdB (R.H_EVT_EN 0x07) i := by
  unfold scanned rdB
  dsimp only
  rw [rd_wrB, if_neg (by decide), rd_wrB, if_neg (by decide), rd_wrN, if_neg (by decide), rd_wrN, if_neg (by decide), rd_wrN,
    if_neg (by decide), rd_wrN, if_neg (by decide)]
  rfl

end

/-- A scan that meets no error ends: its mark falls, TORN shows the torn slots, an enabled READY becomes pending (R785). -/
theorem recScanDone_ends {w : W} (m : Memory) (scanning : w.recd.scanOn = true) (sound : w.age.ueWords = []) :
    (w.recScanDone m [] []).recd.scanOn = false ∧ (w.recScanDone m [] []).rdB R.REC_STAT 0 = false ∧
      (w.recScanDone m [] []).rdN R.REC_TORN = w.tornSlots m % 2 ^ 32 ∧
      (w.rdB (R.H_EVT_EN 0x07) E.REC_READY.2 = true → (w.recScanDone m [] []).rdB (R.H_EVT_PEND 0x07) E.REC_READY.2 = true) := by
  obtain ⟨queue, calmNext, eddyNext, next, payload, ends⟩ := recScanDone_sound m scanning sound
  have torn := scanned_torn w queue calmNext eddyNext next (w.tornSlots m)
  have scan := scanned_scan w queue calmNext eddyNext next (w.tornSlots m)
  have enabled := scanned_enabled w queue calmNext eddyNext next (w.tornSlots m) E.REC_READY.2
  have scanOn : (w.scanned queue calmNext eddyNext next (w.tornSlots m)).recd.scanOn = false := rfl
  rw [ends]
  generalize w.scanned queue calmNext eddyNext next (w.tornSlots m) = u at torn scan enabled scanOn
  have first := KeepsScan.raiseIf u (w.tornSlots m != 0) (e := E.REC_TORN) (by decide)
  have firstRegs := Only.raiseIf_wake u (w.tornSlots m != 0) E.REC_TORN
  generalize u.raiseIf (w.tornSlots m != 0) E.REC_TORN = v at first firstRegs
  have rest : KeepsScan (v.raise E.REC_READY) ((v.raise E.REC_READY).recInternal 252 payload) := KeepsScan.recInternal _ _ _
  have all := first.trans ((KeepsScan.raise v (e := E.REC_READY) (by decide)).trans rest)
  have allRegs := firstRegs.trans ((Only.raise_wake v E.REC_READY).trans (Only.recInternal_wake _ 252 payload))
  refine ⟨all.scanOn.trans scanOn, all.scan.trans scan, (allRegs.rdN (by decide)).trans torn, fun on => rest.ready ?_⟩
  refine KeepsScan.raise_ready ?_
  rw [firstRegs.rdB (by decide), enabled]
  exact on

end W

/-! ## The statement -/

/-- What each command of the recorder's own is: its block's effect, where the block is not held in reset. -/
theorem recorder_runs (s : State) :
    exec .capture s = run (fun _ w => w.live (W.capture (W.engRead .recorder))) s ∧
    exec .recordWrite s = run (fun _ w => w.live W.recordWrite) s ∧
    exec .recScan s = run (fun _ w => w.live W.recScan) s ∧
    exec (.recScanDone [] []) s = run (fun m w => w.live (W.recScanDone m [] [])) s ∧
    exec .cleared s = run (fun _ w => w.live W.recCleared) s := ⟨rfl, rfl, rfl, rfl, rfl⟩

/-- Settles O55: host triggers, lists and clears by what the page passes on to its block, the recorder's own commands by what each does of
its block's record; the events at the scan's end leave its results. -/
theorem triggersAndRecords : Obligations.TriggersAndRecords := by
  unfold Obligations.TriggersAndRecords
  intro s t v it cap seq rest k
  obtain ⟨captures, writes, scans, scanEnds, clears⟩ := recorder_runs s
  refine ⟨fun h => ⟨trigHost_disabled h, trigHost_queued h, trigHost_lost h⟩, trgSel_takes, fun h => ⟨fun refused => ?_, fun passes => ?_⟩,
    fun nothing => ?_, fun live first item => ?_, fun waits => ?_, fun live idle head captured given => ?_, fun live => ?_, fun off => ?_,
    fun live scanning sound => ?_, fun h => ⟨fun busy => ?_, fun free => ?_, fun locked => ?_, fun unlocked busy => ?_, fun unlocked free => ?_⟩,
    fun nothing => ?_, fun live clearing => ?_⟩
  · refine rec_refuses (trgCfg_runs s v) (by decide) h (recCheck_trgCfg s v) refused ?_
    split_ifs <;> decide
  · exact trgCfg_takes h ((recCheck_trgCfg s v).trans passes)
  · exact completes_idle captures (nothing.imp id (W.capture_none _))
  · exact completes_live captures live (W.capture_item _ first item)
  · exact completes_idle writes (waits.imp id W.recordWrite_waits)
  · obtain ⟨dropped, eddy, calm⟩ := W.recordWrite_head idle head captured given
    exact ⟨fun e noEddy => completes_live writes live (dropped e noEddy), fun e slots => completes_live writes live (eddy e slots),
      fun c => completes_live writes live (calm c)⟩
  · exact completes_live scans live (W.recScan_eq _)
  · exact completes_idle scanEnds (off.imp id fun off => if_pos (by rw [show (begin_ s).recd.scanOn = false from off]; rfl))
  · exact ⟨_, completes_live scanEnds live rfl, W.recScanDone_ends s.mem scanning sound⟩
  · exact rec_refuses (clearEddy_runs s) (by decide) h ((recCheck_clearEddy s).trans (if_pos busy)) (by decide) (by decide)
  · exact clear_takes (clearEddy_runs s) h ((recCheck_clearEddy s).trans (if_neg (not_not.mpr free))) (by decide) (by decide)
  · exact rec_refuses (clearCalm_runs s) (by decide) h ((recCheck_clearCalm s).trans (if_pos locked)) (by decide) (by decide)
  · exact rec_refuses (clearCalm_runs s) (by decide) h ((recCheck_clearCalm s).trans ((if_neg unlocked).trans (if_pos busy))) (by decide)
      (by decide)
  · exact clear_takes (clearCalm_runs s) h ((recCheck_clearCalm s).trans ((if_neg unlocked).trans (if_neg (not_not.mpr free)))) (by decide)
      (by decide)
  · exact completes_idle clears (nothing.imp id fun zero => if_pos zero)
  · exact completes_live clears live (W.recCleared_zeroes clearing)

end Sys2Proof.Machine
end

section
/-!
PROOF. The margin planner (R145 to R150, R152, R164): when a run takes place, what each of its six steps leaves alone, and what the run
leaves.
-/
namespace Sys2Proof.Machine

/-! ## When a run takes place -/

namespace W

/-- The previous run lies less than 20 hours back (R145). -/
theorem ranEarly_iff (w : W) : w.ranEarly = true ↔
    if w.age.ran = true then w.tscTime < w.age.lastTsc + 20 * 3600 * 100000000
    else ∃ l, w.age.log.lastRtc = some l ∧ w.rd64 R.RTC_EPOCH_S < l + 20 * 3600 := by
  unfold ranEarly
  split
  · exact decide_eq_true_iff
  · cases w.age.log.lastRtc with
    | none => simp
    | some l => simp

/-- The scheduled run does not take place (R145). -/
def skipsSchedule (w : W) (bySet : Bool) : Bool :=
  w.tinv || decide (w.rd64 R.RTC_EPOCH_S % 86400 < w.rdN R.AGE_RUN_TIME) || w.ranEarly || bySet
    || w.age.log.schedDay == some (w.rd64 R.RTC_EPOCH_S / 86400) || w.pwr.held

theorem skipsSchedule_iff (w : W) (bySet : Bool) : w.skipsSchedule bySet = true ↔
    w.tinv = true ∨ w.rd64 R.RTC_EPOCH_S % 86400 < w.rdN R.AGE_RUN_TIME ∨
      (if w.age.ran = true then w.tscTime < w.age.lastTsc + 20 * 3600 * 100000000
       else ∃ l, w.age.log.lastRtc = some l ∧ w.rd64 R.RTC_EPOCH_S < l + 20 * 3600) ∨
      bySet = true ∨ w.age.log.schedDay = some (w.rd64 R.RTC_EPOCH_S / 86400) ∨ w.pwr.held = true := by
  rw [← ranEarly_iff]
  simp only [skipsSchedule, Bool.or_eq_true, decide_eq_true_eq, beq_iff_eq, or_assoc]

/-- The scheduled run: skipped, put off in Deep Lull, or carried out, by the calendar's day (R145, R148). -/
theorem plannerScheduled_eq (c : Canary) (n : Nat) (bySet : Bool) (w : W) :
    w.plannerScheduled c n bySet =
      if w.skipsSchedule bySet = true then w
      else if w.pstate = 2 then { w with age.log.schedDay := some (w.rd64 R.RTC_EPOCH_S / 86400), age.deferred := true }
      else { w with age.log.schedDay := some (w.rd64 R.RTC_EPOCH_S / 86400) }.plannerRun (some c) n := rfl

/-- A block that does nothing in reset need not be told that it is held there. -/
theorem live_of_idle {w : W} {f : W → W} (idle : w.pwr.held = true → f w = w) : w.live f = f w := by
  unfold live
  split
  · exact (idle ‹_›).symm
  · rfl

theorem plannerScheduled_live (c : Canary) (n : Nat) (bySet : Bool) (w : W) :
    w.live (plannerScheduled c n bySet) = w.plannerScheduled c n bySet :=
  live_of_idle fun held => if_pos (by simp [held])

/-- The run by TSC does not take place (R146). -/
def skipsTsc (w : W) : Bool := !w.tinv || decide (w.tscTime < w.age.lastTsc + dayTsc) || w.pwr.held

theorem skipsTsc_iff (w : W) : w.skipsTsc = true ↔
    w.tinv = false ∨ w.tscTime < w.age.lastTsc + 8640000000000 ∨ w.pwr.held = true := by
  simp only [skipsTsc, Bool.or_eq_true, Bool.not_eq_true', decide_eq_true_eq, or_assoc]

/-- The run by TSC: skipped, put off in Deep Lull, or carried out (R146, R148). -/
theorem plannerTsc_eq (c : Canary) (n : Nat) (w : W) :
    w.plannerTsc c n =
      if w.skipsTsc = true then w
      else if w.pstate = 2 then { w with age.deferred := true } else w.plannerRun (some c) n := rfl

theorem plannerTsc_live (c : Canary) (n : Nat) (w : W) : w.live (plannerTsc c n) = w.plannerTsc c n :=
  live_of_idle fun held => if_pos (by simp [held])

end W

/-- The command of the scheduled run, by cases of the run. -/
theorem scheduled_completes {c : Canary} {k : Fin 7} {bySet : Bool} {s : State} {v : W}
    (effect : (begin_ s).plannerScheduled c k bySet = v) : Completes (.plannerRunScheduled c k bySet) s v := by
  have runs : exec (.plannerRunScheduled c k bySet) s = run (fun _ w => w.live (W.plannerScheduled c k.val bySet)) s := rfl
  exact completes_of_run runs ((W.plannerScheduled_live ..).trans effect)

/-- The command of the run by TSC, by cases of the run. -/
theorem byTsc_completes {c : Canary} {k : Fin 7} {s : State} {v : W} (effect : (begin_ s).plannerTsc c k = v) :
    Completes (.plannerRunTsc c k) s v := by
  have runs : exec (.plannerRunTsc c k) s = run (fun _ w => w.live (W.plannerTsc c k.val)) s := rfl
  exact completes_of_run runs ((W.plannerTsc_live ..).trans effect)

/-- A host write of one word that the page and the block accept, in a device in any state. -/
theorem takes_hostReg {c : Instr} {s : State} {off : Nat} {v : Word} {x : Ext} {eff : W → W}
    (runs : exec c s = run (fun m w => w.hostWord x m off v) s) (reg : hostReg off = true) (h : Open s off)
    (meets : ∀ u : W, u.accessMeets s.mem off v x = (u, s.mem))
    (check : (hostEnter (begin_ s) (off / 0x1000)).blockCheck s.mem off v x = 0)
    (effect : ∀ u : W, u.blockWrite s.mem off v x = eff u) : Takes c s off eff := by
  refine completes_of_run runs ?_
  unfold hostReg at reg
  simp only [Bool.and_eq_true, Bool.not_eq_true', decide_eq_true_eq] at reg
  obtain ⟨⟨⟨⟨⟨⟨⟨listed, not5⟩, block⟩, notLow⟩, notHigh⟩, boot⟩, notDbg⟩, writable⟩ := reg
  obtain ⟨d, hd⟩ := Option.ne_none_iff_exists'.mp h.lock.1
  have notRo : d.acc ≠ .ro := by simpa [hd] using writable
  have wake := W.accessWake_other (hostEnter (begin_ s) (off / 0x1000)) off not5
  rw [W.hostWord_accept h.host listed block hd notRo (h.lock.2 d hd) (fun k => absurd k notDbg) notLow notHigh boot meets
    (by rw [wake]; exact check), effect]
  rfl

/-- RUN.NOW runs the planner (R145). -/
theorem runNow_takes {s : State} (c : Canary) (k : Fin 7) (h : Open s R.AGE_RUN) :
    Takes (.plannerRunNow c k) s R.AGE_RUN fun u => u.plannerRun (some c) k := by
  refine takes_hostReg (v := 1) (x := { canary := c, steps := k.val }) rfl (by decide) h
    (fun u => W.accessMeets_other u _ _ _ _ (by decide) (by decide) (by decide) (.inl (by decide))) ?_ fun u => ?_
  · rw [W.check_02 (by decide)]
    rfl
  · rw [W.write_02 (by decide)]
    rfl

/-! ## What a step of a run leaves alone -/

/-- What the planner keeps of its runs: the last by TSC and by RTC, whether one took place, whether one waits, how many went through. -/
def runBook (a : AgeSt) : Nat × Bool × Bool × Option Nat × Nat := (a.lastTsc, a.ran, a.deferred, a.log.lastRtc, a.log.runs)

namespace W

/-- The flush writes the eight sectors of the copy whose turn it is (R157). -/
def logFlushed (w : W) : W := (List.range 8).foldl (fun u i => u.logWear ((if w.age.log.copyB then 8 else 0) + i)) w

theorem wcntFlush_eq (w : W) : w.wcntFlush =
    { w.logFlushed with age.log.wcnt := w.logFlushed.age.wcnt, age.log.copyB := !w.age.log.copyB } := rfl

/-- A scrub interval replaced (R161). -/
def halve (go : Bool) (lo x : Nat) (w : W) : W := if go then w.wrF R.AGE_SCRUB lo 8 x else w

/-- The self-test interval replaced, and deg_max noted (R161). -/
def halveTest (go : Bool) (x deg : Nat) (w : W) : W :=
  if go then { w.wrF R.AGE_SCRUB 16 8 x with age.degHalved := deg } else w

/-- The fifth step shows what it withholds, and replaces intervals unless it withholds that. -/
theorem planRates_eq (w : W) : ∃ pending, w.planRates.1 = w.wrB R.AGE_PENDING 3 pending ∨
    ∃ s m t x y z deg, w.planRates.1 = (((w.wrB R.AGE_PENDING 3 pending).halve s 0 x).halve m 8 y).halveTest t z deg := by
  unfold planRates
  dsimp only
  split
  · exact ⟨_, .inr ⟨_, _, _, _, _, _, _, rfl⟩⟩
  · exact ⟨_, .inl rfl⟩

end W

/-- A step of a run writes the registers of `p` alone and leaves what the planner keeps of its runs. -/
structure KeepsRuns (p : Nat → Bool) (w u : W) : Prop where
  regs : Only p w u
  book : runBook u.age = runBook w.age

/-- The registers that the steps beside the third write: those of an event and its wake, the planner's results. -/
def planReg (a : Nat) : Bool :=
  wakeReg a || [R.AGE_CANARY, R.AGE_DEG_MAX, R.AGE_PENDING, R.AGE_SCRUB, R.AGE_LIFE].contains a

/-- The registers that the third step writes besides: the core voltage code and the solver clock step (R150). -/
def voltageReg (a : Nat) : Bool := planReg a || a == R.PWR_VCORE_SET || a == R.AGE_SLV_CLK

theorem planReg_of_voltageReg {a : Nat} (h : voltageReg a = false) : planReg a = false := by
  unfold voltageReg at h
  simp only [Bool.or_eq_false_iff] at h
  exact h.1.1

theorem wakeReg_of_planReg {a : Nat} (h : planReg a = false) : wakeReg a = false := by
  unfold planReg at h
  exact (Bool.or_eq_false_iff.mp h).1

namespace KeepsRuns

variable {p : Nat → Bool} {w u v : W}

theorem refl (p : Nat → Bool) (w : W) : KeepsRuns p w w := ⟨Only.refl p w, rfl⟩
theorem of_eq (w : W) {u : W} (regs : u.regs = w.regs) (book : runBook u.age = runBook w.age) : KeepsRuns p w u :=
  ⟨(Only.refl p w).of_regs regs, book⟩
theorem trans (h : KeepsRuns p w u) (k : KeepsRuns p u v) : KeepsRuns p w v := ⟨h.regs.trans k.regs, k.book.trans h.book⟩
theorem weaken {q : Nat → Bool} (h : KeepsRuns p w u) (k : ∀ a, q a = false → p a = false) : KeepsRuns q w u :=
  ⟨h.regs.weaken k, h.book⟩
theorem ite {c : Prop} [Decidable c] (h : KeepsRuns p w u) (k : KeepsRuns p w v) : KeepsRuns p w (if c then u else v) := by
  split <;> assumption
theorem foldl {α : Type} {f : W → α → W} (hf : ∀ u x, KeepsRuns p u (f u x)) : ∀ (l : List α) (w : W), KeepsRuns p w (l.foldl f w)
  | [], w => refl p w
  | x :: t, w => (hf w x).trans (foldl hf t (f w x))
theorem wr (w : W) {a : Nat} (v : Word) (ha : p a = true) : KeepsRuns p w (w.wr a v) := ⟨(Only.refl p w).wr ha, rfl⟩
theorem wrN (w : W) {a : Nat} (v : Nat) (ha : p a = true) : KeepsRuns p w (w.wrN a v) := wr w _ ha
theorem wrF (w : W) {a : Nat} (lo n x : Nat) (ha : p a = true) : KeepsRuns p w (w.wrF a lo n x) := wr w _ ha
theorem wrB (w : W) {a : Nat} (i : Nat) (b : Bool) (ha : p a = true) : KeepsRuns p w (w.wrB a i b) := wr w _ ha

theorem raise (w : W) (e : Nat × Nat) : KeepsRuns planReg w (w.raise e) :=
  ⟨(Only.raise_wake w e).weaken fun _ => wakeReg_of_planReg, by rw [(SameBlocks.raise w e).age]⟩

theorem raiseIf (w : W) (c : Bool) (e : Nat × Nat) : KeepsRuns planReg w (w.raiseIf c e) := ite (raise w e) (refl _ w)

theorem setLife (w : W) (v : Nat) : KeepsRuns planReg w (w.setLife v) := (wrN w v (by decide)).trans (raiseIf _ _ _)

theorem logWear (p : Nat → Bool) (w : W) (i : Nat) : KeepsRuns p w (w.logWear i) := of_eq w rfl rfl
theorem logWrite (p : Nat → Bool) (w : W) : KeepsRuns p w w.logWrite := of_eq w rfl rfl
theorem degSync (w : W) : KeepsRuns planReg w w.degSync := wrN w _ (by decide)

/-- A canary row's domain decides whether its margin is shown. -/
theorem canaryTest (w : W) (c : Canary) : KeepsRuns planReg w (w.canaryTest c) := by
  have row (u : W) (d lo x : Nat) : KeepsRuns planReg u (if u.dom d = 1 then u.wrF R.AGE_CANARY lo 8 x else u) :=
    ite (wrF u _ _ _ (by decide)) (refl _ u)
  unfold W.canaryTest
  exact ((row w 4 0 c.sys).trans ((row _ 5 8 c.slv).trans (row _ 6 16 c.msg))).trans (ite (wrF _ _ _ _ (by decide)) (refl _ _))

theorem logFlushed (p : Nat → Bool) (w : W) : KeepsRuns p w w.logFlushed := foldl (fun u _ => logWear p u _) (List.range 8) w

theorem flushShown (p : Nat → Bool) (w : W) (l : List (Nat × Word)) (b : Bool) :
    KeepsRuns p w { w with age.log.wcnt := l, age.log.copyB := b } := of_eq w rfl rfl

theorem wcntFlush (p : Nat → Bool) (w : W) : KeepsRuns p w w.wcntFlush := by
  rw [W.wcntFlush_eq]
  exact (logFlushed p w).trans (flushShown p _ _ _)

theorem planRemap (w : W) : KeepsRuns planReg w w.planRemap.1 := by
  unfold W.planRemap
  dsimp only
  refine trans (trans (of_eq w ?_ ?_) (wrB _ _ _ (by decide))) (raiseIf _ _ _) <;> rfl

theorem halve (w : W) (c : Bool) (lo x : Nat) : KeepsRuns planReg w (w.halve c lo x) :=
  ite (wrF w lo 8 x (by decide)) (refl _ w)

theorem degHalved (p : Nat → Bool) (w : W) (deg : Nat) : KeepsRuns p w { w with age.degHalved := deg } := of_eq w rfl rfl

theorem halveTest (w : W) (c : Bool) (x deg : Nat) : KeepsRuns planReg w (w.halveTest c x deg) :=
  ite ((wrF w 16 8 x (by decide)).trans (degHalved _ _ deg)) (refl _ w)

theorem planRates (w : W) : KeepsRuns planReg w w.planRates.1 := by
  obtain ⟨pending, eq | ⟨s, m, t, x, y, z, deg, eq⟩⟩ := w.planRates_eq <;> rw [eq]
  · exact wrB w 3 pending (by decide)
  · exact (wrB w 3 pending (by decide)).trans ((halve _ s 0 x).trans ((halve _ m 8 y).trans (halveTest _ t z deg)))

/-- The last step counts the run (R164), which only a run that goes through reaches (R149). -/
theorem planLife (w : W) : KeepsRuns planReg { w with age.log.runs := w.age.log.runs + 1 } w.planLife := by
  unfold W.planLife
  dsimp only
  refine trans ?_ (setLife _ _)
  exact of_eq _ rfl rfl

end KeepsRuns

/-- The largest degradation, by registers that no step of a run writes. -/
theorem W.degMax_only {p : Nat → Bool} {w u : W} (h : Only p w u) (sites : ∀ s < 8, p (R.AGE_RO_DEG s) = false) : u.degMax = w.degMax :=
  List.foldl_ext _ _ _ fun _ s hs => by
    dsimp only
    rw [h.rdF (sites s (List.mem_range.mp hs))]

/-! ## The third step (R150) -/

namespace W

/-- The core voltage code set, and kept in the ageing log. -/
def raiseCode (go : Bool) (code : Nat) (w : W) : W :=
  if go then { w.wrF R.PWR_VCORE_SET 0 5 code with age.log.code := code } else w

/-- The solver clock step set, and kept in the ageing log. -/
def raiseStep (go : Bool) (step : Nat) (w : W) : W :=
  if go then { w.wrF R.AGE_SLV_CLK 0 3 step with age.log.step := step } else w

/-- What the third step shows of what it did: the ageing log, PENDING, and the end of life. -/
def voltageShown (acted p0 p1 : Bool) (deg : Nat) (w : W) : W :=
  let w := if acted then w.logWrite else w
  let w := (w.wrB R.AGE_PENDING 0 p0).wrB R.AGE_PENDING 1 p1
  if w.rdN R.AGE_DEG_FAIL ≤ deg then (w.raise E.AGE_LIFE_LOW).wrF R.AGE_LIFE 0 16 0 else w

/-- Code and step that deg_max needs, in steps of DEG_STEP: the clock step takes what lies above the highest code (R150). -/
def wanted (w : W) : Nat := 20 + w.degMax.1 / w.rdN R.AGE_DEG_STEP

/-- The code is raised when it lies below what deg_max needs and no veto withholds it (R168). -/
def raisesCode (w : W) : Bool := decide (w.rdF R.PWR_VCORE_SET 0 5 < min 30 w.wanted) && !w.vetoed 0

/-- The same of the step. -/
def raisesStep (w : W) : Bool := decide (w.rdF R.AGE_SLV_CLK 0 3 < min 6 (w.wanted - 30)) && !w.vetoed 1

theorem planVoltage_eq (w : W) : ∃ acted p0 p1, w.planVoltage.1 =
    ((w.degSync.raiseCode w.degSync.raisesCode (min 30 w.degSync.wanted)).raiseStep w.degSync.raisesStep
      (min 6 (w.degSync.wanted - 30))).voltageShown acted p0 p1 w.degSync.degMax.1 := by
  have limits (x : Nat) : (if x ≤ 30 then (x, 0) else (30, min 6 (x - 30))) = (min 30 x, min 6 (x - 30)) := by
    split
    · rw [Nat.min_eq_right (by omega), Nat.sub_eq_zero_of_le (by omega), Nat.min_zero]
    · rw [Nat.min_eq_left (a := 30) (by omega)]
  unfold planVoltage
  dsimp only
  rw [limits]
  exact ⟨_, _, _, rfl⟩

theorem raiseCode_keeps (go : Bool) (code : Nat) (w : W) : KeepsRuns (· == R.PWR_VCORE_SET) w (w.raiseCode go code) :=
  .ite ((KeepsRuns.wrF w _ _ _ (by decide)).trans (.of_eq _ rfl rfl)) (.refl _ w)

theorem raiseStep_keeps (go : Bool) (step : Nat) (w : W) : KeepsRuns (· == R.AGE_SLV_CLK) w (w.raiseStep go step) :=
  .ite ((KeepsRuns.wrF w _ _ _ (by decide)).trans (.of_eq _ rfl rfl)) (.refl _ w)

theorem rdF_raiseCode (go : Bool) {code : Nat} (w : W) (small : code < 2 ^ 5) :
    (w.raiseCode go code).rdF R.PWR_VCORE_SET 0 5 = if go = true then code else w.rdF R.PWR_VCORE_SET 0 5 := by
  unfold raiseCode
  split
  · exact (rdF_wrF_same _ _ _ _ _ (by decide)).trans (Nat.mod_eq_of_lt small)
  · rfl

theorem rdF_raiseStep (go : Bool) {step : Nat} (w : W) (small : step < 2 ^ 3) :
    (w.raiseStep go step).rdF R.AGE_SLV_CLK 0 3 = if go = true then step else w.rdF R.AGE_SLV_CLK 0 3 := by
  unfold raiseStep
  split
  · exact (rdF_wrF_same _ _ _ _ _ (by decide)).trans (Nat.mod_eq_of_lt small)
  · rfl

theorem voltageShown_keeps (acted p0 p1 : Bool) (deg : Nat) (w : W) : KeepsRuns planReg w (w.voltageShown acted p0 p1 deg) := by
  have logged : KeepsRuns planReg w (if acted = true then w.logWrite else w) := .ite (.logWrite _ w) (.refl _ w)
  have shown (u : W) : KeepsRuns planReg u ((u.wrB R.AGE_PENDING 0 p0).wrB R.AGE_PENDING 1 p1) :=
    (KeepsRuns.wrB u 0 p0 (by decide)).trans (.wrB _ 1 p1 (by decide))
  have ended (u : W) : KeepsRuns planReg u ((u.raise E.AGE_LIFE_LOW).wrF R.AGE_LIFE 0 16 0) :=
    (KeepsRuns.raise u _).trans (.wrF _ 0 16 0 (by decide))
  exact (logged.trans (shown _)).trans (.ite (ended _) (.refl _ _))

theorem planVoltage_keeps (w : W) : KeepsRuns voltageReg w w.planVoltage.1 := by
  obtain ⟨acted, p0, p1, eq⟩ := w.planVoltage_eq
  rw [eq]
  have plan {u v : W} (h : KeepsRuns planReg u v) : KeepsRuns voltageReg u v := h.weaken fun _ => planReg_of_voltageReg
  refine (plan (.degSync w)).trans (((raiseCode_keeps _ _ _).weaken fun a h => ?_).trans
    (((raiseStep_keeps _ _ _).weaken fun a h => ?_).trans (plan (voltageShown_keeps _ _ _ _ _))))
  all_goals
    unfold voltageReg at h
    simp only [Bool.or_eq_false_iff] at h
  · exact h.1.2
  · exact h.2

/-- A setting is raised to what is needed, unless it is vetoed or stands there already. -/
theorem raised_eq_max (x need : Nat) (veto : Bool) :
    (if (decide (x < need) && !veto) = true then need else x) = if veto = true then x else max x need := by
  cases veto with
  | true => simp
  | false =>
    simp only [Bool.not_false, Bool.and_true, decide_eq_true_eq, Bool.false_eq_true, if_false]
    split <;> omega

/-- What is wanted and what is vetoed stand in registers that no step of a run writes. -/
theorem wanted_only {w u : W} (h : Only voltageReg w u) : u.wanted = w.wanted := by
  unfold wanted
  rw [degMax_only h (by decide), h.rdN (by decide)]

theorem vetoed_only {w u : W} (h : Only voltageReg w u) (i : Nat) : u.vetoed i = w.vetoed i := h.rdB (by decide)

/-- The third step raises the code to what deg_max needs, up to 30. -/
theorem planVoltage_code (w : W) : w.planVoltage.1.rdF R.PWR_VCORE_SET 0 5 =
    if w.rdB R.AGE_VETO 0 then w.rdF R.PWR_VCORE_SET 0 5 else max (w.rdF R.PWR_VCORE_SET 0 5) (min 30 w.wanted) := by
  obtain ⟨acted, p0, p1, eq⟩ := w.planVoltage_eq
  have sync := (KeepsRuns.degSync w).regs
  rw [eq, (voltageShown_keeps _ _ _ _ _).regs.rdF (by decide), (raiseStep_keeps _ _ _).regs.rdF (by decide), rdF_raiseCode _ _ (by omega),
    raisesCode, raised_eq_max, sync.rdF (by decide), wanted_only (sync.weaken fun _ => planReg_of_voltageReg),
    vetoed_only (sync.weaken fun _ => planReg_of_voltageReg)]
  rfl

/-- The third step raises the clock step by what lies above the highest code, up to 6. -/
theorem planVoltage_step (w : W) : w.planVoltage.1.rdF R.AGE_SLV_CLK 0 3 =
    if w.rdB R.AGE_VETO 1 then w.rdF R.AGE_SLV_CLK 0 3 else max (w.rdF R.AGE_SLV_CLK 0 3) (min 6 (w.wanted - 30)) := by
  obtain ⟨acted, p0, p1, eq⟩ := w.planVoltage_eq
  have sync := (KeepsRuns.degSync w).regs
  rw [eq, (voltageShown_keeps _ _ _ _ _).regs.rdF (by decide), rdF_raiseStep _ _ (by omega), (raiseCode_keeps _ _ _).regs.rdF (by decide),
    raisesStep, raised_eq_max, sync.rdF (by decide), wanted_only (sync.weaken fun _ => planReg_of_voltageReg),
    vetoed_only (sync.weaken fun _ => planReg_of_voltageReg)]
  rfl

/-! ## A run -/

/-- The record in which a run begins: it is the last, by TSC and by a valid RTC time, and no run waits any more (R145, R146, R148). -/
def runBegun (w : W) : W :=
  { w with age.log.lastRtc := if w.tinv then none else some (w.rd64 R.RTC_EPOCH_S), age.lastTsc := w.tscTime,
           age.ran := true, age.deferred := false }

/-- The first two of a run's `n` steps: the canary test and the flush of the write counters. -/
def runTested (c : Canary) (n : Nat) (w : W) : W :=
  let w := if 1 ≤ n then w.runBegun.canaryTest c else w.runBegun
  if 2 ≤ n then w.wcntFlush else w

/-- What a step answers, if the run reaches it. -/
def reached (b : Prop) [Decidable b] (f : W → W × Bool × Bool) (w : W) : W × Bool × Bool := if b then f w else (w, false, false)

/-- The third step, if the run reaches it. -/
def runVoltage (n : Nat) (w : W) : W := (w.reached (3 ≤ n) planVoltage).1

/-- The fourth and the fifth step, if the run reaches them. -/
def runRates (n : Nat) (w : W) : W := ((w.reached (4 ≤ n) planRemap).1.reached (5 ≤ n) planRates).1

/-- The events of a run's actions, and of those withheld (R168). -/
def runEvents (acted withheld : Bool) (w : W) : W := (w.raiseIf acted E.AGE_ACTION).raiseIf withheld E.AGE_VETOED

/-- The end of a run that went through: LAST_RUN and PLAN_DONE. -/
def runDone (w : W) : W := (w.wr R.AGE_LAST_RUN w.rtcSec).raise E.AGE_PLAN_DONE

/-- The steps of a run before the last, as far as it goes. -/
def runSteps (c : Canary) (n : Nat) (w : W) : W := ((w.runTested c n).runVoltage n).runRates n

/-- A run is its steps in order, as far as it goes (R147, R149). -/
theorem plannerRun_eq (c : Canary) (n : Nat) (u : W) : ∃ acted withheld, u.plannerRun (some c) n =
    if n < 6 then (if 6 ≤ n then (u.runSteps c n).planLife else u.runSteps c n).runEvents acted withheld
    else ((if 6 ≤ n then (u.runSteps c n).planLife else u.runSteps c n).runEvents acted withheld).runDone :=
  ⟨_, _, rfl⟩

/-- A run that early warning stops (R149). -/
theorem plannerRun_stopped (c : Canary) {n : Nat} (u : W) (stopped : n < 6) :
    ∃ acted withheld, u.plannerRun (some c) n = (u.runSteps c n).runEvents acted withheld := by
  obtain ⟨acted, withheld, eq⟩ := plannerRun_eq c n u
  rw [if_pos stopped, if_neg (by omega)] at eq
  exact ⟨acted, withheld, eq⟩

/-- A run that goes through. -/
theorem plannerRun_through (c : Canary) {n : Nat} (u : W) (through : 6 ≤ n) :
    ∃ acted withheld, u.plannerRun (some c) n = ((u.runSteps c n).planLife.runEvents acted withheld).runDone := by
  obtain ⟨acted, withheld, eq⟩ := plannerRun_eq c n u
  rw [if_neg (by omega), if_pos through] at eq
  exact ⟨acted, withheld, eq⟩

theorem reached_keeps {p : Nat → Bool} {f : W → W × Bool × Bool} (b : Prop) [Decidable b] (w : W) (h : KeepsRuns p w (f w).1) :
    KeepsRuns p w (w.reached b f).1 := by
  unfold reached
  split
  · exact h
  · exact .refl p w

theorem runTested_keeps (c : Canary) (n : Nat) (w : W) : KeepsRuns planReg w.runBegun (w.runTested c n) :=
  (KeepsRuns.ite (.canaryTest w.runBegun c) (.refl _ _)).trans (.ite (.wcntFlush _ _) (.refl _ _))

theorem runVoltage_keeps (n : Nat) (w : W) : KeepsRuns voltageReg w (w.runVoltage n) := reached_keeps _ w w.planVoltage_keeps

theorem runRates_keeps (n : Nat) (w : W) : KeepsRuns planReg w (w.runRates n) :=
  (reached_keeps (4 ≤ n) w (.planRemap w)).trans (reached_keeps (5 ≤ n) _ (.planRates _))

theorem runEvents_keeps (acted withheld : Bool) (w : W) : KeepsRuns planReg w (w.runEvents acted withheld) :=
  (KeepsRuns.raiseIf w _ _).trans (.raiseIf _ _ _)

theorem runSteps_keeps (c : Canary) (n : Nat) (w : W) : KeepsRuns voltageReg w.runBegun (w.runSteps c n) :=
  ((runTested_keeps c n w).weaken fun _ => planReg_of_voltageReg).trans
    ((runVoltage_keeps n _).trans ((runRates_keeps n _).weaken fun _ => planReg_of_voltageReg))

/-- The registers that the steps of a run after the third write. -/
def lateReg (a : Nat) : Bool := planReg a || a == R.AGE_LAST_RUN

theorem planReg_of_lateReg {a : Nat} (h : lateReg a = false) : planReg a = false := (Bool.or_eq_false_iff.mp h).1

theorem runDone_keeps (w : W) : KeepsRuns lateReg w w.runDone :=
  (KeepsRuns.wr w _ (by decide)).trans ((KeepsRuns.raise _ _).weaken fun _ => planReg_of_lateReg)

theorem planLife_only (w : W) : Only planReg w w.planLife := (KeepsRuns.planLife w).regs

/-! ### What a run leaves -/

/-- After the third step a run leaves code and step alone. -/
theorem plannerRun_late (c : Canary) (n : Nat) (u : W) :
    Only lateReg ((u.runTested c n).runVoltage n) (u.plannerRun (some c) n) := by
  have late {w v : W} (h : Only planReg w v) : Only lateReg w v := h.weaken fun _ => planReg_of_lateReg
  have rates := late (runRates_keeps n ((u.runTested c n).runVoltage n)).regs
  by_cases stopped : n < 6
  · obtain ⟨acted, withheld, eq⟩ := plannerRun_stopped c u stopped
    rw [eq]
    exact rates.trans (late (runEvents_keeps _ _ _).regs)
  · obtain ⟨acted, withheld, eq⟩ := plannerRun_through c u (Nat.le_of_not_lt stopped)
    rw [eq]
    exact rates.trans ((late ((planLife_only _).trans (runEvents_keeps _ _ _).regs)).trans (runDone_keeps _).regs)

/-- A run that does not reach the third step leaves code and step. -/
theorem plannerRun_untouched (c : Canary) {n : Nat} (u : W) (short : n < 3) {a : Nat} (ha : lateReg a = false) :
    (u.plannerRun (some c) n).rd a = u.rd a := by
  have late := plannerRun_late c n u
  rw [runVoltage, reached, if_neg (by omega)] at late
  exact (late a ha).trans ((runTested_keeps c n u).regs a (planReg_of_lateReg ha))

/-- A run that reaches the third step sets code and step as it does. -/
theorem plannerRun_settings (c : Canary) {n : Nat} (u : W) (reaches : 3 ≤ n) :
    Only lateReg (u.runTested c n).planVoltage.1 (u.plannerRun (some c) n) := by
  have late := plannerRun_late c n u
  rw [runVoltage, reached, if_pos reaches] at late
  exact late

/-- What the third step looks at, the first two leave. -/
theorem runTested_wanted (c : Canary) (n : Nat) (u : W) : (u.runTested c n).wanted = u.wanted :=
  wanted_only (w := u.runBegun) ((runTested_keeps c n u).regs.weaken fun _ => planReg_of_voltageReg)

theorem plannerRun_code (c : Canary) {n : Nat} (u : W) (reaches : 3 ≤ n) : (u.plannerRun (some c) n).rdF R.PWR_VCORE_SET 0 5 =
    if u.rdB R.AGE_VETO 0 then u.rdF R.PWR_VCORE_SET 0 5 else max (u.rdF R.PWR_VCORE_SET 0 5) (min 30 u.wanted) := by
  have tested := (runTested_keeps c n u).regs
  rw [(plannerRun_settings c u reaches).rdF (by decide), planVoltage_code, runTested_wanted, tested.rdF (by decide), tested.rdB (by decide)]
  rfl

theorem plannerRun_step (c : Canary) {n : Nat} (u : W) (reaches : 3 ≤ n) : (u.plannerRun (some c) n).rdF R.AGE_SLV_CLK 0 3 =
    if u.rdB R.AGE_VETO 1 then u.rdF R.AGE_SLV_CLK 0 3 else max (u.rdF R.AGE_SLV_CLK 0 3) (min 6 (u.wanted - 30)) := by
  have tested := (runTested_keeps c n u).regs
  rw [(plannerRun_settings c u reaches).rdF (by decide), planVoltage_step, runTested_wanted, tested.rdF (by decide), tested.rdB (by decide)]
  rfl

/-- A run that stops leaves the register that shows the last one. -/
theorem plannerRun_lastRun_stopped (c : Canary) {n : Nat} (u : W) (stopped : n < 6) :
    (u.plannerRun (some c) n).rd R.AGE_LAST_RUN = u.rd R.AGE_LAST_RUN := by
  obtain ⟨acted, withheld, eq⟩ := plannerRun_stopped c u stopped
  rw [eq, (runEvents_keeps _ _ _).regs _ (by decide), (runSteps_keeps c n u).regs _ (by decide)]
  rfl

/-- A run that goes through shows its time. -/
theorem plannerRun_lastRun_through (c : Canary) {n : Nat} (u : W) (through : 6 ≤ n) :
    (u.plannerRun (some c) n).rd R.AGE_LAST_RUN = u.rd R.RTC_EPOCH_S := by
  obtain ⟨acted, withheld, eq⟩ := plannerRun_through c u through
  rw [eq, runDone, (KeepsRuns.raise _ _).regs _ (by decide), rd_wr_same, rtcSec, (runEvents_keeps _ _ _).regs _ (by decide),
    planLife_only _ _ (by decide), (runSteps_keeps c n u).regs _ (by decide)]
  rfl

/-- What the planner keeps of its runs at the end of one: it is the last, and counts when it went through. -/
theorem plannerRun_book (c : Canary) (n : Nat) (u : W) : runBook (u.plannerRun (some c) n).age =
    (u.tscTime, true, false, if u.tinv then none else some (u.rd64 R.RTC_EPOCH_S),
      if n < 6 then u.age.log.runs else u.age.log.runs + 1) := by
  have steps : runBook (u.runSteps c n).age =
      (u.tscTime, true, false, if u.tinv then none else some (u.rd64 R.RTC_EPOCH_S), u.age.log.runs) := (runSteps_keeps c n u).book
  by_cases stopped : n < 6
  · obtain ⟨acted, withheld, eq⟩ := plannerRun_stopped c u stopped
    rw [if_pos stopped, eq, (runEvents_keeps _ _ _).book, steps]
  · obtain ⟨acted, withheld, eq⟩ := plannerRun_through c u (Nat.le_of_not_lt stopped)
    rw [if_neg stopped, eq, (runDone_keeps _).book, (runEvents_keeps _ _ _).book, (KeepsRuns.planLife _).book]
    simp only [runBook, Prod.mk.injEq] at steps ⊢
    obtain ⟨tsc, ran, deferred, rtc, runs⟩ := steps
    exact ⟨tsc, ran, deferred, rtc, by rw [runs]⟩

end W

/-! ## The statement -/

/-- Settles O39: the two skipping conditions are the model's own, and a run is its steps, of which only the third writes code and step and
only the last counts it. -/
theorem runsOfThePlanner : Obligations.RunsOfThePlanner := by
  unfold Obligations.RunsOfThePlanner
  intro s c k bySet u n
  dsimp only
  have skips := (begin_ s).skipsSchedule_iff bySet
  have skipsTsc := (begin_ s).skipsTsc_iff
  have book := W.plannerRun_book c n u
  simp only [runBook, Prod.mk.injEq] at book
  obtain ⟨tsc, ran, deferred, rtc, runs⟩ := book
  refine ⟨fun skip => ?_, fun due deep => ?_, fun due up => ?_, fun skip => ?_, fun invalid day live => ?_,
    runNow_takes c k, tsc, ran, deferred, rtc, fun short => ⟨?_, ?_⟩, fun reaches => ⟨?_, ?_⟩, fun stopped => ⟨?_, ?_⟩,
    fun through => ⟨?_, ?_⟩⟩
  · exact scheduled_completes ((W.plannerScheduled_eq ..).trans (if_pos (skips.mpr skip)))
  · exact scheduled_completes ((W.plannerScheduled_eq ..).trans ((if_neg (mt skips.mp due)).trans (if_pos deep)))
  · exact scheduled_completes ((W.plannerScheduled_eq ..).trans ((if_neg (mt skips.mp due)).trans (if_neg up)))
  · exact byTsc_completes ((W.plannerTsc_eq ..).trans (if_pos (skipsTsc.mpr skip)))
  · have due : ¬ (begin_ s).skipsTsc = true := mt skipsTsc.mp fun skip => by
      rcases skip with valid | early | held
      · exact absurd (invalid.symm.trans valid) (by decide)
      · exact absurd early (Nat.not_lt.mpr day)
      · exact absurd (live.symm.trans held) (by decide)
    exact ⟨fun deep => byTsc_completes ((W.plannerTsc_eq ..).trans ((if_neg due).trans (if_pos deep))),
      fun up => byTsc_completes ((W.plannerTsc_eq ..).trans ((if_neg due).trans (if_neg up)))⟩
  · exact W.plannerRun_untouched c u short (by decide)
  · exact W.plannerRun_untouched c u short (by decide)
  · exact W.plannerRun_code c u reaches
  · exact W.plannerRun_step c u reaches
  · exact W.plannerRun_lastRun_stopped c u stopped
  · exact runs.trans (if_pos stopped)
  · exact W.plannerRun_lastRun_through c u through
  · exact runs.trans (if_neg (by omega))

end Sys2Proof.Machine
end

section
/-!
PROOF. What the metering engine does of itself while PD2 is on (R190 to R195, R206): correction blocks, trackers' windows,
capture blocks.
-/
namespace Sys2Proof.Machine

/-! ## A block that runs while its domain is on -/

section
variable {c : Instr} {s : State} {d : Nat} {f : W → W}

/-- A command of a block whose domain is on ends in the block's effect. -/
theorem completes_onIf {u : W} (runs : exec c s = run (fun _ w => w.onIf d f) s) (on : (begin_ s).dom d = 1) (effect : f (begin_ s) = u) :
    Completes c s u :=
  completes_of_run runs ((if_pos on).trans effect)

/-- A command of a block whose domain is off, or that finds nothing to do, changes nothing. -/
theorem completes_offIf (runs : exec c s = run (fun _ w => w.onIf d f) s) (idle : (begin_ s).dom d ≠ 1 ∨ f (begin_ s) = begin_ s) :
    Completes c s (begin_ s) := by
  refine completes_of_run runs ?_
  rcases idle with off | nothing
  · exact if_neg off
  · exact (congrArg (fun u => if (begin_ s).dom d = 1 then u else begin_ s) nothing).trans (ite_self _)

end

namespace W

/-! ## Correction blocks (R193 to R195) -/

theorem blockEnd_idle {w : W} {n : Nat} (idle : w.chEn n = false ∨ (w.chOf n).blk ≠ blockLen) : w.blockEnd n = w := by
  unfold blockEnd
  exact if_pos (by rcases idle with off | early <;> simp_all)

/-- The end of a block that is full: the settings come into force, then the correction for the next block. -/
theorem blockEnd_full {w : W} {n : Nat} (on : w.chEn n = true) (full : (w.chOf n).blk = blockLen) :
    w.blockEnd n = (w.chApply n (w.chOf n)).1.corrSet n { (w.chApply n (w.chOf n)).2 with blk := 0, sum2 := 0 } (blockLevel (w.chOf n)) := by
  unfold blockEnd
  exact if_neg (by simp [on, full])

/-- The settings come into force, and a committed table with them (R188, R194, R201). -/
theorem chApply_none (w : W) (n : Nat) {c : AfeCh} (pend : c.pend = none) :
    w.chApply n c = (w, { c with scale := w.rd (R.AFE_CHn_SCALE n), delay := sgn 14 (w.rdN (R.AFE_CHn_DELAY n)) }) := by
  unfold chApply
  simp only [pend]

theorem chApply_some (w : W) (n : Nat) {c : AfeCh} {bp : List CorrBp} (pend : c.pend = some bp) :
    w.chApply n c = ((w.wrB R.AFE_CORR_STAT n true).raise E.AFE_CORR_APPLIED,
      { c with scale := w.rd (R.AFE_CHn_SCALE n), delay := sgn 14 (w.rdN (R.AFE_CHn_DELAY n)), tab := bp, pend := none }) := by
  unfold chApply
  simp only [pend]

/-! ## Windows of the trackers (R190, R191) -/

/-- The next window of a tracker starts after the crossings that the last one used. -/
def trkFresh (k : TrkSt) (used : Nat) : TrkSt := { k with start := k.n, sum2 := 0, cross := k.cross.drop used }

section
variable {w : W} {t : Nat}

theorem trackerWindow_off (off : w.trkEn t = false) : w.trackerWindow t = w := by
  unfold trackerWindow
  exact if_pos (by simp [off])

/-- A window with its cycles ends locked on a strong signal within the range, else with the held frequency (R191). -/
theorem trackerWindow_measured {fq cycles : Nat} (on : w.trkEn t = true) (measured : trkMeasure (w.trkOf t) = some (fq, cycles)) :
    w.trackerWindow t =
      if trkStrong (w.trkOf t) = true ∧ 425000 ≤ fq ∧ fq ≤ 690000 then
        { w.setTrk t (trkFresh (w.trkOf t) cycles) with mtr.lastLock := w.mtr.lastLock.setIfInBounds t fq }.trkSet t fq true false
      else (w.setTrk t (trkFresh (w.trkOf t) cycles)).trkSet t (w.heldFreq t) false true := by
  unfold trackerWindow
  rw [if_neg (by simp [on])]
  simp only [measured]
  exact if_congr (by rw [Bool.and_eq_true, decide_eq_true_iff]) rfl rfl

/-- A window without its cycles goes on until its time limit. -/
theorem trackerWindow_unmeasured (on : w.trkEn t = true) (unmeasured : trkMeasure (w.trkOf t) = none) :
    w.trackerWindow t =
      if (w.trkOf t).n - (w.trkOf t).start < trkTimeout then w
      else (w.setTrk t (trkFresh (w.trkOf t) (w.trkOf t).cross.length)).trkSet t (w.heldFreq t) false true := by
  unfold trackerWindow
  rw [if_neg (by simp [on])]
  simp only [unmeasured]
  exact if_congr Iff.rfl rfl rfl

end

/-! ## Capture blocks (R206, R208) -/

section
variable {w : W}

theorem captBlock_waits (waits : w.captOn = false ∨ w.mtr.capt.length < 32) : w.captBlock = w := by
  unfold captBlock
  exact if_pos (by rcases waits with off | few <;> simp_all)

/-- The 32 periods leave the buffer, and their block takes its number. -/
def captTaken (w : W) : W := { w with mtr.capt := w.mtr.capt.drop 32, mtr.captSeq := w.mtr.captSeq + 1 }

/-- A block that cannot be written is counted as lost. -/
theorem captBlock_lost (on : w.captOn = true) (full : 32 ≤ w.mtr.capt.length) (lost : w.dom 4 ≠ 1 ∨ w.pwr.pllSys = false) :
    w.captBlock = (w.captTaken.incSat R.MTR_CAPT_LOST).raise E.MTR_CAPT_LOST := by
  unfold captBlock
  rw [if_neg (by simp [on, full])]
  exact if_pos lost

/-- The bytes of a block: time, number and channels, then the samples of each channel. -/
def captBytes (w : W) : List Byte :=
  toLe 8 (((w.mtr.capt.take 32).headD (0, [])).1).toNat ++ toLe 4 w.mtr.captSeq.toNat ++ toLe 4 (w.rdF R.MTR_CAPT_CTRL 0 24) ++
    w.captChans.flatMap fun j => (w.mtr.capt.take 32).flatMap fun r => toLe 4 (r.2.getD j 0).toNat

/-- The place of the next block in the ring, and the places that the ring has. -/
def captSize (w : W) : Nat := max 1 (w.rdN R.MTR_CAPT_SIZE)
def captIdx (w : W) : Nat := w.rdN R.MTR_CAPT_WR % w.captSize

theorem captBlock_written (on : w.captOn = true) (full : 32 ≤ w.mtr.capt.length) (sys : w.dom 4 = 1) (pll : w.pwr.pllSys = true) :
    w.captBlock =
      ((w.captTaken.putBytes (w.rdN R.MTR_CAPT_BASE + (16 + 128 * w.captChans.length) * w.captIdx) w.captBytes).wrN R.MTR_CAPT_WR
        ((w.captIdx + 1) % w.captSize)).raise E.MTR_CAPT_BLOCK := by
  have size : ∀ (a : Nat) (d : List Byte), (w.captTaken.putBytes a d).rdN R.MTR_CAPT_SIZE = w.rdN R.MTR_CAPT_SIZE := fun a d => by
    unfold rdN rd
    rw [putBytes_regs]
    rfl
  have here : ¬ (w.captTaken.dom 4 ≠ 1 ∨ w.captTaken.pwr.pllSys = false) := by
    rintro (off | stopped)
    · exact off sys
    · exact absurd (stopped.symm.trans pll) (by decide)
  unfold captBlock
  rw [if_neg (by simp [on, full])]
  refine (if_neg here).trans ?_
  exact congrArg (fun k => W.raise (W.wrN _ _ ((w.captIdx + 1) % max 1 k)) _) (size _ _)

end

end W
end Sys2Proof.Machine
end

section
/-!
PROOF. RTD channels (R210 to R216): what a reading stores, and what the slot of a pair leaves.
-/
namespace Sys2Proof.Machine

theorem getD_setIfInBounds_self {α : Type} {k : Nat} (v : Vector α k) {i : Nat} (x d : α) (h : i < k) : (v.setIfInBounds i x).getD i d = x := by
  rw [vector_getD _ _ _ h, Vector.getElem_setIfInBounds_self]

theorem getD_setIfInBounds_ne {α : Type} {k : Nat} (v : Vector α k) {i j : Nat} (x d : α) (h : j ≠ i) :
    (v.setIfInBounds i x).getD j d = v.getD j d := by
  by_cases hj : j < k
  · rw [vector_getD _ _ _ hj, vector_getD _ _ _ hj, Vector.getElem_setIfInBounds_ne (h := h.symm)]
  · simp [Vector.getD, Array.getD, hj]

namespace W

@[simp] theorem raiseIf_mtr (w : W) (c : Bool) (e : Nat × Nat) : (w.raiseIf c e).mtr = w.mtr := by
  unfold raiseIf
  split
  · exact (SameBlocks.raise w e).mtr
  · rfl

/-- ERR shows the code of the latest failure (R59). -/
theorem rdF_err_code {w : W} {p c : Nat} (code : c ≠ 0) (lt : c < 2 ^ 16) : (w.err p c).rdF (R.H_ERR p) 0 16 = c := by
  unfold err rdF fld
  rw [if_neg code, rd_wr_same, BitVec.toNat_ofNat, Nat.shiftRight_zero]
  generalize satInc 16 _ = n
  omega

/-! ## One reading (R213 to R216) -/

/-- The flags OPEN, SHORT and OOR of a reading: `num` / `den` is the resistance, `rn` its nominal value (R214, R216). -/
def rtdOpen (vx vref : Int) (comp : Bool) : Bool := comp || decide (vref < 20000000) || decide (1150000000 ≤ vx)
def rtdShort (num : Int) (den rn : Nat) : Bool := decide (2 * num < (rn * den : Nat))
def rtdOor (num : Int) (den rn : Nat) : Bool := ratioBelow (-50000000) num (den * rn) || ratioAbove 200000000 num (den * rn)

/-- STAT of a channel: VALID, and the three flags. -/
def rtdStat (opn short oor : Bool) : Nat := b2n (!opn && !short && !oor) + 2 * b2n opn + 4 * b2n short + 8 * b2n oor

theorem rtdStat_lt (opn short oor : Bool) : rtdStat opn short oor < 2 ^ 32 := by
  revert opn short oor
  decide

/-- The registers of channel n that a reading writes. -/
def rtdReg (n a : Nat) : Bool := a == R.AFE_RTm_STAT n || a == R.AFE_RTm_RES n || a == R.AFE_RTm_T n

/-- The registers of channel n show a reading: its flags, its ratio, its temperature or the last valid one (R213 to R216). -/
structure RtdShows (u : W) (n : Nat) (num : Int) (den rn : Nat) (opn : Bool) (last : Word) : Prop where
  stat : u.rdN (R.AFE_RTm_STAT n) = rtdStat opn (rtdShort num den rn) (rtdOor num den rn)
  res : u.rdN (R.AFE_RTm_RES n) = uns 32 (rounded 340 num den)
  temp : u.rd (R.AFE_RTm_T n) =
    if opn || rtdShort num den rn then last else BitVec.ofNat 32 (uns 32 (rtdTemp num (den * rn)))

/-- What shows stays while its registers do. -/
theorem RtdShows.keep {p : Nat → Bool} {u v : W} {n den rn : Nat} {num : Int} {opn : Bool} {last : Word}
    (shows : RtdShows u n num den rn opn last) (h : Only p u v) (apart : ∀ a, rtdReg n a = true → p a = false) :
    RtdShows v n num den rn opn last where
  stat := (h.rdN (apart _ (by simp [rtdReg]))).trans shows.stat
  res := (h.rdN (apart _ (by simp [rtdReg]))).trans shows.res
  temp := (h _ (apart _ (by simp [rtdReg]))).trans shows.temp

/-- The three registers of channel n written. -/
def rtdStore (w : W) (n stat res : Nat) (temp : Word) : W :=
  ((w.wrN (R.AFE_RTm_STAT n) stat).wrN (R.AFE_RTm_RES n) res).wr (R.AFE_RTm_T n) temp

/-- A valid temperature kept for the readings to come (R215). -/
def rtdKeep (w : W) (valid : Bool) (n : Nat) (temp : Word) : W :=
  if valid then { w with mtr.rtValid := w.mtr.rtValid.setIfInBounds n temp } else w

theorem rtdStore_only (w : W) (n stat res : Nat) (temp : Word) : Only (rtdReg n) w (w.rtdStore n stat res temp) :=
  (((Only.refl _ w).wrN (by simp [rtdReg])).wrN (by simp [rtdReg])).wr (by simp [rtdReg])

theorem rtdKeep_regs (w : W) (valid : Bool) (n : Nat) (temp : Word) : (w.rtdKeep valid n temp).regs = w.regs := by
  unfold rtdKeep
  split <;> rfl

theorem rtdKeep_rtdPos (w : W) (valid : Bool) (n : Nat) (temp : Word) : (w.rtdKeep valid n temp).mtr.rtdPos = w.mtr.rtdPos := by
  unfold rtdKeep
  split <;> rfl

theorem rtdKeep_rtValid (w : W) (valid : Bool) {n m : Nat} (temp : Word) (h : m ≠ n) :
    (w.rtdKeep valid n temp).mtr.rtValid.getD m 0 = w.mtr.rtValid.getD m 0 := by
  unfold rtdKeep
  split
  · exact getD_setIfInBounds_ne _ _ _ h
  · rfl

/-- What a reading `num` / `den` leaves. -/
def rtdTaken (w : W) (n : Nat) (vx vref num : Int) (den : Nat) (comp : Bool) : W :=
  let opn := rtdOpen vx vref comp
  let short := rtdShort num den (w.rnom n)
  let oor := rtdOor num den (w.rnom n)
  let temp := BitVec.ofNat 32 (uns 32 (rtdTemp num (den * w.rnom n)))
  (w.rtdStore n (rtdStat opn short oor) (uns 32 (rounded 340 num den))
    (if opn || short then w.mtr.rtValid.getD n 0 else temp)).rtdKeep (!opn && !short && !oor) n temp

theorem uns_lt (x : Int) : uns 32 x < 2 ^ 32 := by
  unfold uns
  omega

section
variable {w : W} {n : Nat} {vx vref num : Int} {den : Nat} {comp : Bool}

theorem rtdTaken_shows : RtdShows (w.rtdTaken n vx vref num den comp) n num den (w.rnom n) (rtdOpen vx vref comp) (w.mtr.rtValid.getD n 0) := by
  have kept : ∀ {u : W} {valid temp}, Only (fun _ => false) u (u.rtdKeep valid n temp) := fun {u valid temp} =>
    (Only.refl _ u).of_regs (rtdKeep_regs ..)
  have statRes : R.AFE_RTm_STAT n ≠ R.AFE_RTm_RES n := by simp only [R.AFE_RTm_STAT, R.AFE_RTm_RES]; omega
  have statTemp : R.AFE_RTm_STAT n ≠ R.AFE_RTm_T n := by simp only [R.AFE_RTm_STAT, R.AFE_RTm_T]; omega
  have resTemp : R.AFE_RTm_RES n ≠ R.AFE_RTm_T n := by simp only [R.AFE_RTm_RES, R.AFE_RTm_T]; omega
  unfold rtdTaken
  constructor
  · rw [kept.rdN rfl, rtdStore, rdN, rd_wr_ne _ _ _ _ statTemp, rd_wrN, if_neg statRes, rd_wrN, if_pos rfl, BitVec.toNat_ofNat,
      Nat.mod_eq_of_lt (rtdStat_lt ..)]
  · rw [kept.rdN rfl, rtdStore, rdN, rd_wr_ne _ _ _ _ resTemp, rd_wrN, if_pos rfl, BitVec.toNat_ofNat, Nat.mod_eq_of_lt (uns_lt _)]
  · rw [kept _ rfl, rtdStore, rd_wr_same]

/-- A reading leaves the other registers, the slot that runs and the other channels' last valid temperatures. -/
theorem rtdTaken_only : Only (rtdReg n) w (w.rtdTaken n vx vref num den comp) :=
  Only.of_regs (rtdStore_only w n _ _ _) (rtdKeep_regs ..)

theorem rtdTaken_rtdPos : (w.rtdTaken n vx vref num den comp).mtr.rtdPos = w.mtr.rtdPos := rtdKeep_rtdPos ..

theorem rtdTaken_rtValid {m : Nat} (h : m ≠ n) : (w.rtdTaken n vx vref num den comp).mtr.rtValid.getD m 0 = w.mtr.rtValid.getD m 0 :=
  rtdKeep_rtValid _ _ _ h

/-- A reading above the zero of the reference converter is the ratio of the two differences times RREF (R213). -/
theorem rtdResult_above {zx zref : Int} (above : 0 < vref - zref) :
    (w.rtdResult n vx vref zx zref comp).1 = w.rtdTaken n vx vref (w.rdN R.AFE_RREF * (vx - zx)) (vref - zref).toNat comp := by
  unfold rtdResult
  dsimp only
  rw [if_neg (not_le.mpr above)]
  rfl

end

/-! ## The slot of a pair (R210, R211) -/

section
variable {w : W} {k : Nat} {vs vr vref : Int} {comp : Bool}

theorem rtdSlot_other (other : w.mtr.rtdPos ≠ k) : w.rtdSlot k vs vr vref comp = w := if_pos other

/-- The next slot begins. -/
def rtdNext (w : W) (k : Nat) : W := { w with mtr.rtdPos := k + 1 }

theorem rtdSlot_disabled (runs : w.mtr.rtdPos = k) (off : w.rdB (R.AFE_RTP_CFG k) 0 = false) :
    w.rtdSlot k vs vr vref comp = w.rtdNext k := by
  unfold rtdSlot
  rw [if_neg (not_not.mpr runs)]
  exact if_pos (congrArg not off)

/-- The nominal resistance stands in two registers that no reading writes. -/
theorem rnom_only {p : Nat → Bool} {u v : W} {m : Nat} (h : Only p u v) (nom : p (R.AFE_RTm_RNOM m) = false) (cfg : p (R.AFE_RTm_CFG m) = false) :
    v.rnom m = u.rnom m := by
  unfold rnom
  rw [h.rdN nom, h.rdF cfg]

/-- The registers of another channel are not those of channel n. -/
theorem rtdReg_apart {m n a : Nat} (hm : m < 16) (hn : n < 16) (h : m ≠ n) (ha : rtdReg m a = true) : rtdReg n a = false := by
  unfold rtdReg at ha ⊢
  simp only [Bool.or_eq_true, beq_iff_eq, Bool.or_eq_false_iff, beq_eq_false_iff_ne, R.AFE_RTm_STAT, R.AFE_RTm_RES, R.AFE_RTm_T] at ha ⊢
  omega

/-- The registers of the channels are neither the events' nor the page's ERR. -/
theorem rtdReg_beside {n a : Nat} (hn : n < 16) (ha : rtdReg n a = true) : (wakeReg a || a == R.H_ERR 0x11) = false := by
  unfold rtdReg at ha
  simp only [Bool.or_eq_true, beq_iff_eq] at ha
  rcases ha with (rfl | rfl) | rfl <;> revert n <;> decide

/-- The registers from which a reading of channel m is taken are not those of a channel. -/
theorem rtdReg_source {n m : Nat} (hm : m < 16) (hn : n < 16) : rtdReg n R.AFE_RREF = false ∧ rtdReg n (R.AFE_RTm_RNOM m) = false ∧
    rtdReg n (R.AFE_RTm_CFG m) = false := by
  unfold rtdReg
  simp only [Bool.or_eq_false_iff, beq_eq_false_iff_ne, R.AFE_RREF, R.AFE_RTm_RNOM, R.AFE_RTm_CFG, R.AFE_RTm_STAT, R.AFE_RTm_RES, R.AFE_RTm_T]
  omega

/-- The readings of the channel that SENSE and the one that RETURN of a pair measure, in turn. -/
def rtdPair (w : W) (k : Nat) (vs vr vref : Int) (comp : Bool) : W :=
  let u := (w.rtdNext k).rtdTaken (2 * k) vs vref (w.rdN R.AFE_RREF * (vs - w.mtr.zero[0])) (vref - w.mtr.zero[2]).toNat comp
  u.rtdTaken (2 * k + 1) vr vref (u.rdN R.AFE_RREF * (vr - w.mtr.zero[1])) (vref - w.mtr.zero[2]).toNat comp

/-- The slot that runs: of a pair that is not enabled, and of one that is. -/
theorem rtdSlot_eq : w.rtdSlot k vs vr vref comp =
    if w.mtr.rtdPos ≠ k then w
    else if (!(w.rtdNext k).rdB (R.AFE_RTP_CFG k) 0) = true then w.rtdNext k
    else
      let a := (w.rtdNext k).rtdResult (2 * k) vs vref (w.mtr.zero.getD 0 0) (w.mtr.zero.getD 2 0) comp
      let b := a.1.rtdResult (2 * k + 1) vr vref (w.mtr.zero.getD 1 0) (w.mtr.zero.getD 2 0) comp
      (if comp then b.1.err 0x11 0x1201 else b.1).raiseIf (a.2 || b.2) E.AFE_RTD_FAULT := rfl

/-- The slot of an enabled pair: both readings are taken, compliance is recorded, a new flag is an event (R210, R216). -/
theorem rtdSlot_enabled (runs : w.mtr.rtdPos = k) (on : w.rdB (R.AFE_RTP_CFG k) 0 = true) (above : 0 < vref - w.mtr.zero[2]) : ∃ fault,
    w.rtdSlot k vs vr vref comp =
      (if comp then (w.rtdPair k vs vr vref comp).err 0x11 0x1201 else w.rtdPair k vs vr vref comp).raiseIf fault E.AFE_RTD_FAULT := by
  have enabled : (!(w.rtdNext k).rdB (R.AFE_RTP_CFG k) 0) = false := congrArg not on
  rw [rtdSlot_eq, if_neg (not_not.mpr runs), enabled, if_neg (by decide), vector_getD _ _ _ (by decide), vector_getD _ _ _ (by decide),
    vector_getD _ _ _ (by decide)]
  dsimp only
  rw [rtdResult_above above, rtdResult_above above]
  exact ⟨_, rfl⟩

/-- The channel at SENSE shows its reading. -/
theorem rtdPair_sense (hk : k < 8) : RtdShows (w.rtdPair k vs vr vref comp) (2 * k) (w.rdN R.AFE_RREF * (vs - w.mtr.zero[0]))
    (vref - w.mtr.zero[2]).toNat (w.rnom (2 * k)) (rtdOpen vs vref comp) (w.mtr.rtValid.getD (2 * k) 0) :=
  RtdShows.keep (rtdTaken_shows (w := w.rtdNext k)) rtdTaken_only fun _ ha => rtdReg_apart (by omega) (by omega) (by omega) ha

/-- The channel at RETURN shows its reading, from the settings as they stood before the other's. -/
theorem rtdPair_return (hk : k < 8) : RtdShows (w.rtdPair k vs vr vref comp) (2 * k + 1) (w.rdN R.AFE_RREF * (vr - w.mtr.zero[1]))
    (vref - w.mtr.zero[2]).toNat (w.rnom (2 * k + 1)) (rtdOpen vr vref comp) (w.mtr.rtValid.getD (2 * k + 1) 0) := by
  obtain ⟨rref, nom, cfg⟩ := rtdReg_source (n := 2 * k) (m := 2 * k + 1) (by omega) (by omega)
  have first := rtdTaken_only (w := w.rtdNext k) (n := 2 * k) (vx := vs) (vref := vref)
    (num := w.rdN R.AFE_RREF * (vs - w.mtr.zero[0])) (den := (vref - w.mtr.zero[2]).toNat) (comp := comp)
  have last := rtdTaken_rtValid (w := w.rtdNext k) (n := 2 * k) (vx := vs) (vref := vref)
    (num := w.rdN R.AFE_RREF * (vs - w.mtr.zero[0])) (den := (vref - w.mtr.zero[2]).toNat) (comp := comp) (m := 2 * k + 1) (by omega)
  have rref' := first.rdN rref
  have nom' := rnom_only first nom cfg
  unfold rtdPair
  dsimp only
  generalize (w.rtdNext k).rtdTaken (2 * k) _ _ _ _ _ = u at *
  rw [rref']
  have second := rtdTaken_shows (w := u) (n := 2 * k + 1) (vx := vr) (vref := vref) (num := w.rdN R.AFE_RREF * (vr - w.mtr.zero[1]))
    (den := (vref - w.mtr.zero[2]).toNat) (comp := comp)
  rw [nom', last] at second
  exact second

theorem rtdPair_rtdPos : (w.rtdPair k vs vr vref comp).mtr.rtdPos = k + 1 := by
  unfold rtdPair
  rw [rtdTaken_rtdPos, rtdTaken_rtdPos]
  rfl

/-- The event and the record of compliance leave what the readings show. -/
theorem rtdSlot_keeps (runs : w.mtr.rtdPos = k) (on : w.rdB (R.AFE_RTP_CFG k) 0 = true) (above : 0 < vref - w.mtr.zero[2]) :
    Only (fun a => wakeReg a || a == R.H_ERR 0x11) (w.rtdPair k vs vr vref comp) (w.rtdSlot k vs vr vref comp) ∧
    (w.rtdSlot k vs vr vref comp).mtr = (w.rtdPair k vs vr vref comp).mtr ∧
    (comp = true → (w.rtdSlot k vs vr vref comp).rdF (R.H_ERR 0x11) 0 16 = 0x1201) := by
  obtain ⟨fault, eq⟩ := rtdSlot_enabled (vs := vs) (vr := vr) (comp := comp) runs on above
  rw [eq]
  generalize w.rtdPair k vs vr vref comp = u
  have recorded : Only (fun a => wakeReg a || a == R.H_ERR 0x11) u (if comp then u.err 0x11 0x1201 else u) := by
    unfold err
    exact Only.ite (Only.ite (Only.refl _ u) ((Only.refl _ u).wr (by decide))) (Only.refl _ u)
  have event := Only.raiseIf_wake (if comp then u.err 0x11 0x1201 else u) fault E.AFE_RTD_FAULT
  refine ⟨recorded.trans (event.weaken fun a ha => (Bool.or_eq_false_iff.mp ha).1), ?_, fun compliance => ?_⟩
  · rw [raiseIf_mtr]
    split
    · exact err_mtr ..
    · rfl
  · rw [event.rdF (by decide), if_pos compliance]
    exact rdF_err_code (by decide) (by decide)

/-- After the slot each channel of the pair shows its reading. -/
theorem rtdSlot_sense (hk : k < 8) (runs : w.mtr.rtdPos = k) (on : w.rdB (R.AFE_RTP_CFG k) 0 = true) (above : 0 < vref - w.mtr.zero[2]) :
    RtdShows (w.rtdSlot k vs vr vref comp) (2 * k) (w.rdN R.AFE_RREF * (vs - w.mtr.zero[0])) (vref - w.mtr.zero[2]).toNat
      (w.rnom (2 * k)) (rtdOpen vs vref comp) (w.mtr.rtValid.getD (2 * k) 0) :=
  (rtdPair_sense hk).keep (rtdSlot_keeps runs on above).1 fun _ => rtdReg_beside (by omega)

theorem rtdSlot_return (hk : k < 8) (runs : w.mtr.rtdPos = k) (on : w.rdB (R.AFE_RTP_CFG k) 0 = true) (above : 0 < vref - w.mtr.zero[2]) :
    RtdShows (w.rtdSlot k vs vr vref comp) (2 * k + 1) (w.rdN R.AFE_RREF * (vr - w.mtr.zero[1])) (vref - w.mtr.zero[2]).toNat
      (w.rnom (2 * k + 1)) (rtdOpen vr vref comp) (w.mtr.rtValid.getD (2 * k + 1) 0) :=
  (rtdPair_return hk).keep (rtdSlot_keeps runs on above).1 fun _ => rtdReg_beside (by omega)

end

end W
end Sys2Proof.Machine
end

section
/-!
PROOF. Accepted edges of the pulse inputs (R217 to R224), and the commit of correction tables (R200 to R202).
-/
namespace Sys2Proof.Machine

namespace W

/-! ## Pulse inputs (R217 to R224) -/

section
variable {w : W} {n sample : Nat} {level : Bool}

/-- Whether an input is a direction input stands in CFG (R219), which an accepted level does not write. -/
theorem isDir_wrB_stat (w : W) (n i : Nat) (b : Bool) : (w.wrB (R.PLS_PIn_STAT n) i b).isDir n = w.isDir n := by
  have apart : R.PLS_PIn_CFG (n - 1) ≠ R.PLS_PIn_STAT n := by simp only [R.PLS_PIn_CFG, R.PLS_PIn_STAT]; omega
  unfold isDir rdB
  rw [rd_wrB, if_neg apart]

theorem pulseAccept_off {accepted : Bool} (off : w.dom 2 ≠ 1) : w.pulseAccept n level accepted sample = w := if_pos off

/-- A level that reverts is counted as a glitch (R217). -/
theorem pulseAccept_reverts (on : w.dom 2 = 1) : w.pulseAccept n level false sample = w.incSatF (R.PLS_PIn_STAT n) 16 16 :=
  if_neg (not_not.mpr on)

/-- The level that stands changes nothing. -/
theorem pulseAccept_stands (stands : w.rdB (R.PLS_PIn_STAT n) 0 = level) : w.pulseAccept n level true sample = w := by
  unfold pulseAccept
  split
  · rfl
  · exact if_pos (beq_iff_eq.mpr stands)

/-- The new level of an input; that of a direction input is an event (R219, R220). -/
def pulseLevel (w : W) (n sample : Nat) (level : Bool) : W :=
  ({ w.wrB (R.PLS_PIn_STAT n) 0 level with mtr.levelAt := w.mtr.levelAt.setIfInBounds n (some sample) } : W).raiseIf (w.isDir n) E.PLS_PLS_DIR

/-- A change of level is stored, and counts where it is a counting edge (R218 to R221). -/
theorem pulseAccept_changes (on : w.dom 2 = 1) (changes : w.rdB (R.PLS_PIn_STAT n) 0 = !level) :
    w.pulseAccept n level true sample =
      if w.isCounting n level = true then
        (((w.pulseLevel n sample level).countEdge n sample (w.edgeFwd n sample)).pulseMeter n (w.edgeFwd n sample)).thermPulse n
          (w.edgeFwd n sample)
      else w.pulseLevel n sample level := by
  have dir := isDir_wrB_stat w n 0 level
  unfold pulseAccept pulseLevel
  rw [if_neg (not_not.mpr on), if_neg (by decide), if_neg (by rw [changes]; cases level <;> decide), ← dir]
  rfl

end

/-! ## CORR_COMMIT (R200 to R202) -/

/-- The code of a commit stands in the table's area and in what waits for the channel. -/
theorem corrCode_congr {w u : W} {j : Nat} (hj : j < 24) (regs : ∀ i < 528, u.rd (R.AFE_CORR_TABn i) = w.rd (R.AFE_CORR_TABn i))
    (mtr : u.mtr = w.mtr) : u.corrCode j = w.corrCode j := by
  have bytes : u.tabBytes j = w.tabBytes j := by
    unfold tabBytes rdN
    exact List.flatMap_congr fun i hi => by rw [regs _ (by rw [List.mem_range] at hi; omega)]
  unfold corrCode chOf
  rw [bytes, mtr]

/-- The tables that a write of CORR_COMMIT selects. -/
def corrSel (v : Word) : List Nat := (List.range 24).filter fun j => bit v j

theorem lt_of_mem_corrSel {v : Word} {j : Nat} (h : j ∈ corrSel v) : j < 24 := List.mem_range.mp (List.mem_filter.mp h).1

/-- A write of CORR_COMMIT is refused when every selected table is (R200). -/
theorem afeCheck_commit (w : W) (v : Word) : w.afeCheck 0x1C4 v =
    if corrSel v ≠ [] ∧ (corrSel v).all (fun j => w.corrCode j != 0) = true then w.corrCode ((corrSel v).headD 0) else 0 := by
  unfold afeCheck
  rw [if_neg (by decide), if_neg (by decide), if_pos rfl]
  rfl

theorem afeWrite_commit (w : W) (v : Word) : w.afeWrite 0x1C4 v = some (w.corrCommit v) := by
  unfold afeWrite
  rw [if_neg (by decide), if_pos rfl]

/-- Each selected table is checked by itself: it is refused, or waits for the end of its channel's block (R200 to R202). -/
theorem corrCommit_eq (w : W) (v : Word) : w.corrCommit v =
    (List.range 24).foldl (fun u j =>
      if bit v j = false then u
      else if u.corrCode j ≠ 0 then (u.err 0x11 (u.corrCode j)).raise E.AFE_CORR_ERR
      else u.setCh j { u.chOf j with pend := some (tabBps (u.tabBytes j) ((u.tabBytes j).getD 3 0).toNat) }) w := by
  unfold corrCommit
  refine List.foldl_ext _ _ _ fun u j _ => ?_
  cases bit v j <;> rfl

end W

section
variable {s : State} {v : Word}

theorem corrCommit_runs (s : State) (v : Word) : exec (.corrCommit v) s = run (fun m w => w.hostWord {} m R.AFE_CORR_COMMIT v) s := by
  show run (fun m w => w.put32 m R.AFE_CORR_COMMIT v.toNat) s = _
  unfold W.put32
  rw [BitVec.ofNat_toNat, BitVec.setWidth_eq]

theorem corrCommit_meets (u : W) (m : Memory) (v : Word) : u.accessMeets m R.AFE_CORR_COMMIT v {} = (u, m) :=
  W.accessMeets_other u _ _ _ _ (by decide) (by decide) (by decide) (.inl (by decide))

/-- The page's bookkeeping leaves the tables. -/
theorem corrCode_enter (s : State) {j : Nat} (hj : j < 24) : (hostEnter (begin_ s) 0x11).corrCode j = (begin_ s).corrCode j :=
  W.corrCode_congr hj (fun i hi => W.start_rd _ _ _ (by simp only [R.AFE_CORR_TABn]; omega)) (W.start_blocks _ _).mtr

/-- The check of CORR_COMMIT when the host's write meets it. -/
theorem corrCommit_check (s : State) (v : Word) : (hostEnter (begin_ s) 0x11).blockCheck s.mem R.AFE_CORR_COMMIT v {} =
    if W.corrSel v ≠ [] ∧ (∀ j ∈ W.corrSel v, (begin_ s).corrCode j ≠ 0) then (begin_ s).corrCode ((W.corrSel v).headD 0) else 0 := by
  have all : (W.corrSel v).all (fun j => (hostEnter (begin_ s) 0x11).corrCode j != 0) = true ↔
      ∀ j ∈ W.corrSel v, (begin_ s).corrCode j ≠ 0 := by
    rw [List.all_eq_true]
    exact forall₂_congr fun j hj => by rw [corrCode_enter s (W.lt_of_mem_corrSel hj), bne_iff_ne]
  rw [W.check_11 (by decide)]
  refine (W.afeCheck_commit _ v).trans ?_
  simp only [all]
  split
  · rename_i refused
    obtain ⟨j, rest, sel⟩ := List.exists_cons_of_ne_nil refused.1
    exact corrCode_enter s (W.lt_of_mem_corrSel (by rw [sel]; exact List.mem_cons_self))
  · rfl

/-- A write of CORR_COMMIT none of whose tables passes is refused with the first one's code, and CORR_ERR is raised (R200). -/
theorem corrCommit_refused (h : Open s R.AFE_CORR_COMMIT) (named : W.corrSel v ≠ []) (bad : ∀ j ∈ W.corrSel v, (begin_ s).corrCode j ≠ 0) :
    Completes (.corrCommit v) s
      ((((hostEnter (begin_ s) 0x11).err 0x11 ((begin_ s).corrCode ((W.corrSel v).headD 0))).raise E.AFE_CORR_ERR).spend 0x11 0x1C4) := by
  obtain ⟨j, rest, sel⟩ := List.exists_cons_of_ne_nil named
  have code : (begin_ s).corrCode ((W.corrSel v).headD 0) ≠ 0 := by rw [sel]; exact bad j (by rw [sel]; exact List.mem_cons_self)
  refine completes_of_run (corrCommit_runs s v) ?_
  exact W.hostWord_blockRefused (off := R.AFE_CORR_COMMIT) h.host (by decide) h.lock.2 (fun u => corrCommit_meets u _ _)
    ((corrCommit_check s v).trans (if_pos ⟨named, bad⟩)) code

/-- Any other write of CORR_COMMIT commits the tables that pass. -/
theorem corrCommit_takes (h : Open s R.AFE_CORR_COMMIT) (passes : W.corrSel v = [] ∨ ∃ j ∈ W.corrSel v, (begin_ s).corrCode j = 0) :
    Takes (.corrCommit v) s R.AFE_CORR_COMMIT fun u => u.corrCommit v := by
  refine takes_hostReg (corrCommit_runs s v) (by decide) h (fun u => corrCommit_meets u _ _) ?_ fun u => ?_
  · refine (corrCommit_check s v).trans (if_neg ?_)
    rintro ⟨named, bad⟩
    rcases passes with none | ⟨j, hj, good⟩
    · exact named none
    · exact bad j hj good
  · rw [W.write_11 (by decide)]
    exact congrArg (fun o => Option.getD o _) (W.afeWrite_commit u v)

end

end Sys2Proof.Machine
end

section
/-!
PROOF. One output period (R176 to R189, R204): the samples of the channels, each of which leaves the others, and what follows them.
-/
namespace Sys2Proof.Machine

namespace W

/-! ## Bits of the clipped channels -/

theorem channelBit (n m : Nat) (hm : m < 24) : (BitVec.ofNat 24 (2 ^ n)).getLsbD m = decide (n = m) := by
  rw [BitVec.getLsbD_ofNat, Nat.testBit_two_pow, decide_eq_true hm, Bool.true_and]

/-- The bit of channel n in `clip` set or cleared. -/
def clipWith (clip : BitVec 24) (n : Nat) (clipped : Bool) : BitVec 24 :=
  if clipped then clip ||| BitVec.ofNat 24 (2 ^ n) else clip &&& ~~~BitVec.ofNat 24 (2 ^ n)

theorem clipWith_getLsbD (clip : BitVec 24) (n m : Nat) (clipped : Bool) (hm : m < 24) :
    (clipWith clip n clipped).getLsbD m = if n = m then clipped else clip.getLsbD m := by
  unfold clipWith
  cases clipped
  · simp only [Bool.false_eq_true, if_false, BitVec.getLsbD_and, BitVec.getLsbD_not, channelBit n m hm, hm]
    split <;> simp_all
  · simp only [if_true, BitVec.getLsbD_or, channelBit n m hm]
    split <;> simp_all

/-! ## One sample of a channel, in parts -/

/-- Stage 4 of a channel from a raw sample: the integrator, the high-pass filter or neither (R182 to R184). -/
def chStage4 (w : W) (n : Nat) (c : AfeCh) (raw : Int) : Int :=
  if w.rdF (R.AFE_CHn_CFG n) 1 3 = 3 then coilInt c.y ((clipRaw raw :: c.raws).take 28)
  else if w.rdB (R.AFE_CHn_CFG n) 7 then highPass c.y (clipRaw raw) (c.raws.headD 0) else clipRaw raw * 2 ^ 32

/-- STAT of a channel takes a sample that is clipped or not, past the warm-up or not; the first clipped one is an event (R181, R189). -/
def chFlags (w : W) (n : Nat) (clipped valid : Bool) : W :=
  ((if clipped then (w.wrB (R.AFE_CHn_STAT n) 0 true).incSatF (R.AFE_CHn_STAT n) 16 16 else w).raiseIf
    (clipped && !w.rdB (R.AFE_CHn_STAT n) 0) E.AFE_OVL).wrB (R.AFE_CHn_STAT n) 2 valid

/-- The channel's record, its corrected sample and its bit of the clipped ones. -/
def chPut (w : W) (n : Nat) (c : AfeCh) (x : Word) (clipped : Bool) : W :=
  { w.setCh n c with mtr.x := w.mtr.x.setIfInBounds n x, mtr.clip := clipWith w.mtr.clip n clipped }

/-- The corrected sample of a channel whose stages 1 to 3 have brought `raw`. -/
def chCorrected (w : W) (n : Nat) (c : AfeCh) (raw : Int) : Word :=
  stage6 (stage5 c.d ((w.chStage4 n c raw :: c.z).take 40)) c.scale c.gain

theorem chSample_off {w : W} {n : Nat} (v : List Int) (ext : Nat) (off : w.chEn n = false) :
    w.chSample n v ext = { w with mtr.clip := clipWith w.mtr.clip n false } := by
  unfold chSample
  exact if_pos (congrArg not off)

/-- A sample of an enabled channel, once a full block has ended. -/
theorem chSample_on {w : W} {n : Nat} (v : List Int) (ext : Nat) (on : w.chEn n = true) : ∃ c',
    w.chSample n v ext =
      (let u := w.blockEnd n
       let c := u.chDecimate n v ext (u.chOf n)
       let raw := stage3 c.fir modFull
       let f := u.chFlags n (decide (rawMax ≤ raw.natAbs)) (c.warm == 0)
       f.chPut n c' (f.chCorrected n c raw) (decide (rawMax ≤ raw.natAbs))) := by
  unfold chSample
  rw [if_neg (by rw [on]; decide)]
  exact ⟨_, rfl⟩

end W

/-! ## What concerns one channel -/

/-- The registers that a sample of channel n reads: its CFG and STAT, and REF_CFG. -/
def chReg (n a : Nat) : Bool := a == R.AFE_CHn_CFG n || a == R.AFE_CHn_STAT n || a == R.AFE_REF_CFG

/-- Nothing that concerns channel n has changed. -/
structure KeepsCh (n : Nat) (w u : W) : Prop where
  regs : Only (fun a => !chReg n a) w u
  ch : u.chOf n = w.chOf n
  x : u.mtr.x.getD n 0 = w.mtr.x.getD n 0
  clip : u.mtr.clip.getLsbD n = w.mtr.clip.getLsbD n
  periods : u.mtr.periods = w.mtr.periods
  ctr : u.freeCtr = w.freeCtr

/-- Events and the results of corrections lie outside the registers of a channel. -/
theorem chReg_apart {n a : Nat} (hn : n < 24) (ha : chReg n a = true) : wakeReg a = false ∧ a ≠ R.AFE_CORR_STAT := by
  unfold chReg at ha
  simp only [Bool.or_eq_true, beq_iff_eq] at ha
  rcases ha with (rfl | rfl) | rfl <;> revert n <;> decide

theorem chReg_stat {n m : Nat} (h : m ≠ n) : chReg n (R.AFE_CHn_STAT m) = false := by
  unfold chReg
  simp only [Bool.or_eq_false_iff, beq_eq_false_iff_ne, R.AFE_CHn_STAT, R.AFE_CHn_CFG, R.AFE_REF_CFG]
  omega

namespace KeepsCh

variable {n m : Nat} {w u v : W}

theorem refl (n : Nat) (w : W) : KeepsCh n w w := ⟨Only.refl _ w, rfl, rfl, rfl, rfl, rfl⟩
theorem trans (h : KeepsCh n w u) (k : KeepsCh n u v) : KeepsCh n w v :=
  ⟨h.regs.trans k.regs, k.ch.trans h.ch, k.x.trans h.x, k.clip.trans h.clip, k.periods.trans h.periods, k.ctr.trans h.ctr⟩
theorem ite {c : Prop} [Decidable c] (h : KeepsCh n w u) (k : KeepsCh n w v) : KeepsCh n w (if c then u else v) := by
  split <;> assumption
theorem wr (w : W) {a : Nat} (x : Word) (ha : chReg n a = false) : KeepsCh n w (w.wr a x) :=
  ⟨(Only.refl _ w).wr (congrArg not ha), rfl, rfl, rfl, rfl, rfl⟩

theorem raise (w : W) (e : Nat × Nat) (hn : n < 24) : KeepsCh n w (w.raise e) := by
  have same := SameBlocks.raise w e
  refine ⟨(Only.raise_wake w e).weaken fun a ha => (chReg_apart hn (Bool.not_eq_false' .. ▸ ha)).1, ?_, ?_, ?_, ?_, same.ctr⟩
  · unfold W.chOf
    rw [same.mtr]
  all_goals rw [same.mtr]

theorem raiseIf (w : W) (c : Bool) (e : Nat × Nat) (hn : n < 24) : KeepsCh n w (w.raiseIf c e) := ite (raise w e hn) (refl n w)

/-- Another channel's record. -/
theorem setCh (w : W) (c : AfeCh) (h : n ≠ m) : KeepsCh n w (w.setCh m c) :=
  ⟨(Only.refl _ w).of_regs rfl, getD_setIfInBounds_ne _ _ _ h, rfl, rfl, rfl, rfl⟩

theorem corrSet (w : W) (c : AfeCh) (l : Int) (h : n ≠ m) : KeepsCh n w (w.corrSet m c l) := by
  unfold W.corrSet
  exact ite ((setCh w _ h).trans (wr _ _ (chReg_stat h.symm))) (setCh w _ h)

theorem chApply (w : W) (c : AfeCh) (hn : n < 24) : KeepsCh n w (w.chApply m c).1 := by
  have shown : chReg n R.AFE_CORR_STAT = false := by
    by_contra h
    exact (chReg_apart hn (by simpa using h)).2 rfl
  unfold W.chApply
  dsimp only
  split
  · exact refl n w
  · exact (wr w _ shown).trans (raise _ _ hn)

theorem blockEnd (w : W) (hn : n < 24) (h : n ≠ m) : KeepsCh n w (w.blockEnd m) := by
  unfold W.blockEnd
  exact ite (refl n w) ((chApply w _ hn).trans (corrSet _ _ _ h))

theorem chFlags (w : W) (clipped valid : Bool) (hn : n < 24) (h : n ≠ m) : KeepsCh n w (w.chFlags m clipped valid) := by
  have stat := chReg_stat h.symm
  unfold W.chFlags
  exact (ite ((wr w _ stat).trans (wr _ _ stat)) (refl n w)).trans ((raiseIf _ _ _ hn).trans (wr _ _ stat))

theorem chPut (w : W) (c : AfeCh) (x : Word) (clipped : Bool) (hn : n < 24) (h : n ≠ m) : KeepsCh n w (w.chPut m c x clipped) :=
  ⟨(Only.refl _ w).of_regs rfl, getD_setIfInBounds_ne _ _ _ h, getD_setIfInBounds_ne _ _ _ h,
    (W.clipWith_getLsbD _ _ _ _ hn).trans (if_neg h.symm), rfl, rfl⟩

/-- A sample of another channel. -/
theorem chSample (w : W) (v : List Int) (ext : Nat) (hn : n < 24) (h : n ≠ m) : KeepsCh n w (w.chSample m v ext) := by
  by_cases on : w.chEn m = true
  · obtain ⟨c', eq⟩ := W.chSample_on v ext on
    rw [eq]
    exact (blockEnd w hn h).trans ((chFlags _ _ _ hn h).trans (chPut _ _ _ _ hn h))
  · rw [W.chSample_off v ext (by simpa using on)]
    exact ⟨(Only.refl _ w).of_regs rfl, rfl, rfl, (W.clipWith_getLsbD _ _ _ _ hn).trans (if_neg h.symm), rfl, rfl⟩

/-- In a pass over distinct channels each takes its turn with what concerns it unchanged, and keeps what it makes of it. -/
theorem visit {f : W → Nat → W} (others : ∀ u m, n ≠ m → KeepsCh n u (f u m)) :
    ∀ {l : List Nat}, l.Nodup → n ∈ l → ∀ w, ∃ v, KeepsCh n w v ∧ KeepsCh n (f v n) (l.foldl f w)
  | m :: l, nodup, mem, w => by
    obtain ⟨fresh, nodup⟩ := List.nodup_cons.mp nodup
    have rest : ∀ (l : List Nat), n ∉ l → ∀ w, KeepsCh n w (l.foldl f w) := fun l => by
      induction l with
      | nil => exact fun _ w => refl n w
      | cons m l ih =>
        intro absent w
        exact (others w m fun h => absent (h ▸ List.mem_cons_self)).trans (ih (fun h => absent (List.mem_cons_of_mem _ h)) _)
    by_cases h : n = m
    · subst h
      exact ⟨w, refl n w, rest l fresh _⟩
    · obtain ⟨v, before, after⟩ := visit others nodup ((List.mem_cons.mp mem).resolve_left h) (f w m)
      exact ⟨v, (others w m h).trans before, after⟩

end KeepsCh

/-! ## What a sample shows of its own channel -/

namespace W

/-- The stream of a channel with the bits of one output period, newest first (R176). -/
def chBits (w : W) (n : Nat) (v : List Int) (ext : Nat) : List Bool :=
  (modStream ((if w.rdB R.AFE_REF_CFG 0 then ext else 1200000000) * modFull : Nat) (Config.modBit w.freeCtr n) (w.chOf n).acc
    (v.map fun x => x * (200 * 2 ^ w.rdF (R.AFE_CHn_CFG n) 4 3 : Nat))).2 ++ (w.chOf n).bits

/-- The raw sample of a channel, not clipped (R177). -/
def chRaw (w : W) (n : Nat) (v : List Int) (ext : Nat) : Int :=
  stage3 (((List.range 4).map (fun q => stage2 ((w.chBits n v ext).drop (64 * q))) ++ (w.chOf n).fir).take 238) modFull

theorem chDecimate_fir (w : W) (n : Nat) (v : List Int) (ext : Nat) :
    stage3 (w.chDecimate n v ext (w.chOf n)).fir modFull = w.chRaw n v ext := by
  unfold chRaw chBits
  simp only [mul_comm _ ((200 * 2 ^ w.rdF (R.AFE_CHn_CFG n) 4 3 : Nat) : Int)]
  rfl

end W

/-- What a sample of channel n, from what concerns the channel in `w`, leaves in `u` (R176 to R189). -/
structure ChShows (w : W) (n : Nat) (v : List Int) (ext : Nat) (u : W) : Prop where
  x : u.mtr.x.getD n 0 = w.chCorrected n (w.chOf n) (w.chRaw n v ext)
  clip : u.mtr.clip.getLsbD n = decide (rawMax ≤ (w.chRaw n v ext).natAbs)
  clipped : u.rdB (R.AFE_CHn_STAT n) 0 = (w.rdB (R.AFE_CHn_STAT n) 0 || decide (rawMax ≤ (w.chRaw n v ext).natAbs))
  valid : u.rdB (R.AFE_CHn_STAT n) 2 = ((w.chOf n).warm == 0)

section
variable {n : Nat} {w u v : W} {vin : List Int} {ext : Nat}

theorem chReg_own (n : Nat) : chReg n (R.AFE_CHn_CFG n) = true ∧ chReg n (R.AFE_CHn_STAT n) = true ∧ chReg n R.AFE_REF_CFG = true := by
  simp [chReg]

/-- The raw sample depends on what concerns the channel alone. -/
theorem KeepsCh.chRaw (h : KeepsCh n w u) : u.chRaw n vin ext = w.chRaw n vin ext := by
  obtain ⟨cfg, -, ref⟩ := chReg_own n
  unfold W.chRaw W.chBits
  rw [h.ch, h.ctr, h.regs.rdB (by simp [ref]), h.regs.rdF (by simp [cfg])]

theorem chCorrected_only {p : Nat → Bool} (h : Only p w u) (cfg : p (R.AFE_CHn_CFG n) = false) (c : AfeCh) (raw : Int) :
    u.chCorrected n c raw = w.chCorrected n c raw := by
  unfold W.chCorrected W.chStage4
  rw [h.rdF cfg, h.rdB cfg]

theorem ChShows.of_before (shows : ChShows v n vin ext u) (h : KeepsCh n w v) : ChShows w n vin ext u := by
  obtain ⟨cfg, stat, -⟩ := chReg_own n
  obtain ⟨x, clip, clipped, valid⟩ := shows
  rw [h.chRaw, h.ch, chCorrected_only h.regs (by simp [cfg])] at x
  rw [h.chRaw] at clip clipped
  rw [h.regs.rdB (by simp [stat])] at clipped
  rw [h.ch] at valid
  exact ⟨x, clip, clipped, valid⟩

theorem ChShows.keep (shows : ChShows w n vin ext u) (x : v.mtr.x.getD n 0 = u.mtr.x.getD n 0)
    (clip : v.mtr.clip.getLsbD n = u.mtr.clip.getLsbD n) (stat : v.rd (R.AFE_CHn_STAT n) = u.rd (R.AFE_CHn_STAT n)) :
    ChShows w n vin ext v where
  x := x.trans shows.x
  clip := clip.trans shows.clip
  clipped := (congrArg (bit · 0) stat).trans shows.clipped
  valid := (congrArg (bit · 2) stat).trans shows.valid

theorem chFlags_only (w : W) (clipped valid : Bool) :
    Only (fun a => wakeReg a || a == R.AFE_CHn_STAT n) w (w.chFlags n clipped valid) := by
  unfold W.chFlags
  refine Only.wrB (Only.trans ?_ ((Only.raiseIf_wake _ _ _).weaken fun a ha => (Bool.or_eq_false_iff.mp ha).1)) (by simp)
  exact Only.ite (((Only.refl _ w).wrB (by simp)).wrF (by simp)) (Only.refl _ w)

/-- STAT after a sample: CLIPPED is kept, VALID is new (R181, R189). -/
theorem chFlags_stat (w : W) (clipped valid : Bool) (hn : n < 24) :
    (w.chFlags n clipped valid).rdB (R.AFE_CHn_STAT n) 0 = (w.rdB (R.AFE_CHn_STAT n) 0 || clipped) ∧
    (w.chFlags n clipped valid).rdB (R.AFE_CHn_STAT n) 2 = valid := by
  obtain ⟨-, stat, -⟩ := chReg_own n
  unfold W.chFlags
  refine ⟨?_, W.rdB_wrB_same _ _ _ _ (by decide)⟩
  rw [W.rdB_wrB_apart _ _ _ _ _ (by decide) (by decide), (Only.raiseIf_wake _ _ _).rdB (chReg_apart hn stat).1]
  cases clipped
  · simp
  · have high : ∀ u : W, (u.incSatF (R.AFE_CHn_STAT n) 16 16).rdB (R.AFE_CHn_STAT n) 0 = u.rdB (R.AFE_CHn_STAT n) 0 := fun u => by
      unfold W.incSatF W.wrF W.rdB
      rw [W.rd_wr_same, bit_setFld_ne _ _ _ _ _ (by decide) (by decide)]
    rw [if_pos rfl, high, W.rdB_wrB_same _ _ _ _ (by decide), Bool.or_true]

/-- Stages 1 to 3 leave what the later stages take from the channel's record. -/
theorem chCorrected_decimate (w : W) (u : W) (c : AfeCh) (raw : Int) :
    u.chCorrected n (w.chDecimate n vin ext c) raw = u.chCorrected n c raw := rfl

/-- CFG stands beside STAT and the events. -/
theorem chCfg_apart (hn : n < 24) : (wakeReg (R.AFE_CHn_CFG n) || R.AFE_CHn_CFG n == R.AFE_CHn_STAT n) = false := by
  rw [(chReg_apart hn (chReg_own n).1).1]
  simp

/-- A sample of an enabled channel within its block. -/
theorem chSample_shows (hn : n < 24) (on : w.chEn n = true) (within : (w.chOf n).blk ≠ W.blockLen) :
    ChShows w n vin ext (w.chSample n vin ext) := by
  obtain ⟨c', eq⟩ := W.chSample_on vin ext on
  rw [W.blockEnd_idle (.inr within)] at eq
  dsimp only at eq
  rw [W.chDecimate_fir, chCorrected_decimate, chCorrected_only (chFlags_only w _ _) (chCfg_apart hn)] at eq
  rw [eq]
  obtain ⟨clipped, valid⟩ := chFlags_stat w (decide (rawMax ≤ (w.chRaw n vin ext).natAbs)) ((w.chOf n).warm == 0) hn
  exact ⟨getD_setIfInBounds_self _ _ _ hn, (W.clipWith_getLsbD _ _ _ _ hn).trans (if_pos rfl), clipped, valid⟩

end

/-! ## What follows the channels' samples (R190, R204 to R206, R238, R242, R269) -/

/-- The samples of the channels, the registers and the count of the output periods are as they were. -/
structure KeepsSamples (w u : W) : Prop where
  regs : u.regs = w.regs
  x : u.mtr.x = w.mtr.x
  clip : u.mtr.clip = w.mtr.clip
  periods : u.mtr.periods = w.mtr.periods

namespace KeepsSamples

theorem refl (w : W) : KeepsSamples w w := ⟨rfl, rfl, rfl, rfl⟩
theorem trans {w u v : W} (h : KeepsSamples w u) (k : KeepsSamples u v) : KeepsSamples w v :=
  ⟨k.regs.trans h.regs, k.x.trans h.x, k.clip.trans h.clip, k.periods.trans h.periods⟩
theorem ite {w u v : W} {c : Prop} [Decidable c] (h : KeepsSamples w u) (k : KeepsSamples w v) : KeepsSamples w (if c then u else v) := by
  split <;> assumption
theorem foldl {α : Type} {f : W → α → W} (hf : ∀ u x, KeepsSamples u (f u x)) : ∀ (l : List α) (w : W), KeepsSamples w (l.foldl f w)
  | [], w => refl w
  | x :: t, w => (hf w x).trans (foldl hf t (f w x))

theorem trkSample (w : W) (t : Nat) : KeepsSamples w (w.trkSample t) := by
  unfold W.trkSample
  exact ite (refl w) ⟨rfl, rfl, rfl, rfl⟩

theorem captSample (w : W) : KeepsSamples w w.captSample := by
  unfold W.captSample
  exact ite (refl w) ⟨rfl, rfl, rfl, rfl⟩

theorem winSample (w : W) : KeepsSamples w w.winSample := by
  unfold W.winSample
  split
  · exact refl w
  · exact ⟨rfl, rfl, rfl, rfl⟩

theorem elemSample (w : W) (e j : Nat) : KeepsSamples w (w.elemSample e j) := by
  unfold W.elemSample
  extract_lets v i valid clip k one _ clipped _ marked
  have onClip : KeepsSamples w clipped := ite ⟨rfl, rfl, rfl, rfl⟩ (refl w)
  have onMark : KeepsSamples w marked := ite (trans onClip ⟨rfl, rfl, rfl, rfl⟩) onClip
  clear_value marked
  refine ite onMark (trans onMark ?_)
  dsimp only
  split
  · exact ⟨rfl, rfl, rfl, rfl⟩
  · exact ⟨rfl, rfl, rfl, rfl⟩

theorem elecSample (w : W) : KeepsSamples w w.elecSample :=
  foldl (fun u e => ite (foldl (fun u j => elemSample u e j) _ u) (refl u)) _ w

theorem thermSample (w : W) : KeepsSamples w w.thermSample := by
  unfold W.thermSample
  refine foldl (fun u h => ite ?_ (refl u)) _ w
  split <;> exact ⟨rfl, rfl, rfl, rfl⟩

end KeepsSamples

namespace W

/-- An output period up to the work of order 5: the channels, then the rest. -/
def periodSamples (w : W) (vin : List (List Int)) (ext : Nat) : W :=
  (List.range 24).foldl (fun w n => w.chSample n (vin.getD n []) ext) w

def periodRest (w : W) : W :=
  (((((List.range 4).foldl (fun (w : W) t => w.trkSample t) { w with freeCtr := w.freeCtr + 1 }).captSample).winSample).elecSample).thermSample

theorem outputPeriod_on {w : W} {vin : List (List Int)} {ext slice : Nat} (on : w.dom 2 = 1) :
    w.outputPeriod vin ext slice = ((w.periodSamples vin ext).periodRest).sliceSample slice := if_neg (not_not.mpr on)

theorem outputPeriod_off {w : W} {vin : List (List Int)} {ext slice : Nat} (off : w.dom 2 ≠ 1) : w.outputPeriod vin ext slice = w := if_pos off

end W

theorem KeepsSamples.periodRest (w : W) : KeepsSamples w w.periodRest := by
  unfold W.periodRest
  refine trans (trans (trans (trans ?_ (captSample _)) (winSample _)) (elecSample _)) (thermSample _)
  exact trans (u := { w with freeCtr := w.freeCtr + 1 }) ⟨rfl, rfl, rfl, rfl⟩ (foldl trkSample _ _)

namespace W

/-- A sample of a channel does not count the output period. -/
theorem chSample_periods (w : W) (m : Nat) (v : List Int) (ext : Nat) : (w.chSample m v ext).mtr.periods = w.mtr.periods := by
  by_cases h : m = 0
  · exact (KeepsCh.chSample (n := 1) w v ext (by decide) (by omega)).periods
  · exact (KeepsCh.chSample (n := 0) w v ext (by decide) (Ne.symm h)).periods

theorem periodSamples_periods (w : W) (vin : List (List Int)) (ext : Nat) : (w.periodSamples vin ext).mtr.periods = w.mtr.periods := by
  unfold periodSamples
  generalize List.range 24 = l
  induction l generalizing w with
  | nil => rfl
  | cons m l ih => exact (ih _).trans (chSample_periods ..)

end W

section
variable {w : W} {n : Nat} {vin : List (List Int)} {ext slice : Nat}

/-- Of what concerns a channel, the rest of the output period leaves the sample, its mark and STAT. -/
theorem period_keeps (w : W) (slice : Nat) (hn : n < 24) : (w.periodRest.sliceSample slice).mtr.x = w.mtr.x ∧
    (w.periodRest.sliceSample slice).mtr.clip = w.mtr.clip ∧ (w.periodRest.sliceSample slice).mtr.periods = w.mtr.periods + 1 ∧
    (w.periodRest.sliceSample slice).rd (R.AFE_CHn_STAT n) = w.rd (R.AFE_CHn_STAT n) := by
  have rest := KeepsSamples.periodRest w
  have apart : R.AFE_CHn_STAT n ≠ R.MTR_SLICE_STAT := by simp only [R.AFE_CHn_STAT, R.MTR_SLICE_STAT]; omega
  refine ⟨rest.x, rest.clip, congrArg (· + 1) rest.periods, ?_⟩
  unfold W.sliceSample
  rw [W.rd_wrF, if_neg apart]
  unfold W.rd
  exact congrArg (fun r => (W.findReg r _).getD _) rest.regs

/-- The output periods are counted (R204). -/
theorem outputPeriod_periods (on : w.dom 2 = 1) : (w.outputPeriod vin ext slice).mtr.periods = w.mtr.periods + 1 := by
  obtain ⟨-, -, periods, -⟩ := period_keeps (n := 0) (w.periodSamples vin ext) slice (by decide)
  rw [W.outputPeriod_on on, periods, W.periodSamples_periods]

theorem KeepsCh.chEn {u : W} (h : KeepsCh n w u) : u.chEn n = w.chEn n := h.regs.rdB (by simp [chReg_own])

/-- The turn of channel n among the samples of the output period. -/
theorem periodSamples_visit (w : W) (vin : List (List Int)) (ext : Nat) (hn : n < 24) :
    ∃ v, KeepsCh n w v ∧ KeepsCh n (v.chSample n (vin.getD n []) ext) (w.periodSamples vin ext) :=
  KeepsCh.visit (f := fun w m => w.chSample m (vin.getD m []) ext) (fun u _ h => KeepsCh.chSample u _ _ hn h) List.nodup_range
    (List.mem_range.mpr hn) w

/-- A channel that is not enabled keeps its sample, and is not clipped. -/
theorem outputPeriod_idle (on : w.dom 2 = 1) (hn : n < 24) (off : w.chEn n = false) :
    (w.outputPeriod vin ext slice).mtr.x.getD n 0 = w.mtr.x.getD n 0 ∧ (w.outputPeriod vin ext slice).mtr.clip.getLsbD n = false := by
  obtain ⟨v, before, after⟩ := periodSamples_visit w vin ext hn
  obtain ⟨x, clip, -, -⟩ := period_keeps (w.periodSamples vin ext) slice hn
  have idle := W.chSample_off (vin.getD n []) ext (before.chEn.trans off)
  rw [W.outputPeriod_on on, x, clip, after.x, after.clip, idle]
  exact ⟨before.x, (W.clipWith_getLsbD _ _ _ _ hn).trans (if_pos rfl)⟩

/-- What an output period shows of an enabled channel within its block. -/
theorem outputPeriod_shows (on : w.dom 2 = 1) (hn : n < 24) (enabled : w.chEn n = true) (within : (w.chOf n).blk ≠ W.blockLen) :
    ChShows w n (vin.getD n []) ext (w.outputPeriod vin ext slice) := by
  obtain ⟨v, before, after⟩ := periodSamples_visit w vin ext hn
  obtain ⟨x, clip, -, stat⟩ := period_keeps (w.periodSamples vin ext) slice hn
  have sample := chSample_shows (vin := vin.getD n []) (ext := ext) hn (before.chEn.trans enabled) (before.ch.symm ▸ within)
  rw [W.outputPeriod_on on]
  refine ((sample.of_before before).keep after.x after.clip (after.regs _ ?_)).keep ?_ ?_ stat
  · simp [chReg_own]
  · rw [x]
  · rw [clip]

end

end Sys2Proof.Machine
end

section
/-!
PROOF. The obligation on the metering inputs: each command's clauses, from what its block does.
-/
namespace Sys2Proof.Machine

/-! ## What the statement reads off the state -/

theorem chOf_state (s : State) (n : Fin 24) : (begin_ s).chOf n = s.mtr.ch[n] := vector_getD _ _ _ n.isLt
theorem trkOf_state (s : State) (t : Fin 4) : (begin_ s).trkOf t = s.mtr.trk[t] := vector_getD _ _ _ t.isLt
theorem heldFreq_state (s : State) (t : Fin 4) :
    (begin_ s).heldFreq t = if s.mtr.lastLock[t] = 0 then (begin_ s).nominal else s.mtr.lastLock[t] := by
  unfold W.heldFreq
  rw [vector_getD _ _ _ t.isLt]
  rfl

theorem pulseLevel_state (s : State) (i : Fin 64) (sample : Nat) (level : Bool) : (begin_ s).pulseLevel i sample level =
    ({ (begin_ s).wrB (R.PLS_PIn_STAT i) 0 level with mtr.levelAt := s.mtr.levelAt.set i (some sample) } : W).raiseIf
      ((begin_ s).isDir i) E.PLS_PLS_DIR := by
  unfold W.pulseLevel
  rw [vector_set _ _ _ i.isLt]
  rfl

/-! ## The commands -/

/-- What each command of the metering inputs is. -/
theorem metering_runs (s : State) (vin : List (List Int)) (ext : Nat) (slice : Fin 4096) (n : Fin 24) (t : Fin 4) (k : Fin 8)
    (vs vr vref za zb zref : Int) (comp : Bool) :
    exec (.meterOutputPeriod vin ext slice) s = run (fun _ w => w.outputPeriod vin ext slice) s ∧
    exec (.correctionBlockEnd n) s = run (fun _ w => w.onIf 2 (W.blockEnd n)) s ∧
    exec (.trackerWindowEnd t) s = run (fun _ w => w.onIf 2 (W.trackerWindow t)) s ∧
    exec .captBlock s = run (fun _ w => w.onIf 2 W.captBlock) s ∧
    exec (.rtdSlotEnd k vs vr vref comp) s = run (fun _ w => w.onIf 2 (W.rtdSlot k vs vr vref comp)) s ∧
    exec (.rtdDone za zb zref) s =
      run (fun _ w => w.onIf 2 fun w => if w.mtr.rtdPos = 8 then (w.rtdZero za zb zref).thermAll else w) s :=
  ⟨rfl, rfl, rfl, rfl, rfl, rfl⟩

theorem edge_completes {s : State} {i : Fin 64} {level acc : Bool} {sample : Nat} {u : W}
    (effect : (begin_ s).pulseAccept i level acc sample = u) : Completes (.pulseEdgeAccepted i level acc sample) s u :=
  completes_of_run (f := fun _ w => w.pulseAccept i level acc sample) rfl effect

/-- The end of a correction block, by whether a table waits (R193 to R195, R201). -/
theorem blockEnd_state {s : State} {n : Fin 24} (on : (begin_ s).chEn n = true) (full : s.mtr.ch[n].blk = 3200) :
    let w := begin_ s
    let c := s.mtr.ch[n]
    let ended := { c with scale := w.rd (R.AFE_CHn_SCALE n), delay := sgn 14 (w.rdN (R.AFE_CHn_DELAY n)), blk := 0, sum2 := 0 }
    (c.pend = none → w.blockEnd n = w.corrSet n ended (W.blockLevel c)) ∧
    ∀ bp, c.pend = some bp → w.blockEnd n =
      ((w.wrB R.AFE_CORR_STAT n true).raise E.AFE_CORR_APPLIED).corrSet n { ended with tab := bp, pend := none } (W.blockLevel c) := by
  have eq := W.blockEnd_full on ((congrArg AfeCh.blk (chOf_state s n)).trans full)
  rw [chOf_state] at eq
  dsimp only
  refine ⟨fun pend => ?_, fun bp pend => ?_⟩
  · rw [eq, W.chApply_none _ _ pend]
  · rw [eq, W.chApply_some _ _ pend]

/-- Settles O40: a sample of a channel leaves what concerns the others, so each shows what its own input makes of its own record; the other
commands by what each does of its block's record; CORR_COMMIT by what the page passes on. -/
theorem meteringInputs : Obligations.MeteringInputs := by
  unfold Obligations.MeteringInputs
  intro s vin ext slice n v t fq cycles k vs vr vref za zb zref comp i level acc sample bp
  obtain ⟨periods, blocks, windows, captures, slots, cycleEnds⟩ := metering_runs s vin ext slice n t k vs vr vref za zb zref comp
  have ch := chOf_state s n
  have trk := trkOf_state s t
  have held := heldFreq_state s t
  have level' := pulseLevel_state s i sample level
  have edge : Completes (.pulseEdgeAccepted i level true sample) s _ := edge_completes rfl
  dsimp only
  refine ⟨fun on => ⟨_, completes_of_run periods rfl, outputPeriod_periods on, fun off => ?_, fun enabled within => ?_⟩,
    fun on enabled full => ⟨fun none => ?_, fun some => ?_⟩, fun idle => ?_, fun h => ⟨fun refused => ?_, fun passes => ?_⟩,
    ⟨fun off => ?_, fun on enabled measured => ⟨fun locks => ?_, fun loses => ?_⟩, fun on enabled unmeasured => ⟨fun early => ?_, fun late => ?_⟩⟩,
    fun waits => ?_, fun on capturing full => ⟨fun lost => ?_, fun sys pll => ?_⟩,
    fun other => ?_, fun on runs off => ?_, fun on runs enabled above => ⟨_, completes_onIf slots on rfl, ?_, ?_, fun side => ?_⟩,
    fun early => ?_, fun on last => ?_, fun on => ?_, fun stands => ?_, fun on changes => ⟨fun quiet => ?_, fun counts => ?_⟩,
    fun off c mem => ?_⟩
  · obtain ⟨x, clip⟩ := outputPeriod_idle (vin := vin) (ext := ext) (slice := slice) on n.isLt off
    rw [vector_getD _ _ _ n.isLt, vector_getD _ _ _ n.isLt] at x
    exact ⟨x, clip⟩
  · obtain ⟨x, clip, clipped, valid⟩ := outputPeriod_shows (vin := vin) (ext := ext) (slice := slice) on n.isLt enabled
      (by rw [ch]; exact within)
    rw [vector_getD _ _ _ n.isLt] at x
    simp only [W.chCorrected, W.chStage4, W.chRaw, W.chBits, ch] at x clip clipped valid
    exact ⟨x, clip, clipped, valid⟩
  · exact completes_onIf blocks on ((blockEnd_state enabled full).1 none)
  · exact completes_onIf blocks on ((blockEnd_state enabled full).2 bp some)
  · exact completes_offIf blocks (.inr (W.blockEnd_idle (by rw [ch]; exact idle)))
  · exact corrCommit_refused h refused.1 refused.2
  · have takes := corrCommit_takes h passes
    simp only [W.corrCommit_eq] at takes
    exact takes
  · exact completes_offIf windows (.inr (W.trackerWindow_off off))
  · refine completes_onIf windows on ((W.trackerWindow_measured enabled (by rw [trk]; exact measured)).trans ?_)
    rw [trk, if_pos locks, vector_set _ _ _ t.isLt]
    rfl
  · refine completes_onIf windows on ((W.trackerWindow_measured enabled (by rw [trk]; exact measured)).trans ?_)
    rw [trk, if_neg loses, held]
    rfl
  · refine completes_offIf windows (.inr ((W.trackerWindow_unmeasured enabled (by rw [trk]; exact unmeasured)).trans ?_))
    rw [trk, if_pos early]
  · refine completes_onIf windows on ((W.trackerWindow_unmeasured enabled (by rw [trk]; exact unmeasured)).trans ?_)
    rw [trk, if_neg (Nat.not_lt.mpr late), held]
    rfl
  · exact completes_offIf captures (.inr (W.captBlock_waits waits))
  · exact completes_onIf captures on (W.captBlock_lost capturing full lost)
  · exact completes_onIf captures on (W.captBlock_written capturing full sys pll)
  · exact completes_offIf slots (.inr (W.rtdSlot_other other))
  · exact completes_onIf slots on (W.rtdSlot_disabled runs off)
  · obtain ⟨-, mtr, -⟩ := W.rtdSlot_keeps (vs := vs) (vr := vr) (comp := comp) runs enabled above
    exact (congrArg MtrSt.rtdPos mtr).trans W.rtdPair_rtdPos
  · obtain ⟨-, -, compliance⟩ := W.rtdSlot_keeps (vs := vs) (vr := vr) (comp := comp) runs enabled above
    exact compliance
  · revert side
    have sense := W.rtdSlot_sense (vs := vs) (vr := vr) (comp := comp) k.isLt runs enabled above
    have ret := W.rtdSlot_return (vs := vs) (vr := vr) (comp := comp) k.isLt runs enabled above
    exact Fin.forall_fin_two.mpr ⟨⟨sense.stat, sense.res, sense.temp⟩, ⟨ret.stat, ret.res, ret.temp⟩⟩
  · exact completes_offIf cycleEnds (.inr (if_neg early))
  · exact completes_onIf cycleEnds on (if_pos last)
  · exact edge_completes (W.pulseAccept_reverts on)
  · exact edge_completes (W.pulseAccept_stands stands)
  · rw [W.pulseAccept_changes on changes, level', quiet, if_neg (by decide)] at edge
    exact edge
  · rw [W.pulseAccept_changes on changes, level', counts, if_pos rfl] at edge
    exact edge
  · simp only [List.mem_cons, List.not_mem_nil, or_false] at mem
    rcases mem with rfl | rfl | rfl | rfl | rfl | rfl | rfl
    · exact completes_of_run periods (W.outputPeriod_off off)
    · exact completes_offIf blocks (.inl off)
    · exact completes_offIf windows (.inl off)
    · exact completes_offIf captures (.inl off)
    · exact completes_offIf slots (.inl off)
    · exact completes_offIf cycleEnds (.inl off)
    · exact edge_completes (W.pulseAccept_off off)

end Sys2Proof.Machine
end

section
/-!
PROOF. The obligation on harmonic windows (R269 to R273): which point a window takes, how it ends, and how its results are shown.
-/
namespace Sys2Proof.Machine
namespace W

/-! ## The next window (R269) -/

/-- The points that CTRL selects. -/
def winSel (w : W) : List Nat := those 8 fun e => w.rdB R.HRM_CTRL e

/-- A point is selected by its bit of the lowest field of CTRL. -/
theorem winSel_eq (w : W) : w.winSel = (List.range 8).filter fun e => (w.rdF R.HRM_CTRL 0 8).testBit e := by
  unfold winSel those
  refine List.filter_congr fun e he => ?_
  rw [rdF, testBit_fld, Nat.zero_add, decide_eq_true (List.mem_range.mp he), Bool.true_and]
  rfl

/-- A window of point e starts now with no samples and none of them clipped. -/
structure WinStarts (w : W) (e : Nat) (u : W) : Prop where
  point : u.qty.winPoint = some e
  empty : u.qty.winBuf = []
  tsc : u.qty.winTsc = w.tscTime
  clean : u.qty.winOvl = false

theorem winStart_none {w : W} (none : w.winSel = []) : w.winStart.qty.winPoint = Option.none := by
  unfold winSel at none
  unfold winStart
  simp only [none]
  rfl

/-- The one point that is selected follows whichever point came before. -/
theorem winStart_only {w : W} {e : Nat} (only : w.winSel = [e]) : WinStarts w e w.winStart := by
  have next : ∀ p : Nat → Bool, ([e].filter p).head?.or [e].head? = some e := fun p => by
    cases h : p e <;> simp [h]
  unfold winSel at only
  unfold winStart
  simp only [only, next]
  exact ⟨rfl, rfl, rfl, rfl⟩

theorem winSel_none {w : W} (ctrl : w.rdF R.HRM_CTRL 0 8 = 0) : w.winSel = [] := by
  rw [winSel_eq, ctrl]
  decide

theorem winSel_only {w : W} {a : Fin 8} (ctrl : w.rdF R.HRM_CTRL 0 8 = 2 ^ a.val) : w.winSel = [a.val] := by
  rw [winSel_eq, ctrl]
  clear ctrl
  revert a
  decide

/-! ## The end of a window (R269 to R273) -/

section
variable {w : W}

theorem windowEnd_off (off : w.dom 2 ≠ 1) : w.windowEnd = w := if_pos off

theorem windowEnd_idle (on : w.dom 2 = 1) (idle : w.qty.winPoint = none) : w.windowEnd = w.winStart := by
  unfold windowEnd
  rw [if_neg (not_not.mpr on), idle]

variable {e : Nat}

/-- The results of a full window of point e: STAT, the start, f, and the words of its six signals. -/
def winResults (w : W) (e : Nat) : HrmRes :=
  ⟨BitVec.ofNat 32 (e + 8 * b2n (!w.qty.winLock) + 16 * b2n w.qty.winOvl), BitVec.ofNat 64 w.qty.winTsc,
    BitVec.ofNat 32 (fofRat b32 false w.qty.winF 10000),
    (List.range 6).flatMap fun g => w.hrmWords g (decide (g % 3 < w.elems e)) (w.hrmBin e g) (w.hrmBin e 0 w.nc).ang⟩

/-- A window that runs goes on until its samples span its periods; then its results wait, and the next one starts. -/
theorem windowEnd_runs (on : w.dom 2 = 1) (runs : w.qty.winPoint = some e) :
    w.windowEnd = if w.winFull = true then W.winStart { w with qty.hrm := some (w.winResults e) } else w := by
  unfold windowEnd
  rw [if_neg (not_not.mpr on), runs]
  cases w.winFull <;> rfl

/-! ## The results (R272) -/

theorem hrmDone_none (none : w.qty.hrm = Option.none) : w.hrmDone = w := by
  unfold hrmDone
  rw [none]

theorem hrmDone_some {r : HrmRes} (waits : w.qty.hrm = some r) :
    w.hrmDone = (((r.words.foldl (fun u x => u.wr x.1 x.2)
      (((({ w.inc R.HRM_WIN_SEQ with qty.hrm := none } : W).wr R.HRM_RES_STAT r.stat).wr64 R.HRM_RES_TSC r.tsc.toNat).wr R.HRM_FUND_F
        r.f)).inc R.HRM_WIN_SEQ).raise E.HRM_HRM_DONE) := by
  unfold hrmDone
  rw [waits]

end

end W

section
variable {s : State} {u : W}

theorem windowEnd_completes (effect : (begin_ s).windowEnd = u) : Completes .harmonicWindowEnd s u :=
  completes_of_run (f := fun _ w => w.windowEnd) rfl effect

theorem hrmDone_completes (effect : (begin_ s).hrmDone = u) : Completes .hrmDone s u :=
  completes_of_run (f := fun _ w => w.hrmDone) rfl effect

end

/-- Settles O42: by what the end of a window does with PD2 off, without a window, and with one that is full or not; the next point by
the bits of CTRL. -/
theorem harmonicWindows : Obligations.HarmonicWindows := by
  unfold Obligations.HarmonicWindows
  intro s e r
  dsimp only
  refine ⟨fun off => ?_, fun on idle => ?_, fun on runs short => ?_, fun on runs full => ?_, fun ctrl => ?_, fun a ctrl => ?_,
    fun none => ?_, fun waits => ?_⟩
  · exact windowEnd_completes (W.windowEnd_off off)
  · exact windowEnd_completes (W.windowEnd_idle on idle)
  · exact windowEnd_completes ((W.windowEnd_runs on runs).trans (if_neg fun full => short (of_decide_eq_true full)))
  · exact windowEnd_completes ((W.windowEnd_runs on runs).trans (if_pos (decide_eq_true full)))
  · exact W.winStart_none (W.winSel_none ctrl)
  · obtain ⟨point, empty, tsc, clean⟩ := W.winStart_only (W.winSel_only ctrl)
    exact ⟨point, empty, tsc, clean⟩
  · exact hrmDone_completes (W.hrmDone_none none)
  · exact hrmDone_completes (W.hrmDone_some waits)

end Sys2Proof.Machine
end

section
/-!
PROOF. FRZ_CAUSE through the evaluation at the end of a command (R23, R111): no evaluation whose result is still writes it.
-/
namespace Sys2Proof.Machine

namespace Only

/-- Every register but FRZ_CAUSE. -/
def otherCause (a : Nat) : Bool := a != R.QTY_FRZ_CAUSE

theorem wake_cause {w u : W} (h : Only wakeReg w u) : Only otherCause w u := h.weaken fun a ha => by
  obtain rfl : a = R.QTY_FRZ_CAUSE := by simpa [otherCause] using ha
  decide

theorem slvAccept_cause (w : W) (d origin tag : Nat) : Only otherCause w (w.slvAccept d origin tag) := by
  unfold W.slvAccept
  refine of_regs (u := w) (refl _ w) ?_
  dsimp only
  split
  · exact W.putBytes_regs ..
  · rfl

theorem armHit_cause (w : W) (x : Nat × Bool) : Only otherCause w (w.armHit x) := by
  have missed (k : Nat) : otherCause (R.SLV_ARM_MISSED k) = true := by
    simp only [otherCause, R.SLV_ARM_MISSED, R.QTY_FRZ_CAUSE, bne_iff_ne]; omega
  have count (k : Nat) : otherCause (R.SLV_ARM_COUNT k) = true := by
    simp only [otherCause, R.SLV_ARM_COUNT, R.QTY_FRZ_CAUSE, bne_iff_ne]; omega
  unfold W.armHit
  refine foldl (fun u a => ite (refl _ u) (ite ?_ ?_)) _ w
  · exact ((refl _ u).incSat (missed a)).trans (wake_cause (raise_wake _ _))
  · exact ((refl _ u).inc (count a)).trans (slvAccept_cause _ _ _ _)

theorem armSettle_cause : ∀ (k : Nat) (w : W), Only otherCause w (w.armSettle k)
  | 0, w => (refl _ w).of_regs rfl
  | k + 1, w => by
    have emptied : Only otherCause w { w with evt.armHits := [] } := (refl _ w).of_regs rfl
    unfold W.armSettle
    split
    · exact refl _ w
    · exact (emptied.trans (foldl armHit_cause _ _)).trans (armSettle_cause k _)

theorem slvKick_cause (w : W) : Only otherCause w w.slvKick := by
  have sync (u : W) : Only otherCause u u.slvSync := ite (refl _ u) ((refl _ u).wr (by decide))
  unfold W.slvKick
  dsimp only
  refine trans ?_ (sync _)
  split
  · exact ite (refl _ w) ((refl _ w).of_regs rfl)
  · exact refl _ w

theorem ckptFail_cause (w : W) : Only otherCause w w.ckptFail := by
  have cleared := (((refl otherCause w).wrB (a := R.PWR_CKPT_STAT) (i := 2) (b := false) (by decide)).wrB (a := R.PWR_CKPT_STAT)
    (i := 3) (b := false) (by decide)).wrB (a := R.PWR_CKPT_STAT) (i := 4) (b := false) (by decide)
  exact (cleared.of_regs rfl).trans (wake_cause (raise_wake _ _))

theorem ckptStart_cause (m : Memory) (w : W) : Only otherCause w (w.ckptStart m) := by
  have noted : Only otherCause w { w with pwr.ckptRef := some w.tscTime, pwr.ckptNext := w.ckptDue w.tscTime, pwr.ckptRetry := false } :=
    (refl _ w).of_regs rfl
  unfold W.ckptStart
  dsimp only
  exact ite (noted.trans (ckptFail_cause _)) ((noted.wrB (a := R.PWR_CKPT_STAT) (i := 2) (b := true) (by decide)).of_regs rfl)

theorem ckptRequest_cause (now : Bool) (m : Memory) (w : W) : Only otherCause w (w.ckptRequest now m) := by
  unfold W.ckptRequest
  exact ite ((refl _ w).wrB (by decide)) (ite ((refl _ w).of_regs rfl) (ckptStart_cause m w))

end Only

/-- A step of the evaluation that keeps time, and FRZ_CAUSE where its result is still. -/
structure KeepsCause (w u : W) : Prop where
  time : KeepsTime w u
  cause : Still u → u.rd R.QTY_FRZ_CAUSE = w.rd R.QTY_FRZ_CAUSE

namespace KeepsCause

variable {w u v : W}

theorem refl (w : W) : KeepsCause w w := ⟨KeepsTime.refl w, fun _ => rfl⟩
theorem trans (h : KeepsCause w u) (k : KeepsCause u v) : KeepsCause w v :=
  ⟨h.time.trans k.time, fun still => (k.cause still).trans (h.cause (k.time still).1)⟩
theorem ite {c : Prop} [Decidable c] (h : KeepsCause w u) (k : KeepsCause w v) : KeepsCause w (if c then u else v) := by
  split <;> assumption
theorem foldl {α : Type} {f : W → α → W} : ∀ (l : List α) (w : W), (∀ x ∈ l, ∀ u, KeepsCause u (f u x)) → KeepsCause w (l.foldl f w)
  | [], w, _ => refl w
  | x :: t, w, hf => (hf x List.mem_cons_self w).trans (foldl t (f w x) fun y hy => hf y (List.mem_cons_of_mem x hy))
theorem of_only (time : KeepsTime w u) (regs : Only Only.otherCause w u) : KeepsCause w u := ⟨time, fun _ => regs _ (by decide)⟩
theorem of_not (h : ¬ Still u) : KeepsCause w u := ⟨KeepsTime.of_not h, fun still => absurd still h⟩
theorem of_regs (regs : u.regs = w.regs) (cur : u.tw.cur = w.tw.cur) (tsc : u.tsc = w.tsc) : KeepsCause w u :=
  of_only (KeepsTime.of_regs regs cur tsc) ((Only.refl _ w).of_regs regs)

theorem demand (w : W) {d : Nat} (hd : d ∈ [4, 5, 6, 7, 8, 9]) : KeepsCause w (w.demand d) :=
  of_only (KeepsTime.demand w hd) (Only.wake_cause (Only.demand w d))

theorem taskUe (w0 w : W) : KeepsCause w (W.taskUe w0 w) := by
  unfold W.taskUe
  exact ite (refl w) (foldl _ w fun n _ u => ite (of_not (Still.not_taskHalt u n 3 5)) (refl u))

theorem sramSettle (w : W) : KeepsCause w w.sramSettle := by
  have written (u : W) (a n : Nat) : KeepsCause u (u.sramWritten a n) := ite (of_not (Still.not_health _)) (refl u)
  unfold W.sramSettle
  refine ite (refl w) (foldl _ _ fun x _ u => ?_)
  cases x with
  | bytes a d => exact written u a d.length
  | clear lo hi => exact written u lo (hi - lo)
  | free a n k => exact written u a n

/-- A domain's turn starts it, switches it off, or keeps the register. -/
theorem domainTurn (m : Memory) (w : W) {d : Nat} (hd : d ∈ [4, 5, 6, 7, 8, 9]) : KeepsCause w (Machine.domainTurn m w d) := by
  unfold Machine.domainTurn
  dsimp only
  split
  · have freed : KeepsCause w (if d = 4 then { w with pwr.pd4OffWait := false, pwr.ckptRetry := false } else w) :=
      ite (of_regs rfl rfl rfl) (refl w)
    exact freed.trans (ite (demand _ hd) (refl _))
  · split
    · rename_i on
      have waits : KeepsCause w { w with pwr.pd4OffWait := true } := of_regs rfl rfl rfl
      have request := waits.trans (of_only (KeepsTime.ckptRequest false m _) (Only.ckptRequest_cause false m _))
      exact ite (ite (refl w) request) (of_not (Still.not_pdOff (by rw [on.1]; decide)))
    · exact refl w

theorem powerEval (m : Memory) (w : W) : KeepsCause w (w.powerEval m) := by
  have aborted : KeepsCause w w.abortEntry := of_only (KeepsTime.abortEntry w) (Only.wake_cause (Only.abortEntry w))
  have turns (u : W) : KeepsCause u ([4, 6, 7, 8, 9].foldl (Machine.domainTurn m) u) :=
    foldl _ u fun d hd v => domainTurn m v ((by decide : ∀ d ∈ [4, 6, 7, 8, 9], d ∈ [4, 5, 6, 7, 8, 9]) d hd)
  have last (u : W) : KeepsCause u (if u.slv.exec.isSome then u.demand 5 else u) := ite (demand u (by decide)) (refl u)
  unfold W.powerEval
  exact ite (refl w) (((ite aborted (refl w)).trans (turns _)).trans (last _))

theorem settleRound (m : Memory) : ∀ (k : Nat) (w : W), KeepsCause w (W.settleRound m k w)
  | 0, w => of_regs rfl rfl rfl
  | k + 1, w => by
    have arms := of_only (KeepsTime.armSettle 4 w) (Only.armSettle_cause 4 w)
    have kick := of_only (KeepsTime.slvKick (w.armSettle 4)) (Only.slvKick_cause _)
    have round := (arms.trans kick).trans (powerEval m _)
    unfold W.settleRound
    exact ite round (round.trans (settleRound m k _))

/-- The evaluation keeps FRZ_CAUSE where its result is still. -/
theorem settle (m : Memory) (w0 w : W) : KeepsCause w (W.settle m w0 w) := by
  have planned (u : W) : KeepsCause u (if u.pwr.held then u else u.plannerDeferred) :=
    ite (refl u) (ite (of_not (Still.not_plannerRun u)) (refl u))
  have shown (u : W) (v : Word) : KeepsCause u (u.upd R.PWR_STATE v) :=
    of_only (KeepsTime.upd u (by decide)) (Only.ite (Only.refl _ u) ((Only.refl _ u).wr (by decide)))
  unfold W.settle
  refine (taskUe w0 w).trans (ite (refl _) ?_)
  exact (((sramSettle _).trans (settleRound m 3 _)).trans (planned _)).trans (shown _ _)

end KeepsCause
end Sys2Proof.Machine
end

section
/-!
PROOF. The obligation on the billed quantities and their store, refuted: a maximum demand that wakes the device from Deep Lull (R108, R259,
R265).
-/
namespace Sys2Proof.Machine

/-! ## The device that a maximum demand wakes -/

/-- A device in Deep Lull with PD2 on: E0 has counted 10 units in the running interval, which began when it was on, and MAXDEM is its
wake source. Its AGE.LAST_RUN and RED.DIAG are such that an evaluation which judged health or ran the planner would show. -/
def deepDevice : State := { State.reset with
  regs := [(R.PWR_STATE, 2#32), (R.PWR_DOM_STAT, 0x00055555#32), (R.PWR_WAKE_MASK 2, 0x01000000#32), (R.AGE_LAST_RUN, 1#32),
    (R.RTC_STAT, 2#32), (R.H_EVT_EN 0x13, 0x100#32), (R.QTY_Ee_CFG 0, 1#32), (R.RED_STAT, 0x00010020#32)]
  tsc := 100000000, pwr.pllSys := true, tw.cur := 1
  qty.slot := Vector.set (Vector.replicate 168 {}) 0 { fine := 10 }, qty.partE := 0 }

/-- The same device, its quantities aside, after the interval's end: the demand of E0 is the highest, 36.0 in MAXDEM, and its event has
woken the device, so that PD2 and PD3 are in transition when the closing freeze is asked for. -/
def wokenDemand : State := { deepDevice with
  regs := [(R.PWR_STATE, 8#32), (R.PWR_DOM_STAT, 0x000555F5#32), (R.PWR_WAKE_MASK 2, 0x01000000#32), (R.AGE_LAST_RUN, 1#32),
    (R.EVT_EVTLAT 2, 0x01000000#32), (R.RTC_STAT, 2#32), (R.H_EVT_EN 0x13, 0x100#32), (R.H_EVT_PEND 0x13, 0x100#32),
    (R.QTY_INTV_SEQ, 1#32), (R.QTY_Ee_CFG 0, 1#32), (R.HRM_MAXDEM 0, 0x42100000#32), (R.RED_STAT, 0x00010020#32)]
  pwr.wakeHold := true }

theorem steady_wokenDemand : Steady (begin_ wokenDemand) where
  held := rfl
  run := by decide
  noReq := by decide
  noEntry := rfl
  noArm := by decide
  noHit := rfl
  noUe := rfl
  planner := rfl
  queue := .inr (.inl rfl)
  qstat := by decide
  moving := by decide
  array := by decide
  domains := by unfold domainSettled; decide

theorem still_wokenDemand : Still (begin_ wokenDemand) where
  healthy := by decide
  diag := by decide
  cur := by decide
  claim := by decide
  plan := by decide
  on := by decide
  deaf := by decide

/-- As far as the evaluation looks, a record is the woken device. -/
structure Woken (v : W) : Prop where
  regs : v.regs = (begin_ wokenDemand).regs
  pwr : v.pwr = (begin_ wokenDemand).pwr
  slv : v.slv = (begin_ wokenDemand).slv
  jobs : v.key.jobs = (begin_ wokenDemand).key.jobs
  slots : v.key.slots = (begin_ wokenDemand).key.slots
  perst : v.hif.perstN = (begin_ wokenDemand).hif.perstN
  l2 : v.hif.l2 = (begin_ wokenDemand).hif.l2
  hold : v.hif.qsHold = (begin_ wokenDemand).hif.qsHold
  hits : v.evt.armHits = (begin_ wokenDemand).evt.armHits
  tw : v.tw = (begin_ wokenDemand).tw
  deferred : v.age.deferred = (begin_ wokenDemand).age.deferred

namespace Woken

variable {v : W}

/-- The conditions of `Woken`, for the kernel to evaluate together. -/
theorem iff (v : W) : Woken v ↔
    let w := begin_ wokenDemand
    v.regs = w.regs ∧ v.pwr = w.pwr ∧ v.slv = w.slv ∧ v.key.jobs = w.key.jobs ∧ v.key.slots = w.key.slots ∧ v.hif.perstN = w.hif.perstN ∧
      v.hif.l2 = w.hif.l2 ∧ v.hif.qsHold = w.hif.qsHold ∧ v.evt.armHits = w.evt.armHits ∧ v.tw = w.tw ∧ v.age.deferred = w.age.deferred :=
  ⟨fun h => ⟨h.regs, h.pwr, h.slv, h.jobs, h.slots, h.perst, h.l2, h.hold, h.hits, h.tw, h.deferred⟩,
    fun ⟨regs, pwr, slv, jobs, slots, perst, l2, hold, hits, tw, deferred⟩ =>
      ⟨regs, pwr, slv, jobs, slots, perst, l2, hold, hits, tw, deferred⟩⟩

theorem rd (h : Woken v) (a : Nat) : v.rd a = (begin_ wokenDemand).rd a := by
  unfold W.rd
  rw [h.regs]

theorem steady (h : Woken v) : Steady v :=
  steady_wokenDemand.same ((SameWatch.refl _).of_eq h.regs h.pwr h.slv h.jobs h.slots h.perst h.l2 h.hold h.hits
    (congrArg TwinSt.sysUe h.tw) h.deferred)

theorem still (h : Woken v) : Still v :=
  still_wokenDemand.of_regs (fun a _ => (h.rd a).symm) (congrArg TwinSt.cur h.tw.symm)

/-- Every effect with which a command completes has the FRZ_CAUSE that the command's own effect has, where that is the woken device. -/
theorem cause {c : Instr} {s : State} {u : W} (woken : Woken v) (own : Completes c s v) (h : Completes c s u) :
    u.rd R.QTY_FRZ_CAUSE = (begin_ wokenDemand).rd R.QTY_FRZ_CAUSE := by
  unfold Completes at h own
  rw [h, woken.steady.settle] at own
  have dev : (W.settle s.mem (begin_ s) u).toDev = v.toDev := congrArg State.toDev (Host.Outcome.next.inj own)
  have kept := (KeepsCause.settle s.mem (begin_ s) u).cause (woken.still.of_dev dev)
  have shown : (W.settle s.mem (begin_ s) u).rd R.QTY_FRZ_CAUSE = v.rd R.QTY_FRZ_CAUSE := by
    unfold W.rd
    rw [dev]
  exact (kept.symm.trans shown).trans (woken.rd _)

end Woken

theorem deepDevice_woken : Woken ((begin_ deepDevice).intvEnd false) := (Woken.iff _).mpr (by decide +kernel)

theorem intvEnd_completes (s : State) : Completes .intvEnd s ((begin_ s).intvEnd false) :=
  completes_of_run (f := fun _ w => w.intvEnd false) rfl rfl

/-- Refutes O41: `u.rdB R.QTY_FRZ_CAUSE 3 = true` leaves out the wake. In a device in Deep Lull with PD2 on, for which MAXDEM is a wake
source, the maximum demand that the interval's end raises starts the wake, and PD2 is in transition when the closing freeze is asked for:
no freeze begins, and FRZ_CAUSE stays 0 as in `wokenDemand` (R108, R259, R262, R265). A Deep Lull entry switches PD2 off, so `deepDevice`
is none that the power manager makes; the statement is about every state. -/
theorem not_quantitiesAndTheirStore : ¬ Obligations.QuantitiesAndTheirStore := by
  unfold Obligations.QuantitiesAndTheirStore
  intro h
  obtain ⟨-, -, -, -, -, -, -, -, -, interval, -⟩ := h deepDevice 0 0 0 0 0 false 0 0 [] default
  obtain ⟨u, completes, -, -, -, -, -, -, -, -, -, cause, -⟩ := interval (by decide)
  unfold W.rdB at cause
  rw [deepDevice_woken.cause (intvEnd_completes deepDevice) completes] at cause
  revert cause
  decide

end Sys2Proof.Machine
end

section
/-!
PROOF. The obligation on the split horizon (R373, R376, R378 to R380): what a partner does with a setup request, where a split message
goes, how the lead gives the split up, and how a partner ends its service.
-/
namespace Sys2Proof.Machine
namespace W

variable {w : W} {x : SplitSetup}

/-! ## The setup request (R373, R376) -/

/-- A partner that hears the lead, is not in early warning and serves no other job takes up a setup request. -/
def Hears (w : W) : Prop := w.leadUp = true ∧ w.ew = false ∧ w.serving = false

/-- The REASON with which a partner refuses a setup request, 0 for ACCEPT (R373). -/
def setupReason (x : SplitSetup) (w : W) : Nat :=
  if w.hasClaim = false then 2 else if w.rdB R.QP_SPLIT_CFG 0 = false then 5
  else if w.slv.queue ≠ [] ∨ w.slv.exec ≠ none then 6 else if w.rdN R.QP_SPLIT_LEN < splitNeed x w.qid then 7 else 0

/-- A job is in flight when one is queued or one executes. -/
theorem slvInFlight_pos : 0 < w.slvInFlight ↔ w.slv.queue ≠ [] ∨ w.slv.exec ≠ none := by
  unfold slvInFlight
  rw [Nat.add_pos_iff_pos_or_pos, List.length_pos_iff]
  cases w.slv.exec <;> simp [b2n]

/-- The model's list of checks, in its order, gives the REASON. -/
theorem firstCode_setup : firstCode [(!w.hasClaim, 2), (!w.rdB R.QP_SPLIT_CFG 0, 5), (decide (0 < w.slvInFlight), 6),
    (decide (w.rdN R.QP_SPLIT_LEN < splitNeed x w.qid), 7)] = w.setupReason x := by
  simp only [firstCode, setupReason, Bool.not_eq_true', decide_eq_true_eq, slvInFlight_pos]

/-- A setup request that the partner does not take up. -/
theorem splitServe_deaf (deaf : ¬ w.Hears) : w.splitServe x = w := by
  refine if_pos (Decidable.byContradiction fun h => deaf ?_)
  simpa [Hears, not_or] using h

/-- A setup request that the partner takes up is answered with the REASON; with ACCEPT it serves and demands PD5. -/
theorem splitServe_hears (hears : w.Hears) :
    w.splitServe x = if w.setupReason x ≠ 0 then { w with slv.reply := some (w.setupReason x) }
      else ((({ w with slv.reply := some (w.setupReason x), slv.served := some x } : W).wrB R.QP_SPLIT_STAT 4 true).demand 5).raise
        E.QP_SERVE_START := by
  obtain ⟨lead, ew, serving⟩ := hears
  unfold splitServe
  rw [firstCode_setup, if_neg (by simp [lead, ew, serving])]

/-! ## Messages (R376) -/

/-- A message that lies in the area of a serving partner is stored. -/
theorem splitMessage_stored {off : Nat} {data : List Byte} (serving : w.serving = true)
    (fits : off + data.length ≤ w.rdN R.QP_SPLIT_LEN) (up : w.domUp 5 = true) (lead : w.leadUp = true) :
    w.splitMessage off data = w.putBytes (w.rdN R.QP_SPLIT_BASE + off) data :=
  (if_pos serving).trans (if_pos ⟨fits, up, lead⟩)

/-- A message that does not lie in the area of a serving partner, or finds PD5 or the link down, is dropped. -/
theorem splitMessage_dropped {off : Nat} {data : List Byte} (serving : w.serving = true)
    (bad : w.rdN R.QP_SPLIT_LEN < off + data.length ∨ w.domUp 5 = false ∨ w.leadUp = false) : w.splitMessage off data = w := by
  refine (if_pos serving).trans (if_neg fun ⟨fits, up, lead⟩ => ?_)
  rcases bad with long | down | away
  · omega
  · exact absurd (up.symm.trans down) (by decide)
  · exact absurd (lead.symm.trans away) (by decide)

/-- A message to the lead of a split job is counted. -/
theorem splitMessage_counted {off : Nat} {data : List Byte} {r : SlvRun} (free : w.serving = false) (runs : w.slv.run = some r)
    (split : r.split = true) : w.splitMessage off data = { w with slv.run := some { r with msgs := r.msgs + 1 } } := by
  unfold splitMessage
  rw [if_neg (by rw [free]; decide), runs]
  exact if_pos split

/-- A message finds nothing to do in a device that serves no split job and leads none. -/
theorem splitMessage_whole {off : Nat} {data : List Byte} {r : SlvRun} (free : w.serving = false)
    (whole : w.slv.run = none ∨ w.slv.run = some r ∧ r.split = false) : w.splitMessage off data = w := by
  unfold splitMessage
  rw [if_neg (by rw [free]; decide)]
  rcases whole with none | ⟨runs, split⟩
  · rw [none]
  · rw [runs]
    exact if_neg (by rw [split]; decide)

/-! ## The lead gives up the split (R378) -/

/-- The job goes on whole, with the split's two flags, the REASON, FALLBACK_CNT and SPLIT_FALLBACK. -/
theorem splitAbort_split {reason : Nat} {r : SlvRun} (runs : w.slv.run = some r) (split : r.split = true) :
    w.splitAbort reason =
      (((({ w with slv.run := some { r with split := false, flags := r.flags ||| 24 } } : W).wrF R.QP_SPLIT_STAT 0 4 reason).incSat
        R.QP_FALLBACK_CNT).raise E.QP_SPLIT_FALLBACK) := by
  unfold splitAbort
  rw [runs]
  exact if_pos split

/-- A device that leads no split job has none to give up. -/
theorem splitAbort_whole {reason : Nat} {r : SlvRun} (whole : w.slv.run = none ∨ w.slv.run = some r ∧ r.split = false) :
    w.splitAbort reason = w := by
  unfold splitAbort
  rcases whole with none | ⟨runs, split⟩
  · rw [none]
  · rw [runs]
    exact if_neg (by rw [split]; decide)

/-! ## A partner ends its service (R376, R379, R380) -/

/-- A partner that serves stops: SERVING is cleared, its area is free, SERVE_END is raised. -/
theorem serveStop_serving (serving : w.serving = true) :
    w.serveStop = ((({ w with slv.served := none } : W).wrB R.QP_SPLIT_STAT 4 false).undef (w.rdN R.QP_SPLIT_BASE)
      (w.rdN R.QP_SPLIT_LEN)).raise E.QP_SERVE_END := if_pos serving

/-- The length of the block that a partner returns, with the new warm share; 0 when it has taken up no request (R376). -/
def backLen (w : W) : Nat := w.slv.served.elim 0 fun y => y.boblk + y.bwblk

/-- A partner that serves no job has no block to return. -/
theorem splitEnd_idle (free : w.serving = false) : w.splitEnd = w := if_neg (by rw [free]; decide)

/-- A partner that serves returns its block, counts and stops; SERVE_CNT is none of the registers that the stop reads. -/
theorem splitEnd_serving (serving : w.serving = true) :
    w.splitEnd = (((((({ w with slv.returned := some (w.backLen, w.freeCtr), slv.served := none, freeCtr := w.freeCtr + 1 } : W).inc
      R.QP_SERVE_CNT).wrB R.QP_SPLIT_STAT 4 false).undef (w.rdN R.QP_SPLIT_BASE) (w.rdN R.QP_SPLIT_LEN)).raise
      E.QP_SERVE_END).slvKick) := by
  have returned : w.splitEnd = (({ w with slv.returned := some (w.backLen, w.freeCtr), freeCtr := w.freeCtr + 1 } : W).inc
      R.QP_SERVE_CNT).serveStop.slvKick := by
    unfold splitEnd backLen
    rw [if_pos serving]
    cases w.slv.served <;> rfl
  have counted (a : Nat) (h : a ≠ R.QP_SERVE_CNT) :
      (({ w with slv.returned := some (w.backLen, w.freeCtr), freeCtr := w.freeCtr + 1 } : W).inc R.QP_SERVE_CNT).rd a = w.rd a :=
    rd_wr_ne _ _ _ _ h
  rw [returned, serveStop_serving (by unfold W.serving rdB; rw [counted _ (by decide)]; exact serving)]
  unfold rdN
  rw [counted _ (by decide), counted _ (by decide)]
  rfl

end W

/-! ## The statement -/

section
variable {s : State} {x : SplitSetup} {off : Nat} {data : List Byte} {dropped : Bool} {u : W}

theorem splitServe_completes (live : s.pwr.held = false) (effect : (begin_ s).splitServe x = u) :
    Completes (.splitServeRequest x) s u :=
  completes_live (f := fun _ => W.splitServe x) rfl live effect

theorem splitServe_idle (idle : s.pwr.held = true ∨ (begin_ s).splitServe x = begin_ s) : Completes (.splitServeRequest x) s (begin_ s) :=
  completes_idle (f := fun _ => W.splitServe x) rfl idle

theorem splitMessage_completes (live : s.pwr.held = false) (effect : (begin_ s).splitMessage off data = u) :
    Completes (.splitMessage off data) s u :=
  completes_live (f := fun _ => W.splitMessage off data) rfl live effect

theorem splitMessage_idle (idle : s.pwr.held = true ∨ (begin_ s).splitMessage off data = begin_ s) :
    Completes (.splitMessage off data) s (begin_ s) :=
  completes_idle (f := fun _ => W.splitMessage off data) rfl idle

theorem splitTimeout_completes (live : s.pwr.held = false) (effect : (begin_ s).splitAbort (if dropped then 9 else 8) = u) :
    Completes (.splitTimeout dropped) s u :=
  completes_live (f := fun _ => W.splitAbort (if dropped then 9 else 8)) rfl live effect

theorem splitTimeout_idle (idle : s.pwr.held = true ∨ (begin_ s).splitAbort (if dropped then 9 else 8) = begin_ s) :
    Completes (.splitTimeout dropped) s (begin_ s) :=
  completes_idle (f := fun _ => W.splitAbort (if dropped then 9 else 8)) rfl idle

theorem splitServeEnd_completes (live : s.pwr.held = false) (effect : (begin_ s).splitEnd = u) : Completes .splitServeEnd s u :=
  completes_live (f := fun _ => W.splitEnd) rfl live effect

theorem splitServeEnd_idle (idle : s.pwr.held = true ∨ (begin_ s).splitEnd = begin_ s) : Completes .splitServeEnd s (begin_ s) :=
  completes_idle (f := fun _ => W.splitEnd) rfl idle

end

/-- Settles O44: each clause is what the block's own effect is in its case, and a device held in reset runs none of the four. -/
theorem splitHorizon : Obligations.SplitHorizon := by
  unfold Obligations.SplitHorizon
  intro s x off data dropped r
  dsimp only
  refine ⟨fun live hears accept => ?_, fun live hears refuse => ?_, fun deaf => ?_, fun live serving fits up lead => ?_,
    fun serving bad => ?_, fun live free runs split => ?_, fun free whole => ?_, fun live runs split => ?_, fun free => ?_,
    fun live serving => ?_, fun held => ?_⟩
  · have accept : (begin_ s).setupReason x = 0 := accept
    refine splitServe_completes live ((W.splitServe_hears hears).trans ?_)
    rw [if_neg (not_not.mpr accept), accept]
  · exact splitServe_completes live ((W.splitServe_hears hears).trans (if_pos refuse))
  · exact splitServe_idle (.inr (W.splitServe_deaf deaf))
  · exact splitMessage_completes live (W.splitMessage_stored serving fits up lead)
  · exact splitMessage_idle (.inr (W.splitMessage_dropped serving bad))
  · exact splitMessage_completes live (W.splitMessage_counted free runs split)
  · exact ⟨splitMessage_idle (.inr (W.splitMessage_whole free whole)), splitTimeout_idle (.inr (W.splitAbort_whole whole))⟩
  · exact splitTimeout_completes live (W.splitAbort_split runs split)
  · exact splitServeEnd_idle (.inr (W.splitEnd_idle free))
  · exact splitServeEnd_completes live (W.splitEnd_serving serving)
  · simp only [List.forall_mem_cons, List.not_mem_nil, false_imp_iff, implies_true, and_true]
    exact ⟨splitServe_idle (.inl held), splitMessage_idle (.inl held), splitTimeout_idle (.inl held), splitServeEnd_idle (.inl held)⟩

end Sys2Proof.Machine
end

section
/-!
PROOF. What the host and the bus change of the scan page, the forces and the pins (R442 to R444, R446, R449, R455, R456, R477), in a device
at rest.
-/
namespace Sys2Proof.Machine

/-! ## The record on which an accepted write acts -/

namespace W

theorem countSeq_blocks (w : W) (b : Bool) (off : Nat) : SameBlocks w (w.countSeq b off) := by
  unfold countSeq
  split
  · exact SameBlocks.ite (SameBlocks.wr w _ _) (SameBlocks.refl w)
  · exact SameBlocks.refl w

/-- The record on which a host write of the register at `off` acts, outside PD5. -/
abbrev entered (w : W) (off : Nat) : W := (hostEnter w (off / 0x1000)).countSeq true off

theorem entered_blocks (w : W) (off : Nat) : SameBlocks w (w.entered off) := (start_blocks w _).trans (countSeq_blocks _ _ _)

/-- The page's bookkeeping leaves the block's own registers alone. -/
theorem entered_rd (w : W) (off : Nat) {a : Nat} (h : 0x040 ≤ a % 0x1000) : (w.entered off).rd a = w.rd a := by
  rw [countSeq_rd _ _ _ _ (by unfold R.H_SEQ; omega), start_rd _ _ _ (by omega)]

theorem put32_word (w : W) (m : Memory) (off : Nat) (v : Word) : w.put32 m off v.toNat = w.hostWord {} m off v := by
  unfold put32
  rw [BitVec.ofNat_toNat, BitVec.setWidth_eq]

end W

/-- The pages whose registers this family of statements writes: SCAN, FRC, GPIO. No write there but OLC_CTRL's starts a read of memory. -/
def cyclicReg (off : Nat) : Bool := [0x0A, 0x0F, 0x41].contains (off / 0x1000) && off != R.SCAN_OLC_CTRL && hostReg off

theorem cyclicReg_meets {off : Nat} (reg : cyclicReg off = true) (u : W) (m : Memory) (v : Word) :
    u.accessMeets m off v {} = (u, m) := by
  simp only [cyclicReg, Bool.and_eq_true, bne_iff_ne, ne_eq, List.contains_eq_mem, List.mem_cons, List.not_mem_nil, or_false,
    decide_eq_true_eq] at reg
  obtain ⟨⟨page, olc⟩, -⟩ := reg
  exact W.accessMeets_other u _ _ _ _ olc (W.ne_of_page (by rw [show R.SLV_RING_DB / 0x1000 = 0x15 from rfl]; omega))
    (W.ne_of_page (by rw [show R.KEY_RING_DB / 0x1000 = 0x3D from rfl]; omega)) (.inl (by omega))

/-- A host write of one of these registers that its block accepts. -/
theorem cyclic_write {c : Instr} {s : State} {off : Nat} {v : Word} {eff : W → W}
    (runs : exec c s = run (fun m w => w.hostWord {} m off v) s) (ready : Ready s off) (reg : cyclicReg off = true)
    (check : (hostEnter (begin_ s) (off / 0x1000)).blockCheck s.mem off v {} = 0)
    (effect : ((begin_ s).entered off).blockWrite s.mem off v {} = eff ((begin_ s).entered off))
    (watch : ∀ u, SameWatch (begin_ s) u → SameWatch (begin_ s) (eff u)) : HostWrites c s off eff :=
  HostWrites.of runs ready (by simp only [cyclicReg, Bool.and_eq_true] at reg; exact reg.2) (fun u => cyclicReg_meets reg u _ _)
    check effect watch

/-- A host write of one of these registers that its block refuses. -/
theorem cyclic_refused {c : Instr} {s : State} {off : Nat} {v : Word} {code : Nat}
    (runs : exec c s = run (fun m w => w.hostWord {} m off v) s) (ready : Ready s off) (reg : cyclicReg off = true)
    (check : (hostEnter (begin_ s) (off / 0x1000)).blockCheck s.mem off v {} = code) (refused : code ≠ 0) :
    Yields c s (refusedWith (begin_ s) off code) := by
  have meets := fun u => cyclicReg_meets reg u s.mem v
  simp only [cyclicReg, Bool.and_eq_true, bne_iff_ne, ne_eq, List.contains_eq_mem, List.mem_cons, List.not_mem_nil, or_false,
    decide_eq_true_eq] at reg
  obtain ⟨⟨page, olc⟩, host⟩ := reg
  have recTrig : off ≠ R.REC_TRIG := W.ne_of_page (by rw [show R.REC_TRIG / 0x1000 = 0x07 from rfl]; omega)
  have plain : ∀ u : W, u.blockRefused s.mem off code v = u := fun u => by
    unfold W.blockRefused
    rw [if_neg (by omega), if_neg (fun h => recTrig h.1), if_neg olc]
  have effect : (begin_ s).hostWord {} s.mem off v = refusedWith (begin_ s) off code := by
    rw [W.hostWord_blockRefused ready.host host ready.lock.2 meets check refused, plain]
    rfl
  unfold Yields
  rw [runs]
  refine run_steady ready.rest effect ?_
  exact ((SameWatch.start _ _).err (SameWatch.watched_common (by unfold R.H_ERR; omega))).spend _ _

/-! ## GPIO (R442 to R444) -/

section
variable {s : State}

theorem gpioOut_write (v : Word) (ready : Ready s R.GPIO_OUT) :
    HostWrites (.gpioOutWrite v) s R.GPIO_OUT fun u => u.wr R.GPIO_OUT v := by
  have stored : ∀ u : W, u.storeWord R.GPIO_OUT v = u.wr R.GPIO_OUT v := fun u => by
    rw [W.storeWord_writable (d := ⟨"OUT", 0x44, 4, 1, .rw, 0xffffffff, 0⟩) (by decide) (.inl rfl)]
    congr 1
    show (v &&& BitVec.allOnes 32) ||| (_ &&& 0#32) = v
    rw [BitVec.and_allOnes, BitVec.and_zero, BitVec.or_zero]
  refine cyclic_write (v := v) (congrArg (run · s) (funext fun m => funext fun w => W.put32_word w m _ v)) ready (by decide)
    (W.check_41 (by decide)) ?_ fun u h => h.wr (by decide)
  rw [W.write_41 (by decide)]
  exact stored _

theorem gpioSet_write (v : Word) (ready : Ready s R.GPIO_OUT_SET) :
    HostWrites (.gpioOutSet v) s R.GPIO_OUT_SET fun u => u.wr R.GPIO_OUT (u.rd R.GPIO_OUT ||| v) :=
  cyclic_write (v := v) (congrArg (run · s) (funext fun m => funext fun w => W.put32_word w m _ v)) ready (by decide)
    (W.check_41 (by decide)) (W.write_41 (by decide)) fun _ h => h.wr (by decide)

theorem gpioClr_write (v : Word) (ready : Ready s R.GPIO_OUT_CLR) :
    HostWrites (.gpioOutClr v) s R.GPIO_OUT_CLR fun u => u.wr R.GPIO_OUT (u.rd R.GPIO_OUT &&& ~~~v) :=
  cyclic_write (v := v) (congrArg (run · s) (funext fun m => funext fun w => W.put32_word w m _ v)) ready (by decide)
    (W.check_41 (by decide)) (W.write_41 (by decide)) fun _ h => h.wr (by decide)

theorem gpioInput_accepts (pin : Fin 32) (level : Bool) (rest : Steady (begin_ s)) :
    Yields (.gpioInputAccept pin level) s
      (if (begin_ s).rdB (R.H_CTRL 0x41) 0 = true ∧ (begin_ s).rdF (R.GPIO_GPIOi_CFG pin) 0 2 ≠ 0
       then { begin_ s with scan.gpioIn := s.scan.gpioIn.set pin (some level) } else begin_ s) := by
  have on : (begin_ s).gpioOn pin = true ↔ (begin_ s).rdB (R.H_CTRL 0x41) 0 = true ∧ (begin_ s).rdF (R.GPIO_GPIOi_CFG pin) 0 2 ≠ 0 := by
    unfold W.gpioOn
    rw [Bool.and_eq_true, bne_iff_ne]
    rfl
  have effect : (begin_ s).live (W.gpioAccept pin.val level) =
      (if (begin_ s).rdB (R.H_CTRL 0x41) 0 = true ∧ (begin_ s).rdF (R.GPIO_GPIOi_CFG pin) 0 2 ≠ 0
       then { begin_ s with scan.gpioIn := s.scan.gpioIn.set pin (some level) } else begin_ s) := by
    unfold W.live W.gpioAccept
    rw [if_neg (by rw [rest.held]; decide)]
    simp only [on, begin_scan, vector_set _ _ _ pin.isLt]
  refine run_steady (f := fun _ w => w.live (W.gpioAccept pin.val level)) rest effect ?_
  exact SameWatch.ite ((SameWatch.refl _).of_eq rfl rfl rfl rfl rfl rfl rfl rfl rfl rfl rfl) (SameWatch.refl _)

/-! ## Stations (R446, R449) -/

/-- The word with which the host schedules an entry: GO and its index. -/
theorem updWord (j : BitVec 11) : bit (BitVec.ofNat 32 (2 ^ 31 + j.toNat)) 31 = true ∧ fld (BitVec.ofNat 32 (2 ^ 31 + j.toNat)) 0 11 = j.toNat := by
  have := j.isLt
  unfold bit fld
  rw [BitVec.toNat_ofNat, Nat.mod_eq_of_lt (by omega), Nat.testBit_two_pow_add_eq, Nat.testBit_lt_two_pow (by omega), Nat.shiftRight_zero]
  exact ⟨rfl, by omega⟩

theorem W.get_one (w : W) (m : Memory) (a : Nat) : w.get m a 1 = (w.byte m a).toNat := by
  simp [W.get, W.bytes, leNat]

theorem W.stnEntry_task (w : W) (m : Memory) {j : Nat} (listed : j < w.rdN R.SCAN_STN_COUNT) :
    ((w.stnEntry m j).map (·.task)).getD 0 = (w.byte m (w.rdN R.SCAN_STN_BASE + 16 * j + 4)).toNat / 16 % 4 := by
  unfold W.stnEntry
  simp only [if_neg (show ¬ w.rdN R.SCAN_STN_COUNT ≤ j by omega), W.get_one, Option.map_some, Option.getD_some]

/-- GO for an entry beyond the table is out of range (R446). -/
theorem scanCheck_upd (w : W) (m : Memory) (j : BitVec 11) : w.scanCheck m 0x050 (BitVec.ofNat 32 (2 ^ 31 + j.toNat)) =
    if j.toNat < w.rdN R.SCAN_STN_COUNT then 0 else eRange := by
  obtain ⟨go, index⟩ := updWord j
  unfold W.scanCheck
  simp only [go, index]
  by_cases h : j.toNat < w.rdN R.SCAN_STN_COUNT <;> simp [h]

theorem stationUpdate_write (j : BitVec 11) (ready : Ready s R.SCAN_STN_UPD) :
    if j.toNat < (begin_ s).rdN R.SCAN_STN_COUNT
    then HostWrites (.stationUpdate j) s R.SCAN_STN_UPD fun u =>
      let owner := (memGet s.mem ((begin_ s).rdN R.SCAN_STN_BASE + 16 * j.toNat + 4)).toNat / 16 % 4
      { u with scan.upd := (s.scan.upd.filter fun p => p.1 != j.toNat) ++ [(j.toNat, owner)] }
    else Yields (.stationUpdate j) s (refusedWith (begin_ s) R.SCAN_STN_UPD eRange) := by
  obtain ⟨go, index⟩ := updWord j
  have count : (hostEnter (begin_ s) 0x0A).rdN R.SCAN_STN_COUNT = (begin_ s).rdN R.SCAN_STN_COUNT := by
    unfold W.rdN
    rw [W.start_rd _ _ _ (by decide)]
  have check := (W.check_0a (off := R.SCAN_STN_UPD) (x := {}) (by decide)).trans (scanCheck_upd (hostEnter (begin_ s) 0x0A) s.mem j)
  rw [count] at check
  split
  · rename_i listed
    rw [if_pos listed] at check
    refine cyclic_write rfl ready (by decide) check ?_ fun u h => h.of_eq rfl rfl rfl rfl rfl rfl rfl rfl rfl rfl rfl
    have blocks := W.entered_blocks (begin_ s) R.SCAN_STN_UPD
    have rd : ∀ {a}, 0x040 ≤ a % 0x1000 → ((begin_ s).entered R.SCAN_STN_UPD).rdN a = (begin_ s).rdN a := fun h =>
      congrArg BitVec.toNat (W.entered_rd _ _ h)
    have owner := W.stnEntry_task ((begin_ s).entered R.SCAN_STN_UPD) s.mem (j := j.toNat) (by rw [rd (by decide)]; exact listed)
    unfold W.byte at owner
    rw [blocks.wq, rd (by decide)] at owner
    rw [W.write_0a (by decide)]
    show (W.scanWrite _ s.mem 0x050 _).getD _ = _
    unfold W.scanWrite
    rw [if_pos rfl, if_pos go, Option.getD_some, index, owner, blocks.scan]
    rfl
  · rename_i beyond
    rw [if_neg beyond] at check
    exact cyclic_refused rfl ready (by decide) check (by decide)

theorem stationWindow_times_out (st : Fin 1536) {x : Stn} (rest : Steady (begin_ s))
    (found : s.scan.stn.find? (fun y => y.idx == st.val) = some x) :
    Yields (.stationWindowTimeout st) s
      (if x.window = true
       then { begin_ s with scan.stn := s.scan.stn.map fun y => if y.idx = st.val then { x with window := false, miss := true } else y }
       else begin_ s) := by
  have idx : x.idx = st.val := by simpa using List.find?_some found
  have effect : (begin_ s).stnTimeout st.val = (if x.window = true
      then { begin_ s with scan.stn := s.scan.stn.map fun y => if y.idx = st.val then { x with window := false, miss := true } else y }
      else begin_ s) := by
    unfold W.stnTimeout W.stn W.setStn
    simp only [begin_scan, found, idx]
  refine run_steady (f := fun _ w => w.stnTimeout st.val) rest effect ?_
  exact SameWatch.ite ((SameWatch.refl _).of_eq rfl rfl rfl rfl rfl rfl rfl rfl rfl rfl rfl) (SameWatch.refl _)

/-! ## Forces (R454 to R458) -/

theorem W.frcChange_eq (w0 w : W) : W.frcChange w0 w = if w0.frcSet = w.frcSet then w else w.raise E.FRC_FORCE_CHANGE := by
  unfold W.frcChange W.raiseIf
  by_cases h : w0.frcSet = w.frcSet <;> simp [h]

/-- Two records have the same forces enabled when each entry is enabled in both or in none. -/
theorem W.frcSet_eq_iff (w u : W) : w.frcSet = u.frcSet ↔ ∀ e < 64, w.frcEn e = u.frcEn e := by
  unfold W.frcSet those
  constructor
  · intro h e he
    have := congrArg (e ∈ ·) h
    simp only [List.mem_filter, List.mem_range, he, true_and, eq_iff_iff] at this
    exact Bool.eq_iff_iff.mpr this
  · intro h
    exact List.filter_congr fun e he => h e (List.mem_range.mp he)

theorem frcAddr_inj {i k : Nat} (h : R.FRC_FRCe_ADDR i = R.FRC_FRCe_ADDR k) : i = k := by
  unfold R.FRC_FRCe_ADDR at h
  omega

theorem cyclicReg_frc (e : Fin 64) : cyclicReg (R.FRC_FRCe_ADDR e) = true ∧ watched (R.FRC_FRCe_ADDR e) = false := by
  revert e
  decide +kernel

theorem frcStored_enabled (v : Word) : bit (v &&& 0x801FFFFF#32) 31 = bit v 31 := by
  unfold bit
  rw [BitVec.toNat_and, Nat.testBit_and]
  simp
  exact fun _ => by decide

/-- Where the address word of entry e stands in the FRC page. -/
theorem frcPlace (e : Fin 64) : R.FRC_FRCe_ADDR e / 0x1000 = 0x0F ∧ R.FRC_FRCe_ADDR e % 0x1000 = 0x100 + 16 * e.val ∧
    (0x100 ≤ 0x100 + 16 * e.val ∧ 0x100 + 16 * e.val < 0x500 ∧ (0x100 + 16 * e.val) % 16 = 0) ∧ (0x100 + 16 * e.val - 0x100) / 16 = e.val := by
  unfold R.FRC_FRCe_ADDR
  omega

/-- The area of an image that an entry addresses is looked up in the task's own registers (R455). -/
theorem start_spSize (w : W) (p n sp : Nat) : (hostEnter w p).spSize n sp = w.spSize n sp := by
  unfold W.spSize W.rdN
  split
  · rfl
  · rw [W.start_rd]
    rcases sp with _ | _ | _ | _ | sp <;> simp [R.TASK_IN_SIZE, R.TASK_OUT_SIZE, R.TASK_RET_SIZE, R.TASK_LOC_SIZE]

theorem forceEntry_write (e : Fin 64) (v : Word) (ready : Ready s (R.FRC_FRCe_ADDR e)) :
    if fld v 0 2 ≠ 0 ∨ (bit v 31 = true ∧ (begin_ s).spSize (fld v 18 2) (fld v 20 1) < fld v 0 18 + 4)
    then Yields (.forceEntryWrite e v) s (refusedWith (begin_ s) (R.FRC_FRCe_ADDR e) eRange)
    else HostWrites (.forceEntryWrite e v) s (R.FRC_FRCe_ADDR e) fun u =>
      let stored := u.wr (R.FRC_FRCe_ADDR e) (v &&& 0x801FFFFF#32)
      if bit ((begin_ s).rd (R.FRC_FRCe_ADDR e)) 31 = bit v 31 then stored else stored.raise E.FRC_FORCE_CHANGE := by
  obtain ⟨page, place, inside, entry⟩ := frcPlace e
  obtain ⟨reg, unwatched⟩ := cyclicReg_frc e
  have runs : exec (.forceEntryWrite e v) s = run (fun m w => w.hostWord {} m (R.FRC_FRCe_ADDR e) v) s :=
    congrArg (run · s) (funext fun m => funext fun w => W.put32_word w m _ v)
  have check : (hostEnter (begin_ s) (R.FRC_FRCe_ADDR e / 0x1000)).blockCheck s.mem (R.FRC_FRCe_ADDR e) v {} =
      if fld v 0 2 ≠ 0 ∨ (bit v 31 = true ∧ (begin_ s).spSize (fld v 18 2) (fld v 20 1) < fld v 0 18 + 4) then eRange else 0 := by
    rw [W.check_0f page, place]
    unfold W.frcCheck
    simp only [if_pos inside, start_spSize]
  split
  · rename_i bad
    rw [if_pos bad] at check
    exact cyclic_refused runs ready reg check (by decide)
  · rename_i good
    rw [if_neg good] at check
    refine cyclic_write runs ready reg check ?_ fun u h => SameWatch.ite (h.wr unwatched) ((h.wr unwatched).raise ready.rest _)
    rw [W.write_0f page, place]
    unfold W.frcWrite
    rw [if_neg (by omega), if_pos inside, entry, Option.getD_some, W.frcChange_eq, ← W.entered_rd (begin_ s) (R.FRC_FRCe_ADDR e) (by omega)]
    generalize (begin_ s).entered (R.FRC_FRCe_ADDR e) = u
    refine if_congr ?_ rfl rfl
    rw [W.frcSet_eq_iff]
    unfold W.frcEn W.frcAddr
    constructor
    · intro same
      have := same e e.isLt
      rwa [W.rd_wr_same, frcStored_enabled] at this
    · intro same k hk
      rw [W.rd_wr]
      split
      · rename_i h
        rw [frcAddr_inj h, frcStored_enabled, same]
      · rfl

/-! ### Clearing entries (R477) -/

/-- One entry is disabled where `p` holds of its address word. -/
def frcOff (p : Word → Bool) (u : W) (i : Nat) : W :=
  if p (u.rd (R.FRC_FRCe_ADDR i)) then u.wrF (R.FRC_FRCe_ADDR i) 30 2 0 else u

/-- What the entries read as after those of a list have been passed. -/
theorem frcOff_foldl_rd (p : Word → Bool) : ∀ (l : List Nat) (u : W) (k : Nat), l.Nodup →
    (l.foldl (frcOff p) u).rd (R.FRC_FRCe_ADDR k) =
      if k ∈ l ∧ p (u.rd (R.FRC_FRCe_ADDR k)) = true then setFld (u.rd (R.FRC_FRCe_ADDR k)) 30 2 0 else u.rd (R.FRC_FRCe_ADDR k)
  | [], u, k, _ => by simp
  | i :: l, u, k, nodup => by
    obtain ⟨fresh, rest⟩ := List.nodup_cons.mp nodup
    have turn : ∀ k, (frcOff p u i).rd (R.FRC_FRCe_ADDR k) =
        if k = i ∧ p (u.rd (R.FRC_FRCe_ADDR k)) = true then setFld (u.rd (R.FRC_FRCe_ADDR k)) 30 2 0 else u.rd (R.FRC_FRCe_ADDR k) := fun k => by
      unfold frcOff
      by_cases same : k = i
      · subst same
        split <;> simp_all [W.rd_wrF]
      · split
        · rw [W.rd_wrF, if_neg (fun h => same (frcAddr_inj h)), if_neg (fun h => same h.1)]
        · rw [if_neg (fun h => same h.1)]
    rw [List.foldl_cons, frcOff_foldl_rd p l _ k rest, turn]
    by_cases same : k = i
    · subst same
      simp [fresh]
    · simp [same]

theorem SameWatch.frcOffs {w u : W} (h : SameWatch w u) (p : Word → Bool) (l : List Nat) (below : ∀ i ∈ l, i < 64) :
    SameWatch w (l.foldl (frcOff p) u) := by
  induction l generalizing u with
  | nil => exact h
  | cons i l ih =>
    refine ih (SameWatch.ite (h.wrF ?_) h) fun k hk => below k (List.mem_cons_of_mem _ hk)
    exact (cyclicReg_frc ⟨i, below i (by simp)⟩).2

/-- Disabling the enabled entries that `pick` selects changes the set of enabled entries exactly when there is one. -/
theorem frcOffs_change (pick : Word → Bool) (u : W) :
    u.frcSet = ((List.range 64).foldl (frcOff fun a => bit a 31 && pick a) u).frcSet ↔
      ¬ (List.range 64).any (fun i => bit (u.rd (R.FRC_FRCe_ADDR i)) 31 && pick (u.rd (R.FRC_FRCe_ADDR i))) = true := by
  have cleared : ∀ v : Word, bit (setFld v 30 2 0) 31 = false := fun v => by
    unfold bit
    rw [testBit_setFld _ _ _ _ _ (by decide), if_pos (by decide)]
    decide
  rw [W.frcSet_eq_iff, List.any_eq_true]
  unfold W.frcEn W.frcAddr
  simp only [frcOff_foldl_rd _ _ _ _ List.nodup_range, List.mem_range, not_exists, not_and, Bool.not_eq_true, Bool.and_eq_true]
  refine forall₂_congr fun k hk => ?_
  split
  · rename_i h
    rw [cleared, h.2.1, h.2.2]
    simp
  · rename_i h
    simp only [hk, true_and, not_and, Bool.not_eq_true] at h
    cases enabled : bit (u.rd (R.FRC_FRCe_ADDR k)) 31
    · simp
    · simp [h enabled]

/-- A write of CLEAR that selects entries by `pick`: each enabled one is disabled, and FORCE_CHANGE says so if there was one. -/
theorem forceClear_write {c : Instr} {v : Word} (pick : Word → Bool) (runs : exec c s = run (fun m w => w.hostWord {} m R.FRC_CLEAR v) s)
    (selects : ∀ a, (bit v 0 || (bit v 1 && bit a 30)) = pick a) (ready : Ready s R.FRC_CLEAR) :
    HostWrites c s R.FRC_CLEAR fun u =>
      let off := (List.range 64).foldl (fun u i =>
        if bit (u.rd (R.FRC_FRCe_ADDR i)) 31 && pick (u.rd (R.FRC_FRCe_ADDR i)) then u.wrF (R.FRC_FRCe_ADDR i) 30 2 0 else u) u
      if (List.range 64).any (fun i => bit ((begin_ s).rd (R.FRC_FRCe_ADDR i)) 31 && pick ((begin_ s).rd (R.FRC_FRCe_ADDR i)))
      then off.raise E.FRC_FORCE_CHANGE else off := by
  have offs : ∀ u, SameWatch (begin_ s) u → SameWatch (begin_ s) ((List.range 64).foldl (frcOff fun a => bit a 31 && pick a) u) :=
    fun u h => h.frcOffs _ _ fun i hi => List.mem_range.mp hi
  refine cyclic_write runs ready (by decide) (W.check_0f (by decide)) ?_
    fun u h => SameWatch.ite ((offs u h).raise ready.rest _) (offs u h)
  have same : ∀ i ∈ List.range 64, ((begin_ s).rd (R.FRC_FRCe_ADDR i)) = ((begin_ s).entered R.FRC_CLEAR).rd (R.FRC_FRCe_ADDR i) := fun i hi => by
    rw [W.entered_rd _ _ (by unfold R.FRC_FRCe_ADDR; have := List.mem_range.mp hi; omega)]
  rw [W.write_0f (by decide)]
  show (W.frcWrite _ 0x044 v).getD _ = _
  unfold W.frcWrite W.frcClear
  rw [if_pos rfl, Option.getD_some, W.frcChange_eq]
  have change := frcOffs_change pick ((begin_ s).entered R.FRC_CLEAR)
  have any : (List.range 64).any (fun i => bit ((begin_ s).rd (R.FRC_FRCe_ADDR i)) 31 && pick ((begin_ s).rd (R.FRC_FRCe_ADDR i))) =
      (List.range 64).any (fun i => bit (((begin_ s).entered R.FRC_CLEAR).rd (R.FRC_FRCe_ADDR i)) 31 &&
        pick (((begin_ s).entered R.FRC_CLEAR).rd (R.FRC_FRCe_ADDR i))) :=
    any_range fun i hi => by rw [same i (List.mem_range.mpr hi)]
  simp only [selects, any]
  unfold frcOff at change
  unfold W.frcAddr
  rw [← ite_not]
  exact if_congr (not_iff_comm.mp change.symm) rfl rfl

end

/-- Settles O24: each clause is the register's own write, or what the pin or the bus does to the scan page's state. -/
theorem pinsForcesAndStations : Obligations.PinsForcesAndStations := by
  unfold Obligations.PinsForcesAndStations
  intro s v pin level j e st x
  dsimp only
  intro rest
  refine ⟨gpioOut_write v, gpioSet_write v, gpioClr_write v, gpioInput_accepts pin level rest, forceEntry_write e v,
    forceClear_write (v := 1) (fun _ => true) rfl (fun a => ?_), forceClear_write (v := 2) (fun a => bit a 30) rfl (fun a => ?_),
    stationUpdate_write j, stationWindow_times_out st rest⟩
  · rfl
  · show (false || (true && bit a 30)) = bit a 30
    rw [Bool.false_or, Bool.true_and]

end Sys2Proof.Machine
end

section
/-!
PROOF. What an event, a change of health and the end of a task's run leave alone in a device in any state: the tasks' pages, and of the scan
block all but the task itself (R459, R661, R674, R675).
-/
namespace Sys2Proof.Machine

/-- The registers that belong to no task: those of other pages, and the headers. -/
def offTask (a : Nat) : Bool := !(decide (0x0B ≤ a / 0x1000 ∧ a / 0x1000 ≤ 0x0E ∧ 0x040 ≤ a % 0x1000))

/-- The scan block and the registers of the tasks are as before. -/
structure KeepsTasks (w u : W) : Prop where
  scan : u.scan = w.scan
  regs : Only offTask w u

theorem offTask_header {a : Nat} (h : a % 0x1000 < 0x040) : offTask a = true := by
  unfold offTask
  rw [Bool.not_eq_true', decide_eq_false_iff_not]
  omega

theorem offTask_page {a : Nat} (h : 0x0E < a / 0x1000) : offTask a = true := by
  unfold offTask
  rw [Bool.not_eq_true', decide_eq_false_iff_not]
  omega

/-- Neither an event nor a wake shows in a task's page. -/
theorem offTask_of_wakeReg {a : Nat} (h : offTask a = false) : wakeReg a = false := by
  unfold offTask at h
  rw [Bool.not_eq_false', decide_eq_true_eq] at h
  simp only [wakeReg, evtReg, R.EVT_EVTLAT, R.REC_LOST, R.REC_STAT, R.PWR_STATE, R.PWR_STATE_REQ, R.PWR_DOM_STAT, R.PWR_ENTRY_ABORT,
    Bool.or_eq_false_iff, beq_eq_false_iff_ne, decide_eq_false_iff_not]
  omega

namespace KeepsTasks
variable {w u v : W}

theorem refl (w : W) : KeepsTasks w w := ⟨rfl, Only.refl _ w⟩
theorem trans (h : KeepsTasks w u) (k : KeepsTasks u v) : KeepsTasks w v := ⟨k.scan.trans h.scan, h.regs.trans k.regs⟩
theorem ite {c : Prop} [Decidable c] (h : KeepsTasks w u) (k : KeepsTasks w v) : KeepsTasks w (if c then u else v) := by
  split <;> assumption
theorem foldl {α : Type} {f : W → α → W} (hf : ∀ u x, KeepsTasks u (f u x)) : ∀ (l : List α) (w : W), KeepsTasks w (l.foldl f w)
  | [], w => refl w
  | x :: t, w => (hf w x).trans (foldl hf t (f w x))
theorem of_regs (h : KeepsTasks w u) (regs : v.regs = u.regs) (scan : v.scan = u.scan) : KeepsTasks w v :=
  ⟨scan.trans h.scan, h.regs.of_regs regs⟩
theorem wr (h : KeepsTasks w u) {a : Nat} {x : Word} (ha : offTask a = true) : KeepsTasks w (u.wr a x) := ⟨h.scan, h.regs.wr ha⟩
theorem wrN (h : KeepsTasks w u) {a x : Nat} (ha : offTask a = true) : KeepsTasks w (u.wrN a x) := h.wr ha
theorem wrF (h : KeepsTasks w u) {a lo n x : Nat} (ha : offTask a = true) : KeepsTasks w (u.wrF a lo n x) := h.wr ha
theorem wrB (h : KeepsTasks w u) {a i : Nat} {b : Bool} (ha : offTask a = true) : KeepsTasks w (u.wrB a i b) := h.wr ha
theorem incSat (h : KeepsTasks w u) {a : Nat} (ha : offTask a = true) : KeepsTasks w (u.incSat a) := h.wr ha
theorem err (h : KeepsTasks w u) (p c : Nat) : KeepsTasks w (u.err p c) := by
  unfold W.err
  exact ite h (h.wr (offTask_header (by unfold R.H_ERR; omega)))

theorem raise (h : KeepsTasks w u) (e : Nat × Nat) : KeepsTasks w (u.raise e) :=
  h.trans ⟨(SameBlocks.raise u e).scan, (Only.raise_wake u e).weaken fun _ => offTask_of_wakeReg⟩
theorem raiseIf (h : KeepsTasks w u) (c : Bool) (e : Nat × Nat) : KeepsTasks w (u.raiseIf c e) := ite (h.raise e) h

/-! ## The claim (R661, R668, R671) -/

theorem roleSync (h : KeepsTasks w u) : KeepsTasks w u.roleSync := h.wrF (by decide)

theorem staleSync (h : KeepsTasks w u) : KeepsTasks w u.staleSync := by
  unfold W.staleSync
  have shown := h.wrF (a := R.RED_COPY_STAT) (lo := 0) (n := 4) (x := if u.hasClaim then u.tw.rep.toNat else u.tw.cur.toNat) (by decide)
  exact ite shown ((shown.wrB (by decide)).raise _)

theorem timeSync (h : KeepsTasks w u) : KeepsTasks w u.timeSync := by
  have source := h.wrN (a := R.LNK_TIME_SRC) (x := u.timeSrc) (by decide)
  unfold W.timeSync
  dsimp only
  split
  · rename_i p _
    have port : offTask (R.LNK_Pp_STAT p) = true := offTask_page (by unfold R.LNK_Pp_STAT; omega)
    refine ite source (raise ?_ _)
    exact of_regs (source.wrB (i := 8) (b := false) port) rfl rfl
  · exact source

theorem modAx (h : KeepsTasks w u) (n : Nat) (f : AxSt → AxSt) : KeepsTasks w (u.modAx n f) := of_regs h rfl rfl

/-- The pages of the axes lie beyond those of the tasks. -/
theorem axis_offTask {a n : Nat} (h : 0x2B000 + 0x1000 * n ≤ a) : offTask a = true := offTask_page (by omega)

theorem axEnd (h : KeepsTasks w u) (n st : Nat) : KeepsTasks w (u.axEnd n st) := by
  unfold W.axEnd
  split
  · exact h
  · exact ((h.err _ _).modAx _ _).wrB (axis_offTask (n := n) (by unfold R.AX_ASTAT; omega))

theorem axEndAll (h : KeepsTasks w u) (n st : Nat) : KeepsTasks w (u.axEndAll n st) := by
  unfold W.axEndAll
  dsimp only
  refine modAx ((h.axEnd n st).trans (foldl (fun v _ => ?_) _ _)) _ _
  exact ((refl v).err _ _).wrB (axis_offTask (n := n) (by unfold R.AX_ASTAT; omega))

theorem axImmediate (h : KeepsTasks w u) (n : Nat) (b : Bool) : KeepsTasks w (u.axImmediate n b) := by
  have unc : KeepsTasks w (u.axAddUnc n (stopLoss (u.axis n).v.toNat (u.axis n).dec.toNat b)) := by
    unfold W.axAddUnc
    have added := h.wrN (a := R.AX_UNC n) (x := satAdd 32 (u.rdN (R.AX_UNC n)) (stopLoss (u.axis n).v.toNat (u.axis n).dec.toNat b))
      (axis_offTask (n := n) (by unfold R.AX_UNC; omega))
    exact ite (added.wrB (axis_offTask (n := n) (by unfold R.AX_ASTAT; omega))) added
  unfold W.axImmediate
  exact ((unc.modAx n _).wr (axis_offTask (n := n) (by unfold R.AX_VEL; omega))).wrF (axis_offTask (n := n) (by unfold R.AX_ASTAT; omega))

theorem setAxState (h : KeepsTasks w u) (n x : Nat) : KeepsTasks w (u.setAxState n x) := h.wrF (axis_offTask (n := n) (by unfold R.AX_ASTAT; omega))

theorem axesHeld (h : KeepsTasks w u) : KeepsTasks w u.axesHeld := by
  unfold W.axesHeld
  exact ite h (h.trans (foldl (fun v n => ite (refl v) ((((refl v).axEndAll n _).axImmediate n true).setAxState n _)) _ _))

theorem axesReleased (h : KeepsTasks w u) : KeepsTasks w u.axesReleased := by
  unfold W.axesReleased
  refine h.trans (foldl (fun v n => ite ?_ (refl v)) _ _)
  exact (((refl v).setAxState n _).wrB (axis_offTask (n := n) (by unfold R.AX_ASTAT; omega))).wr (axis_offTask (n := n) (by unfold R.AX_UNC; omega))

theorem serveStop (h : KeepsTasks w u) : KeepsTasks w u.serveStop := by
  have undef : ∀ {v : W} (a n : Nat), KeepsTasks w v → KeepsTasks w (v.undef a n) := fun a n k => by
    unfold W.undef
    exact ite k (of_regs k rfl rfl)
  have ended : KeepsTasks w { u with slv.served := none } := of_regs h rfl rfl
  unfold W.serveStop
  refine ite (raise (undef _ _ ?_) _) h
  exact ended.wrB (by decide)

theorem splitAbort (h : KeepsTasks w u) (r : Nat) : KeepsTasks w (u.splitAbort r) := by
  unfold W.splitAbort W.splitFallback
  split
  · rename_i run _
    have whole : KeepsTasks w { u with slv.run := some { run with split := false, flags := run.flags ||| 24 } } := of_regs h rfl rfl
    refine ite (raise ?_ _) h
    exact (whole.wrF (a := R.QP_SPLIT_STAT) (lo := 0) (n := 4) (x := r) (by decide)).incSat (by decide)
  · exact h

theorem dropClaim (h : KeepsTasks w u) (r : Bool) : KeepsTasks w (u.dropClaim r) := by
  unfold W.dropClaim
  refine timeSync (staleSync ?_)
  refine of_regs (u := (((((u.wrF R.RED_CLAIM 0 16 0).roleSync.serveStop).splitAbort 9).raiseIf r E.RED_RELINQUISH).raise E.RED_CLAIM_LOST).axesHeld) ?_ rfl rfl
  exact (raise (raiseIf (splitAbort (serveStop (roleSync (h.wrF (by decide)))) 9) _ _) _).axesHeld

theorem gainClaim (h : KeepsTasks w u) (c : Nat) : KeepsTasks w (u.gainClaim c) :=
  (((((h.wrF (by decide)).roleSync).raise _).axesReleased).staleSync).timeSync

theorem soloEval (h : KeepsTasks w u) : KeepsTasks w u.soloEval := by
  unfold W.soloEval
  dsimp only
  refine ite h ?_
  have dropped : KeepsTasks w (if u.rdF R.RED_CLAIM 0 16 ≠ 0 ∧
      (u.redRank != 0 && u.healthy && u.rdF R.RED_CLAIM 0 16 / 4096 == u.redRank) = false then u.dropClaim (!u.healthy) else u) :=
    ite (h.dropClaim _) h
  exact ite (dropped.gainClaim _) dropped

/-- A change of health, with the claim that is gained or dropped for it (R661, R674, R675). -/
theorem health (h : KeepsTasks w u) : KeepsTasks w u.health := by
  unfold W.health
  dsimp only
  generalize u.diagRaw &&& (u.rdF R.RED_DIAG_MASK 0 6 ||| 0x1C0) = d
  have shown : KeepsTasks w ((u.wrF R.RED_STAT 16 9 d).wrB R.RED_STAT 5 (d == 0)) := (h.wrF (by decide)).wrB (by decide)
  generalize (u.wrF R.RED_STAT 16 9 d).wrB R.RED_STAT 5 (d == 0) = v at shown
  have off : KeepsTasks w { v with tw.heldOff := false } := of_regs shown rfl rfl
  exact ite shown.soloEval (ite (off.dropClaim true) off)

end KeepsTasks

/-! ## The end of a task's run (R459, R460) -/

namespace W

/-- What leaving RUN takes from the task besides its cycles: its pins, its requests of safety functions, its key handles. -/
def taskFreed (w : W) (n : Nat) : W :=
  (({ w with scan.gpio := w.scan.gpio.setIfInBounds n none } : W).safDropTask n).keyOrphan n

theorem taskFreed_only (w : W) (n : Nat) : Only offTask w (w.taskFreed n) := by
  unfold taskFreed keyOrphan
  refine Only.trans ?_ (keySync_only (fun a lo hi => offTask_page (by simp only [R.KEY_STAT] at lo; omega)) _)
  exact (Only.refl _ w).of_regs rfl

theorem taskFreed_eng (w : W) (n : Nat) : (w.taskFreed n).scan.eng = w.scan.eng := by
  unfold taskFreed keyOrphan
  dsimp only
  rw [(keySync_blocks _).scan]
  rfl

/-- The task's record and its STATE after the end of its run, before anything else follows from it. -/
def taskStopped (w : W) (n st rsn : Nat) : W :=
  let u := w.modTk n fun t => { t with phase := 0, stopReq := false, vote := Vector.replicate 2 none,
                                       switchDue := t.switchDue && (st == 3 || w.tstate n == 3) }
  (u.wrF (R.TASK_STATE n) 0 2 st).wrF (R.TASK_STATE n) 8 4 (if st = 3 then rsn else u.rdF (R.TASK_STATE n) 8 4)

theorem taskHalt_eq (w : W) (n st rsn : Nat) : w.taskHalt n st rsn =
    ((if w.tstate n = 2 then (w.taskStopped n st rsn).taskFreed n else w.taskStopped n st rsn).raiseIf (st == 3) (E.TASK_TFAULT n)).health := by
  rfl

theorem taskHalt_eng (w : W) (n st rsn : Nat) : (w.taskHalt n st rsn).scan.eng = w.scan.eng := by
  rw [taskHalt_eq, (((KeepsTasks.refl _).raiseIf _ _).health).scan]
  split
  · exact taskFreed_eng _ _
  · rfl

/-- The state that the end of a run leaves. -/
theorem taskHalt_tstate (w : W) (n : Fin 4) {st : Nat} (rsn : Nat) (hst : st < 4) : (w.taskHalt n st rsn).tstate n = st := by
  have own : offTask (R.TASK_STATE n) = false := by
    unfold offTask R.TASK_STATE
    rw [Bool.not_eq_false', decide_eq_true_eq]
    omega
  have state : (w.taskStopped n st rsn).rdF (R.TASK_STATE n) 0 2 = st := by
    unfold taskStopped
    rw [rdF_wrF_apart _ _ _ _ _ _ _ (by decide) (by decide), rdF_wrF_same _ _ _ _ _ (by decide)]
    omega
  rw [taskHalt_eq, tstate, (((KeepsTasks.refl _).raiseIf _ _).health).regs.rdF own]
  split
  · rw [(taskFreed_only _ _).rdF own, state]
  · exact state

theorem trap_eng (w : W) (n code sp pc : Nat) : (w.trap n code sp pc).scan.eng = w.scan.eng := taskHalt_eng _ _ _ _

/-- Where the program counter goes is all that a jump changes of the engines, whether it traps or not. -/
theorem jump_eng (w : W) (n pc : Nat) : (w.jump n pc).scan.eng = (w.setEng n { w.eng n with pc := pc }).scan.eng := by
  unfold jump
  dsimp only
  split
  · split
    · exact trap_eng _ _ _ _ _
    · rfl
  · rfl

theorem lsFault_tstate (w : W) (n : Fin 4) : (w.lsFault n).tstate n = 3 := taskHalt_tstate _ n 3 (by decide)

end W

end Sys2Proof.Machine
end

section
/-!
PROOF. The services of Breeze code (R508): each answers with a status, whatever the state of the device.
-/
namespace Sys2Proof.Machine

/-! ## The registers of an engine after a call -/

namespace Eng

theorem wr_get (g : Eng) (i v : Nat) {j : Nat} (hj : j < 64) :
    (g.wr i v).w[j] = if j = i ∧ j ≠ 0 then BitVec.ofNat 64 v else g.w[j] := by
  unfold wr
  by_cases zero : i = 0
  · simp [zero]
  · by_cases same : j = i
    · subst same
      simp [zero]
    · simp [zero, same, Ne.symm same]

theorem wr_regs (g : Eng) (i v : Nat) : g.wr i v = { g with w := (g.wr i v).w } := by
  unfold wr
  split <;> rfl

/-- The results of a call in the registers from W[a] on. -/
def results (g : Eng) (a : Nat) (res : List (Nat × Nat)) : Eng := res.foldl (fun g e => g.wr (a + e.2) e.1) g

theorem results_regs (a : Nat) (res : List (Nat × Nat)) (g : Eng) : g.results a res = { g with w := (g.results a res).w } := by
  have rest : (g.results a res).flags = g.flags ∧ (g.results a res).pc = g.pc ∧ (g.results a res).stk = g.stk := by
    induction res generalizing g with
    | nil => exact ⟨rfl, rfl, rfl⟩
    | cons e res ih =>
      obtain ⟨flags, pc, stk⟩ := ih (g.wr (a + e.2) e.1)
      rw [wr_regs] at flags pc stk
      exact ⟨by rw [results, List.foldl_cons, wr_regs]; exact flags, by rw [results, List.foldl_cons, wr_regs]; exact pc,
        by rw [results, List.foldl_cons, wr_regs]; exact stk⟩
  obtain ⟨flags, pc, stk⟩ := rest
  rw [← flags, ← pc, ← stk]

theorem results_get (a : Nat) : ∀ (res : List Nat) (k : Nat) (g : Eng) {j : Nat} (hj : j < 64),
    (g.results a (res.zipIdx k)).w[j] =
      if j ≠ 0 ∧ a + k ≤ j then ((res[j - (a + k)]?).map (BitVec.ofNat 64)).getD g.w[j] else g.w[j]
  | [], k, g, j, hj => by simp [results]
  | x :: res, k, g, j, hj => by
    have rest := results_get a res (k + 1) (g.wr (a + k) x) hj
    rw [List.zipIdx_cons]
    show ((g.wr (a + k) x).results a (res.zipIdx (k + 1))).w[j] = _
    rw [rest, wr_get _ _ _ hj]
    clear rest
    by_cases zero : j = 0
    · simp [zero]
    rcases Nat.lt_trichotomy j (a + k) with below | same | above
    · simp [show ¬ a + k ≤ j by omega, show ¬ a + (k + 1) ≤ j by omega, show j ≠ a + k by omega]
    · subst same
      simp
    · obtain ⟨i, rfl⟩ := Nat.exists_eq_add_of_lt above
      have tail : a + k + i + 1 - (a + (k + 1)) = i := by omega
      have all : a + k + i + 1 - (a + k) = i + 1 := by omega
      simp [tail, all, show a + (k + 1) ≤ a + k + i + 1 by omega, show a + k ≤ a + k + i + 1 by omega, show a + k + i + 1 ≠ a + k by omega]

theorem call_pc (g : Eng) (d code : Nat) (a : Nat) (res : List (Nat × Nat)) (b : Bool) :
    (((g.results a res).wr d code).setFlag 7 b).pc = g.pc := by
  unfold setFlag
  rw [wr_regs, results_regs]

/-- What a call writes into its engine: the results, then the status, which prevails (R508). -/
theorem call_eq (g : Eng) (d a : Fin 64) (code : Nat) (res : List Nat) :
    { ((g.results a res.zipIdx).wr d code).setFlag 7 (code != 0) with pc := g.pc + 4 } = afterCall g d a code res := by
  unfold afterCall setFlag
  rw [wr_regs, results_regs]
  have regs : (({ g with w := (g.results a res.zipIdx).w } : Eng).wr d code).w = Vector.ofFn fun i : Fin 64 =>
      if i = 0 then g.w[i] else if i = d then BitVec.ofNat 64 code
      else if a.val ≤ i.val then ((res[i.val - a.val]?).map (BitVec.ofNat 64)).getD g.w[i] else g.w[i] := by
    apply Vector.ext
    intro i hi
    rw [wr_get _ _ _ hi, Vector.getElem_ofFn, results_get a res 0 g hi]
    simp only [Fin.ext_iff, Nat.add_zero, Fin.getElem_fin]
    by_cases zero : i = 0
    · subst zero; simp
    · by_cases status : i = d.val
      · subst status; simp [zero]
      · simp [status, zero]
  rw [regs]
  by_cases ok : code = 0
  · simp [ok]
  · simp [ok]

end Eng

/-! ## A call (R508) -/

namespace W

/-- The end of a call of engine n: what the service answers goes into the caller's registers, a failure into the page's ERR. -/
def answered (n d a : Nat) (r : SvcOut) : W :=
  let u := if r.code = 0 then r.w else match r.page with | some p => r.w.err p r.code | none => r.w
  let g := if r.code = 0 then (u.eng n).results a r.res.zipIdx else u.eng n
  (u.setEng n ((g.wr d r.code).setFlag 7 (r.code != 0))).next n

theorem eng_setEng_scan (w : W) (n : Fin 4) (g : Eng) : (w.setEng n g).scan.eng = w.scan.eng.set n g := vector_set _ _ _ n.isLt

/-- What a service answers is all that the engines keep of it. -/
theorem answered_eng (n : Fin 4) (d a : Fin 64) (r : SvcOut) : (answered n d a r).scan.eng =
    r.w.scan.eng.set n (afterCall r.w.scan.eng[n] d a r.code (if r.code = 0 then r.res else [])) := by
  have caller (u : W) : u.eng n = u.scan.eng[n] := vector_getD _ _ _ n.isLt
  have shown (u : W) (res : List Nat) (same : u.scan.eng = r.w.scan.eng) :
      ((u.setEng n ((((u.eng n).results a res.zipIdx).wr d r.code).setFlag 7 (r.code != 0))).next n).scan.eng =
        r.w.scan.eng.set n (afterCall r.w.scan.eng[n] d a r.code res) := by
    unfold next
    rw [jump_eng, setEng_setEng, eng_setEng, eng_setEng_scan, Eng.call_pc, Eng.call_eq, caller, same]
  unfold answered
  dsimp only
  by_cases ok : r.code = 0
  · rw [if_pos ok, if_pos ok, if_pos ok]
    exact shown _ _ rfl
  · rw [if_neg ok, if_neg ok, if_neg ok]
    refine shown _ [] ?_
    split
    · rw [err_scan]
    · rfl

/-! ## What the services do to the engines: nothing (R508) -/

theorem subAt_eng (w : W) (sub : Nat) : (w.subAt sub).scan.eng = w.scan.eng := by
  unfold subAt; split <;> rfl

theorem retWake_eng (w : W) (d : Nat) : (w.retWake d).scan.eng = w.scan.eng := by
  unfold retWake
  dsimp only
  split
  · rfl
  · split
    · rw [(((SameBlocks.abortEntry _).trans (SameBlocks.setPstate _ _)).trans (SameBlocks.startPllSys _)).scan]
      rfl
    · rfl

theorem accessWake_eng (w : W) (off : Nat) : (w.accessWake off).scan.eng = w.scan.eng := by
  unfold accessWake
  split
  · split
    · rfl
    · exact retWake_eng _ _
  · rfl

theorem freeRead_eng (w : W) (off : Nat) : (w.freeRead off).scan.eng = w.scan.eng := by
  unfold freeRead; split <;> rfl

theorem pairRead_eng (w : W) (ma : Master) (off : Nat) (word : W → Nat → Word) : (w.pairRead ma off word).1.scan.eng = w.scan.eng := by
  unfold pairRead
  split
  · rfl
  · split <;> rfl

theorem engRead_eng (w : W) (ma : Master) (off : Nat) : (w.engRead ma off).w.scan.eng = w.scan.eng := by
  unfold engRead
  dsimp only
  repeat' split
  · rfl
  · rfl
  · rw [err_scan]
  · rw [err_scan]
  · rw [pairRead_eng, freeRead_eng, accessWake_eng]

theorem slvAccept_eng (d origin tag : Nat) (w : W) : (w.slvAccept d origin tag).scan.eng = w.scan.eng := by
  unfold slvAccept
  dsimp only
  split
  · rw [put_scan]
  · rfl

theorem sramLost_eng (w : W) (a : Nat) : (w.sramLost a).scan.eng = w.scan.eng := by
  unfold sramLost
  dsimp only
  split
  · rw [(KeepsTasks.refl _).health.scan]
  · rfl

theorem freshBytes_eng : ∀ (n : Nat) (w : W), (freshBytes n w).1.scan.eng = w.scan.eng
  | 0, _ => rfl
  | n + 1, w => freshBytes_eng n (w.fresh 8).1

theorem bar2Corrected_eng (w : W) (off : Nat) : (w.bar2Corrected off).scan.eng = w.scan.eng := by
  unfold bar2Corrected
  dsimp only
  repeat' split
  all_goals rfl

theorem sramEcc_eng (off n : Nat) (e : Ecc) (r : W × List Byte) : (sramEcc off n e r).1.scan.eng = r.1.scan.eng := by
  unfold sramEcc
  split
  · rfl
  · exact bar2Corrected_eng _ _
  · split
    · rfl
    · split
      · unfold slvLostWord
        rw [(SameBlocks.raise _ _).scan, incSat_scan, wrN_scan, err_scan]
      · rw [freshBytes_eng, sramLost_eng]

theorem spWrite_eng (w : W) (n sp off : Nat) (d : List Byte) : (w.spWrite n sp off d).scan.eng = w.scan.eng := by
  unfold spWrite
  dsimp only
  split
  · show (w.putBytes (w.spBase n sp + off) d).scan.eng = _
    rw [putBytes_scan]
  · rw [putBytes_scan]

theorem canSend_eng (w : W) (n : Nat) (idw : Word) (data : List Byte) (claim : Bool) :
    (w.canSend n idw data claim).1.scan.eng = w.scan.eng := by
  unfold canSend
  dsimp only
  split
  · split <;> rfl
  · rfl

theorem canRecv_eng (w : W) (n m : Nat) : (w.canRecv n m).1.scan.eng = w.scan.eng := by
  unfold canRecv rxRelease rxPut
  dsimp only
  split
  · split
    · rfl
    · split
      · rw [(SameBlocks.raise _ _).scan]; rfl
      · rw [((KeepsTasks.refl _).raiseIf _ _).scan]; rfl
  · rfl

theorem holdOp_eng (w : W) (op : HeldOp) : (w.holdOp op).scan.eng = w.scan.eng := by
  unfold holdOp
  dsimp only
  split
  · rw [err_scan]
  · rfl

theorem axAccept_eng (w : W) (n : Nat) (cs : List AxCmd) : (w.axAccept n cs).scan.eng = w.scan.eng := by
  have kept : KeepsTasks w (w.axAccept n cs) := by
    unfold axAccept
    refine KeepsTasks.modAx ?_ _ _
    split
    · exact KeepsTasks.ite ((KeepsTasks.refl w).axEndAll n _) (KeepsTasks.refl w)
    · exact KeepsTasks.refl w
  rw [kept.scan]

theorem axSubmit_eng (w : W) (n : Nat) (w0 a0 a1 a2 : Word) : (w.axSubmit n w0 a0 a1 a2).1.scan.eng = w.scan.eng := by
  unfold axSubmit
  dsimp only
  split
  · exact axAccept_eng _ _ _
  · rw [err_scan]

theorem freeze_eng (cause : Nat) (w : W) : (w.freeze cause).scan.eng = w.scan.eng := by
  unfold freeze
  dsimp only
  split
  · rfl
  · split <;> rfl

theorem recTrig_eng (w : W) (t origin : Nat) : (w.recTrig t origin).1.scan.eng = w.scan.eng := by
  unfold recTrig
  dsimp only
  split
  · rw [((KeepsTasks.refl _).raiseIf _ _).scan, (SameBlocks.recClaim _ _).scan]
  · rfl

theorem safRequest_eng (w : W) (t f : Nat) (on : Bool) : (w.safRequest t f on).1.scan.eng = w.scan.eng := by
  unfold safRequest
  dsimp only
  split <;> rfl

/-! ## The 21 services -/

theorem svcReg_eng (n : Fin 4) (w : W) (x : Nat → Nat) : (svcReg n w x).w.scan.eng = w.scan.eng := by
  unfold svcReg
  extract_lets off p known offs block code lo hi
  split
  · rfl
  · split
    · exact engRead_eng _ _ _
    · exact (engRead_eng _ _ _).trans (engRead_eng _ _ _)

theorem svcSubmit_eng (w : W) (x : Nat → Nat) : (svcSubmit w x).w.scan.eng = w.scan.eng := by
  unfold svcSubmit
  dsimp only
  split
  · rfl
  · exact slvAccept_eng _ _ _ _

theorem svcStatus_eng (e : Ecc) (m : Memory) (w : W) (x : Nat → Nat) : (svcStatus e m w x).w.scan.eng = w.scan.eng := by
  unfold svcStatus
  dsimp only
  split
  · rfl
  · exact (sramEcc_eng _ _ _ _).trans (retWake_eng _ _)

theorem svcSlvRead_eng (n : Nat) (e : Ecc) (m : Memory) (w : W) (x : Nat → Nat) : (svcSlvRead n e m w x).w.scan.eng = w.scan.eng := by
  unfold svcSlvRead
  dsimp only
  split
  · rfl
  · exact (spWrite_eng _ _ _ _ _).trans ((sramEcc_eng _ _ _ _).trans (retWake_eng _ _))

theorem svcSlvWrite_eng (n : Nat) (m : Memory) (w : W) (x : Nat → Nat) : (svcSlvWrite n m w x).w.scan.eng = w.scan.eng := by
  unfold svcSlvWrite
  dsimp only
  split
  · rfl
  · rw [putBytes_scan, retWake_eng]

theorem svcCanSend_eng (n : Nat) (m : Memory) (w : W) (x : Nat → Nat) : (svcCanSend n m w x).w.scan.eng = w.scan.eng := by
  unfold svcCanSend
  dsimp only
  split
  · rfl
  · split
    · exact canSend_eng _ _ _ _ _
    · rfl

theorem svcCanRecv_eng (n : Nat) (w : W) (x : Nat → Nat) : (svcCanRecv n w x).w.scan.eng = w.scan.eng := by
  unfold svcCanRecv
  dsimp only
  split
  · rfl
  · have received := canRecv_eng w (x 0) (x 1)
    split
    · rename_i got
      rw [got] at received
      exact (spWrite_eng _ _ _ _ _).trans received
    · rename_i got
      rw [got] at received
      exact received

theorem svcCanStat_eng (w : W) (x : Nat → Nat) : (svcCanStat w x).w.scan.eng = w.scan.eng := by
  unfold svcCanStat
  dsimp only
  split <;> rfl

theorem svcAxCmd_eng (e : Fin 4) (w : W) (x : Nat → Nat) : (svcAxCmd e w x).w.scan.eng = w.scan.eng := by
  unfold svcAxCmd
  dsimp only
  split
  · rfl
  · split
    · exact holdOp_eng _ _
    · exact axSubmit_eng _ _ _ _ _ _

theorem svcAxStat_eng (w : W) (x : Nat → Nat) : (svcAxStat w x).w.scan.eng = w.scan.eng := by
  unfold svcAxStat
  dsimp only
  split <;> rfl

theorem svcQtyRead_eng (w : W) (x : Nat → Nat) : (svcQtyRead w x).w.scan.eng = w.scan.eng := by
  unfold svcQtyRead
  dsimp only
  split <;> rfl

theorem svcQtyFreeze_eng (w : W) (x : Nat → Nat) : (svcQtyFreeze w x).w.scan.eng = w.scan.eng := by
  unfold svcQtyFreeze
  split
  · rfl
  · exact freeze_eng _ _

theorem svcFlowIn_eng (w : W) (x : Nat → Nat) : (svcFlowIn w x).w.scan.eng = w.scan.eng := by
  unfold svcFlowIn
  dsimp only
  split <;> rfl

theorem svcSafReq_eng (n : Nat) (w : W) (x : Nat → Nat) : (svcSafReq n w x).w.scan.eng = w.scan.eng := by
  unfold svcSafReq
  dsimp only
  split
  · rfl
  · exact safRequest_eng _ _ _ _

theorem svcSafStat_eng (w : W) (x : Nat → Nat) : (svcSafStat w x).w.scan.eng = w.scan.eng := by
  unfold svcSafStat
  dsimp only
  split <;> rfl

theorem svcKeySubmit_eng (n : Nat) (m : Memory) (w : W) (x : Nat → Nat) : (svcKeySubmit n m w x).w.scan.eng = w.scan.eng := by
  unfold svcKeySubmit
  extract_lets j starts c
  split
  · rfl
  · exact congrArg ScanSt.eng (keySync_blocks _).scan

theorem svcKeyPoll_eng (n : Nat) (w : W) (x : Nat → Nat) : (svcKeyPoll n w x).w.scan.eng = w.scan.eng := by
  unfold svcKeyPoll
  dsimp only
  split
  · rfl
  · split
    · rfl
    · split
      · rfl
      · exact (congrArg ScanSt.eng (keySync_blocks _).scan).trans (spWrite_eng _ _ _ _ _)

theorem svcKeyRandom_eng (w : W) (x : Nat → Nat) : (svcKeyRandom w x).w.scan.eng = w.scan.eng := by
  unfold svcKeyRandom
  dsimp only
  split <;> rfl

end W

/-! ## Every service answers -/

/-- The call of engine e has completed with `u`: the status and the results stand in its registers. -/
def Answers (s : State) (e : Fin 4) (d a : Fin 64) (u : W) (code : Nat) (res : List Nat) : Prop :=
  u.scan.eng = s.scan.eng.set e (afterCall s.scan.eng[e] d a code res)

/-- What the read of a service's data may meet that does not let it go on (R459, R473). -/
def StopsRead (s : State) (e : Fin 4) (ev : MemEv) : Prop := ev = .ue ∨ ev = .mismatch ∧ (begin_ s).pairActive e = true

theorem calling_eng (s : State) (e : Fin 4) : (calling s e).scan.eng = s.scan.eng := by rw [calling_eq]; rfl

theorem calling_pairActive (s : State) (e : Fin 4) : (calling s e).pairActive e = (begin_ s).pairActive e := by rw [calling_eq]; rfl

theorem answers_answered {s : State} {e : Fin 4} {d a : Fin 64} {r : SvcOut} (keeps : r.w.scan.eng = s.scan.eng) :
    Answers s e d a (W.answered e d a r) r.code (if r.code = 0 then r.res else []) := by
  unfold Answers
  rw [W.answered_eng]
  simp only [keeps]

namespace W

/-- A read that no error meets goes on (R283, R473). -/
theorem sysRead_goes {w : W} {n : Nat} {ev : MemEv} {ref : Nat} {f : W → W} (ue : ev ≠ .ue) (same : ¬ (ev = .mismatch ∧ w.pairActive n = true)) :
    ∃ v : W, v.scan = w.scan ∧ w.sysRead n ev ref f = f v := by
  have agree : w.lsMismatch n ev = false := by
    unfold lsMismatch
    simpa using same
  unfold sysRead
  rw [agree]
  cases ev with
  | ue => exact absurd rfl ue
  | ce => exact ⟨w.sramCorrected 1, rfl, rfl⟩
  | ok => exact ⟨w, rfl, rfl⟩
  | mismatch => exact ⟨w, rfl, rfl⟩

/-- One that an uncorrectable word or a difference of the engines meets puts the task into FAULT. -/
theorem sysRead_stops {w : W} {n : Fin 4} {ev : MemEv} {ref : Nat} {f : W → W} (stops : ev = .ue ∨ ev = .mismatch ∧ w.pairActive n = true) :
    (w.sysRead n ev ref f).tstate n = 3 := by
  unfold sysRead lsMismatch
  rcases stops with rfl | ⟨rfl, pair⟩
  · exact taskHalt_tstate _ n 5 (by decide)
  · rw [pair]
    exact lsFault_tstate w n

end W

section
variable {c : Instr} {s : State} {e : Fin 4} {d a : Fin 64} {svc : Nat} {f : Memory → W → (Nat → Nat) → SvcOut} {ev : MemEv} {ref : Nat}
  (runs : exec c s = run (fun m w => w.sys e svc d a (f m) ev ref) s) (keeps : ∀ m w x, (f m w x).w.scan.eng = w.scan.eng)
include runs

theorem sys_idle (other : (begin_ s).fetch e ≠ some (encI 0x2D d a svc)) : Completes c s (begin_ s) :=
  completes_of_run runs (if_neg other)

theorem sys_differs (fetched : (begin_ s).fetch e = some (encI 0x2D d a svc)) (differs : Differs s e) :
    Completes c s ((calling s e).lsFault e) :=
  completes_of_run runs ((if_pos fetched).trans (compared_differs differs _))

/-- The call that is compared and does not differ: its read, then its answer. -/
theorem sys_called (fetched : (begin_ s).fetch e = some (encI 0x2D d a svc)) (same : ¬ Differs s e) :
    ∃ x : Nat → Nat, Completes c s ((calling s e).sysRead e (if (f s.mem (calling s e) x).code = 0 then ev else .ok) (x ref)
      fun v => W.answered e d a (f s.mem v x)) :=
  ⟨fun i => ((calling s e).eng e).rd (a + i), completes_of_run runs ((if_pos fetched).trans (compared_same same _))⟩

include keeps

theorem sys_answers (fetched : (begin_ s).fetch e = some (encI 0x2D d a svc)) (same : ¬ Differs s e) (goes : ¬ StopsRead s e ev) :
    ∃ u code res, Completes c s u ∧ (code ≠ 0 → res = []) ∧ Answers s e d a u code res := by
  obtain ⟨x, completes⟩ := sys_called runs fetched same
  generalize hev : (if (f s.mem (calling s e) x).code = 0 then ev else .ok) = met at completes
  have passes : met = ev ∨ met = .ok := by
    rw [← hev]; split
    · exact .inl rfl
    · exact .inr rfl
  have ue : met ≠ .ue := by
    rintro rfl
    rcases passes with h | h
    · exact goes (.inl h.symm)
    · cases h
  have agree : ¬ (met = .mismatch ∧ (calling s e).pairActive e = true) := by
    rintro ⟨rfl, pair⟩
    rcases passes with h | h
    · exact goes (.inr ⟨h.symm, by rw [← calling_pairActive]; exact pair⟩)
    · cases h
  obtain ⟨v, scan, answer⟩ := W.sysRead_goes (ref := x ref) (f := fun v => W.answered e d a (f s.mem v x)) ue agree
  rw [answer] at completes
  refine ⟨_, _, _, completes, fun refused => ?_, answers_answered ((keeps _ _ _).trans (by rw [scan, calling_eng]))⟩
  rw [if_neg refused]

theorem sys_stops (fetched : (begin_ s).fetch e = some (encI 0x2D d a svc)) (same : ¬ Differs s e) (stops : StopsRead s e ev) :
    ∃ u, Completes c s u ∧ ((∃ code, code ≠ 0 ∧ Answers s e d a u code []) ∨ u.rdF (R.TASK_STATE e) 0 2 = 3) := by
  obtain ⟨x, completes⟩ := sys_called runs fetched same
  refine ⟨_, completes, ?_⟩
  by_cases accepted : (f s.mem (calling s e) x).code = 0
  · rw [if_pos accepted]
    refine .inr (W.sysRead_stops ?_)
    rw [calling_pairActive]
    exact stops
  · rw [if_neg accepted]
    have answers := answers_answered (e := e) (d := d) (a := a) ((keeps s.mem (calling s e) x).trans (calling_eng s e))
    rw [if_neg accepted] at answers
    exact .inl ⟨_, accepted, answers⟩

end

section
variable {s : State} {e : Fin 4} {d a : Fin 64} {svc : Nat} {f : Memory → W → (Nat → Nat) → SvcOut} {ev : MemEv} {ref : Nat}

/-- What O56 says of one command and its service, where the read of its data can (`reads`) or cannot meet anything. -/
def AnswersOrStops (s : State) (e : Fin 4) (d a : Fin 64) (c : Instr × Nat) (reads stops : Prop) : Prop :=
  ((begin_ s).fetch e ≠ some (encI 0x2D d a c.2) → Completes c.1 s (begin_ s)) ∧
  (Executes s e (encI 0x2D d a c.2) → Differs s e → Completes c.1 s ((calling s e).lsFault e)) ∧
  (Executes s e (encI 0x2D d a c.2) → ¬ Differs s e → (reads → ¬ stops) →
    ∃ u code res, Completes c.1 s u ∧ (code ≠ 0 → res = []) ∧ Answers s e d a u code res) ∧
  (Executes s e (encI 0x2D d a c.2) → ¬ Differs s e → reads → stops →
    ∃ u, Completes c.1 s u ∧ ((∃ code, code ≠ 0 ∧ Answers s e d a u code []) ∨ u.rdF (R.TASK_STATE e) 0 2 = 3))

/-- A service that reads data through a reference. -/
theorem answersOrStops_reading {c : Instr} (runs : exec c s = run (fun m w => w.sys e svc d a (f m) ev ref) s)
    (keeps : ∀ m w x, (f m w x).w.scan.eng = w.scan.eng) {reads : Prop} (reading : reads) :
    AnswersOrStops s e d a (c, svc) reads (StopsRead s e ev) :=
  ⟨sys_idle runs, fun x => sys_differs runs x.word, fun x same goes => sys_answers runs keeps x.word same (goes reading),
    fun x same _ => sys_stops runs keeps x.word same⟩

/-- One that reads none. -/
theorem answersOrStops_plain {c : Instr} (runs : exec c s = run (fun m w => w.sys e svc d a (f m)) s)
    (keeps : ∀ m w x, (f m w x).w.scan.eng = w.scan.eng) {reads stops : Prop} (plain : ¬ reads) :
    AnswersOrStops s e d a (c, svc) reads stops :=
  ⟨sys_idle runs, fun x => sys_differs runs x.word,
    fun x same _ => sys_answers runs keeps x.word same (fun h => h.elim nofun fun h => nomatch h.1),
    fun _ _ reading => absurd reading plain⟩

end

/-- Settles O56: each service leaves the engines to its call, which writes the answer into the caller's registers; only the comparison
of the engines and the read of data through a reference come in between. -/
theorem everyServiceAnswers : Obligations.EveryServiceAnswers := by
  unfold Obligations.EveryServiceAnswers
  intro s e d a sub x ev w reading stops answers c mem
  show AnswersOrStops s e d a c (c ∈ reading) (StopsRead s e ev)
  rcases List.mem_append.1 mem with reads | plain
  · simp only [reading, List.mem_cons, List.not_mem_nil, or_false] at reads
    rcases reads with rfl | rfl | rfl
    · exact answersOrStops_reading (f := W.svcSlvWrite e) rfl (W.svcSlvWrite_eng e) (by simp [reading])
    · exact answersOrStops_reading (f := W.svcCanSend e) rfl (W.svcCanSend_eng e) (by simp [reading])
    · exact answersOrStops_reading (f := W.svcKeySubmit e) rfl (W.svcKeySubmit_eng e) (by simp [reading])
  · simp only [List.mem_cons, List.not_mem_nil, or_false] at plain
    rcases plain with rfl | rfl | rfl | rfl | rfl | rfl | rfl | rfl | rfl | rfl | rfl | rfl | rfl | rfl | rfl | rfl | rfl | rfl
    · exact answersOrStops_plain (f := fun _ => W.svcTsc) rfl (fun _ _ _ => rfl) (by simp [reading])
    · exact answersOrStops_plain (f := fun _ => W.svcRtc sub) rfl (fun _ w _ => W.subAt_eng w sub) (by simp [reading])
    · exact answersOrStops_plain (f := fun _ => W.svcReg e) rfl (fun _ => W.svcReg_eng e) (by simp [reading])
    · exact answersOrStops_plain (f := fun _ => W.svcSubmit) rfl (fun _ => W.svcSubmit_eng) (by simp [reading])
    · exact answersOrStops_plain (f := W.svcStatus x) rfl (W.svcStatus_eng x) (by simp [reading])
    · exact answersOrStops_plain (f := W.svcSlvRead e x) rfl (W.svcSlvRead_eng e x) (by simp [reading])
    · exact answersOrStops_plain (f := fun _ => W.svcCanRecv e) rfl (fun _ => W.svcCanRecv_eng e) (by simp [reading])
    · exact answersOrStops_plain (f := fun _ => W.svcCanStat) rfl (fun _ => W.svcCanStat_eng) (by simp [reading])
    · exact answersOrStops_plain (f := fun _ => W.svcAxCmd e) rfl (fun _ => W.svcAxCmd_eng e) (by simp [reading])
    · exact answersOrStops_plain (f := fun _ => W.svcAxStat) rfl (fun _ => W.svcAxStat_eng) (by simp [reading])
    · exact answersOrStops_plain (f := fun _ => W.svcQtyRead) rfl (fun _ => W.svcQtyRead_eng) (by simp [reading])
    · exact answersOrStops_plain (f := fun _ => W.svcQtyFreeze) rfl (fun _ => W.svcQtyFreeze_eng) (by simp [reading])
    · exact answersOrStops_plain (f := fun _ => W.svcFlowIn) rfl (fun _ => W.svcFlowIn_eng) (by simp [reading])
    · exact answersOrStops_plain (f := fun _ => W.svcRecTrig) rfl (fun _ w x => W.recTrig_eng w (x 0) 1) (by simp [reading])
    · exact answersOrStops_plain (f := fun _ => W.svcSafReq e) rfl (fun _ => W.svcSafReq_eng e) (by simp [reading])
    · exact answersOrStops_plain (f := fun _ => W.svcSafStat) rfl (fun _ => W.svcSafStat_eng) (by simp [reading])
    · exact answersOrStops_plain (f := fun _ => W.svcKeyPoll e) rfl (fun _ => W.svcKeyPoll_eng e) (by simp [reading])
    · exact answersOrStops_plain (f := fun _ => W.svcKeyRandom) rfl (fun _ => W.svcKeyRandom_eng) (by simp [reading])

end Sys2Proof.Machine
end

section
/-!
PROOF. The phases of a task's cycle (R426, R427, R430, R436 to R441, R696): the bytes that a record holds after copies and stores, the
input latch, the start of the logic, the vote without copies, the end of the cycle.
-/
namespace Sys2Proof.Machine

namespace W

/-! ## The bytes that a record holds -/

theorem byte_after {s : State} (wf : Memory.wf s.mem) (u : W) (a : Nat) : memGet (commit s u).mem a = u.byte s.mem a :=
  (byteIn_applyWrites s.mem wf a u.wq).symm

theorem byte_putBytes (w : W) (m : Memory) (a : Nat) (d : List Byte) (b : Nat) :
    (w.putBytes a d).byte m b = if a ≤ b ∧ b < a + d.length then d.getD (b - a) 0 else w.byte m b := by
  unfold putBytes
  split
  · rename_i none
    subst none
    rw [if_neg (by simp only [List.length_nil]; omega)]
  · rfl

theorem bytes_length (w : W) (m : Memory) (a n : Nat) : (w.bytes m a n).length = n := by
  unfold bytes
  rw [List.length_map, List.length_range]

theorem bytes_congr {w u : W} {m : Memory} {a b n : Nat} (same : ∀ i < n, u.byte m (a + i) = w.byte m (b + i)) : u.bytes m a n = w.bytes m b n :=
  List.map_congr_left fun i mem => same i (List.mem_range.1 mem)

theorem bytes_getD (w : W) (m : Memory) (a : Nat) {n i : Nat} (h : i < n) : (w.bytes m a n).getD i 0 = w.byte m (a + i) := by
  unfold bytes
  simp [h]

theorem copy_toDev (w : W) (m : Memory) (src dst n : Nat) : (w.copy m src dst n).toDev = w.toDev := putBytes_toDev _ _ _

theorem byte_copy (w : W) (m : Memory) (src dst n b : Nat) :
    (w.copy m src dst n).byte m b = if dst ≤ b ∧ b < dst + n then w.byte m (src + (b - dst)) else w.byte m b := by
  unfold copy
  rw [byte_putBytes, bytes_length]
  split
  · rw [bytes_getD _ _ _ (by omega)]
  · rfl

theorem spBase_dev {w u : W} (dev : u.toDev = w.toDev) (n sp : Nat) : u.spBase n sp = w.spBase n sp := by
  unfold spBase rdN rd
  rw [dev]

theorem spSize_dev {w u : W} (dev : u.toDev = w.toDev) (n sp : Nat) : u.spSize n sp = w.spSize n sp := by
  unfold spSize rdN rd
  rw [dev]

theorem retUp_dev {w u : W} (dev : u.toDev = w.toDev) (n : Nat) : u.retUp n = w.retUp n := by
  unfold retUp
  rw [spSize_dev dev]

theorem retC_dev {w u : W} (dev : u.toDev = w.toDev) (n : Nat) : u.retC n = w.retC n := by
  unfold retC
  rw [spBase_dev dev, retUp_dev dev]

/-- Lines copied to a place behind them all. -/
theorem byte_lines {m : Memory} {src dst : Nat} : ∀ {ls : List Nat} (w : W), (∀ l ∈ ls, src + 64 * l + 64 ≤ dst) → ∀ b,
    ((ls.foldl (fun w l => w.copy m (src + 64 * l) (dst + 64 * l) 64) w).byte m b =
      if ∃ l ∈ ls, dst + 64 * l ≤ b ∧ b < dst + 64 * l + 64 then w.byte m (src + (b - dst)) else w.byte m b)
  | [], w, _, b => by simp
  | l :: ls, w, before, b => by
    have here := before l (by simp)
    rw [List.foldl_cons, byte_lines _ (fun k hk => before k (by simp [hk]))]
    by_cases tail : ∃ k ∈ ls, dst + 64 * k ≤ b ∧ b < dst + 64 * k + 64
    · obtain ⟨k, mem, lo, hi⟩ := tail
      have below := before k (by simp [mem])
      rw [if_pos ⟨k, mem, lo, hi⟩, if_pos ⟨k, by simp [mem], lo, hi⟩, byte_copy, if_neg (by omega)]
    · rw [if_neg tail, byte_copy]
      by_cases own : dst + 64 * l ≤ b ∧ b < dst + 64 * l + 64
      · rw [if_pos own, if_pos ⟨l, by simp, own⟩, show src + 64 * l + (b - (dst + 64 * l)) = src + (b - dst) by omega]
      · rw [if_neg own, if_neg]
        rintro ⟨k, mem, inside⟩
        rcases List.mem_cons.1 mem with rfl | mem
        · exact own inside
        · exact tail ⟨k, mem, inside⟩

/-- The lines of RET that a cycle has written are copied to the committed copy (R430, R441). -/
theorem retLines_eq (m : Memory) (n : Nat) : ∀ (ls : List Nat) (w : W),
    ls.foldl (fun w l => w.copy m (w.spBase n 2 + 64 * l) (w.retC n + 64 * l) 64) w =
      ls.foldl (fun v l => v.copy m (w.spBase n 2 + 64 * l) (w.retC n + 64 * l) 64) w
  | [], _ => rfl
  | l :: ls, w => by
    have dev := copy_toDev w m (w.spBase n 2 + 64 * l) (w.retC n + 64 * l) 64
    rw [List.foldl_cons, retLines_eq m n ls, List.foldl_cons, spBase_dev dev, retC_dev dev]

theorem lines_toDev (m : Memory) (src dst : Nat) : ∀ (ls : List Nat) (w : W),
    (ls.foldl (fun w l => w.copy m (src + 64 * l) (dst + 64 * l) 64) w).toDev = w.toDev
  | [], _ => rfl
  | _ :: ls, w => (lines_toDev m src dst ls _).trans (copy_toDev w _ _ _ _)

/-! ## SYSV (R437, R438) -/

theorem sysv_toDev (w : W) (n : Nat) : (w.sysv n).toDev = w.toDev := by
  unfold sysv
  extract_lets t b up pstamp seq keep word head w1 w2 w3
  have third : w3.toDev = w2.toDev := by
    simp only [w3]
    split
    · rfl
    · rw [putBytes_toDev, put, putBytes_toDev]
  rw [putBytes_toDev, third, putBytes_toDev, putBytes_toDev, putBytes_toDev]

theorem flatMap_length {f : Nat → List Byte} {k : Nat} (len : ∀ i, (f i).length = k) (n : Nat) : ((List.range n).flatMap f).length = n * k := by
  rw [List.length_flatMap]
  simp [len]

theorem byte_putBytes_apart {w : W} {m : Memory} {a b : Nat} {d : List Byte} {len : Nat} (length : d.length = len)
    (apart : b < a ∨ a + len ≤ b) : (w.putBytes a d).byte m b = w.byte m b := by
  rw [byte_putBytes, if_neg (by omega)]

/-- SYSV begins with the grid instant, and nothing beyond its 2048 bytes is written (R437). -/
theorem byte_sysv (w : W) (m : Memory) (n b : Nat) :
    (¬ (w.spBase n 4 ≤ b ∧ b < w.spBase n 4 + 2048) → (w.sysv n).byte m b = w.byte m b) ∧
    (∀ i < 8, b = w.spBase n 4 + i → (w.sysv n).byte m b = (toLe 8 (w.tk n).grid).getD i 0) := by
  unfold sysv
  extract_lets t a up pstamp seq keep word head w1 w2 w3
  have words (c : Bool) (v : Nat) : (word c v).length = 4 := toLe_length _ _
  have heads : head.length = 44 := by simp [head, toLe_length]
  have values : (((List.range 16).flatMap fun i => word up (w1.rdN (R.AFE_RTm_T i)))
    ++ ((List.range 16).flatMap fun i => toLe 1 (if up then w1.rdN (R.AFE_RTm_STAT i) else 0))
    ++ ((List.range 4).flatMap fun i => word up (w1.rdN (R.MTR_FREQ i))) ++ List.replicate 96 (0 : Byte)).length = 192 := by
    rw [List.length_append, List.length_append, List.length_append, flatMap_length (fun _ => words _ _), flatMap_length (fun _ => toLe_length _ _),
      flatMap_length (fun _ => words _ _), List.length_replicate]
  have fines : ((List.range 168).flatMap fun s => word up (w2.rdN (R.QTY_Qs_FINE s)) ++ word up (w2.rdN (R.QTY_Qs_FINE_HI s))).length = 1344 :=
    flatMap_length (k := 8) (fun _ => by rw [List.length_append, words, words]) 168
  have behind (far : ¬ (a ≤ b ∧ b < a + 2048) ∨ b < a + 44) : (w3.putBytes (a + 0x640) (List.replicate 448 0)).byte m b = (w.putBytes a head).byte m b := by
    have first : w1.byte m b = (w.putBytes a head).byte m b := byte_putBytes_apart List.length_replicate (by omega)
    have second : w2.byte m b = w1.byte m b := byte_putBytes_apart values (by omega)
    have third : w3.byte m b = w2.byte m b := by
      simp only [w3]
      split
      · rfl
      · rw [byte_putBytes_apart fines (by omega), put, byte_putBytes_apart (toLe_length _ _) (by omega)]
    rw [byte_putBytes_apart List.length_replicate (by omega), third, second, first]
  constructor
  · intro outside
    rw [behind (.inl outside), byte_putBytes_apart heads (by omega)]
  · rintro i below rfl
    rw [behind (.inr (by omega)), byte_putBytes, if_pos (by omega), Nat.add_sub_cancel_left]
    simp only [head, List.append_assoc]
    rw [List.getD_append _ _ _ _ (by rw [toLe_length]; exact below)]

/-! ## The input latch (R426, R427, R436, R439) -/

theorem cwApply_none {w : W} {n : Nat} (none : w.tw.cw.getD n none = none) : w.cwApply n = w := by
  unfold cwApply
  rw [none]

theorem stnLatch_none {w : W} (none : w.scan.upd = []) (m : Memory) (n : Nat) : w.stnLatch m n = w := by
  have same : ({ w with scan.upd := [] } : W) = w := by rw [← none]
  unfold stnLatch
  rw [none]
  exact same

theorem foldr_id {α : Type} {f : α → W → W} {w : W} : ∀ {l : List α}, (∀ x ∈ l, f x w = w) → l.foldr f w = w
  | [], _ => rfl
  | x :: l, h => by rw [List.foldr_cons, foldr_id fun y hy => h y (by simp [hy]), h x (by simp)]

theorem frcEn_none {w : W} (none : w.frcSet = []) {e : Nat} (mem : e ∈ List.range 64) : bit (w.frcAddr e) 31 = false := by
  unfold frcSet those at none
  simpa [frcEn] using List.filter_eq_nil_iff.1 none e mem

theorem frcApply_none {w : W} (none : w.frcSet = []) (m : Memory) (n sp : Nat) : w.frcApply m n sp = w := by
  unfold frcApply
  refine foldr_id fun e mem => ?_
  dsimp only
  rw [frcEn_none none mem, if_neg fun h => nomatch h.1]

theorem stations_none {w : W} {n : Nat} (none : ∀ x ∈ w.scan.stn, x.task ≠ n) : (w.scan.stn.filter fun s => s.en && s.task == n) = [] := by
  rw [List.filter_eq_nil_iff]
  intro x mem
  simp [none x mem]

/-- The grid instant of task n, at which its phase 1 begins (R426). -/
def atGrid (w : W) (n : Nat) : W := { w with tsc := if w.tsc.toNat < (w.tk n).grid then BitVec.ofNat 64 (w.tk n).grid else w.tsc }

/-- SYSV, the event bits and the pins in IMG_IN. -/
def latched (w : W) (n : Nat) : W :=
  let w := (w.sysv n).modTk n fun t => { t with cstamp := t.grid, first := 0, dirty := [] }
  let w := w.putBytes (w.spBase n 0) (toLe 32 (w.evt.seLatch.getD n 0).toNat)
  let w := { w with evt.seLatch := w.evt.seLatch.setIfInBounds n 0 }
  w.putBytes (w.spBase n 0 + 0x20) (toLe 4 w.gpioIn.toNat ++ List.replicate 28 0)

/-- The rest of phase 1: stations, cross-links and forces, over IMG_IN at `ib`. -/
def latchRest (w : W) (m : Memory) (n ib : Nat) : W :=
  let w := w.stnLatch m n
  let w := (w.scan.stn.filter fun s => s.en && s.task == n).foldl (fun w s => w.stnInput n s) w
  let w := (w.xlinks n).foldl (fun w l => w.copy m (w.outC l.1 + l.2.1) (ib + l.2.2.1) l.2.2.2) w
  w.frcApply m n 0

theorem inputLatch_eq (w : W) (m : Memory) (n : Nat) : ∃ ib, w.inputLatch m n = (((w.atGrid n).cwApply n).latched n).latchRest m n ib :=
  ⟨_, rfl⟩

section
variable {w : W} {n : Nat}

theorem latchRest_none {m : Memory} {ib : Nat} (upd : w.scan.upd = []) (stations : ∀ x ∈ w.scan.stn, x.task ≠ n)
    (links : w.xlinks n = []) (forces : w.frcSet = []) : w.latchRest m n ib = w := by
  unfold latchRest
  rw [stnLatch_none upd]
  dsimp only
  rw [stations_none stations, List.foldl_nil, links, List.foldl_nil, frcApply_none forces]

/-- What phase 1 changes besides memory. -/
def inputsTaken (w : W) (n : Nat) : W :=
  ({ w.atGrid n with evt.seLatch := w.evt.seLatch.setIfInBounds n 0 } : W).modTk n fun t => { t with cstamp := t.grid, first := 0, dirty := [] }

theorem latched_toDev : ((w.atGrid n).latched n).toDev = (w.inputsTaken n).toDev := by
  unfold latched inputsTaken modTk setTk tk
  simp only [putBytes_toDev, sysv_toDev]
  rfl

theorem inputLatch_plain (m : Memory) (copy : w.tw.cw.getD n none = none) (upd : w.scan.upd = []) (stations : ∀ x ∈ w.scan.stn, x.task ≠ n)
    (links : w.xlinks n = []) (forces : w.frcSet = []) : w.inputLatch m n = (w.atGrid n).latched n := by
  obtain ⟨ib, phases⟩ := inputLatch_eq w m n
  have dev := latched_toDev (w := w) (n := n)
  have regs : ((w.atGrid n).latched n).regs = w.regs := by rw [dev]; rfl
  have rd : ((w.atGrid n).latched n).rd = w.rd := by
    funext a
    unfold W.rd
    rw [regs]
  rw [phases, cwApply_none (w := w.atGrid n) copy, latchRest_none]
  · rw [dev]; exact upd
  · rw [dev]; exact stations
  · unfold xlinks at links ⊢
    rw [rd]; exact links
  · unfold frcSet frcEn frcAddr at forces ⊢
    rw [rd]; exact forces

/-- The first 64 bytes of IMG_IN after phase 1: the event bits, the pins (R427, R436). -/
def latchBytes (w : W) (n : Nat) : List Byte := toLe 32 (w.evt.seLatch.getD n 0).toNat ++ toLe 4 w.gpioIn.toNat ++ List.replicate 28 0

theorem gpioIn_congr {u : W} (regs : u.regs = w.regs) (pins : u.scan.gpioIn = w.scan.gpioIn) : u.gpioIn = w.gpioIn := by
  unfold gpioIn gpioBit gpioOn gpioMode gpioCfg rdB rd
  rw [regs, pins]

theorem byte_latched (m : Memory) (b : Nat) : (w.latched n).byte m b =
    if w.spBase n 0 ≤ b ∧ b < w.spBase n 0 + 64 then (w.latchBytes n).getD (b - w.spBase n 0) 0 else (w.sysv n).byte m b := by
  have base {u : W} (regs : u.regs = w.regs) : u.spBase n 0 = w.spBase n 0 := by
    unfold spBase rdN rd
    rw [regs]
  unfold latched latchBytes
  extract_lets v1 v2 events v3
  have regs1 : v1.regs = w.regs := by simp only [v1, modTk, setTk]; rw [sysv_toDev]
  have events1 : v1.evt.seLatch = w.evt.seLatch := by simp only [v1, modTk, setTk]; rw [sysv_toDev]
  have pins1 : v1.scan.gpioIn = w.scan.gpioIn := by simp only [v1, modTk, setTk]; rw [sysv_toDev]
  have regs3 : v3.regs = w.regs := by simp only [v3, v2]; rw [putBytes_toDev, regs1]
  have pins3 : v3.scan.gpioIn = w.scan.gpioIn := by simp only [v3, v2]; rw [putBytes_toDev, pins1]
  have first : v3.byte m b = (v1.putBytes (v1.spBase n 0) (toLe 32 (v1.evt.seLatch.getD n 0).toNat)).byte m b := rfl
  rw [byte_putBytes, first, byte_putBytes, base regs3, base regs1, events1, gpioIn_congr regs3 pins3, List.append_assoc, List.length_append,
    List.length_replicate, toLe_length, toLe_length]
  generalize w.spBase n 0 = ib
  by_cases pins : ib + 0x20 ≤ b ∧ b < ib + 0x20 + (4 + 28)
  · have place : b - ib - 32 = b - (ib + 32) := by omega
    rw [if_pos pins, if_pos (by omega), List.getD_append_right (toLe 32 _) _ _ _ (by rw [toLe_length]; omega), toLe_length, place]
  · rw [if_neg pins]
    by_cases events : ib ≤ b ∧ b < ib + 32
    · rw [if_pos events, if_pos (by omega), List.getD_append _ _ _ _ (by rw [toLe_length]; omega)]
    · rw [if_neg events, if_neg (by omega)]
      rfl

/-! ## The start of the logic (R479) -/

theorem logicStart_dev {u : W} (dev : u.toDev = w.toDev) : (u.logicStart n).toDev = (w.logicStart n).toDev := by
  unfold logicStart modTk setTk tk
  simp only [dev]

theorem byte_logicStart (m : Memory) (b : Nat) : (w.logicStart n).byte m b = w.byte m b := rfl

/-! ## A vote without copies (R696) -/

theorem voteWords_none : ∀ xs : List Word, voteWords xs none none = (xs, 0)
  | [] => rfl
  | _ :: _ => rfl

theorem toLe_leNat (a b c d : Byte) : toLe 4 (BitVec.ofNat 32 (leNat [a, b, c, d])).toNat = [a, b, c, d] := by
  have ha := a.isLt
  have hb := b.isLt
  have hc := c.isLt
  have hd := d.isLt
  simp only [leNat, toLe, BitVec.toNat_ofNat, List.cons.injEq, and_true]
  refine ⟨?_, ?_, ?_, ?_⟩ <;> apply BitVec.eq_of_toNat_eq <;> rw [BitVec.toNat_ofNat] <;> omega

/-- Words of bytes, and back: a part of the last word is dropped. -/
theorem ofWords_toWords : ∀ l : List Byte, ofWords (toWords l) <+: l
  | a :: b :: c :: d :: t => by
    have rest := ofWords_toWords t
    unfold ofWords at rest ⊢
    rw [toWords, List.flatMap_cons, toLe_leNat]
    exact (List.prefix_append_right_inj [a, b, c, d]).2 rest
  | [] => List.nil_prefix
  | [_] => List.nil_prefix
  | [_, _] => List.nil_prefix
  | [_, _, _] => List.nil_prefix

/-- Bytes stored where they were read. -/
theorem byte_putBytes_own {m : Memory} {a len : Nat} {d : List Byte} (own : d <+: w.bytes m a len) (b : Nat) :
    (w.putBytes a d).byte m b = w.byte m b := by
  rw [byte_putBytes]
  split
  · rename_i inside
    have short := own.length_le
    rw [bytes_length] at short
    have same : d.getD (b - a) 0 = (w.bytes m a len).getD (b - a) 0 := by
      obtain ⟨t, whole⟩ := own
      rw [← whole, List.getD_append _ _ _ _ (by omega)]
    rw [same, bytes_getD _ _ _ (by omega)]
    congr 1
    omega
  · rfl

theorem vote_none_eq (w : W) (m : Memory) (a len : Nat) : w.vote m a len none none =
    (((w.wrN R.RED_VOTE_DIS (w.rdN R.RED_VOTE_DIS)).wrB R.RED_TRIAD_STAT 2 true).putBytes a (ofWords (toWords (w.bytes m a len)))) := by
  have total : satAdd 32 (w.rdN R.RED_VOTE_DIS) 0 = w.rdN R.RED_VOTE_DIS := if_pos (w.rd R.RED_VOTE_DIS).isLt
  unfold vote
  simp only [Option.map_none, voteWords_none, total]
  rfl

/-- The vote with neither copy keeps the words and marks itself as degraded. -/
theorem vote_none (m : Memory) (a len : Nat) : (w.vote m a len none none).scan = w.scan ∧
    (w.vote m a len none none).rdB R.RED_TRIAD_STAT 2 = true ∧
    (∀ b, b ≠ R.RED_TRIAD_STAT → (w.vote m a len none none).rd b = w.rd b) ∧
    SameWatch w (w.vote m a len none none) ∧ ∀ b, (w.vote m a len none none).byte m b = w.byte m b := by
  rw [vote_none_eq]
  have rd (u : W) (d : List Byte) (b : Nat) : (u.putBytes a d).rd b = u.rd b := by
    unfold W.rd
    rw [putBytes_toDev]
  refine ⟨putBytes_scan _ _ _, ?_, fun b other => ?_, ?_, fun b => ?_⟩
  · unfold rdB
    rw [rd]
    exact rdB_wrB_same _ _ _ _ (by decide)
  · rw [rd, rd_wrB, if_neg other, rd_wrN]
    split
    · rename_i here
      rw [here]
      exact BitVec.ofNat_toNat _ _ |>.trans (BitVec.setWidth_eq _)
    · rfl
  · exact (((SameWatch.refl w).wrN (by decide)).wrB (by decide)).trans (SameWatch.of_dev (putBytes_toDev _ _ _))
  · exact byte_putBytes_own (w := (w.wrN R.RED_VOTE_DIS (w.rdN R.RED_VOTE_DIS)).wrB R.RED_TRIAD_STAT 2 true) (ofWords_toWords _) b

end

/-! ## The end of the cycle (R426, R430, R431, R440, R441, R476) -/

section
variable {w : W} {m : Memory} {n : Nat}

/-- A whole number of µs is not rounded (R476). -/
theorem toUs_whole {tag counts : Nat} (whole : counts % 100 = 0) : toUs tag counts = counts / 100 := by
  unfold toUs rounded
  rw [if_pos (by omega)]
  omega

/-- The commit of phase 3: IMG_OUT and the lines of RET that the cycle has written, into their committed copies. -/
def committed (w : W) (m : Memory) (n : Nat) : W :=
  (w.tk n).dirty.foldl (fun v l => v.copy m (w.spBase n 2 + 64 * l) (w.retC n + 64 * l) 64)
    (w.copy m (w.spBase n 1) (w.outC n) (w.spSize n 1))

theorem committed_toDev : (w.committed m n).toDev = w.toDev := (lines_toDev m _ _ _ _).trans (copy_toDev w _ _ _ _)

/-- What the end of a cycle that ends in time leaves in the task's page and record; `exec` and `idle` are its µs. -/
def cycleBooked (w : W) (n exec idle next : Nat) (pins : Word) : W :=
  let w := { w with scan.gpio := w.scan.gpio.setIfInBounds n (some pins) }
  let w := (w.wrN (R.TASK_LAST_EXEC n) exec).wrN (R.TASK_MAX_EXEC n) (max exec (w.rdN (R.TASK_MAX_EXEC n)))
  let w := w.wrN (R.TASK_MIN_IDLE n) (min idle (w.rdN (R.TASK_MIN_IDLE n)))
  let w := w.wr64 (R.TASK_CYCLES n) (w.rd64 (R.TASK_CYCLES n) + 1)
  w.modTk n fun t => { t with phase := 0, grid := next, cyc := t.cyc + 1, ovr := false, skipped := 0, ovrRun := 0, vote := Vector.replicate 2 none }

/-- Whether a task sends copies is a matter of the redundancy page (R682). -/
theorem copies_congr {u : W} (regs : ∀ a, a / 0x1000 = 0x3F → u.rd a = w.rd a) (tw : u.tw = w.tw) : u.copies n = w.copies n := by
  unfold copies paired hasClaim redMode rdB rdF
  rw [regs _ (by decide), regs _ (by decide), regs _ (by decide), regs _ (by decide), tw]

theorem tk_modTk (w : W) {n : Nat} (below : n < 4) (f : TaskSt → TaskSt) : (w.modTk n f).tk n = f (w.tk n) := by
  unfold modTk setTk tk
  simp [vector_getD _ _ _ below, vector_set _ _ _ below]

theorem tk_modTk_other (w : W) {n j : Nat} (other : j ≠ n) (f : TaskSt → TaskSt) : (w.modTk n f).tk j = w.tk j := by
  unfold modTk setTk tk
  simp [Vector.getD, Ne.symm other]

theorem cycleEnd_plain (below : n < 4) {d3 d4 : Nat} {current : Bool} (stations : ∀ x ∈ w.scan.stn, x.task ≠ n) (alone : w.copies n = false)
    (goesOn : (w.tk n).stopReq = false) (stays : (w.tk n).switchDue = false)
    (late : w.tsc.toNat + d3 ≤ (w.tk n).grid + 100 * w.rdN (R.TASK_PERIOD n)) :
    ∃ idle, w.cycleEnd m n d3 d4 current = (w.committed m n).cycleBooked n (toUs 476 (w.tsc.toNat + d3 - (w.tk n).grid)) idle
      ((w.tk n).grid + 100 * w.rdN (R.TASK_PERIOD n)) (BitVec.ofNat 32 ((w.committed m n).get m (w.spBase n 1) 4)) := by
  have dev : (w.committed m n).toDev = w.toDev := committed_toDev
  unfold cycleEnd
  extract_lets p t end3 w1 w2 w3 src w4 overrun k next exec w5 late6 w6 w7 end4 idle w8 w9 run w10 lim
  have lines : w2 = w.committed m n := by
    have dev1 : w1.toDev = w.toDev := copy_toDev ..
    simp only [w2]
    rw [retLines_eq, spBase_dev dev1, retC_dev dev1]
    rfl
  have heard : w3 = w2 := by
    simp only [w3]
    rw [stations_none, List.foldl_nil]
    rw [lines, dev]
    exact stations
  have same : w4.rd = w.rd ∧ w4.tw = w.tw ∧ w4.tk n = w.tk n := by
    refine ⟨?_, ?_, ?_⟩
    · funext a
      unfold rd
      simp only [w4]
      rw [heard, lines, dev]
    · simp only [w4]
      rw [heard, lines, dev]
    · unfold tk
      simp only [w4, src]
      rw [heard, lines, dev]
  obtain ⟨regs, tw, record⟩ := same
  have inTime : overrun = false := decide_eq_false (Nat.not_lt.2 late)
  have one : k = 1 := if_pos (.inl late)
  have here : w6 = w5 := if_neg (by rw [inTime]; decide)
  have silent : w7 = w6 := by
    have quiet : w6.copies n = false := by
      rw [here, ← alone]
      refine copies_congr (fun a page => ?_) tw
      have last : a ≠ R.TASK_LAST_EXEC n := by simp only [R.TASK_LAST_EXEC]; omega
      have most : a ≠ R.TASK_MAX_EXEC n := by simp only [R.TASK_MAX_EXEC]; omega
      simp only [w5]
      rw [rd_wrN, if_neg most, rd_wrN, if_neg last, regs]
    simp only [w7, copyPhase, quiet]
    rfl
  have none : run = 0 := if_neg (by rw [inTime]; decide)
  refine ⟨idle, ?_⟩
  have waits : w10.switchWaits n = false := by
    have due : (w10.tk n).switchDue = (w9.tk n).switchDue := by
      simp only [w10]
      rw [tk_modTk _ below]
    have kept : (w9.tk n).switchDue = (w.tk n).switchDue := by
      simp only [w9, w8]
      rw [silent, here]
      exact congrArg TaskSt.switchDue record
    unfold switchWaits
    rw [due, kept, stays]
    rfl
  rw [if_neg (show ¬ t.stopReq = true by rw [show t.stopReq = false from goesOn]; decide), if_neg (by omega), waits, if_neg (by decide)]
  have base : w3.spBase n 1 = w.spBase n 1 := spBase_dev (by rw [heard, lines, dev]) n 1
  simp only [w10, w9, w8]
  rw [silent, here]
  simp only [w5, w4, src, inTime, none, one, next, base]
  rw [heard, lines]
  simp only [cycleBooked, exec, end3, t, p]
  rw [show (1 - 1 = 0) from rfl, Nat.one_mul]

section
variable (before : ∀ l ∈ (w.tk n).dirty, 64 * l + 64 ≤ w.retUp n)
  (apart : w.spBase n 2 + 2 * w.retUp n ≤ w.spBase n 1 ∨ w.spBase n 1 + 2 * w.spSize n 1 ≤ w.spBase n 2)
include before

theorem byte_committed (b : Nat) : (w.committed m n).byte m b =
    if ∃ l ∈ (w.tk n).dirty, w.retC n + 64 * l ≤ b ∧ b < w.retC n + 64 * l + 64
    then (w.copy m (w.spBase n 1) (w.outC n) (w.spSize n 1)).byte m (w.spBase n 2 + (b - w.retC n))
    else (w.copy m (w.spBase n 1) (w.outC n) (w.spSize n 1)).byte m b :=
  byte_lines _ (fun l mem => by
    have inside := before l mem
    unfold retC
    omega) b

theorem byte_committed_other {b : Nat} (out : ¬ (w.outC n ≤ b ∧ b < w.outC n + w.spSize n 1))
    (ret : ∀ l ∈ (w.tk n).dirty, ¬ (w.retC n + 64 * l ≤ b ∧ b < w.retC n + 64 * l + 64)) :
    (w.committed m n).byte m b = w.byte m b := by
  rw [byte_committed before, if_neg fun ⟨l, mem, inside⟩ => ret l mem inside, byte_copy, if_neg out]

include apart

theorem byte_committed_out {i : Nat} (h : i < w.spSize n 1) : (w.committed m n).byte m (w.outC n + i) = w.byte m (w.spBase n 1 + i) := by
  rw [byte_committed before, if_neg, byte_copy, if_pos (by omega), Nat.add_sub_cancel_left]
  rintro ⟨l, mem, inside⟩
  have within := before l mem
  unfold outC retC at inside
  omega

/-- IMG_OUT itself stays, from which the pins take their levels (R440). -/
theorem get_committed_out {k : Nat} (h : k ≤ w.spSize n 1) : (w.committed m n).get m (w.spBase n 1) k = w.get m (w.spBase n 1) k := by
  unfold get
  rw [bytes_congr (w := w) (b := w.spBase n 1) fun i below => byte_committed_other before ?_ ?_]
  · unfold outC
    omega
  · intro l mem inside
    have within := before l mem
    unfold retC at inside
    omega

theorem byte_committed_ret {l i : Nat} (mem : l ∈ (w.tk n).dirty) (h : i < 64) :
    (w.committed m n).byte m (w.retC n + 64 * l + i) = w.byte m (w.spBase n 2 + 64 * l + i) := by
  have within := before l mem
  rw [byte_committed before, if_pos ⟨l, mem, by omega, by omega⟩, byte_copy, if_neg]
  · congr 1
    omega
  · unfold outC retC
    omega

end

section
variable {exec idle next : Nat} {pins : Word}

theorem cycleBooked_rd {a : Nat}
    (other : a ∉ [R.TASK_LAST_EXEC n, R.TASK_MAX_EXEC n, R.TASK_MIN_IDLE n, R.TASK_CYCLES n, R.TASK_CYCLES n + 4]) :
    (w.cycleBooked n exec idle next pins).rd a = w.rd a := by
  simp only [List.mem_cons, List.not_mem_nil, or_false, not_or] at other
  obtain ⟨last, most, least, low, high⟩ := other
  unfold cycleBooked
  extract_lets src w1 w2 w3 w4
  show w4.rd a = _
  simp only [w4, w3, w2, wr64]
  rw [rd_wrN, if_neg high, rd_wrN, if_neg low, rd_wrN, if_neg least, rd_wrN, if_neg most, rd_wrN, if_neg last]
  rfl

theorem cycleBooked_last : (w.cycleBooked n exec idle next pins).rd (R.TASK_LAST_EXEC n) = BitVec.ofNat 32 exec := by
  unfold cycleBooked
  extract_lets src w1 w2 w3 w4
  show w4.rd _ = _
  simp only [w4, w3, w2, wr64, R.TASK_LAST_EXEC, R.TASK_MAX_EXEC, R.TASK_MIN_IDLE, R.TASK_CYCLES]
  rw [rd_wrN, if_neg (by omega), rd_wrN, if_neg (by omega), rd_wrN, if_neg (by omega), rd_wrN, if_neg (by omega), rd_wrN, if_pos rfl]

theorem rd64_wr64_mod (w : W) (a v : Nat) : (w.wr64 a v).rd64 a = v % 2 ^ 64 := by
  unfold rd64 wr64 rdN
  rw [rd_wrN, if_neg (by omega), rd_wrN, if_pos rfl, rd_wrN, if_pos rfl, BitVec.toNat_ofNat, BitVec.toNat_ofNat]
  omega

theorem cycleBooked_cycles : (w.cycleBooked n exec idle next pins).rd64 (R.TASK_CYCLES n) = (w.rd64 (R.TASK_CYCLES n) + 1) % 2 ^ 64 := by
  unfold cycleBooked
  extract_lets src w1 w2 w3 w4
  have before : w3.rd64 (R.TASK_CYCLES n) = w.rd64 (R.TASK_CYCLES n) := by
    unfold rd64 rdN
    simp only [w3, w2, R.TASK_LAST_EXEC, R.TASK_MAX_EXEC, R.TASK_MIN_IDLE, R.TASK_CYCLES]
    rw [rd_wrN, if_neg (by omega), rd_wrN, if_neg (by omega), rd_wrN, if_neg (by omega), rd_wrN, if_neg (by omega), rd_wrN, if_neg (by omega),
      rd_wrN, if_neg (by omega)]
    rfl
  show w4.rd64 _ = _
  simp only [w4]
  rw [rd64_wr64_mod, before]

theorem cycleBooked_pins : (w.cycleBooked n exec idle next pins).scan.gpio = w.scan.gpio.setIfInBounds n (some pins) := rfl

theorem byte_cycleBooked (m : Memory) (b : Nat) : (w.cycleBooked n exec idle next pins).byte m b = w.byte m b := rfl

/-- The task's record after its cycle. -/
theorem cycleBooked_tk (below : n < 4) : (w.cycleBooked n exec idle next pins).tk n =
    { w.tk n with phase := 0, grid := next, cyc := (w.tk n).cyc + 1, ovr := false, skipped := 0, ovrRun := 0, vote := Vector.replicate 2 none } :=
  tk_modTk _ below _

theorem cycleBooked_tk_other {j : Nat} (other : j ≠ n) : (w.cycleBooked n exec idle next pins).tk j = w.tk j := tk_modTk_other _ other _

theorem cycleBooked_watch (below : n < 4) : SameWatch w (w.cycleBooked n exec idle next pins) := by
  refine ⟨fun a seen => cycleBooked_rd fun mem => ?_, rfl, rfl, rfl, rfl, rfl, rfl, rfl, rfl, rfl, rfl, rfl, rfl, rfl, rfl, rfl⟩
  have unseen : ∀ n < 4, ∀ a ∈ [R.TASK_LAST_EXEC n, R.TASK_MAX_EXEC n, R.TASK_MIN_IDLE n, R.TASK_CYCLES n, R.TASK_CYCLES n + 4],
      watched a = false := by decide
  rw [unseen n below a mem] at seen
  cases seen

end

end

end W

end Sys2Proof.Machine
end

section
/-!
PROOF. The phases of a task's cycle as commands (R426, R430, R436, R437, R440, R441, R476, R479, R696).
-/
namespace Sys2Proof.Machine

/-! ## The phases of a cycle -/

section
variable {s : State} {n : Fin 4}

/-- The logic of task n has begun: a fresh engine at the entry of the code, the other tasks as they were (R479). -/
def LogicBegins (s : State) (n : Fin 4) (u : W) : Prop :=
  u.scan.eng = s.scan.eng.set n { pc := (s.scan.task[n].ent.map (·.entry)).getD 0 } ∧ (u.tk n).phase = 2 ∧
    (u.tk n).ent = s.scan.task[n].ent ∧ (u.tk n).grid = s.scan.task[n].grid ∧ ∀ j, j ≠ n.val → u.tk j = (begin_ s).tk j

theorem logicBegins {v : W} (eng : v.scan.eng = s.scan.eng) (ent : (v.tk n).ent = s.scan.task[n].ent)
    (grid : (v.tk n).grid = s.scan.task[n].grid) (others : ∀ j, j ≠ n.val → v.tk j = (begin_ s).tk j) : LogicBegins s n (v.logicStart n) := by
  have tasks (j : Nat) : (v.logicStart n).tk j = (v.modTk n fun t => { t with phase := 2, vote := Vector.replicate 2 none }).tk j := rfl
  have own := (tasks n).trans (W.tk_modTk v n.isLt _)
  have other (j : Nat) (h : j ≠ n.val) : (v.logicStart n).tk j = v.tk j := (tasks j).trans (W.tk_modTk_other v h _)
  refine ⟨?_, by rw [own], by rw [own, ← ent], by rw [own, ← grid], fun j h => (other j h).trans (others j h)⟩
  show v.scan.eng.setIfInBounds n _ = _
  rw [vector_set _ _ _ n.isLt, eng, ent]

theorem cycleLatch_effect {m : Memory} {c1 c2 : Option (List Byte)} {w : W} {n : Nat} (up : w.dom 4 = 1) (runs : w.tstate n = 2)
    (phase : (w.tk n).phase = 0) (solo : w.triad = false) (plain : w.inputLatch m n = (w.atGrid n).latched n) :
    w.cycleLatch n c1 c2 m = ((w.atGrid n).latched n).logicStart n := by
  have mode : ((w.atGrid n).latched n).triad = false := by
    rw [← solo]
    unfold W.triad W.rdF W.rd
    rw [W.latched_toDev]
    rfl
  unfold W.cycleLatch
  rw [if_neg (by omega), plain]
  dsimp only
  rw [mode]
  rfl

theorem cycleLatch_runs (s : State) (n : Fin 4) (c1 c2 : Option (List Byte)) :
    exec (.cycleLatch n c1 c2 [] []) s = run (fun m w => w.cycleLatch n c1 c2 m) s := rfl

theorem inputsTaken_watch (w : W) (n : Nat) : SameWatch w ((w.inputsTaken n).logicStart n) :=
  (SameWatch.refl w).of_eq rfl rfl rfl rfl rfl rfl rfl rfl rfl rfl rfl

/-- CYCLE_LATCH of a task with nothing but its own image (R426, R427, R436, R437). -/
theorem cycleLatch_begins (rest : Steady (begin_ s)) (wf : Memory.wf s.mem) {c1 c2 : Option (List Byte)}
    (effect : (begin_ s).cycleLatch n c1 c2 s.mem = (((begin_ s).atGrid n).latched n).logicStart n) :
    ∃ u, Yields (.cycleLatch n c1 c2 [] []) s u ∧ LogicBegins s n u ∧ (∀ a, u.rd a = (begin_ s).rd a) ∧
      u.tsc = (if s.tsc.toNat < s.scan.task[n].grid then BitVec.ofNat 64 s.scan.task[n].grid else s.tsc) ∧
      u.evt.seLatch = s.evt.seLatch.set n 0 ∧ ∀ b, memGet (commit s u).mem b = (((begin_ s).atGrid n).latched n).byte s.mem b := by
  have task : (begin_ s).tk n = s.scan.task[n] := tk_getD s n
  have dev : ((((begin_ s).atGrid n).latched n).logicStart n).toDev = (((begin_ s).inputsTaken n).logicStart n).toDev :=
    W.logicStart_dev W.latched_toDev
  have same : SameWatch (((begin_ s).inputsTaken n).logicStart n) ((((begin_ s).atGrid n).latched n).logicStart n) := SameWatch.of_dev dev
  have taken : LogicBegins s n (((begin_ s).inputsTaken n).logicStart n) := by
    have own : ((begin_ s).inputsTaken n).tk n = { s.scan.task[n] with cstamp := s.scan.task[n].grid, first := 0, dirty := [] } := by
      rw [← task]
      exact W.tk_modTk _ n.isLt _
    exact logicBegins rfl (by rw [own]) (by rw [own]) fun j other => W.tk_modTk_other _ other _
  have yields := (cycleLatch_runs s n c1 c2).trans (run_steady rest effect ((inputsTaken_watch _ _).trans same))
  refine ⟨_, yields, ?_, fun a => ?_, ?_, ?_, fun b => (W.byte_after wf _ b).trans (W.byte_logicStart s.mem b)⟩
  · unfold LogicBegins W.tk at taken ⊢
    rw [dev]
    exact taken
  · unfold W.rd
    rw [dev]
    rfl
  · rw [dev, ← task]
    rfl
  · rw [dev]
    exact vector_set _ _ _ n.isLt

/-- The bytes after phase 1: the first 64 of IMG_IN, the grid instant in SYSV, and no others outside SYSV. -/
theorem latched_image (w : W) (m : Memory) {i : Nat} (h : i < 64) : ((w.atGrid n).latched n).byte m (w.spBase n 0 + i) = (w.latchBytes n).getD i 0 := by
  have base : (w.atGrid n).spBase n 0 = w.spBase n 0 := rfl
  rw [W.byte_latched, base, if_pos (by omega), Nat.add_sub_cancel_left]
  rfl

theorem latched_other (w : W) (m : Memory) {b : Nat} (image : ¬ (w.spBase n 0 ≤ b ∧ b < w.spBase n 0 + 64))
    (sysv : ¬ (w.spBase n 4 ≤ b ∧ b < w.spBase n 4 + 2048)) : ((w.atGrid n).latched n).byte m b = w.byte m b := by
  have base : (w.atGrid n).spBase n 0 = w.spBase n 0 := rfl
  rw [W.byte_latched, base, if_neg image]
  exact (W.byte_sysv (w.atGrid n) m n b).1 sysv

theorem latched_grid (w : W) (m : Memory) (apart : w.spBase n 0 + 64 ≤ w.spBase n 4 ∨ w.spBase n 4 + 8 ≤ w.spBase n 0) {i : Nat} (h : i < 8) :
    ((w.atGrid n).latched n).byte m (w.spBase n 4 + i) = (toLe 8 (w.tk n).grid).getD i 0 := by
  have base : (w.atGrid n).spBase n 0 = w.spBase n 0 := rfl
  rw [W.byte_latched, base, if_neg (by omega)]
  exact (W.byte_sysv (w.atGrid n) m n _).2 i h rfl

/-- TRIAD_WAIT with neither copy: the words stay, the logic begins (R696). -/
theorem triadWait_begins (rest : Steady (begin_ s)) (wf : Memory.wf s.mem) (up : (begin_ s).dom 4 = 1) (runs : (begin_ s).tstate n = 2)
    (phase : s.scan.task[n].phase = 1) (alone : s.scan.task[n].vote = #v[none, none]) :
    ∃ u, Yields (.triadWaitExpiry n) s u ∧ LogicBegins s n u ∧ u.rdB R.RED_TRIAD_STAT 2 = true ∧
      (∀ a, a ≠ R.RED_TRIAD_STAT → u.rd a = (begin_ s).rd a) ∧ ∀ a, memGet (commit s u).mem a = memGet s.mem a := by
  have task : (begin_ s).tk n = s.scan.task[n] := tk_getD s n
  obtain ⟨scan, degraded, regs, watch, bytes⟩ := W.vote_none (w := begin_ s) s.mem ((begin_ s).spBase n 0 + 0x40) ((begin_ s).spSize n 0 - 0x40)
  generalize voted : (begin_ s).vote s.mem ((begin_ s).spBase n 0 + 0x40) ((begin_ s).spSize n 0 - 0x40) none none = v at *
  have effect : (begin_ s).triadWait n s.mem = v.logicStart n := by
    unfold W.triadWait W.voteIn
    rw [task]
    dsimp only
    rw [alone, if_neg (by omega), if_pos phase]
    exact congrArg (W.logicStart · n) voted
  refine ⟨_, run_steady (f := fun m w => w.triadWait n m) rest effect (watch.of_eq rfl rfl rfl rfl rfl rfl rfl rfl rfl rfl rfl),
    logicBegins ?_ ?_ ?_ ?_, degraded, regs, fun a => (W.byte_after wf _ a).trans (bytes a)⟩
  · rw [scan]; rfl
  · unfold W.tk at task ⊢
    rw [scan, task]
  · unfold W.tk at task ⊢
    rw [scan, task]
  · intro j _
    unfold W.tk
    rw [scan]

/-- A CEND in time of a task that is neither to stop nor to switch (R426, R430, R440, R441, R476). -/
theorem cend_commits (rest : Steady (begin_ s)) {d3 d4 : Nat} {current : Bool} {c1 c2 : Option (List Byte)}
    (stations : ∀ x ∈ s.scan.stn, x.task ≠ n) (forces : (begin_ s).frcSet = []) (fetched : (begin_ s).fetch n = some (encA 0x01 0 0 0 0))
    (solo : (begin_ s).triad = false) (alone : (begin_ s).copies n = false) (goesOn : s.scan.task[n].stopReq = false)
    (stays : s.scan.task[n].switchDue = false) (late : s.tsc.toNat + d3 ≤ s.scan.task[n].grid + 100 * (begin_ s).rdN (R.TASK_PERIOD n)) :
    ∃ idle, Yields (.bzCend n d3 d4 current c1 c2) s (((begin_ s).committed s.mem n).cycleBooked n
      (W.toUs 476 (s.tsc.toNat + d3 - s.scan.task[n].grid)) idle (s.scan.task[n].grid + 100 * (begin_ s).rdN (R.TASK_PERIOD n))
      (BitVec.ofNat 32 (((begin_ s).committed s.mem n).get s.mem ((begin_ s).spBase n 1) 4))) := by
  have task : (begin_ s).tk n = s.scan.task[n] := tk_getD s n
  rw [← task] at goesOn stays late ⊢
  obtain ⟨idle, ends⟩ := W.cycleEnd_plain (m := s.mem) n.isLt (d3 := d3) (d4 := d4) (current := current) stations alone goesOn stays late
  have effect : (begin_ s).cend n d3 d4 current c1 c2 s.mem = (begin_ s).cycleEnd s.mem n d3 d4 current := by
    unfold W.cend W.bz
    rw [if_pos fetched]
    show (begin_ s).logicEnd s.mem n d3 d4 current c1 c2 = _
    unfold W.logicEnd
    rw [W.frcApply_none forces]
    dsimp only
    rw [solo]
    rfl
  exact ⟨idle, run_steady (f := fun m w => w.cend n d3 d4 current c1 c2 m) rest (effect.trans ends)
    ((SameWatch.of_dev W.committed_toDev).trans (W.cycleBooked_watch n.isLt))⟩

/-- Settles O25: phase 1 writes SYSV and the first 64 bytes of IMG_IN, the vote without copies keeps the words, and the end of the cycle
copies IMG_OUT and the written lines to places apart from what they are read from. -/
theorem cyclesOfATask : Obligations.CyclesOfATask := by
  unfold Obligations.CyclesOfATask
  intro s n d3 d4 current c1 c2 w k after ib ob size rb sv p end3 logic rest wf up runs stations forces
  have task : w.tk n = k := tk_getD s n
  refine ⟨fun phase solo upd links copy => ?_, triadWait_begins rest wf up runs, ?_⟩
  · have copy' : w.tw.cw.getD n none = none := (vector_getD _ _ _ n.isLt).trans copy
    obtain ⟨u, yields, begins, regs, tsc, latch, bytes⟩ := cycleLatch_begins (c1 := c1) (c2 := c2) rest wf
      (cycleLatch_effect up runs (by rw [task]; exact phase) solo (W.inputLatch_plain s.mem copy' upd stations links forces))
    refine ⟨u, yields, begins, regs, tsc, latch, fun i below => ?_, fun a image sysv => ?_, fun apart i below => ?_⟩
    · refine (bytes _).trans ((latched_image w s.mem below).trans ?_)
      unfold W.latchBytes
      rw [show w.evt.seLatch.getD n 0 = s.evt.seLatch[n] from vector_getD _ _ _ n.isLt]
    · exact (bytes a).trans (latched_other w s.mem image sysv)
    · rw [← task]
      exact (bytes _).trans (latched_grid w s.mem apart below)
  · intro fetched solo alone goesOn stays early late big apart before
    obtain ⟨idle, yields⟩ := cend_commits (c1 := c1) (c2 := c2) (d4 := d4) (current := current) rest stations forces fetched solo alone
      goesOn stays late
    have dev : (w.committed s.mem n).toDev = w.toDev := W.committed_toDev
    rw [← task] at before
    refine ⟨_, yields, congrArg (·.scan.eng) dev, ?_, ?_, ?_, fun j other => ?_, ?_, ?_, fun whole => ?_, fun a other => ?_, fun i below => ?_,
      fun l mem i below => ?_, fun a out ret => ?_⟩
    · rw [W.cycleBooked_tk n.isLt]
    · rw [W.cycleBooked_tk n.isLt]
    · rw [W.cycleBooked_tk n.isLt, ← task]
      unfold W.tk
      rw [dev]
    · rw [W.cycleBooked_tk_other other]
      unfold W.tk
      rw [dev]
    · rw [W.cycleBooked_pins, vector_set _ _ _ n.isLt, W.get_committed_out before apart big, dev]
      rfl
    · rw [W.cycleBooked_cycles]
      unfold W.rd64 W.rdN W.rd
      rw [dev]
    · rw [W.cycleBooked_last]
      exact congrArg _ (W.toUs_whole whole)
    · rw [W.cycleBooked_rd other]
      unfold W.rd
      rw [dev]
    · exact ((W.byte_after wf _ _).trans (W.byte_cycleBooked _ _)).trans (W.byte_committed_out before apart below)
    · exact ((W.byte_after wf _ _).trans (W.byte_cycleBooked _ _)).trans (W.byte_committed_ret before apart (by rw [task]; exact mem) below)
    · refine ((W.byte_after wf _ _).trans (W.byte_cycleBooked _ _)).trans (W.byte_committed_other before (fun inside => out ?_) ?_)
      · unfold W.outC at inside
        simp only [ob, size]
        omega
      · rw [task]
        exact ret

end

end Sys2Proof.Machine
end

section
/-!
PROOF. The on-line change (R467 to R469) as commands of a device at rest: its request by the host, and the end of its load.
-/
namespace Sys2Proof.Machine

/-! ## A host write that its block judges -/

/-- A host write of one word that the page passes on: the block refuses it, or it counts in SEQ and acts. -/
theorem W.hostWord_block {w : W} {off : Nat} {v : Word} {x : Ext} {m : Memory} (ready : HostReady w off) (reg : hostReg off = true)
    (lock : ∀ d, regDef off = some d → d.acc = .rwl → w.unlocked (off / 0x1000) = true)
    (meets : (hostEnter w (off / 0x1000)).accessMeets m off v x = (hostEnter w (off / 0x1000), m)) :
    w.hostWord x m off v =
      (if (hostEnter w (off / 0x1000)).blockCheck m off v x ≠ 0
       then ((hostEnter w (off / 0x1000)).err (off / 0x1000) ((hostEnter w (off / 0x1000)).blockCheck m off v x)).blockRefused m off
         ((hostEnter w (off / 0x1000)).blockCheck m off v x) v
       else (w.entered off).blockWrite m off v x).spend (off / 0x1000) (off % 0x1000) := by
  unfold hostReg at reg
  simp only [Bool.and_eq_true, Bool.not_eq_true', decide_eq_true_eq] at reg
  obtain ⟨⟨⟨⟨⟨⟨⟨page, not5⟩, block⟩, notLow⟩, notHigh⟩, boot⟩, notDbg⟩, writable⟩ := reg
  have passes : (hostEnter w (off / 0x1000)).pageCode true off true = 0 :=
    W.pageCode_zero (by rw [W.start_pageUp]; exact ready.up) (by rw [W.start_inSrst]; exact ready.noSrst) notDbg
      fun _ d hd rwl => by rw [W.start_unlocked]; exact lock d hd rwl
  rw [W.hostWord_enter ready.link page (by omega) boot]
  congr 1
  split at writable
  · rename_i d hd
    have notRo : (d.acc == .ro) = false := by simpa using writable
    have notUpper : ¬ (4 ≤ off ∧ isPairW (off - 4) = true) := by simpa using notHigh
    unfold W.wordWrite
    simp only [page, passes, W.accessWake_other _ _ not5, hd, notRo, notLow, meets]
    rw [if_neg (by decide), if_neg (by omega), if_neg (fun h => absurd h.1 (by decide)), if_neg (by decide), if_neg (by decide),
      if_neg (by decide), if_neg notUpper]
  · cases writable

theorem accepted_entered {w : W} {off : Nat} (not5 : pageDomain (off / 0x1000) ≠ some 5) (eff : W → W) :
    accepted w off eff = (eff (w.entered off)).spend (off / 0x1000) (off % 0x1000) := by
  unfold accepted
  rw [W.accessWake_other _ _ not5]

theorem W.err_rd (w : W) (p c : Nat) {a : Nat} (h : 0x040 ≤ a % 0x1000) : (w.err p c).rd a = w.rd a := by
  unfold err
  split
  · rfl
  · exact rd_wr_ne _ _ _ _ (by unfold R.H_ERR; omega)

/-! ## The request (R467) -/

section
variable {s : State} {bank : Fin 2} {x : Ext}

/-- The word that requests a change to a bank. -/
theorem olcWord (bank : Fin 2) : bit (BitVec.ofNat 32 (2 ^ 31 + bank.val)) 31 = true ∧ fld (BitVec.ofNat 32 (2 ^ 31 + bank.val)) 0 1 = bank.val := by
  revert bank
  decide

/-- Reads of an image that meets no word known as uncorrectable find nothing (R156). -/
theorem W.olcMeets_clean {w : W} {m : Memory} {v : Word} (words : w.age.ueWords = []) (ces : x.start.mramCe = []) (ues : x.start.mramUe = []) :
    w.accessMeets m R.SCAN_OLC_CTRL v x = (w, m) := by
  unfold accessMeets
  rw [if_pos rfl, ces, ues]
  dsimp only [List.filter_nil]
  rw [mramMeets_nil words]
  split <;> rfl

theorem W.imgTouch_clean {w : W} (words : w.age.ueWords = []) (m : Memory) (bank : Nat) : w.imgTouch m bank = w := by
  unfold imgTouch mramTouch
  rw [words]
  rfl

theorem olc_code (w : W) (m : Memory) :
    w.blockCheck m R.SCAN_OLC_CTRL (BitVec.ofNat 32 (2 ^ 31 + bank.val)) x = w.olcCode m (BitVec.ofNat 32 (2 ^ 31 + bank.val)) := by
  rw [W.check_0a (by decide)]
  show w.scanCheck m 0x064 _ = _
  unfold W.scanCheck
  rw [if_neg (by decide), if_neg (by decide), if_neg (by decide), if_neg (by decide), if_pos rfl, if_pos (olcWord bank).1]

theorem olc_write (w : W) (m : Memory) :
    w.blockWrite m R.SCAN_OLC_CTRL (BitVec.ofNat 32 (2 ^ 31 + bank.val)) x = w.olcAccept m (BitVec.ofNat 32 (2 ^ 31 + bank.val)) := by
  rw [W.write_0a (by decide)]
  show (w.scanWrite m 0x064 _).getD _ = _
  unfold W.scanWrite
  rw [if_neg (by decide), if_pos rfl, if_pos (olcWord bank).1]
  rfl

/-- The tasks of a list become due to switch. -/
theorem W.switchDue_foldl : ∀ (l : List Nat) (w : W), l.foldl (fun w n => w.modTk n fun t => { t with switchDue := true }) w =
    { w with scan.task := Vector.ofFn fun j : Fin 4 => { w.tk j with switchDue := (w.tk j).switchDue || l.contains j.val } }
  | [], w => by
    have same : (Vector.ofFn fun j : Fin 4 => { w.tk j with switchDue := (w.tk j).switchDue || ([] : List Nat).contains j.val }) = w.scan.task := by
      apply Vector.ext
      intro j hj
      simp [W.tk, vector_getD _ _ _ hj]
    rw [same]
    rfl
  | n :: l, w => by
    rw [List.foldl_cons, switchDue_foldl l]
    have same : (Vector.ofFn fun j : Fin 4 => { (w.modTk n fun t => { t with switchDue := true }).tk j with
          switchDue := ((w.modTk n fun t => { t with switchDue := true }).tk j).switchDue || l.contains j.val }) =
        Vector.ofFn fun j : Fin 4 => { w.tk j with switchDue := (w.tk j).switchDue || (n :: l).contains j.val } := by
      congr 1
      funext j
      by_cases own : j.val = n
      · subst own
        rw [W.tk_modTk _ j.isLt]
        simp
      · rw [W.tk_modTk_other _ own]
        simp [own]
    rw [same]
    rfl

/-- What an accepted change does besides its registers. -/
theorem W.olcAccept_eq {w : W} {m : Memory} (words : w.age.ueWords = []) : w.olcAccept m (BitVec.ofNat 32 (2 ^ 31 + bank.val)) =
    (({ w with
        scan.next := some (w.imgRead m bank).2
        scan.task := Vector.ofFn fun j : Fin 4 => { w.tk j with switchDue := (w.tk j).switchDue || w.tstate j == 2 } } : W).wr R.SCAN_OLC_CTRL
      (BitVec.ofNat 32 (2 ^ 31 + bank.val))).wr R.SCAN_OLC_STAT (BitVec.ofNat 32 (4 + 8 * w.rdF R.SCAN_OLC_STAT 3 1)) := by
  unfold olcAccept
  rw [(olcWord bank).2]
  extract_lets source v1 v2
  have touched : v1 = { w with scan.next := some (w.imgRead m bank).2 } :=
    imgTouch_clean (w := { w with scan.next := some (w.imgRead m bank).2 }) words m bank
  have state (j : Nat) : v1.tstate j = w.tstate j := by rw [touched]; rfl
  have due (j : Fin 4) : (those 4 fun n => v1.tstate n == 2).contains j.val = (w.tstate j == 2) := by
    have below := j.isLt
    simp only [those, state, List.contains_eq_mem, List.mem_filter, List.mem_range, below, true_and, beq_iff_eq]
    rfl
  have marked : v2 = { w with
      scan.next := some (w.imgRead m bank).2
      scan.task := Vector.ofFn fun j : Fin 4 => { w.tk j with switchDue := (w.tk j).switchDue || w.tstate j == 2 } } := by
    simp only [v2]
    rw [switchDue_foldl]
    simp only [due]
    rw [touched]
    rfl
  rw [marked, Nat.add_comm bank.val]
  rfl

theorem SameWatch.olcChanged {w u : W} (h : SameWatch w u) (next : Option (List ImgEnt)) (task : Vector TaskSt 4) (a b : Word) :
    SameWatch w ((({ u with scan.next := next, scan.task := task } : W).wr R.SCAN_OLC_CTRL a).wr R.SCAN_OLC_STAT b) :=
  ((h.of_eq (v := { u with scan.next := next, scan.task := task }) rfl rfl rfl rfl rfl rfl rfl rfl rfl rfl rfl).wr (by decide)).wr (by decide)

theorem onlineChange_accepted (ready : Ready s R.SCAN_OLC_CTRL)
    (accepts : (hostEnter (begin_ s) 0x0A).olcCode s.mem (BitVec.ofNat 32 (2 ^ 31 + bank.val)) = 0)
    (words : s.age.ueWords = []) (ces : x.start.mramCe = []) (ues : x.start.mramUe = []) :
    HostWrites (.onlineChange bank x) s R.SCAN_OLC_CTRL fun u =>
      let v : W := { u with
        scan.next := some (u.imgRead s.mem bank).2
        scan.task := Vector.ofFn fun j : Fin 4 => { u.tk j with switchDue := (u.tk j).switchDue || u.tstate j == 2 } }
      (v.wr R.SCAN_OLC_CTRL (BitVec.ofNat 32 (2 ^ 31 + bank.val))).wr R.SCAN_OLC_STAT
        (BitVec.ofNat 32 (4 + 8 * (begin_ s).rdF R.SCAN_OLC_STAT 3 1)) := by
  have age : (hostEnter (begin_ s) 0x0A).age.ueWords = [] := by rw [(W.start_blocks _ _).age]; exact words
  have code : (hostEnter (begin_ s) 0x0A).blockCheck s.mem R.SCAN_OLC_CTRL (BitVec.ofNat 32 (2 ^ 31 + bank.val)) x = 0 :=
    (olc_code _ _).trans accepts
  have entered := W.entered_blocks (begin_ s) R.SCAN_OLC_CTRL
  have effect := W.hostWord_block (v := BitVec.ofNat 32 (2 ^ 31 + bank.val)) ready.host (by decide) ready.lock.2
    (W.olcMeets_clean (m := s.mem) age ces ues)
  rw [if_neg (by rw [show R.SCAN_OLC_CTRL / 0x1000 = 0x0A from rfl, code]; decide), olc_write,
    W.olcAccept_eq (by rw [entered.age]; exact words)] at effect
  have flag : ((begin_ s).entered R.SCAN_OLC_CTRL).rdF R.SCAN_OLC_STAT 3 1 = (begin_ s).rdF R.SCAN_OLC_STAT 3 1 := by
    unfold W.rdF
    rw [W.entered_rd _ _ (by decide)]
  rw [flag] at effect
  unfold HostWrites
  rw [accepted_entered (by decide)]
  refine run_steady (f := fun m w => w.hostWord x m R.SCAN_OLC_CTRL (BitVec.ofNat 32 (2 ^ 31 + bank.val))) ready.rest effect ?_
  have reached : SameWatch (begin_ s) ((begin_ s).entered R.SCAN_OLC_CTRL) := (SameWatch.start _ _).countSeq _ _
  exact (reached.olcChanged _ _ _ _).spend _ _

theorem onlineChange_refused (rest : Steady (begin_ s)) (ready : Ready s R.SCAN_OLC_CTRL) {code : Nat}
    (refuses : (hostEnter (begin_ s) 0x0A).olcCode s.mem (BitVec.ofNat 32 (2 ^ 31 + bank.val)) = code) (refused : code ≠ 0)
    (words : s.age.ueWords = []) (ces : x.start.mramCe = []) (ues : x.start.mramUe = []) :
    Yields (.onlineChange bank x) s
      (let e := (hostEnter (begin_ s) 0x0A).err 0x0A code
       (((if 1 ≤ (begin_ s).olcStep ∧ (begin_ s).olcStep ≤ 6 then e else e.wrF R.SCAN_OLC_STAT 0 3 7).wrF R.SCAN_OLC_STAT 16 16 code).raise
         E.SCAN_OLC_FAIL).spend 0x0A 0x064) := by
  have age : (hostEnter (begin_ s) 0x0A).age.ueWords = [] := by rw [(W.start_blocks _ _).age]; exact words
  have judged : (hostEnter (begin_ s) 0x0A).blockCheck s.mem R.SCAN_OLC_CTRL (BitVec.ofNat 32 (2 ^ 31 + bank.val)) x = code :=
    (olc_code _ _).trans refuses
  have effect := W.hostWord_block (v := BitVec.ofNat 32 (2 ^ 31 + bank.val)) ready.host (by decide) ready.lock.2
    (W.olcMeets_clean (m := s.mem) age ces ues)
  rw [show R.SCAN_OLC_CTRL / 0x1000 = 0x0A from rfl, judged, if_pos refused] at effect
  have recorded : SameWatch (begin_ s) ((hostEnter (begin_ s) 0x0A).err 0x0A code) := (SameWatch.start _ _).err (by decide)
  have errAge : ((hostEnter (begin_ s) 0x0A).err 0x0A code).age.ueWords = [] := by rw [W.err_age]; exact age
  have busy : ((hostEnter (begin_ s) 0x0A).err 0x0A code).olcBusy = decide (1 ≤ (begin_ s).olcStep ∧ (begin_ s).olcStep ≤ 6) := by
    unfold W.olcBusy W.olcStep W.rdF
    rw [W.err_rd _ _ _ (by decide), W.start_rd _ _ _ (by decide)]
  refine run_steady (f := fun m w => w.hostWord x m R.SCAN_OLC_CTRL (BitVec.ofNat 32 (2 ^ 31 + bank.val))) rest (effect.trans ?_) ?_
  · have settled : ((hostEnter (begin_ s) 0x0A).err 0x0A code).blockRefused s.mem R.SCAN_OLC_CTRL code (BitVec.ofNat 32 (2 ^ 31 + bank.val)) =
        ((hostEnter (begin_ s) 0x0A).err 0x0A code).olcRefused s.mem code (BitVec.ofNat 32 (2 ^ 31 + bank.val)) := by
      unfold W.blockRefused
      rw [if_neg (by decide), if_neg (fun h => absurd h.1 (by decide)), if_pos rfl]
    rw [settled]
    unfold W.olcRefused
    simp only [W.imgTouch_clean errAge, ite_self, busy, decide_eq_true_eq]
    rfl
  · exact (((SameWatch.ite recorded (recorded.wrF (by decide))).wrF (by decide)).raise rest _).spend _ _

end

/-! ## The end of the load (R467) -/

namespace W
variable {w : W}

theorem foldl_id {α : Type} {f : W → α → W} : ∀ {l : List α}, (∀ x ∈ l, f w x = w) → l.foldl f w = w
  | [], _ => rfl
  | x :: l, h => by rw [List.foldl_cons, h x (by simp), foldl_id fun y hy => h y (by simp [hy])]

/-- The code area takes bytes that nothing states, and no register changes (log 4). -/
theorem undef_watch (w : W) (a n : Nat) : SameWatch w (w.undef a n) := by
  unfold undef
  exact SameWatch.ite (SameWatch.refl w) ((SameWatch.refl w).of_eq rfl rfl rfl rfl rfl rfl rfl rfl rfl rfl rfl)

theorem byte_undef (w : W) (m : Memory) (a n b : Nat) (outside : ¬ (a ≤ b ∧ b < a + n)) : (w.undef a n).byte m b = w.byte m b := by
  unfold undef
  split
  · rfl
  · exact if_neg outside

/-- The record once the new code lies in its half of the area. -/
def olcLoaded (w : W) : W := (w.imgPlace (1 - w.scan.half)).wrF R.SCAN_OLC_STAT 0 3 5

theorem olcLoaded_watch (w : W) : SameWatch w w.olcLoaded := (undef_watch w _ _).wrF (by decide)

theorem olcLoaded_rd (w : W) {a : Nat} (other : a ≠ R.SCAN_OLC_STAT) : w.olcLoaded.rd a = w.rd a := by
  unfold olcLoaded imgPlace
  rw [rd_wrF, if_neg other]
  unfold rd
  rw [undef_regs]

theorem olcLoaded_scan (w : W) : w.olcLoaded.scan = w.scan := by
  unfold olcLoaded imgPlace
  rw [wrF_scan, undef_scan]

theorem olcLoaded_step (w : W) : w.olcLoaded.olcStep = 5 := rdF_wrF_same _ _ _ _ _ (by decide)

/-- The load leaves every byte outside the code area (R467); `half` is where the image in force lies. -/
theorem byte_olcLoaded (w : W) (m : Memory) {b : Nat} (half : w.scan.half ≤ 1)
    (outside : ¬ (w.rdN R.SCAN_CODE_BASE ≤ b ∧ b < w.rdN R.SCAN_CODE_BASE + 2 * w.rdN R.SCAN_CODE_SIZE)) :
    w.olcLoaded.byte m b = w.byte m b := by
  refine byte_undef w m _ _ b ?_
  have : w.scan.half = 0 ∨ w.scan.half = 1 := by omega
  rcases this with h | h <;> rw [h] <;> omega

theorem olcLoaded_tstate (w : W) (j : Nat) : w.olcLoaded.tstate j = w.tstate j := by
  unfold tstate rdF
  rw [olcLoaded_rd w (by unfold R.TASK_STATE R.SCAN_OLC_STAT; omega)]

theorem olcLoaded_tk (w : W) (j : Nat) : w.olcLoaded.tk j = w.tk j := by
  unfold tk
  rw [olcLoaded_scan]

/-- While every running task is within a cycle, the end of the load switches none at once. -/
theorem olcLoadDone_eq (step : w.olcStep = 4) (within : ∀ j < 4, w.tstate j = 2 → (w.tk j).phase ≠ 0) :
    w.olcLoadDone = w.olcLoaded.olcFinish := by
  have stays : (those 4 fun n => w.olcLoaded.tstate n == 2).foldl (fun w n => if (w.tk n).phase = 0 then w.olcSwitch n else w) w.olcLoaded =
      w.olcLoaded := by
    refine foldl_id fun j mem => ?_
    rw [those, List.mem_filter, List.mem_range, olcLoaded_tstate, beq_iff_eq] at mem
    rw [olcLoaded_tk, if_neg (within j mem.1 mem.2)]
  unfold olcLoadDone
  rw [if_neg (by omega)]
  exact congrArg olcFinish stays

/-- A task that has still to switch keeps the change in step 5. -/
theorem olcFinish_waits {n : Fin 4} (due : (w.tk n).switchDue = true) : w.olcFinish = w := by
  unfold olcFinish
  exact if_pos (.inr (List.any_eq_true.2 ⟨n, List.mem_range.2 n.isLt, due⟩))

theorem frcOrphans_none (none : w.frcSet = []) (img : List ImgEnt) : w.frcOrphans img = w := by
  unfold frcOrphans
  refine foldl_id fun e mem => ?_
  dsimp only
  rw [frcEn_none none mem]
  rfl

/-- Step 6 before its event: the new image and its bank are in force, at the cost of a write of MRAM (R467, log 44). -/
def olcInForce (w : W) (img : List ImgEnt) : W :=
  let b := w.rdF R.SCAN_OLC_CTRL 0 1
  let u := ({ w with scan.img := img, scan.next := none, scan.half := 1 - w.scan.half, scan.bootBank := b } : W).fresh 24
  let u := u.1.wear (u.1.phys (u.1.partBase 0 + u.2 % max 1 (u.1.partSize 0)) / 4096)
  ((u.wrN R.SCAN_BOOT_BANK b).wrF R.SCAN_OLC_STAT 0 3 0).wrB R.SCAN_OLC_CTRL 31 false

theorem olcFinish_ends {img : List ImgEnt} (step : w.olcStep = 5) (next : w.scan.next = some img)
    (all : ∀ j < 4, (w.tk j).switchDue = false) (forces : ((w.olcInForce img).raise E.SCAN_OLC_DONE).frcSet = []) :
    w.olcFinish = (w.olcInForce img).raise E.SCAN_OLC_DONE := by
  unfold olcFinish
  rw [if_neg, next]
  · exact frcOrphans_none forces img
  · rintro (other | due)
    · exact other step
    · obtain ⟨j, mem, due⟩ := List.any_eq_true.1 due
      rw [all j (List.mem_range.1 mem)] at due
      cases due

theorem olcInForce_watch (w : W) (img : List ImgEnt) : SameWatch w (w.olcInForce img) := by
  unfold olcInForce
  extract_lets b source u v
  have begun : SameWatch w u.1 := (SameWatch.refl w).of_eq rfl rfl rfl rfl rfl rfl rfl rfl rfl rfl rfl
  exact (((begun.wear _).wrN (by decide)).wrF (by decide)).wrB (by decide)

theorem olcInForce_rd (w : W) (img : List ImgEnt) {a : Nat} (other : a ∉ [R.SCAN_OLC_STAT, R.SCAN_OLC_CTRL, R.SCAN_BOOT_BANK]) :
    (w.olcInForce img).rd a = w.rd a := by
  simp only [List.mem_cons, List.not_mem_nil, or_false, not_or] at other
  obtain ⟨stat, ctrl, bank⟩ := other
  unfold olcInForce
  rw [rd_wrB, if_neg ctrl, rd_wrF, if_neg stat, rd_wrN, if_neg bank]
  rfl

theorem olcInForce_step (w : W) (img : List ImgEnt) : (w.olcInForce img).olcStep = 0 := by
  unfold olcInForce olcStep
  extract_lets b source u v
  unfold rdF
  rw [rd_wrB, if_neg (by decide)]
  exact rdF_wrF_same _ _ _ _ _ (by decide)

theorem olcInForce_bank (w : W) (img : List ImgEnt) : (w.olcInForce img).rdN R.SCAN_BOOT_BANK = w.rdF R.SCAN_OLC_CTRL 0 1 := by
  have small : w.rdF R.SCAN_OLC_CTRL 0 1 < 2 ^ 32 := Nat.lt_of_lt_of_le (Nat.mod_lt _ (by decide)) (by decide)
  unfold olcInForce
  extract_lets b source u v
  unfold rdN
  rw [rd_wrB, if_neg (by decide), rd_wrF, if_neg (by decide)]
  exact (rdN_wrN_same _ _ _).trans (Nat.mod_eq_of_lt small)

theorem olcInForce_go (w : W) (img : List ImgEnt) : (w.olcInForce img).rdB R.SCAN_OLC_CTRL 31 = false := rdB_wrB_same _ _ _ _ (by decide)

theorem olcInForce_scan (w : W) (img : List ImgEnt) : (w.olcInForce img).scan =
    { w.scan with img := img, next := none, half := 1 - w.scan.half, bootBank := w.rdF R.SCAN_OLC_CTRL 0 1 } := rfl

theorem byte_olcInForce (w : W) (img : List ImgEnt) (m : Memory) (b : Nat) : (w.olcInForce img).byte m b = w.byte m b := by
  unfold byte olcInForce
  simp only [wrB_wq, wrF_wq, wrN_wq]
  rfl

end W

section
variable {s : State}

theorem olcLoadDone_runs {u : W} (up : (begin_ s).dom 4 = 1) (rest : Steady (begin_ s)) (effect : (begin_ s).olcLoadDone = u)
    (watch : SameWatch (begin_ s) u) : Yields .olcLoadDone s u :=
  run_steady (f := fun _ w => w.onIf 4 W.olcLoadDone) rest ((if_pos up).trans effect) watch

/-- The end of the load with a task to switch within its cycle: step 5 (R467, R468). -/
theorem olcLoadDone_pending {n : Fin 4} (rest : Steady (begin_ s)) (up : (begin_ s).dom 4 = 1) (step : (begin_ s).olcStep = 4)
    (within : ∀ j < 4, (begin_ s).tstate j = 2 → ((begin_ s).tk j).phase ≠ 0) (due : ((begin_ s).tk n).switchDue = true) :
    ∃ u, Yields .olcLoadDone s u ∧ u.olcStep = 5 ∧ u.scan.next = s.scan.next ∧ u.scan.img = s.scan.img ∧
      (∀ j < 4, u.tk j = (begin_ s).tk j) ∧ (∀ a, a ≠ R.SCAN_OLC_STAT → u.rd a = (begin_ s).rd a) := by
  have waits : (begin_ s).olcLoadDone = (begin_ s).olcLoaded :=
    (W.olcLoadDone_eq step within).trans (W.olcFinish_waits (n := n) (by rw [W.olcLoaded_tk]; exact due))
  have scan := W.olcLoaded_scan (begin_ s)
  exact ⟨_, olcLoadDone_runs up rest waits (W.olcLoaded_watch _), W.olcLoaded_step _, congrArg ScanSt.next scan, congrArg ScanSt.img scan,
    fun j _ => W.olcLoaded_tk _ j, fun a other => W.olcLoaded_rd _ other⟩

/-- The end of the load with no running task: the new image is in force (R467). -/
theorem olcLoadDone_ends (rest : Steady (begin_ s)) (wf : Memory.wf s.mem) (up : (begin_ s).dom 4 = 1) (step : (begin_ s).olcStep = 4)
    {img : List ImgEnt} (next : s.scan.next = some img) (forces : (begin_ s).frcSet = [])
    (idle : ∀ j < 4, (begin_ s).tstate j ≠ 2 ∧ ((begin_ s).tk j).switchDue = false) :
    ∃ u, Yields .olcLoadDone s u ∧ u.olcStep = 0 ∧ u.rdN R.SCAN_BOOT_BANK = (begin_ s).rdF R.SCAN_OLC_CTRL 0 1 ∧
      u.rdB R.SCAN_OLC_CTRL 31 = false ∧
      u.scan = { s.scan with img := img, next := none, half := 1 - s.scan.half, bootBank := (begin_ s).rdF R.SCAN_OLC_CTRL 0 1 } ∧
      (∀ a, a ∉ [R.SCAN_OLC_STAT, R.SCAN_OLC_CTRL, R.SCAN_BOOT_BANK] → evtReg a = false → u.rd a = (begin_ s).rd a) ∧
      (∀ a, ¬ ((begin_ s).rdN R.SCAN_CODE_BASE ≤ a ∧ a < (begin_ s).rdN R.SCAN_CODE_BASE + 2 * (begin_ s).rdN R.SCAN_CODE_SIZE) →
        s.scan.half ≤ 1 → memGet (commit s u).mem a = memGet s.mem a) := by
  have loaded := W.olcLoaded_watch (begin_ s)
  have watch : SameWatch (begin_ s) ((begin_ s).olcLoaded.olcInForce img) := loaded.trans (W.olcInForce_watch _ img)
  have events : Only evtReg ((begin_ s).olcLoaded.olcInForce img) (((begin_ s).olcLoaded.olcInForce img).raise E.SCAN_OLC_DONE) :=
    Only.raise rest watch _
  have blocks := SameBlocks.raise ((begin_ s).olcLoaded.olcInForce img) E.SCAN_OLC_DONE
  have ctrl : (begin_ s).olcLoaded.rdF R.SCAN_OLC_CTRL 0 1 = (begin_ s).rdF R.SCAN_OLC_CTRL 0 1 := by
    unfold W.rdF
    rw [W.olcLoaded_rd _ (by decide)]
  have rd {a : Nat} (other : a ∉ [R.SCAN_OLC_STAT, R.SCAN_OLC_CTRL, R.SCAN_BOOT_BANK]) (event : evtReg a = false) :
      (((begin_ s).olcLoaded.olcInForce img).raise E.SCAN_OLC_DONE).rd a = (begin_ s).rd a := by
    rw [events a event, W.olcInForce_rd _ _ other, W.olcLoaded_rd _ fun h => other (by simp [h])]
  have stillNone : (((begin_ s).olcLoaded.olcInForce img).raise E.SCAN_OLC_DONE).frcSet = [] := by
    refine ((W.frcSet_eq_iff _ _).2 fun e below => ?_).trans forces
    unfold W.frcEn W.frcAddr
    rw [rd ?_ ?_]
    · simp only [List.mem_cons, List.not_mem_nil, or_false, R.FRC_FRCe_ADDR, R.SCAN_OLC_STAT, R.SCAN_OLC_CTRL, R.SCAN_BOOT_BANK]
      omega
    · exact (by decide : ∀ e < 64, evtReg (R.FRC_FRCe_ADDR e) = false) e below
  have effect : (begin_ s).olcLoadDone = ((begin_ s).olcLoaded.olcInForce img).raise E.SCAN_OLC_DONE :=
    (W.olcLoadDone_eq step fun j below running => absurd running (idle j below).1).trans
      (W.olcFinish_ends (W.olcLoaded_step _) (by rw [W.olcLoaded_scan]; exact next)
        (fun j below => by rw [W.olcLoaded_tk]; exact (idle j below).2) stillNone)
  refine ⟨_, olcLoadDone_runs up rest effect (watch.raise rest _), ?_, ?_, ?_, ?_, fun a => rd, fun a outside half => ?_⟩
  · unfold W.olcStep
    rw [events.rdF (by decide)]
    exact W.olcInForce_step _ img
  · unfold W.rdN
    rw [events _ (by decide)]
    exact (W.olcInForce_bank _ img).trans ctrl
  · unfold W.rdB
    rw [events _ (by decide)]
    exact W.olcInForce_go _ img
  · rw [blocks.scan, W.olcInForce_scan, W.olcLoaded_scan, ctrl]
    rfl
  · rw [W.byte_after wf]
    unfold W.byte
    rw [blocks.wq]
    exact (W.byte_olcInForce _ img s.mem a).trans (W.byte_olcLoaded _ s.mem half outside)

end

end Sys2Proof.Machine
end

section
/-!
PROOF. The start of a task (R424, R459, R461 to R464, R476, R500): what it does to the areas, the registers and the record of the task.
-/
namespace Sys2Proof.Machine

/-! ## Forces that a cold start clears (R456, R457) -/

section
variable {w0 u : W}

/-- In a device that is awake an event wakes nothing, so the time stands (R102). -/
theorem raise_steady_tsc (rest : Steady w0) (h : SameWatch w0 u) (e : Nat × Nat) : (u.raise e).tsc = u.tsc := by
  have before := (Awake.of_steady rest).same h
  have awake := before.same (SameWatch.occurN 3 e u before)
  have sleepless : (u.occur e).wake = u.occur e := by
    unfold W.wake W.abortEntry
    simp [W.occur, awake.noReq, awake.noEntry, awake.run]
  unfold W.raise
  dsimp only
  rw [sleepless, ite_self, W.occur_tsc]

/-- The registers of the forces, and those in which an event shows itself. -/
def forceReg (a : Nat) : Bool := evtReg a || a / 0x1000 == 0x0F

theorem frcOffs_only (p : Word → Bool) (l : List Nat) (below : ∀ i ∈ l, i < 64) (u : W) : Only forceReg u (l.foldl (frcOff p) u) := by
  induction l generalizing u with
  | nil => exact Only.refl _ u
  | cons i l ih =>
    refine Only.trans (Only.ite ((Only.refl _ u).wrF ?_) (Only.refl _ u)) (ih (fun k mem => below k (List.mem_cons_of_mem _ mem)) _)
    have place := (frcPlace ⟨i, below i (by simp)⟩).1
    unfold forceReg
    rw [Bool.or_eq_true, beq_iff_eq]
    exact .inr place

theorem frcOffs_blocks (p : Word → Bool) : ∀ (l : List Nat) (u : W), SameBlocks u (l.foldl (frcOff p) u) :=
  SameBlocks.foldl fun u _ => SameBlocks.ite (SameBlocks.wrF u _ _ _ _) (SameBlocks.refl u)

theorem frcOffs_tsc (p : Word → Bool) : ∀ (l : List Nat) (u : W), (l.foldl (frcOff p) u).tsc = u.tsc :=
  W.foldl_tsc fun u i => by
    unfold frcOff
    split
    · exact W.wrF_tsc ..
    · rfl

theorem frcClear_eq (p : Word → Bool) (u : W) : u.frcClear p =
    if u.frcSet = ((List.range 64).foldl (frcOff p) u).frcSet then (List.range 64).foldl (frcOff p) u
    else ((List.range 64).foldl (frcOff p) u).raise E.FRC_FORCE_CHANGE := W.frcChange_eq _ _

theorem frcClear_blocks (p : Word → Bool) (u : W) : SameBlocks u (u.frcClear p) := by
  rw [frcClear_eq]
  exact SameBlocks.ite (frcOffs_blocks p _ u) ((frcOffs_blocks p _ u).trans (SameBlocks.raise _ _))

variable (rest : Steady w0) (h : SameWatch w0 u) (p : Word → Bool)
include rest h

theorem frcClear_watch : SameWatch w0 (u.frcClear p) := by
  have offs := h.frcOffs p (List.range 64) fun i mem => List.mem_range.1 mem
  rw [frcClear_eq]
  exact SameWatch.ite offs (offs.raise rest _)

theorem frcClear_only : Only forceReg u (u.frcClear p) := by
  have offs := h.frcOffs p (List.range 64) fun i mem => List.mem_range.1 mem
  have regs := frcOffs_only p (List.range 64) (fun i mem => List.mem_range.1 mem) u
  rw [frcClear_eq]
  exact Only.ite regs (regs.trans ((Only.raise rest offs _).weaken fun a none => (Bool.or_eq_false_iff.1 none).1))

theorem frcClear_tsc : (u.frcClear p).tsc = u.tsc := by
  have offs := h.frcOffs p (List.range 64) fun i mem => List.mem_range.1 mem
  rw [frcClear_eq]
  split
  · exact frcOffs_tsc p _ u
  · rw [raise_steady_tsc rest offs, frcOffs_tsc]

end

/-! ## The stages of a start (R462 to R464) -/

namespace W

/-- The stations of the task are taken as its table lists them (R446). -/
def startStations (w : W) (m : Memory) (n : Nat) : W :=
  let stns := w.stnTable m n
  let rest := w.scan.stn.filter fun s => s.task != n && !(stns.any fun x => x.idx == s.idx)
  { w with scan.stn := stns.foldl (fun l s => stnInsert s l) rest, scan.upd := w.scan.upd.filter fun (u : Nat × Nat) => u.2 != n }

/-- The images are zeroed, LOC takes its initial data. -/
def startAreas (w : W) (n : Nat) (e : ImgEnt) : W :=
  let w := w.putBytes (w.spBase n 0) (List.replicate (w.spSize n 0) 0)
  let w := w.putBytes (w.spBase n 1) (List.replicate (2 * w.spSize n 1) 0)
  w.putBytes (w.spBase n 3) (e.loci ++ List.replicate (w.spSize n 3 - e.loci.length) 0)

/-- RET takes its initial data, in both copies, or the committed copy. -/
def startRetained (w : W) (m : Memory) (n : Nat) (cold : Bool) (e : ImgEnt) : W :=
  if cold then
    let w := w.frcClear fun a => fld a 18 2 == n
    let ret := e.reti ++ List.replicate (w.retUp n - e.reti.length) 0
    ((w.putBytes (w.spBase n 2) ret).putBytes (w.retC n) ret).wrN (R.TASK_RET_SIG n) e.retSig
  else w.copy m (w.retC n) (w.spBase n 2) (w.retUp n)

/-- The registers of the task as it enters RUN. -/
def startBooked (w : W) (n state : Nat) : W :=
  let w := w.wrN (R.TASK_STATE n) state
  let w := (w.wr64 (R.TASK_CYCLES n) 0).wrN (R.TASK_OVR_CNT n) 0
  let w := ((w.wr (R.TASK_SKIP_CNT n) 0).wr (R.TASK_LAST_EXEC n) 0).wr (R.TASK_MAX_EXEC n) 0
  (w.wr (R.TASK_MIN_IDLE n) 0xFFFFFFFF#32).wr (R.TASK_TRAP n) 0

/-- The record of the task, and its snapshot (R500). -/
def startRecord (w : W) (n : Nat) (t : TaskSt) : W :=
  let s : Snap := { w.scan.snap.getD n {} with valid := false }
  { w.setTk n t with scan.snap := w.scan.snap.setIfInBounds n s }

/-- What STATE reads after a start: RUN, where the data came from, why a warm start began cold, and SYNC without time. -/
def startState (warm cold : Bool) (sig : Nat) (late : Bool) : Nat :=
  2 + 4 * (if cold then (if warm then 3 else 2) else 1) + 16 * (if warm && cold then (if sig = 0 then 2 else 1) else 0) + 128 * b2n late

/-- RET begins anew: a cold start, or a warm one whose signature does not fit. -/
def startCold (w : W) (n : Nat) (warm : Bool) (e : ImgEnt) : Bool :=
  !(warm && w.rdN (R.TASK_RET_SIG n) != 0 && w.rdN (R.TASK_RET_SIG n) == e.retSig)

/-- The task in RUN, before its event. -/
def runRecord (w : W) (m : Memory) (n : Nat) (warm : Bool) (edge sub : Nat) (e : ImgEnt) : W :=
  let v := ((w.startStations m n).startAreas n e).startRetained m n (w.startCold n warm e) e
  let ok := v.rdB R.RTC_STAT 1 && !v.tinv
  let u := v.startBooked n (startState warm (w.startCold n warm e) (w.rdN (R.TASK_RET_SIG n)) (v.rdB (R.TASK_CFG n) 2 && !ok))
  u.startRecord n { ent := some e, grid := u.firstInstant n edge sub (v.rdB (R.TASK_CFG n) 2 && ok)
                    first := if w.startCold n warm e then 1 else 2, worldS := e.signed && u.lockstep n }

theorem taskStart_eq {w : W} {m : Memory} {n : Nat} {warm : Bool} {edge sub : Nat} {e : ImgEnt} (found : w.startEnt n = some e) :
    w.taskStart m n warm edge sub = ((w.runRecord m n warm edge sub e).raise (E.TASK_TSTART n)).olcFinish := by
  unfold taskStart
  rw [found]
  rfl

end W

end Sys2Proof.Machine
end

section
/-!
PROOF. What a start leaves (R424, R459, R462 to R464, R476, R500), stage by stage, and the start as a command.
-/
namespace Sys2Proof.Machine

/-! ## The power manager while a task enters RUN (R23) -/

/-- While an enabled block uses PD4, a task's STATE makes it no new user of a domain. -/
theorem sameUsers_wrState (u : W) (n : Fin 4) (x : Word) (used : u.anyEn 4 = true) : SameUsers u (u.wr (R.TASK_STATE n) x) := by
  have other {a i : Nat} (h : a ≠ R.TASK_STATE n) : (u.wr (R.TASK_STATE n) x).rdB a i = u.rdB a i := by
    unfold W.rdB
    rw [W.rd_wr_ne _ _ _ _ h]
  have enabled (d : Nat) : (u.wr (R.TASK_STATE n) x).anyEn d = u.anyEn d := by
    unfold W.anyEn
    congr 1
    funext p
    exact other (by unfold R.H_CTRL R.TASK_STATE; omega)
  have ports : (u.wr (R.TASK_STATE n) x).portOn = u.portOn := by
    unfold W.portOn
    exact any_range fun p _ => other (by simp only [R.LNK_Pp_CTRL, R.TASK_STATE]; omega)
  have link : (u.wr (R.TASK_STATE n) x).linkUp = u.linkUp := by
    unfold W.linkUp W.qspiSel
    rw [other (by simp only [R.SYS_STRAP, R.TASK_STATE]; omega), other (by simp only [R.HIF_CFG, R.TASK_STATE]; omega)]
    rfl
  exact {
    regs := fun a seen => W.rd_wr_ne _ _ _ _ (by
      rintro rfl
      rw [(by decide : ∀ n : Fin 4, watchedRest (R.TASK_STATE n) = false) n] at seen
      cases seen)
    held := rfl
    entry := rfl
    array := rfl
    wait := rfl
    retry := rfl
    slv := rfl
    hits := rfl
    ue := rfl
    deferred := rfl
    users := fun d mem => by
      unfold W.hasUser
      rw [enabled, enabled, enabled, enabled, ports, link, used, Bool.or_true, Bool.or_true]
      rfl }

namespace W

/-! ## The areas -/

section
variable {w : W} {m : Memory} {n : Nat} {e : ImgEnt}

theorem getD_zeros (l : List Byte) (k i : Nat) : (l ++ List.replicate k 0).getD i 0 = l.getD i 0 := by
  by_cases h : i < l.length
  · rw [List.getD_append _ _ _ _ h]
  · rw [List.getD_append_right _ _ _ _ (by omega), List.getD_eq_default l _ (by omega)]
    simp

theorem startAreas_toDev : (w.startAreas n e).toDev = w.toDev := by
  unfold startAreas
  rw [putBytes_toDev, putBytes_toDev, putBytes_toDev]

theorem byte_startAreas (fits : e.loci.length ≤ w.spSize n 3) (b : Nat) : (w.startAreas n e).byte m b =
    if w.spBase n 3 ≤ b ∧ b < w.spBase n 3 + w.spSize n 3 then e.loci.getD (b - w.spBase n 3) 0
    else if w.spBase n 1 ≤ b ∧ b < w.spBase n 1 + 2 * w.spSize n 1 then 0
    else if w.spBase n 0 ≤ b ∧ b < w.spBase n 0 + w.spSize n 0 then 0 else w.byte m b := by
  unfold startAreas
  extract_lets v1 v2
  have dev1 : v1.toDev = w.toDev := putBytes_toDev _ _ _
  have dev2 : v2.toDev = w.toDev := (putBytes_toDev _ _ _).trans dev1
  have length : (e.loci ++ List.replicate (w.spSize n 3 - e.loci.length) (0 : Byte)).length = w.spSize n 3 := by
    rw [List.length_append, List.length_replicate]
    omega
  rw [spBase_dev dev2, spSize_dev dev2, byte_putBytes, length, getD_zeros]
  simp only [v2, v1]
  rw [byte_putBytes, spBase_dev (putBytes_toDev _ _ _), spSize_dev (putBytes_toDev _ _ _), List.length_replicate, byte_putBytes, List.length_replicate]
  simp

/-! ## RET (R463, R464) -/

/-- The registers that the stages before the task's own ones change: those of the forces, the signature. -/
def retReg (n a : Nat) : Bool := forceReg a || a == R.TASK_RET_SIG n

theorem forceReg_task {a : Nat} (n : Fin 4) (page : a / 0x1000 = 0x0B + n) (block : 0x040 ≤ a % 0x1000) : forceReg a = false := by
  unfold forceReg evtReg
  simp only [R.EVT_EVTLAT, R.REC_LOST, R.REC_STAT, Bool.or_eq_false_iff, beq_eq_false_iff_ne, decide_eq_false_iff_not]
  omega

/-- Two records place the areas of task n alike. -/
def SameAreas (n : Fin 4) (w u : W) : Prop :=
  ∀ a, a / 0x1000 = 0x0B + n.val → 0x054 ≤ a % 0x1000 → a % 0x1000 < 0x078 → u.rd a = w.rd a

theorem SameAreas.base {u : W} {n : Fin 4} (same : SameAreas n w u) {sp : Nat} (data : sp < 4) : u.spBase n sp = w.spBase n sp := by
  unfold spBase rdN
  rw [same]
  all_goals interval_cases sp <;> simp [R.TASK_IN_BASE, R.TASK_OUT_BASE, R.TASK_RET_BASE, R.TASK_LOC_BASE] <;> omega

theorem SameAreas.size {u : W} {n : Fin 4} (same : SameAreas n w u) {sp : Nat} (data : sp < 4) : u.spSize n sp = w.spSize n sp := by
  unfold spSize rdN
  rw [if_neg (by omega), if_neg (by omega), same]
  all_goals interval_cases sp <;> simp [R.TASK_IN_SIZE, R.TASK_OUT_SIZE, R.TASK_RET_SIZE, R.TASK_LOC_SIZE] <;> omega

theorem SameAreas.up {u : W} {n : Fin 4} (same : SameAreas n w u) : u.retUp n = w.retUp n := by
  unfold retUp
  rw [same.size (by decide)]

theorem SameAreas.copy {u : W} {n : Fin 4} (same : SameAreas n w u) : u.retC n = w.retC n := by
  unfold retC
  rw [same.base (by decide), same.up]

end

section
variable {w0 w : W} (rest : Steady w0) (h : SameWatch w0 w) {m : Memory} {n : Fin 4} {e : ImgEnt}
include rest h

/-- The initial data of RET in both copies, after the forces of the task are cleared. -/
theorem startRetained_cold : w.startRetained m n true e =
    (((w.frcClear fun a => fld a 18 2 == n.val).putBytes (w.spBase n 2) (e.reti ++ List.replicate (w.retUp n - e.reti.length) 0)).putBytes
      (w.retC n) (e.reti ++ List.replicate (w.retUp n - e.reti.length) 0)).wrN (R.TASK_RET_SIG n) e.retSig := by
  have same : SameAreas n w (w.frcClear fun a => fld a 18 2 == n.val) := fun a page lo _ =>
    frcClear_only rest h _ a (forceReg_task n page (by omega))
  unfold startRetained
  rw [if_pos rfl]
  dsimp only
  rw [same.up, same.base (by decide), SameAreas.copy (w := w) fun a page lo hi => ?_]
  exact same a page lo hi

omit rest h in
theorem startRetained_warm : w.startRetained m n false e = w.copy m (w.retC n) (w.spBase n 2) (w.retUp n) := rfl

theorem startRetained_watch (cold : Bool) : SameWatch w0 (w.startRetained m n cold e) := by
  cases cold
  · exact h.trans (SameWatch.of_dev (copy_toDev _ _ _ _ _))
  · rw [startRetained_cold rest h]
    have stored : SameWatch w0 (((w.frcClear fun a => fld a 18 2 == n.val).putBytes (w.spBase n 2)
        (e.reti ++ List.replicate (w.retUp n - e.reti.length) 0)).putBytes (w.retC n) (e.reti ++ List.replicate (w.retUp n - e.reti.length) 0)) :=
      (frcClear_watch rest h _).trans (SameWatch.of_dev ((putBytes_toDev _ _ _).trans (putBytes_toDev _ _ _)))
    exact stored.wrN ((by decide : ∀ n : Fin 4, watched (R.TASK_RET_SIG n) = false) n)

theorem startRetained_only (cold : Bool) : Only (retReg n) w (w.startRetained m n cold e) := by
  intro a other
  obtain ⟨force, sig⟩ := Bool.or_eq_false_iff.1 other
  cases cold
  · unfold rd
    rw [startRetained_warm, copy_toDev]
  · rw [startRetained_cold rest h, rd_wrN, if_neg (by simpa using sig)]
    unfold rd
    rw [putBytes_toDev, putBytes_toDev]
    exact frcClear_only rest h _ a force

theorem startRetained_sig (cold : Bool) : (w.startRetained m n cold e).rdN (R.TASK_RET_SIG n) =
    if cold then e.retSig % 2 ^ 32 else w.rdN (R.TASK_RET_SIG n) := by
  cases cold
  · unfold rdN rd
    rw [startRetained_warm, copy_toDev]
    rfl
  · rw [startRetained_cold rest h, rdN_wrN_same]
    rfl

theorem startRetained_scan (cold : Bool) : (w.startRetained m n cold e).scan = w.scan := by
  cases cold
  · rw [startRetained_warm, copy_toDev]
  · rw [startRetained_cold rest h, wrN_scan, putBytes_scan, putBytes_scan, (frcClear_blocks _ w).scan]

theorem startRetained_tsc (cold : Bool) : (w.startRetained m n cold e).tsc = w.tsc := by
  cases cold
  · rw [startRetained_warm, copy_toDev]
  · rw [startRetained_cold rest h, wrN_tsc, putBytes_tsc, putBytes_tsc, frcClear_tsc rest h]

/-- The bytes of a cold RET: its initial data in both copies. -/
theorem byte_startRetained_cold (fits : e.reti.length ≤ w.retUp n) (b : Nat) : (w.startRetained m n true e).byte m b =
    if w.retC n ≤ b ∧ b < w.retC n + w.retUp n then e.reti.getD (b - w.retC n) 0
    else if w.spBase n 2 ≤ b ∧ b < w.spBase n 2 + w.retUp n then e.reti.getD (b - w.spBase n 2) 0 else w.byte m b := by
  have length : (e.reti ++ List.replicate (w.retUp n - e.reti.length) (0 : Byte)).length = w.retUp n := by
    rw [List.length_append, List.length_replicate]
    omega
  have under : (w.frcClear fun a => fld a 18 2 == n.val).byte m b = w.byte m b := by
    unfold byte
    rw [(frcClear_blocks _ w).wq]
  rw [startRetained_cold rest h]
  show (putBytes _ _ _).byte m b = _
  rw [byte_putBytes, length, getD_zeros, byte_putBytes, length, getD_zeros, under]

theorem byte_startRetained_front (cold : Bool) (fits : e.reti.length ≤ w.retUp n) {i : Nat} (below : i < w.retUp n) :
    (w.startRetained m n cold e).byte m (w.spBase n 2 + i) = if cold then e.reti.getD i 0 else w.byte m (w.retC n + i) := by
  have place : w.retC n = w.spBase n 2 + w.retUp n := rfl
  cases cold
  · rw [startRetained_warm, byte_copy, if_pos (by omega), Nat.add_sub_cancel_left]
    rfl
  · rw [byte_startRetained_cold rest h fits, if_neg (by omega), if_pos (by omega), Nat.add_sub_cancel_left]
    rfl

theorem byte_startRetained_back (cold : Bool) (fits : e.reti.length ≤ w.retUp n) {i : Nat} (below : i < w.retUp n) :
    (w.startRetained m n cold e).byte m (w.retC n + i) = if cold then e.reti.getD i 0 else w.byte m (w.retC n + i) := by
  have place : w.retC n = w.spBase n 2 + w.retUp n := rfl
  cases cold
  · rw [startRetained_warm, byte_copy, if_neg (by omega)]
    rfl
  · rw [byte_startRetained_cold rest h fits, if_pos (by omega), Nat.add_sub_cancel_left]
    rfl

theorem byte_startRetained_other (cold : Bool) (fits : e.reti.length ≤ w.retUp n) {b : Nat}
    (outside : b < w.spBase n 2 ∨ w.spBase n 2 + 2 * w.retUp n ≤ b) : (w.startRetained m n cold e).byte m b = w.byte m b := by
  have place : w.retC n = w.spBase n 2 + w.retUp n := rfl
  cases cold
  · rw [startRetained_warm, byte_copy, if_neg (by omega)]
  · rw [byte_startRetained_cold rest h fits, if_neg (by omega), if_neg (by omega)]

end

end W

end Sys2Proof.Machine
end

section
/-!
PROOF. The start as a command (R424, R459, R461 to R464, R476, R500).
-/
namespace Sys2Proof.Machine

namespace W

/-! ## The registers of a task that enters RUN -/

section
variable {w : W} {n : Nat} {state : Nat}

theorem startBooked_rd (a : Nat) : (w.startBooked n state).rd a =
    if a = R.TASK_TRAP n then 0 else if a = R.TASK_MIN_IDLE n then 0xFFFFFFFF#32 else if a = R.TASK_MAX_EXEC n then 0
    else if a = R.TASK_LAST_EXEC n then 0 else if a = R.TASK_SKIP_CNT n then 0 else if a = R.TASK_OVR_CNT n then 0
    else if a = R.TASK_CYCLES n + 4 then 0 else if a = R.TASK_CYCLES n then 0 else if a = R.TASK_STATE n then BitVec.ofNat 32 state
    else w.rd a := by
  unfold startBooked wr64
  dsimp only
  rw [rd_wr, rd_wr, rd_wr, rd_wr, rd_wr, rd_wrN, rd_wrN, rd_wrN, rd_wrN]
  rfl

theorem startBooked_other {a : Nat} (other : ¬ (R.TASK_CYCLES n ≤ a ∧ a ≤ R.TASK_TRAP n)) (state' : a ≠ R.TASK_STATE n) :
    (w.startBooked n state).rd a = w.rd a := by
  simp only [R.TASK_CYCLES, R.TASK_TRAP] at other
  rw [startBooked_rd]
  simp only [R.TASK_TRAP, R.TASK_MIN_IDLE, R.TASK_MAX_EXEC, R.TASK_LAST_EXEC, R.TASK_SKIP_CNT, R.TASK_OVR_CNT, R.TASK_CYCLES]
  rw [if_neg (by omega), if_neg (by omega), if_neg (by omega), if_neg (by omega), if_neg (by omega), if_neg (by omega), if_neg (by omega),
    if_neg (by omega), if_neg state']

theorem startBooked_state : (w.startBooked n state).rd (R.TASK_STATE n) = BitVec.ofNat 32 state := by
  rw [startBooked_rd]
  simp only [R.TASK_TRAP, R.TASK_MIN_IDLE, R.TASK_MAX_EXEC, R.TASK_LAST_EXEC, R.TASK_SKIP_CNT, R.TASK_OVR_CNT, R.TASK_CYCLES, R.TASK_STATE]
  rw [if_neg (by omega), if_neg (by omega), if_neg (by omega), if_neg (by omega), if_neg (by omega),
    if_neg (by omega), if_neg (by omega), if_neg (by omega), if_pos trivial]

theorem startBooked_cycles : (w.startBooked n state).rd64 (R.TASK_CYCLES n) = 0 := by
  have low : (w.startBooked n state).rd (R.TASK_CYCLES n) = 0 := by
    rw [startBooked_rd]
    simp only [R.TASK_TRAP, R.TASK_MIN_IDLE, R.TASK_MAX_EXEC, R.TASK_LAST_EXEC, R.TASK_SKIP_CNT, R.TASK_OVR_CNT, R.TASK_CYCLES]
    rw [if_neg (by omega), if_neg (by omega), if_neg (by omega), if_neg (by omega), if_neg (by omega),
      if_neg (by omega), if_neg (by omega), if_pos trivial]
  have high : (w.startBooked n state).rd (R.TASK_CYCLES n + 4) = 0 := by
    rw [startBooked_rd]
    simp only [R.TASK_TRAP, R.TASK_MIN_IDLE, R.TASK_MAX_EXEC, R.TASK_LAST_EXEC, R.TASK_SKIP_CNT, R.TASK_OVR_CNT, R.TASK_CYCLES]
    rw [if_neg (by omega), if_neg (by omega), if_neg (by omega), if_neg (by omega), if_neg (by omega),
      if_neg (by omega), if_pos trivial]
  unfold rd64 rdN
  rw [low, high]
  rfl

theorem startBooked_overruns : (w.startBooked n state).rd (R.TASK_OVR_CNT n) = 0 := by
  rw [startBooked_rd]
  simp only [R.TASK_TRAP, R.TASK_MIN_IDLE, R.TASK_MAX_EXEC, R.TASK_LAST_EXEC, R.TASK_SKIP_CNT, R.TASK_OVR_CNT]
  rw [if_neg (by omega), if_neg (by omega), if_neg (by omega), if_neg (by omega), if_neg (by omega), if_pos trivial]

theorem startBooked_idle : (w.startBooked n state).rd (R.TASK_MIN_IDLE n) = 0xFFFFFFFF#32 := by
  rw [startBooked_rd, if_neg (by simp only [R.TASK_TRAP, R.TASK_MIN_IDLE]; omega), if_pos rfl]

theorem startBooked_trap : (w.startBooked n state).rd (R.TASK_TRAP n) = 0 := by
  rw [startBooked_rd, if_pos rfl]

theorem startBooked_users (n : Fin 4) (used : w.anyEn 4 = true) : SameUsers w (w.startBooked n state) := by
  have quiet : ∀ n : Fin 4, ∀ a ∈ [R.TASK_CYCLES n, R.TASK_CYCLES n + 4, R.TASK_OVR_CNT n, R.TASK_SKIP_CNT n, R.TASK_LAST_EXEC n,
      R.TASK_MAX_EXEC n, R.TASK_MIN_IDLE n, R.TASK_TRAP n], watched a = false := by decide
  have unseen {a : Nat} (mem : a ∈ [R.TASK_CYCLES n, R.TASK_CYCLES n + 4, R.TASK_OVR_CNT n, R.TASK_SKIP_CNT n, R.TASK_LAST_EXEC n,
      R.TASK_MAX_EXEC n, R.TASK_MIN_IDLE n, R.TASK_TRAP n]) := quiet n a mem
  refine (sameUsers_wrState w n (BitVec.ofNat 32 state) used).trans (.of_watch ?_)
  exact ((((((((SameWatch.refl _).wr64 (unseen (by simp)) (unseen (by simp))).wrN (unseen (by simp))).wr (unseen (by simp))).wr
    (unseen (by simp))).wr (unseen (by simp))).wr (unseen (by simp))).wr (unseen (by simp)))

theorem startBooked_scan : (w.startBooked n state).scan = w.scan := rfl
theorem byte_startBooked (m : Memory) (b : Nat) : (w.startBooked n state).byte m b = w.byte m b := rfl

/-! ## The record of the task -/

theorem startRecord_rd (t : TaskSt) (a : Nat) : (w.startRecord n t).rd a = w.rd a := rfl
theorem byte_startRecord (t : TaskSt) (m : Memory) (b : Nat) : (w.startRecord n t).byte m b = w.byte m b := rfl
theorem startRecord_watch (t : TaskSt) : SameWatch w (w.startRecord n t) :=
  (SameWatch.refl w).of_eq rfl rfl rfl rfl rfl rfl rfl rfl rfl rfl rfl

theorem startRecord_tk (below : n < 4) (t : TaskSt) : (w.startRecord n t).tk n = t := tk_modTk w below fun _ => t
theorem startRecord_tk_other (t : TaskSt) {j : Nat} (other : j ≠ n) : (w.startRecord n t).tk j = w.tk j := tk_modTk_other w other fun _ => t

theorem startRecord_snap (n : Fin 4) (t : TaskSt) : ((w.startRecord n t).scan.snap.getD n {}).valid = false := by
  show ((w.scan.snap.setIfInBounds n _).getD n {}).valid = false
  rw [vector_set _ _ _ n.isLt, vector_getD _ _ _ n.isLt, Vector.getElem_set_self]

end

end W

/-! ## The host's write of CMD -/

section
variable {s : State} {n : Fin 4}

/-- The word that starts a task, warm or cold, and what comes with it. -/
def startWord (warm : Bool) : Word := if warm then 1 else 2

def startExt (edge sub : Nat) : Ext := { edge := edge, sub := sub }

theorem start_runs (s : State) (n : Fin 4) (warm : Bool) (edge sub : Nat) :
    exec (if warm then .startWarm n edge sub else .startCold n edge sub) s =
      run (fun m w => w.hostWord (startExt edge sub) m (R.TASK_CMD n) (startWord warm)) s := by
  cases warm <;> rfl

theorem taskCmd_place (n : Fin 4) : R.TASK_CMD n / 0x1000 = 0x0B + n ∧ R.TASK_CMD n % 0x1000 = 0x040 := by
  unfold R.TASK_CMD
  omega

theorem startWord_command (warm : Bool) : fld (startWord warm) 0 3 = if warm then 1 else 2 := by
  cases warm <;> rfl

theorem start_code (w : W) (m : Memory) (warm : Bool) (x : Ext) :
    w.blockCheck m (R.TASK_CMD n) (startWord warm) x = w.startCode m n := by
  rw [W.check_task n.isLt (taskCmd_place n).1, (taskCmd_place n).2]
  unfold W.taskCheck W.taskCmdCode
  rw [if_pos rfl]
  dsimp only
  rw [startWord_command, if_pos (by cases warm <;> decide)]

theorem start_write (w : W) (m : Memory) (warm : Bool) (edge sub : Nat) :
    w.blockWrite m (R.TASK_CMD n) (startWord warm) (startExt edge sub) = w.taskStart m n warm edge sub := by
  rw [W.write_task n.isLt (taskCmd_place n).1, (taskCmd_place n).2]
  unfold W.taskWrite W.taskCmd
  rw [if_pos rfl, Option.getD_some]
  dsimp only
  rw [startWord_command, if_pos (by cases warm <;> decide)]
  cases warm <;> rfl

theorem start_meets (u : W) (m : Memory) (v : Word) (x : Ext) : u.accessMeets m (R.TASK_CMD n) v x = (u, m) :=
  W.accessMeets_other u _ _ _ _ (by unfold R.TASK_CMD R.SCAN_OLC_CTRL; omega) (by unfold R.TASK_CMD R.SLV_RING_DB; omega)
    (by unfold R.TASK_CMD R.KEY_RING_DB; omega) (.inl (by unfold R.TASK_CMD; omega))

theorem start_reg (n : Fin 4) : hostReg (R.TASK_CMD n) = true := by
  revert n
  decide

/-- A start that its checks refuse (R461). -/
theorem start_refused {warm : Bool} {edge sub code : Nat} (ready : Ready s (R.TASK_CMD n))
    (refuses : (hostEnter (begin_ s) (0x0B + n)).startCode s.mem n = code) (refused : code ≠ 0) :
    Yields (if warm then .startWarm n edge sub else .startCold n edge sub) s (refusedWith (begin_ s) (R.TASK_CMD n) code) := by
  have page := (taskCmd_place n).1
  have effect := W.hostWord_block (v := startWord warm) (x := startExt edge sub) (m := s.mem) ready.host (start_reg n) ready.lock.2
    (start_meets _ _ _ _)
  rw [page, start_code, refuses, if_pos refused] at effect
  have plain (u : W) : u.blockRefused s.mem (R.TASK_CMD n) code (startWord warm) = u := by
    unfold W.blockRefused
    rw [if_neg (by omega), if_neg (fun h => absurd h.1 (by unfold R.TASK_CMD R.REC_TRIG; omega)), if_neg (by unfold R.TASK_CMD R.SCAN_OLC_CTRL; omega)]
  rw [plain, ← page] at effect
  unfold Yields
  rw [start_runs]
  refine run_steady ready.rest effect ?_
  exact ((SameWatch.start _ _).err (SameWatch.watched_common (by unfold R.H_ERR; omega))).spend _ _

end

end Sys2Proof.Machine
end

section
/-!
PROOF. A start that is accepted (R424, R462 to R464, R476, R500): the record of the task in RUN, its event, the command as a whole.
-/
namespace Sys2Proof.Machine

/-! ## The record of a task in RUN -/

namespace W

section
variable {w0 w : W} (rest : Steady w0) (h : SameWatch w0 w) {m : Memory} {n : Fin 4} {warm : Bool} {edge sub : Nat} {e : ImgEnt}

/-- The areas with their data, before the task's own registers. -/
def filled (w : W) (m : Memory) (n : Nat) (warm : Bool) (e : ImgEnt) : W :=
  ((w.startStations m n).startAreas n e).startRetained m n (w.startCold n warm e) e

theorem runRecord_eq : ∃ late t, w.runRecord m n warm edge sub e =
    ((w.filled m n warm e).startBooked n (startState warm (w.startCold n warm e) (w.rdN (R.TASK_RET_SIG n)) late)).startRecord n t ∧
    t.ent = some e ∧ t.phase = 0 ∧ t.cyc = 0 ∧
    ((w.filled m n warm e).rdB (R.TASK_CFG n) 2 = false → t.grid = ((w.filled m n warm e).tsc.toNat + 10000 + 9999) / 10000 * 10000) := by
  refine ⟨_, _, rfl, rfl, rfl, rfl, fun free => ?_⟩
  dsimp only
  show firstInstant _ n edge sub ((w.filled m n warm e).rdB (R.TASK_CFG n) 2 && _) = _
  rw [free, Bool.false_and]
  rfl

include h in
theorem areas_watch : SameWatch w0 ((w.startStations m n).startAreas n e) :=
  (h.of_eq (v := w.startStations m n) rfl rfl rfl rfl rfl rfl rfl rfl rfl rfl rfl).trans (SameWatch.of_dev startAreas_toDev)

theorem areas_rd (a : Nat) : ((w.startStations m n).startAreas n e).rd a = w.rd a := by
  unfold rd
  rw [startAreas_toDev]
  rfl

include rest h

theorem filled_watch : SameWatch w0 (w.filled m n warm e) := startRetained_watch rest (areas_watch h) _

theorem filled_rd {a : Nat} (other : retReg n a = false) : (w.filled m n warm e).rd a = w.rd a :=
  (startRetained_only rest (areas_watch h) _ a other).trans (areas_rd a)

theorem filled_task (j : Nat) : (w.filled m n warm e).tk j = w.tk j := by
  unfold filled tk
  rw [startRetained_scan rest (areas_watch h), startAreas_toDev]
  rfl

theorem filled_tsc : (w.filled m n warm e).tsc = w.tsc := by
  unfold filled
  rw [startRetained_tsc rest (areas_watch h), startAreas_toDev]
  rfl

theorem filled_sig : (w.filled m n warm e).rdN (R.TASK_RET_SIG n) =
    if w.startCold n warm e then e.retSig % 2 ^ 32 else w.rdN (R.TASK_RET_SIG n) := by
  unfold filled
  rw [startRetained_sig rest (areas_watch h)]
  unfold rdN
  rw [areas_rd]

theorem runRecord_steady (used : w0.anyEn 4 = true) : Steady (w.runRecord m n warm edge sub e) := by
  obtain ⟨late, t, record, -⟩ := runRecord_eq (w := w) (m := m) (n := n) (warm := warm) (edge := edge) (sub := sub) (e := e)
  have watch := filled_watch (m := m) (n := n) (warm := warm) (e := e) rest h
  rw [record]
  refine (rest.same watch).users ((startBooked_users n ?_).trans (.of_watch (startRecord_watch t)))
  rw [watch.anyEn, used]

/-- Beyond the registers of the stages a start changes none. -/
theorem runRecord_rd {a : Nat} (ret : retReg n a = false) (counts : ¬ (R.TASK_CYCLES n ≤ a ∧ a ≤ R.TASK_TRAP n)) (state : a ≠ R.TASK_STATE n) :
    (w.runRecord m n warm edge sub e).rd a = w.rd a := by
  obtain ⟨late, t, record, -⟩ := runRecord_eq (w := w) (m := m) (n := n) (warm := warm) (edge := edge) (sub := sub) (e := e)
  rw [record, startRecord_rd, startBooked_other counts state, filled_rd rest h ret]

/-- Outside the pages of the task and of the forces only events show. -/
theorem runRecord_rd_page {a : Nat} (task : a / 0x1000 ≠ 0x0B + n.val) (force : a / 0x1000 ≠ 0x0F) (event : evtReg a = false) :
    (w.runRecord m n warm edge sub e).rd a = w.rd a := by
  have apart : retReg n a = false := by
    unfold retReg forceReg
    rw [event, Bool.false_or, Bool.or_eq_false_iff, beq_eq_false_iff_ne, beq_eq_false_iff_ne]
    exact ⟨force, by simp only [R.TASK_RET_SIG]; omega⟩
  exact runRecord_rd rest h apart (by simp only [R.TASK_CYCLES, R.TASK_TRAP]; omega) (by simp only [R.TASK_STATE]; omega)

/-! ### The bytes of the areas -/

omit rest h

/-- The areas of task n lie apart from each other (R461). -/
def AreasApart (w : W) (n : Nat) : Prop :=
  [(w.spBase n 0, w.spSize n 0), (w.spBase n 1, 2 * w.spSize n 1), (w.spBase n 3, w.spSize n 3), (w.spBase n 2, 2 * w.retUp n)].Pairwise
    fun a b => a.1 + a.2 ≤ b.1 ∨ b.1 + b.2 ≤ a.1

theorem byte_areas (fits : e.loci.length ≤ w.spSize n 3) (b : Nat) : ((w.startStations m n).startAreas n e).byte m b =
    if w.spBase n 3 ≤ b ∧ b < w.spBase n 3 + w.spSize n 3 then e.loci.getD (b - w.spBase n 3) 0
    else if w.spBase n 1 ≤ b ∧ b < w.spBase n 1 + 2 * w.spSize n 1 then 0
    else if w.spBase n 0 ≤ b ∧ b < w.spBase n 0 + w.spSize n 0 then 0 else w.byte m b :=
  byte_startAreas (w := w.startStations m n) fits b

variable (loci : e.loci.length ≤ w.spSize n 3) (reti : e.reti.length ≤ w.retUp n) (apart : w.AreasApart n)
include rest h loci reti apart

/-- What the areas hold after a start (R462 to R464). -/
theorem byte_filled :
    (∀ i < w.spSize n 0, (w.filled m n warm e).byte m (w.spBase n 0 + i) = 0) ∧
    (∀ i < 2 * w.spSize n 1, (w.filled m n warm e).byte m (w.spBase n 1 + i) = 0) ∧
    (∀ i < w.spSize n 3, (w.filled m n warm e).byte m (w.spBase n 3 + i) = e.loci.getD i 0) ∧
    (∀ i < w.retUp n, (w.filled m n warm e).byte m (w.spBase n 2 + i) =
      if w.startCold n warm e then e.reti.getD i 0 else w.byte m (w.spBase n 2 + w.retUp n + i)) ∧
    (∀ i < w.retUp n, (w.filled m n warm e).byte m (w.spBase n 2 + w.retUp n + i) =
      if w.startCold n warm e then e.reti.getD i 0 else w.byte m (w.spBase n 2 + w.retUp n + i)) := by
  have same : SameAreas n w ((w.startStations m n).startAreas n e) := fun a _ _ _ => areas_rd a
  have watch := areas_watch (m := m) (n := n) (e := e) h
  have fits : e.reti.length ≤ ((w.startStations m n).startAreas n e).retUp n := by rw [same.up]; exact reti
  unfold AreasApart at apart
  simp only [List.pairwise_cons, List.mem_cons, List.not_mem_nil, or_false, forall_eq_or_imp, forall_eq, IsEmpty.forall_iff, implies_true,
    List.Pairwise.nil, and_true] at apart
  obtain ⟨⟨a01, a03, a02⟩, ⟨a13, a12⟩, a32⟩ := apart
  have other {b : Nat} (outside : b < w.spBase n 2 ∨ w.spBase n 2 + 2 * w.retUp n ≤ b) :
      (w.filled m n warm e).byte m b = ((w.startStations m n).startAreas n e).byte m b :=
    byte_startRetained_other rest watch _ fits (by rw [same.base (by decide), same.up]; exact outside)
  have kept {i : Nat} (below : i < w.retUp n) : ((w.startStations m n).startAreas n e).byte m (w.spBase n 2 + w.retUp n + i) =
      w.byte m (w.spBase n 2 + w.retUp n + i) := by
    rw [byte_areas loci, if_neg (by omega), if_neg (by omega), if_neg (by omega)]
  have place : w.retC n = w.spBase n 2 + w.retUp n := rfl
  refine ⟨fun i below => ?_, fun i below => ?_, fun i below => ?_, fun i below => ?_, fun i below => ?_⟩
  · rw [other (by omega), byte_areas loci, if_neg (by omega), if_neg (by omega), if_pos (by omega)]
  · rw [other (by omega), byte_areas loci, if_neg (by omega), if_pos (by omega)]
  · rw [other (by omega), byte_areas loci, if_pos (by omega), Nat.add_sub_cancel_left]
  · have front := byte_startRetained_front (m := m) rest watch (w.startCold n warm e) fits (i := i) (by rw [same.up]; exact below)
    rw [same.base (by decide), same.copy, place, kept below] at front
    exact front
  · have back := byte_startRetained_back (m := m) rest watch (w.startCold n warm e) fits (i := i) (by rw [same.up]; exact below)
    rw [same.copy, place, kept below] at back
    exact back

end

end W

/-! ## The record on which a host write acts -/

namespace W

/-- The page's bookkeeping leaves the other pages alone. -/
theorem entered_rd_page (w : W) (off : Nat) {a : Nat} (other : a / 0x1000 ≠ off / 0x1000) : (w.entered off).rd a = w.rd a := by
  rw [countSeq_rd _ _ _ _ (by unfold R.H_SEQ; omega)]
  show (w.relock _).rd a = _
  unfold relock
  split
  · exact rd_wr_ne _ _ _ _ (by unfold R.H_LOCK; omega)
  · rfl

theorem spend_rd_page (w : W) (p o : Nat) {a : Nat} (other : a / 0x1000 ≠ p) : (w.spend p o).rd a = w.rd a := by
  unfold spend
  split
  · rfl
  · rw [rd_wrF, if_neg (by unfold R.H_LOCK; omega)]

theorem entered_tsc (w : W) (off : Nat) : (w.entered off).tsc = w.tsc := by
  have locked : (hostEnter w (off / 0x1000)).tsc = w.tsc := by
    show (w.relock _).tsc = _
    unfold relock
    split <;> rfl
  rw [← locked]
  unfold entered countSeq
  split
  · split <;> rfl
  · rfl

theorem spend_blocks (w : W) (p o : Nat) : SameBlocks w (w.spend p o) :=
  SameBlocks.ite (SameBlocks.refl w) (SameBlocks.wrF w _ _ _ _)

theorem olcFinish_idle {w : W} (idle : w.olcStep ≠ 5) : w.olcFinish = w := if_pos (.inl idle)

/-- The code with which a task starts depends on the scan page's change and images alone. -/
theorem startEnt_congr {w u : W} (n : Nat) (scan : u.scan = w.scan) (step : u.rd R.SCAN_OLC_STAT = w.rd R.SCAN_OLC_STAT) :
    u.startEnt n = w.startEnt n := by
  unfold startEnt switchWaits tk olcStep rdF
  rw [scan, step]

end W

/-! ## The accepted start -/

section
variable {s : State} {n : Fin 4} {warm : Bool} {edge sub : Nat} {e : ImgEnt}

/-- The record on which the start acts, and the one that it leaves in RUN. -/
abbrev startFrom (s : State) (n : Fin 4) : W := (begin_ s).entered (R.TASK_CMD n)

abbrev startTo (s : State) (n : Fin 4) (warm : Bool) (edge sub : Nat) (e : ImgEnt) : W :=
  (((startFrom s n).runRecord s.mem n warm edge sub e).raise (E.TASK_TSTART n)).spend (0x0B + n) 0x040

theorem startFrom_watch (s : State) (n : Fin 4) : SameWatch (begin_ s) (startFrom s n) := (SameWatch.start _ _).countSeq _ _

variable (rest : Steady (begin_ s)) (used : (begin_ s).anyEn 4 = true)
include rest used

theorem startTo_steady : Steady (startTo s n warm edge sub e) := by
  have running := W.runRecord_steady (m := s.mem) (n := n) (warm := warm) (edge := edge) (sub := sub) (e := e) rest (startFrom_watch s n) used
  exact running.same (((SameWatch.refl _).raise running _).spend _ _)

/-- Beyond the registers of the stages, the events and the headers, a start changes none. -/
theorem startTo_rd {a : Nat} (event : evtReg a = false) (block : a % 0x1000 ≠ 0x024) :
    (startTo s n warm edge sub e).rd a = ((startFrom s n).runRecord s.mem n warm edge sub e).rd a := by
  have running := W.runRecord_steady (m := s.mem) (n := n) (warm := warm) (edge := edge) (sub := sub) (e := e) rest (startFrom_watch s n) used
  rw [W.spend_rd _ _ _ _ block]
  exact Only.raise running (SameWatch.refl _) _ a event

theorem start_accepted (ready : Ready s (R.TASK_CMD n)) (accepts : (hostEnter (begin_ s) (0x0B + n)).startCode s.mem n = 0)
    (found : (begin_ s).startEnt n = some e) (step : (begin_ s).olcStep ≠ 5) :
    Yields (if warm then .startWarm n edge sub else .startCold n edge sub) s (startTo s n warm edge sub e) := by
  obtain ⟨page, place⟩ := taskCmd_place n
  have watch := startFrom_watch s n
  have running := W.runRecord_steady (m := s.mem) (n := n) (warm := warm) (edge := edge) (sub := sub) (e := e) rest watch used
  have stat : (startFrom s n).rd R.SCAN_OLC_STAT = (begin_ s).rd R.SCAN_OLC_STAT := W.entered_rd _ _ (by decide)
  have entry : (startFrom s n).startEnt n = some e :=
    (W.startEnt_congr n (W.entered_blocks _ _).scan stat).trans found
  have idle : (((startFrom s n).runRecord s.mem n warm edge sub e).raise (E.TASK_TSTART n)).olcStep ≠ 5 := by
    unfold W.olcStep
    rw [(Only.raise running (SameWatch.refl _) _).rdF (by decide)]
    unfold W.rdF
    rw [W.runRecord_rd_page rest watch (by rw [show R.SCAN_OLC_STAT / 0x1000 = 0x0A from rfl]; omega) (by decide) (by decide), stat]
    exact step
  have effect := W.hostWord_block (v := startWord warm) (x := startExt edge sub) (m := s.mem) ready.host (start_reg n) ready.lock.2
    (start_meets _ _ _ _)
  rw [page, start_code, accepts, if_neg (by decide), start_write, W.taskStart_eq entry, W.olcFinish_idle idle, place] at effect
  unfold Yields
  rw [start_runs]
  exact run_settled (f := fun m w => w.hostWord (startExt edge sub) m (R.TASK_CMD n) (startWord warm)) effect (startTo_steady rest used)

end

end Sys2Proof.Machine
end

section
/-!
PROOF. What an accepted start leaves, and the obligation on starts and on-line changes (R424, R462 to R464, R467, R476, R500).
-/
namespace Sys2Proof.Machine

namespace W

theorem fld_startState (warm cold : Bool) (sig : Nat) (late : Bool) :
    fld (BitVec.ofNat 32 (startState warm cold sig late)) 0 2 = 2 ∧
      fld (BitVec.ofNat 32 (startState warm cold sig late)) 2 2 = if cold then (if warm then 3 else 2) else 1 := by
  unfold startState
  by_cases none : sig = 0
  · subst none
    revert warm cold late
    decide
  · rw [if_neg none]
    revert warm cold late
    decide

/-- RET keeps its committed copy in a warm start whose signature fits (R463). -/
theorem startCold_ite {α : Type} {w : W} {n : Nat} {warm : Bool} {e : ImgEnt}
    [Decidable (warm = true ∧ w.rdN (R.TASK_RET_SIG n) ≠ 0 ∧ w.rdN (R.TASK_RET_SIG n) = e.retSig)] (a b : α) :
    (if w.startCold n warm e then a else b) =
      if warm = true ∧ w.rdN (R.TASK_RET_SIG n) ≠ 0 ∧ w.rdN (R.TASK_RET_SIG n) = e.retSig then b else a := by
  have cold : w.startCold n warm e = true ↔ ¬ (warm = true ∧ w.rdN (R.TASK_RET_SIG n) ≠ 0 ∧ w.rdN (R.TASK_RET_SIG n) = e.retSig) := by
    unfold startCold
    cases warm <;> simp [imp_iff_not_or]
  rw [← ite_not (p := _ ∧ _)]
  exact if_congr cold rfl rfl

section
variable {w0 w : W} (rest : Steady w0) (h : SameWatch w0 w) {m : Memory} {n : Fin 4} {warm : Bool} {edge sub : Nat} {e : ImgEnt}

/-- The registers of the record in RUN are those of its booking. -/
theorem runRecord_booked : ∃ late, ∀ a, (w.runRecord m n warm edge sub e).rd a =
    ((w.filled m n warm e).startBooked n (startState warm (w.startCold n warm e) (w.rdN (R.TASK_RET_SIG n)) late)).rd a := by
  obtain ⟨late, t, record, -⟩ := runRecord_eq (w := w) (m := m) (n := n) (warm := warm) (edge := edge) (sub := sub) (e := e)
  exact ⟨late, fun a => by rw [record, startRecord_rd]⟩

theorem runRecord_state : (w.runRecord m n warm edge sub e).tstate n = 2 ∧
    (w.runRecord m n warm edge sub e).rdF (R.TASK_STATE n) 2 2 = if w.startCold n warm e then (if warm then 3 else 2) else 1 := by
  obtain ⟨late, regs⟩ := runRecord_booked (w := w) (m := m) (n := n) (warm := warm) (edge := edge) (sub := sub) (e := e)
  unfold tstate rdF
  rw [regs, startBooked_state]
  exact fld_startState ..

/-- The counters, and TRAP, as a task enters RUN (R476). -/
theorem runRecord_counters : (w.runRecord m n warm edge sub e).rd64 (R.TASK_CYCLES n) = 0 ∧
    (w.runRecord m n warm edge sub e).rd (R.TASK_OVR_CNT n) = 0 ∧
    (w.runRecord m n warm edge sub e).rd (R.TASK_MIN_IDLE n) = 0xFFFFFFFF#32 ∧ (w.runRecord m n warm edge sub e).rd (R.TASK_TRAP n) = 0 := by
  obtain ⟨late, regs⟩ := runRecord_booked (w := w) (m := m) (n := n) (warm := warm) (edge := edge) (sub := sub) (e := e)
  refine ⟨?_, by rw [regs, startBooked_overruns], by rw [regs, startBooked_idle], by rw [regs, startBooked_trap]⟩
  unfold rd64 rdN
  rw [regs, regs]
  exact startBooked_cycles

theorem runRecord_snap : ((w.runRecord m n warm edge sub e).scan.snap.getD n {}).valid = false := by
  obtain ⟨late, t, record, -⟩ := runRecord_eq (w := w) (m := m) (n := n) (warm := warm) (edge := edge) (sub := sub) (e := e)
  rw [record]
  exact startRecord_snap n t

theorem byte_runRecord (b : Nat) : (w.runRecord m n warm edge sub e).byte m b = (w.filled m n warm e).byte m b := by
  obtain ⟨late, t, record, -⟩ := runRecord_eq (w := w) (m := m) (n := n) (warm := warm) (edge := edge) (sub := sub) (e := e)
  rw [record, byte_startRecord, byte_startBooked]

include rest h

theorem runRecord_sig : (w.runRecord m n warm edge sub e).rdN (R.TASK_RET_SIG n) =
    if w.startCold n warm e then e.retSig % 2 ^ 32 else w.rdN (R.TASK_RET_SIG n) := by
  obtain ⟨late, regs⟩ := runRecord_booked (w := w) (m := m) (n := n) (warm := warm) (edge := edge) (sub := sub) (e := e)
  have apart : ∀ n : Fin 4, ¬ (R.TASK_CYCLES n ≤ R.TASK_RET_SIG n ∧ R.TASK_RET_SIG n ≤ R.TASK_TRAP n) ∧ R.TASK_RET_SIG n ≠ R.TASK_STATE n := by decide
  have booked : (w.runRecord m n warm edge sub e).rd (R.TASK_RET_SIG n) = (w.filled m n warm e).rd (R.TASK_RET_SIG n) :=
    (regs _).trans (startBooked_other (apart n).1 (apart n).2)
  exact (congrArg BitVec.toNat booked).trans (filled_sig rest h)

/-- The task's own record: it begins between two cycles, without SYNC on a whole 100 us (R424). -/
theorem runRecord_task : ((w.runRecord m n warm edge sub e).tk n).ent = some e ∧ ((w.runRecord m n warm edge sub e).tk n).phase = 0 ∧
    ((w.runRecord m n warm edge sub e).tk n).cyc = 0 ∧
    (w.rdB (R.TASK_CFG n) 2 = false →
      ((w.runRecord m n warm edge sub e).tk n).grid = (w.tsc.toNat + 19999) / 10000 * 10000) := by
  obtain ⟨late, t, record, entry, phase, cyc, grid⟩ :=
    runRecord_eq (w := w) (m := m) (n := n) (warm := warm) (edge := edge) (sub := sub) (e := e)
  rw [record, startRecord_tk n.isLt]
  refine ⟨entry, phase, cyc, fun free => ?_⟩
  rw [filled_tsc rest h, Nat.add_assoc] at grid
  refine grid ?_
  have plain : ∀ n : Fin 4, retReg n (R.TASK_CFG n) = false := by decide
  unfold rdB at free ⊢
  rw [filled_rd rest h (plain n)]
  exact free

theorem runRecord_others {j : Nat} (other : j ≠ n.val) : (w.runRecord m n warm edge sub e).tk j = w.tk j := by
  obtain ⟨late, t, record, -⟩ := runRecord_eq (w := w) (m := m) (n := n) (warm := warm) (edge := edge) (sub := sub) (e := e)
  rw [record, startRecord_tk_other t other, tk, startBooked_scan]
  exact filled_task rest h j

end

end W

/-! ## What an accepted start leaves -/

section
variable {s : State} {n : Fin 4} {warm : Bool} {edge sub : Nat} {e : ImgEnt}

theorem startTo_blocks : SameBlocks ((startFrom s n).runRecord s.mem n warm edge sub e) (startTo s n warm edge sub e) :=
  (SameBlocks.raise _ _).trans (W.spend_blocks _ _ _)

theorem startTo_tk (j : Nat) : (startTo s n warm edge sub e).tk j = ((startFrom s n).runRecord s.mem n warm edge sub e).tk j := by
  unfold W.tk
  rw [startTo_blocks.scan]

theorem startFrom_tk (j : Nat) : (startFrom s n).tk j = (begin_ s).tk j := by
  unfold W.tk
  rw [(W.entered_blocks _ _).scan]

theorem startFrom_areas : W.SameAreas n (begin_ s) (startFrom s n) := fun _ _ lo _ => W.entered_rd _ _ (by omega)

theorem byte_startFrom (b : Nat) : (startFrom s n).byte s.mem b = memGet s.mem b := by
  unfold W.byte
  rw [(W.entered_blocks _ _).wq]
  rfl

theorem byte_startTo (wf : Memory.wf s.mem) (b : Nat) : memGet (commit s (startTo s n warm edge sub e)).mem b =
    ((startFrom s n).filled s.mem n warm e).byte s.mem b := by
  rw [W.byte_after wf, ← W.byte_runRecord (edge := edge) (sub := sub)]
  unfold W.byte
  rw [startTo_blocks.wq]

theorem startFrom_sig : (startFrom s n).rdN (R.TASK_RET_SIG n) = (begin_ s).rdN (R.TASK_RET_SIG n) := by
  unfold W.rdN
  rw [W.entered_rd _ _ (by simp only [R.TASK_RET_SIG]; omega)]

theorem startFrom_cold : (startFrom s n).startCold n warm e = (begin_ s).startCold n warm e := by
  unfold W.startCold
  rw [startFrom_sig]

variable (rest : Steady (begin_ s)) (used : (begin_ s).anyEn 4 = true)
include rest used

theorem startTo_rd_task {a : Nat} (page : a / 0x1000 = 0x0B + n.val) (block : 0x040 ≤ a % 0x1000) :
    (startTo s n warm edge sub e).rd a = ((startFrom s n).runRecord s.mem n warm edge sub e).rd a :=
  startTo_rd rest used (Bool.or_eq_false_iff.1 (W.forceReg_task n page block)).1 (by omega)

theorem startTo_state : (startTo s n warm edge sub e).tstate n = 2 ∧
    (startTo s n warm edge sub e).rdF (R.TASK_STATE n) 2 2 = if (begin_ s).startCold n warm e then (if warm then 3 else 2) else 1 := by
  unfold W.tstate W.rdF
  rw [startTo_rd_task rest used (by simp only [R.TASK_STATE]; omega) (by simp only [R.TASK_STATE]; omega), ← startFrom_cold]
  exact W.runRecord_state

theorem startTo_counters : (startTo s n warm edge sub e).rd64 (R.TASK_CYCLES n) = 0 ∧ (startTo s n warm edge sub e).rd (R.TASK_OVR_CNT n) = 0 ∧
    (startTo s n warm edge sub e).rd (R.TASK_MIN_IDLE n) = 0xFFFFFFFF#32 ∧ (startTo s n warm edge sub e).rd (R.TASK_TRAP n) = 0 := by
  have place : ∀ n : Fin 4, ∀ a ∈ [R.TASK_CYCLES n, R.TASK_CYCLES n + 4, R.TASK_OVR_CNT n, R.TASK_MIN_IDLE n, R.TASK_TRAP n],
      a / 0x1000 = 0x0B + n.val ∧ 0x040 ≤ a % 0x1000 := by decide
  have same {a : Nat} (mem : a ∈ [R.TASK_CYCLES n, R.TASK_CYCLES n + 4, R.TASK_OVR_CNT n, R.TASK_MIN_IDLE n, R.TASK_TRAP n]) :
      (startTo s n warm edge sub e).rd a = ((startFrom s n).runRecord s.mem n warm edge sub e).rd a :=
    startTo_rd_task rest used (place n a mem).1 (place n a mem).2
  have counters := W.runRecord_counters (w := startFrom s n) (m := s.mem) (n := n) (warm := warm) (edge := edge) (sub := sub) (e := e)
  unfold W.rd64 W.rdN at counters ⊢
  rw [same (by simp), same (by simp), same (by simp), same (by simp), same (by simp)]
  exact counters

theorem startTo_trapPc : (startTo s n warm edge sub e).rd (R.TASK_TRAP_PC n) = (begin_ s).rd (R.TASK_TRAP_PC n) := by
  have place : ∀ n : Fin 4, R.TASK_TRAP_PC n / 0x1000 = 0x0B + n.val ∧ 0x040 ≤ R.TASK_TRAP_PC n % 0x1000 ∧
      W.retReg n (R.TASK_TRAP_PC n) = false ∧ ¬ (R.TASK_CYCLES n ≤ R.TASK_TRAP_PC n ∧ R.TASK_TRAP_PC n ≤ R.TASK_TRAP n) ∧
      R.TASK_TRAP_PC n ≠ R.TASK_STATE n := by decide
  obtain ⟨page, block, ret, counts, state⟩ := place n
  rw [startTo_rd_task rest used page block, W.runRecord_rd rest (startFrom_watch s n) ret counts state]
  exact W.entered_rd _ _ block

theorem startTo_sig : (startTo s n warm edge sub e).rdN (R.TASK_RET_SIG n) =
    if (begin_ s).startCold n warm e then e.retSig % 2 ^ 32 else (begin_ s).rdN (R.TASK_RET_SIG n) := by
  rw [← startFrom_cold, ← startFrom_sig, ← W.runRecord_sig (m := s.mem) (edge := edge) (sub := sub) rest (startFrom_watch s n)]
  unfold W.rdN
  rw [startTo_rd_task rest used (by simp only [R.TASK_RET_SIG]; omega) (by simp only [R.TASK_RET_SIG]; omega)]

omit used in
theorem startTo_task : ((startTo s n warm edge sub e).tk n).ent = some e ∧ ((startTo s n warm edge sub e).tk n).phase = 0 ∧
    ((startTo s n warm edge sub e).tk n).cyc = 0 ∧
    ((begin_ s).rdB (R.TASK_CFG n) 2 = false →
      ((startTo s n warm edge sub e).tk n).grid = (s.tsc.toNat + 19999) / 10000 * 10000) := by
  have task := W.runRecord_task (m := s.mem) (n := n) (warm := warm) (edge := edge) (sub := sub) (e := e) rest (startFrom_watch s n)
  have cfg : (startFrom s n).rdB (R.TASK_CFG n) 2 = (begin_ s).rdB (R.TASK_CFG n) 2 := by
    unfold W.rdB
    rw [W.entered_rd _ _ (by simp only [R.TASK_CFG]; omega)]
  rw [cfg, W.entered_tsc] at task
  rw [startTo_tk]
  exact task

omit used in
theorem startTo_others {j : Nat} (other : j ≠ n.val) : (startTo s n warm edge sub e).tk j = (begin_ s).tk j := by
  rw [startTo_tk, W.runRecord_others rest (startFrom_watch s n) other, startFrom_tk]

omit rest used in
theorem startTo_snap : ((startTo s n warm edge sub e).scan.snap.getD n {}).valid = false := by
  rw [startTo_blocks.scan]
  exact W.runRecord_snap

/-- No register changes but those of the task's page, the FRC page and the event registers. -/
theorem startTo_rd_page {a : Nat} (task : a / 0x1000 ≠ 0x0B + n.val) (force : a / 0x1000 ≠ 0x0F) (event : evtReg a = false) :
    (startTo s n warm edge sub e).rd a = (begin_ s).rd a := by
  have running := W.runRecord_steady (m := s.mem) (n := n) (warm := warm) (edge := edge) (sub := sub) (e := e) rest (startFrom_watch s n) used
  rw [W.spend_rd_page _ _ _ task, Only.raise running (SameWatch.refl _) _ a event,
    W.runRecord_rd_page rest (startFrom_watch s n) task force event, W.entered_rd_page _ _ (by rw [(taskCmd_place n).1]; exact task)]

omit used in
/-- The bytes of the areas of the task after its start (R462 to R464). -/
theorem byte_startTo_areas (wf : Memory.wf s.mem) (loci : e.loci.length ≤ (begin_ s).spSize n 3) (reti : e.reti.length ≤ (begin_ s).retUp n)
    (apart : (begin_ s).AreasApart n) :
    let after (b : Nat) : Byte := memGet (commit s (startTo s n warm edge sub e)).mem b
    let data (i : Nat) : Byte := if (begin_ s).startCold n warm e then e.reti.getD i 0
      else memGet s.mem ((begin_ s).spBase n 2 + (begin_ s).retUp n + i)
    (∀ i < (begin_ s).spSize n 0, after ((begin_ s).spBase n 0 + i) = 0) ∧
      (∀ i < 2 * (begin_ s).spSize n 1, after ((begin_ s).spBase n 1 + i) = 0) ∧
      (∀ i < (begin_ s).spSize n 3, after ((begin_ s).spBase n 3 + i) = e.loci.getD i 0) ∧
      (∀ i < (begin_ s).retUp n, after ((begin_ s).spBase n 2 + i) = data i) ∧
      (∀ i < (begin_ s).retUp n, after ((begin_ s).spBase n 2 + (begin_ s).retUp n + i) = data i) := by
  have same := startFrom_areas (s := s) (n := n)
  have bytes := W.byte_filled (w := startFrom s n) (m := s.mem) (n := n) (warm := warm) (e := e) rest (startFrom_watch s n)
  unfold W.AreasApart at apart bytes
  rw [same.base (show 0 < 4 by decide), same.base (show 1 < 4 by decide), same.base (show 2 < 4 by decide), same.base (show 3 < 4 by decide),
    same.size (show 0 < 4 by decide), same.size (show 1 < 4 by decide), same.size (show 3 < 4 by decide), same.up, startFrom_cold] at bytes
  simp only [byte_startTo wf]
  simpa only [byte_startFrom] using bytes loci reti apart

end

/-! ## The obligation -/

/-- Settles O26: the start acts on the areas, on RET and on the task's registers stage by stage; the changes of the image act on SCAN alone. -/
theorem startsAndOnLineChange : Obligations.StartsAndOnLineChange := by
  unfold Obligations.StartsAndOnLineChange
  intro s n warm edge sub ent bank img x
  dsimp only
  intro rest wf step
  refine ⟨fun ready refused => start_refused ready rfl refused, fun ready accepts found used apart loci reti => ?_,
    fun ready accepts ⟨words, ces, ues⟩ => onlineChange_accepted ready accepts words ces ues,
    fun ready refused ⟨words, ces, ues⟩ => onlineChange_refused rest ready rfl refused words ces ues,
    fun up step next forces idle => olcLoadDone_ends rest wf up step next forces idle,
    fun up step within due => olcLoadDone_pending rest up step within due⟩
  obtain ⟨state, origin⟩ := startTo_state (warm := warm) (edge := edge) (sub := sub) (e := ent) (n := n) rest used
  obtain ⟨entry, phase, cyc, grid⟩ := startTo_task (warm := warm) (edge := edge) (sub := sub) (e := ent) (n := n) rest
  obtain ⟨cycles, overruns, idle, trap⟩ := startTo_counters (warm := warm) (edge := edge) (sub := sub) (e := ent) (n := n) rest used
  have sig := startTo_sig (warm := warm) (edge := edge) (sub := sub) (e := ent) (n := n) rest used
  obtain ⟨ins, outs, locals, front, back⟩ := byte_startTo_areas (warm := warm) (edge := edge) (sub := sub) rest wf loci reti apart
  rw [W.startCold_ite] at origin sig
  simp only [W.startCold_ite] at front back
  refine ⟨_, start_accepted rest used ready accepts found step, state, ?_, entry, phase, cyc, grid, fun j other => startTo_others rest other,
    cycles, overruns, idle, trap, startTo_trapPc rest used, startTo_snap, sig, ins, outs, locals, front, back,
    fun a task force event => startTo_rd_page rest used task force event⟩
  rw [origin]
  cases warm <;> simp

end Sys2Proof.Machine
end
